-- ==== Sys2Proof/Word.lean ====
section
/-! DEFINITION. Bytes and byte strings: the unit in which the spec writes every register, layout and frame (R6, R7). -/
namespace Sys2Proof

/-- One byte (R6: bit 0 is the least significant). -/
abbrev Byte := BitVec 8

/-- A run of bytes in ascending address order. -/
abbrev Bytes := List Byte

end Sys2Proof
end

