-- ==== Sys2Proof/Syntax.lean ====
section
/-! DEFINITION. The commands of the block, one constructor for each row of the table of operations and events, with the operands the
row needs. The first operand `t` of every command is the instant, in ns of LocalTime (R148), at which it reaches the block (log 2). -/
namespace Sys2Proof

/-- A doorbell write to a mailbox (R351): its Tag and the request length. The opcode is the row's. -/
structure Doorbell where
  mb : Nat
  tag : Nat
  length : Nat
  /-- The error that the command's read of a queue meets, if it reads one (R325): as `ecc` of the rows that read (log 55). -/
  ecc : Option Nat := none
  deriving DecidableEq, Repr

/-- The instant of a row that reads a queue, and the error that the read meets (R325): as `ecc` of the other rows that read (log 55). -/
structure ReadAt where
  t : Nat
  ecc : Option Nat := none
  deriving DecidableEq, Repr

/-- The tiled parts (R22, R23), and the MRAM macro (R432). -/
inductive TileKind where
  | backbone | saffron | mac | carBus | can | check | mram
  deriving DecidableEq, Repr

/-- What goes with a CAN error (R226, R228): the further steps of 8 that ISO 11898-1 takes during the error flag, a loop delay measured in the frame, in
data tq, and whether the error is a bit error in an error or overload flag that the channel sends, and then whether it sends it as the transmitter of the frame. -/
structure CanExtra where
  steps : Nat := 0
  tdc : Option Nat := none
  inFlag : Option Bool := none
  deriving DecidableEq, Repr

/-- The end of a receive-check cell (R240): its channel, and whether a frame whose start of frame lies in the cell still runs. -/
structure CheckEnd where
  channel : Nat
  running : Bool := false
  deriving DecidableEq, Repr

/-- The outer header of a telegram handled hop by hop (R105), as its originating node wrote it, with the hop count of the copy received. -/
structure Outer where
  source : Nat := 0
  session : Nat := 0
  stream : Nat := 0
  sequence : Nat := 0
  node : Nat := 0
  tag : Nat := 0
  hop : Nat := 0
  deriving DecidableEq, Repr

/-- A telegram handled hop by hop as it is received: its outer header and its payload. -/
structure Sourced where
  outer : Outer := {}
  bytes : Bytes := []
  deriving DecidableEq, Repr

/-- How the access of a bridge request ends (R282, R335): done, done with `n` corrected errors of the DDR4 bridge area, or failed. -/
inductive AccessEnd where
  | done
  | corrected (n : Nat)
  | failed
  deriving DecidableEq, Repr

/-- What RXD of a branch-channel shows: the start of an activity in local ns, and the activity then under way on another branch-channel of its channel, whose
relay may drive this port (R180): its port, its frame start, and whether RXD was idle there when its interval opened. -/
structure CbSeen where
  start : Nat
  other : Option (Nat × Nat × Bool) := none
  deriving DecidableEq, Repr

/-- Activity outside every open interval of a port (R195). The row comes at its end, and while it lasts once in each later cycle. -/
structure CbStray where
  port : Nat
  seen : CbSeen
  deriving DecidableEq, Repr

/-- What the host writes into the endpoint's configuration space beside the enables (R340, R342): the vectors enabled, as k of 2^k, the power state
D3hot, and the bases of BAR0 and BAR2. -/
structure PcieSet where
  vectors : Nat := 0
  d3hot : Bool := false
  bar0 : Nat := 0
  bar2 : Nat := 0
  deriving DecidableEq, Repr

/-- What the readbacks show each of the two channels of the safety island. -/
structure BothSee where
  nutmeg : Bool
  mace : Bool
  deriving DecidableEq, Repr

/-- The commands. Ports are port indexes of R40, ends 0 and 1 the front and rear end, `raw` and `f` the bytes received; a flag or a number
that stands for what the outside shows (a pin level, an error found on a line, a descriptor in host memory) is named so. -/
inductive Instr where
  /-- DIR_STATUS (R64). -/
  | dirStatus (t : Nat) (d : Doorbell)
  /-- DIR_PIN (R58). -/
  | dirPin (t : Nat) (d : Doorbell)
  /-- DIR_READ_PAGE (R64). -/
  | dirReadPage (t : Nat) (d : Doorbell)
  /-- DIR_UNPIN (R58). -/
  | dirUnpin (t : Nat) (d : Doorbell)
  /-- DIR_COPY (R59). -/
  | dirCopy (t : Nat) (d : Doorbell)
  /-- DIR_RESOLVE (R61). -/
  | dirResolve (t : Nat) (d : Doorbell)
  /-- VEHICLE_CONFIG_SET (R63). -/
  | vehicleConfigSet (t : Nat) (d : Doorbell)
  /-- VEHICLE_CONFIG_GET (R64). -/
  | vehicleConfigGet (t : Nat) (d : Doorbell)
  /-- ROLLCALL_START (R99). -/
  | rollcallStart (t : Nat) (d : Doorbell)
  /-- ROLLCALL_STOP (R99). -/
  | rollcallStop (t : Nat) (d : Doorbell)
  /-- ROLLCALL_RERUN (R70). -/
  | rollcallRerun (t : Nat) (d : Doorbell)
  /-- ROLLCALL_STATUS (R100). -/
  | rollcallStatus (t : Nat) (d : Doorbell)
  /-- CAB_SET (R66). -/
  | cabSet (t : Nat) (d : Doorbell)
  /-- ROLLCALL_CONFIG_SET (R101). -/
  | rollcallConfigSet (t : Nat) (d : Doorbell)
  /-- ROLLCALL_CONFIG_GET (R101). -/
  | rollcallConfigGet (t : Nat) (d : Doorbell)
  /-- ROLLCALL_COUNTERS (R101). -/
  | rollcallCounters (t : Nat) (d : Doorbell)
  /-- BB_STATUS (R144). -/
  | bbStatus (t : Nat) (d : Doorbell)
  /-- BB_CONFIG_SET (R143). -/
  | bbConfigSet (t : Nat) (d : Doorbell)
  /-- BB_CONFIG_GET (R143). -/
  | bbConfigGet (t : Nat) (d : Doorbell)
  /-- BB_SCHED_STAGE (R144). -/
  | bbSchedStage (t : Nat) (d : Doorbell)
  /-- BB_SCHED_COMMIT (R125). -/
  | bbSchedCommit (t : Nat) (d : Doorbell)
  /-- PD_WRITE (R131). -/
  | pdWrite (t : Nat) (d : Doorbell)
  /-- PD_READ (R131). -/
  | pdRead (t : Nat) (d : Doorbell)
  /-- MSG_SEND (R117). -/
  | msgSend (t : Nat) (d : Doorbell)
  /-- LEASE_STATUS (R144). -/
  | leaseStatus (t : Nat) (d : Doorbell)
  /-- BB_COUNTERS (R146). -/
  | bbCounters (t : Nat) (d : Doorbell)
  /-- TIME_STATUS (R176). -/
  | timeStatus (t : Nat) (d : Doorbell)
  /-- TIME_CONFIG_SET (R175). -/
  | timeConfigSet (t : Nat) (d : Doorbell)
  /-- TIME_CONFIG_GET (R175). -/
  | timeConfigGet (t : Nat) (d : Doorbell)
  /-- TIME_NOW (R176). -/
  | timeNow (t : Nat) (d : Doorbell)
  /-- TIME_REF_TOD (R167). -/
  | timeRefTod (t : Nat) (d : Doorbell)
  /-- CEP_SET (R173). -/
  | cepSet (t : Nat) (d : Doorbell)
  /-- CEP_GET (R176). -/
  | cepGet (t : Nat) (d : Doorbell)
  /-- CEP_STATUS (R176). -/
  | cepStatus (t : Nat) (d : Doorbell)
  /-- TIME_PORT (R176). -/
  | timePort (t : Nat) (d : Doorbell)
  /-- TIME_COUNTERS (R176). -/
  | timeCounters (t : Nat) (d : Doorbell)
  /-- CB_STATUS (R221). -/
  | cbStatus (t : Nat) (d : Doorbell)
  /-- CB_CONFIG_SET (R220). -/
  | cbConfigSet (t : Nat) (d : Doorbell)
  /-- CB_CONFIG_GET (R220). -/
  | cbConfigGet (t : Nat) (d : Doorbell)
  /-- CB_START (R208). -/
  | cbStart (t : Nat) (d : Doorbell)
  /-- CB_STOP (R207). -/
  | cbStop (t : Nat) (d : Doorbell)
  /-- CB_SCHED_STAGE (R221). -/
  | cbSchedStage (t : Nat) (d : Doorbell)
  /-- CB_SCHED_COMMIT (R219). -/
  | cbSchedCommit (t : Nat) (d : Doorbell)
  /-- CB_TX_WRITE (R214). -/
  | cbTxWrite (t : Nat) (d : Doorbell)
  /-- CB_RX_READ (R213). -/
  | cbRxRead (t : Nat) (d : Doorbell)
  /-- CB_EVENT_SEND (R205). -/
  | cbEventSend (t : Nat) (d : Doorbell)
  /-- CB_EVENT_READ (R205). -/
  | cbEventRead (t : Nat) (d : Doorbell)
  /-- CB_SLOT_STATUS (R194). -/
  | cbSlotStatus (t : Nat) (d : Doorbell)
  /-- CB_POINT_SET (R215). -/
  | cbPointSet (t : Nat) (d : Doorbell)
  /-- CB_COUNTERS (R221). -/
  | cbCounters (t : Nat) (d : Doorbell)
  /-- CAN_STATUS (R252). -/
  | canStatus (t : Nat) (d : Doorbell)
  /-- CAN_CONFIG_SET (R251). -/
  | canConfigSet (t : Nat) (d : Doorbell)
  /-- CAN_CONFIG_GET (R251). -/
  | canConfigGet (t : Nat) (d : Doorbell)
  /-- CAN_START (R227). -/
  | canStart (t : Nat) (d : Doorbell)
  /-- CAN_STOP (R235). -/
  | canStop (t : Nat) (d : Doorbell)
  /-- CAN_RECOVER (R229). -/
  | canRecover (t : Nat) (d : Doorbell)
  /-- CAN_BUF_SET (R231). -/
  | canBufSet (t : Nat) (d : Doorbell)
  /-- CAN_BUF_GET (R231). -/
  | canBufGet (t : Nat) (d : Doorbell)
  /-- CAN_TX_WRITE (R234). -/
  | canTxWrite (t : Nat) (d : Doorbell)
  /-- CAN_RX_READ (R233). -/
  | canRxRead (t : Nat) (d : Doorbell)
  /-- CAN_SEND (R235). -/
  | canSend (t : Nat) (d : Doorbell)
  /-- CAN_MATRIX_STAGE (R252). -/
  | canMatrixStage (t : Nat) (d : Doorbell)
  /-- CAN_MATRIX_COMMIT (R244). -/
  | canMatrixCommit (t : Nat) (d : Doorbell)
  /-- CAN_BUF_RESUME (R246). -/
  | canBufResume (t : Nat) (d : Doorbell)
  /-- CAN_COUNTERS (R252). -/
  | canCounters (t : Nat) (d : Doorbell)
  /-- ROUTE_STATUS (R275). -/
  | routeStatus (t : Nat) (d : Doorbell)
  /-- ROUTE_START (R275). -/
  | routeStart (t : Nat) (d : Doorbell)
  /-- ROUTE_STOP (R275). -/
  | routeStop (t : Nat) (d : Doorbell)
  /-- ROUTE_STAGE (R275). -/
  | routeStage (t : Nat) (d : Doorbell)
  /-- ROUTE_COMMIT (R263). -/
  | routeCommit (t : Nat) (d : Doorbell)
  /-- ROUTE_ENTRY_GET (R275). -/
  | routeEntryGet (t : Nat) (d : Doorbell)
  /-- ROUTE_ENTRY_ENABLE (R275). -/
  | routeEntryEnable (t : Nat) (d : Doorbell)
  /-- GUARD_STATUS (R275). -/
  | guardStatus (t : Nat) (d : Doorbell)
  /-- GUARD_RESET (R272). -/
  | guardReset (t : Nat) (d : Doorbell)
  /-- ROUTE_COUNTERS (R275). -/
  | routeCounters (t : Nat) (d : Doorbell)
  /-- GUARD_COMPUTE (R270). -/
  | guardCompute (t : Nat) (d : Doorbell)
  /-- BR_STATUS (R307). -/
  | brStatus (t : Nat) (d : Doorbell)
  /-- BR_CONFIG_SET (R306). -/
  | brConfigSet (t : Nat) (d : Doorbell)
  /-- BR_CONFIG_GET (R306). -/
  | brConfigGet (t : Nat) (d : Doorbell)
  /-- BR_START (R306). -/
  | brStart (t : Nat) (d : Doorbell)
  /-- BR_STOP (R306). -/
  | brStop (t : Nat) (d : Doorbell)
  /-- BR_WINDOW_SET (R279). -/
  | brWindowSet (t : Nat) (d : Doorbell)
  /-- BR_WINDOW_ENABLE (R280). -/
  | brWindowEnable (t : Nat) (d : Doorbell)
  /-- BR_WINDOW_STATUS (R307). -/
  | brWindowStatus (t : Nat) (d : Doorbell)
  /-- BR_EXPORT (R281). -/
  | brExport (t : Nat) (d : Doorbell)
  /-- BR_READ (R294). -/
  | brRead (t : Nat) (d : Doorbell)
  /-- BR_COMPLETION_READ (R294). -/
  | brCompletionRead (t : Nat) (d : Doorbell)
  /-- BR_FAULT_READ (R298). -/
  | brFaultRead (t : Nat) (d : Doorbell)
  /-- BR_STRANDED_READ (R293). -/
  | brStrandedRead (t : Nat) (d : Doorbell)
  /-- BR_PREFETCH (R291). -/
  | brPrefetch (t : Nat) (d : Doorbell)
  /-- BR_SEM_CONTROL (R303). -/
  | brSemControl (t : Nat) (d : Doorbell)
  /-- BR_COUNTERS (R307). -/
  | brCounters (t : Nat) (d : Doorbell)
  /-- ETH_STATUS (R338). -/
  | ethStatus (t : Nat) (d : Doorbell)
  /-- ETH_CONFIG_SET (R337). -/
  | ethConfigSet (t : Nat) (d : Doorbell)
  /-- ETH_CONFIG_GET (R337). -/
  | ethConfigGet (t : Nat) (d : Doorbell)
  /-- ETH_START (R319). -/
  | ethStart (t : Nat) (d : Doorbell)
  /-- ETH_STOP (R319). -/
  | ethStop (t : Nat) (d : Doorbell)
  /-- ETH_ADDR_SET (R313). -/
  | ethAddrSet (t : Nat) (d : Doorbell)
  /-- ETH_COUNTERS (R320). -/
  | ethCounters (t : Nat) (d : Doorbell)
  /-- QUEUE_SET (R324). -/
  | queueSet (t : Nat) (d : Doorbell)
  /-- QUEUE_STATUS (R338). -/
  | queueStatus (t : Nat) (d : Doorbell)
  /-- RING_SET (R326). -/
  | ringSet (t : Nat) (d : Doorbell)
  /-- RING_ENABLE (R326). -/
  | ringEnable (t : Nat) (d : Doorbell)
  /-- MEM_CONFIG_SET (R337). -/
  | memConfigSet (t : Nat) (d : Doorbell)
  /-- MEM_CONFIG_GET (R337). -/
  | memConfigGet (t : Nat) (d : Doorbell)
  /-- MEM_START (R334). -/
  | memStart (t : Nat) (d : Doorbell)
  /-- MEM_STOP (R334). -/
  | memStop (t : Nat) (d : Doorbell)
  /-- MEM_STATUS (R338). -/
  | memStatus (t : Nat) (d : Doorbell)
  /-- IF_IDENTIFY (R367). -/
  | ifIdentify (t : Nat) (d : Doorbell)
  /-- IF_ECHO (R367). -/
  | ifEcho (t : Nat) (d : Doorbell)
  /-- IF_COUNTERS (R367). -/
  | ifCounters (t : Nat) (d : Doorbell)
  /-- EV_RECORD_READ (R364). -/
  | evRecordRead (t : Nat) (d : Doorbell)
  /-- TILE_STATUS (R367). -/
  | tileStatus (t : Nat) (d : Doorbell)
  /-- SAFE_STATUS (R401). -/
  | safeStatus (t : Nat) (d : Doorbell)
  /-- SAFE_IO_STATUS (R401). -/
  | safeIoStatus (t : Nat) (d : Doorbell)
  /-- SAFE_PARAM_STAGE (R398). -/
  | safeParamStage (t : Nat) (d : Doorbell)
  /-- SAFE_PARAM_COMMIT (R398). -/
  | safeParamCommit (t : Nat) (d : Doorbell)
  /-- SAFE_PARAM_READ (R398). -/
  | safeParamRead (t : Nat) (d : Doorbell)
  /-- SAFE_CONFIG_ENTER (R399). -/
  | safeConfigEnter (t : Nat) (d : Doorbell)
  /-- SAFE_PARAM_CONFIRM (R398). -/
  | safeParamConfirm (t : Nat) (d : Doorbell)
  /-- SAFE_CONFIG_LEAVE (R398). -/
  | safeConfigLeave (t : Nat) (d : Doorbell)
  /-- SAFE_PASSWORD_SET (R399). -/
  | safePasswordSet (t : Nat) (d : Doorbell)
  /-- SAFE_LOG_READ (R400). -/
  | safeLogRead (t : Nat) (d : Doorbell)
  /-- SAFE_COUNTERS (R401). -/
  | safeCounters (t : Nat) (d : Doorbell)
  /-- PWR_STATUS (R421). -/
  | pwrStatus (t : Nat) (d : Doorbell)
  /-- PWR_CONFIG_SET (R420). -/
  | pwrConfigSet (t : Nat) (d : Doorbell)
  /-- PWR_CONFIG_GET (R420). -/
  | pwrConfigGet (t : Nat) (d : Doorbell)
  /-- PWR_VOTE (R416). -/
  | pwrVote (t : Nat) (d : Doorbell)
  /-- PWR_WAKE_REQUEST (R417). -/
  | pwrWakeRequest (t : Nat) (d : Doorbell)
  /-- PWR_SLEEP_LOCAL (R419). -/
  | pwrSleepLocal (t : Nat) (d : Doorbell)
  /-- PWR_PN_SET (R413). -/
  | pwrPnSet (t : Nat) (d : Doorbell)
  /-- PWR_PN_MODE (R413). -/
  | pwrPnMode (t : Nat) (d : Doorbell)
  /-- PWR_COUNTERS (R421). -/
  | pwrCounters (t : Nat) (d : Doorbell)
  /-- REC_STATUS (R440). -/
  | recStatus (t : Nat) (d : Doorbell)
  /-- REC_CONFIG_SET (R439). -/
  | recConfigSet (t : Nat) (d : Doorbell)
  /-- REC_CONFIG_GET (R439). -/
  | recConfigGet (t : Nat) (d : Doorbell)
  /-- REC_READ (R435). -/
  | recRead (t : Nat) (d : Doorbell)
  /-- REC_COPY (R435). -/
  | recCopy (t : Nat) (d : Doorbell)
  /-- REC_SEQ_READ (R435). -/
  | recSeqRead (t : Nat) (d : Doorbell)
  /-- REC_WRITE (R440). -/
  | recWrite (t : Nat) (d : Doorbell)
  /-- REC_ERASE (R436). -/
  | recErase (t : Nat) (d : Doorbell)
  /-- REC_COUNTERS (R440). -/
  | recCounters (t : Nat) (d : Doorbell)
  /-- BOOT_STATUS (R461). -/
  | bootStatus (t : Nat) (d : Doorbell)
  /-- BOOT_JOURNAL_READ (R448). -/
  | bootJournalRead (t : Nat) (d : Doorbell)
  /-- BOOT_JOURNAL_CLEAR (R450). -/
  | bootJournalClear (t : Nat) (d : Doorbell)
  /-- BOOT_CONFIG_SET (R460). -/
  | bootConfigSet (t : Nat) (d : Doorbell)
  /-- BOOT_CONFIG_GET (R460). -/
  | bootConfigGet (t : Nat) (d : Doorbell)
  /-- FW_BEGIN (R461). -/
  | fwBegin (t : Nat) (d : Doorbell)
  /-- FW_WRITE (R461). -/
  | fwWrite (t : Nat) (d : Doorbell)
  /-- FW_ACTIVATE (R455). -/
  | fwActivate (t : Nat) (d : Doorbell)
  /-- FW_CONFIRM (R455). -/
  | fwConfirm (t : Nat) (d : Doorbell)
  /-- FW_RESTART (R461). -/
  | fwRestart (t : Nat) (d : Doorbell)
  /-- FW_SECURITY_ADVANCE (R461). -/
  | fwSecurityAdvance (t : Nat) (d : Doorbell)
  /-- UNDEFINED_OPCODE (R370). -/
  | undefinedOpcode (t : Nat) (d : Doorbell) (op : Nat)
  /-- HELD_COMMAND_START (R356). -/
  | heldCommandStart (t : Nat) (n : Nat)
  /-- DOORBELL_IGNORED (R352). -/
  | doorbellIgnored (t : Nat) (d : Doorbell) (op : Nat)
  /-- REQUEST_AREA_WRITE_LOCKED (R353). -/
  | requestAreaWriteLocked (t : Nat) (n off : Nat) (data : Bytes)
  /-- MB_RELEASE (R351). -/
  | mbRelease (t : Nat) (n : Nat)
  /-- EV_ACK (R359). -/
  | evAck (t : Nat) (word : Nat) (value : BitVec 32)
  /-- NHIRQ_ENABLE_WRITE (R363). -/
  | nhirqEnableWrite (t : Nat) (value : BitVec 32)
  /-- REGISTER_WRITE (R348). -/
  | registerWrite (t : Nat) (o : Nat) (d : Bytes)
  /-- REGISTER_ACCESS_ERROR (R341). -/
  | registerAccessError (t : Nat) (tag : Option Nat) (o len : Nat)
  /-- FENCE_READ (R299). -/
  | fenceRead (t : Nat) (tag n off len : Nat)
  /-- REMOTE_IRQ_WRITE (R300). -/
  | remoteIrqWrite (t : Nat) (n : Nat) (value : BitVec 32) (enables : BitVec 4)
  /-- SEM_READ (R301). -/
  | semRead (t : Nat) (tag n : Nat)
  /-- SEM_RELEASE_WRITE (R302). -/
  | semReleaseWrite (t : Nat) (n : Nat) (value : BitVec 32)
  /-- WINDOW_READ (R288). -/
  | windowRead (t : Nat) (tag off len : Nat)
  /-- WINDOW_WRITE (R295). -/
  | windowWrite (t : Nat) (off : Nat) (d : Bytes)
  /-- NONPOSTED_REQUEST_ADMITTED (R290). -/
  | nonpostedRequestAdmitted (t : Nat)
  /-- SPI_FRAME (R344). -/
  | spiFrame (t : Nat) (mosi : Bytes)
  /-- PCIE_LINK_DOWN (R342). -/
  | pcieLinkDown (t : Nat)
  /-- MSI_REENABLE (R342). -/
  | msiReenable (t : Nat) (busMaster enable intDisable : Bool) (k : PcieSet)
  /-- MSI_UNMASK (R361). -/
  | msiUnmask (t : Nat) (mask : BitVec 32)
  /-- HEARTBEAT_TICK (R350). -/
  | heartbeatTick (t : Nat)
  /-- TILE_SELF_CHECK_FAIL (R23). -/
  | tileSelfCheckFail (t : Nat) (kind : TileKind) (idx : Nat)
  /-- PHY_LINK_LOSS (R112). -/
  | phyLinkLoss (t : Nat) (p : Nat)
  /-- LINK_RX_TIMEOUT (R112). -/
  | linkRxTimeout (t : Nat) (p : Nat)
  /-- LINK_PROVISIONAL (R112). -/
  | linkProvisional (t : Nat) (p : Nat)
  /-- LINK_IDLE_TIMER (R112). -/
  | linkIdleTimer (t : Nat) (p : Nat)
  /-- DELAY_BURST_END (R152). -/
  | delayBurstEnd (t : Nat) (p : Nat)
  /-- DELAY_REQUEST_TIMER (R152). -/
  | delayRequestTimer (t : Nat) (p : Nat)
  /-- TDREQ_RX (R161). -/
  | tdreqRx (t : Nat) (p : Nat) (raw : Bytes)
  /-- TDRESP_RX (R152). -/
  | tdrespRx (t : Nat) (p ps : Nat) (raw : Bytes)
  /-- DELAY_SAMPLE_TIMEOUT (R152). -/
  | delaySampleTimeout (t : Nat) (p : Nat)
  /-- LATENCY_TEMP_CORRECTION (R151). -/
  | latencyTempCorrection (t : Nat) (p : Nat) (tx rx : Int)
  /-- PROBE_RX (R75). -/
  | probeRx (t : Nat) (p : Nat) (raw : Sourced)
  /-- PROBE_REPLY_RX (R67). -/
  | probeReplyRx (t : Nat) (p : Nat) (raw : Sourced)
  /-- PROBE_REPLY_TIMEOUT (R67). -/
  | probeReplyTimeout (t : Nat) (e : Nat)
  /-- COUPLER_SENSE_CHANGE (R69). -/
  | couplerSenseChange (t : Nat) (e : Nat) (high : Bool)
  /-- COUPLER_DISAGREE_TIMEOUT (R69). -/
  | couplerDisagreeTimeout (t : Nat) (e : Nat)
  /-- FIRST_START_TIMEOUT (R68). -/
  | firstStartTimeout (t : Nat)
  /-- HOLDOFF_EXPIRY (R77). -/
  | holdoffExpiry (t : Nat)
  /-- START_RX (R92). -/
  | startRx (t : Nat) (p : Nat) (raw : Sourced)
  /-- START_OUTER_TIMEOUT (R77). -/
  | startOuterTimeout (t : Nat) (e : Nat)
  /-- COUNT_RX (R78). -/
  | countRx (t : Nat) (p : Nat) (raw : Sourced)
  /-- REPORT_RX (R83). -/
  | reportRx (t : Nat) (p : Nat) (src : Outer) (raw : Bytes)
  /-- REPORT_WAIT_TIMEOUT (R83). -/
  | reportWaitTimeout (t : Nat)
  /-- COMPOSITION_COMPLETE (R86). -/
  | compositionComplete (t : Nat)
  /-- ANNOUNCE_RX (R87). -/
  | announceRx (t : Nat) (p : Nat) (raw : Sourced)
  /-- DIRSEG_RX (R88). -/
  | dirsegRx (t : Nat) (p : Nat) (src : Outer) (raw : Bytes)
  /-- SEGREQ_DEADLINE (R88). -/
  | segreqDeadline (t : Nat)
  /-- SEGREQ_RX (R88). -/
  | segreqRx (t : Nat) (p : Nat) (src : Outer) (raw : Bytes)
  /-- SNAPSHOT_INCOMPLETE_DEADLINE (R88). -/
  | snapshotIncompleteDeadline (t : Nat)
  /-- EPOCH_SWITCH (R24). -/
  | epochSwitch (t : Nat)
  /-- RUN_WATCHDOG_EXPIRY (R89). -/
  | runWatchdogExpiry (t : Nat)
  /-- SNAPSHOT_EFFECTIVE (R54). -/
  | snapshotEffective (t : Nat)
  /-- NOTICE_RX (R54). -/
  | noticeRx (t : Nat) (p : Nat) (src : Outer) (raw : Bytes)
  /-- BRIDGE_TIMEOUT (R48). -/
  | bridgeTimeout (t : Nat) (num : Nat)
  /-- BEACON_TIMER (R97). -/
  | beaconTimer (t : Nat)
  /-- BEACON_RX (R97). -/
  | beaconRx (t : Nat) (p : Nat) (src : Outer) (raw : Bytes)
  /-- BEACON_MISSING_HELD (R71). -/
  | beaconMissingHeld (t : Nat)
  /-- LEADER_LOST_TIMEOUT (R98). -/
  | leaderLostTimeout (t : Nat)
  /-- LEADER_LEASE_RENEW (R135). -/
  | leaderLeaseRenew (t : Nat)
  /-- LEASE_RX (R134). -/
  | leaseRx (t : Nat) (p : Nat) (raw : Sourced)
  /-- DEPUTY_TAKEOVER (R136). -/
  | deputyTakeover (t : Nat)
  /-- LEASE_EXPIRY (R134). -/
  | leaseExpiry (t : Nat) (vehicle : Nat)
  /-- GATEWAY_REQUEST_TIMER (R138). -/
  | gatewayRequestTimer (t : Nat)
  /-- BB_TELEGRAM_RX (R109). -/
  | bbTelegramRx (t : Nat) (p ps err busy : Nat) (f : Bytes)
  /-- BB_EGRESS_DEQUEUE (R110); `ecc`: log 55. -/
  | bbEgressDequeue (t : Nat) (q : Nat) (ecc : Option Nat)
  /-- DUP_ENTRY_AGEOUT (R118). -/
  | dupEntryAgeout (t : Nat)
  /-- FALLBACK_RETURN_TIMER (R115). -/
  | fallbackReturnTimer (t : Nat) (e : Nat)
  /-- LINE_RENAME_TIMER (R116). -/
  | lineRenameTimer (t : Nat) (seg : Nat)
  /-- PREEMPT_VERIFY_COMPLETE (R122). -/
  | preemptVerifyComplete (t : Nat) (p : Nat) (ok : Bool)
  /-- PD_SLOT_INSTANT (R126). -/
  | pdSlotInstant (t : Nat) (idx : Nat)
  /-- TSYNC_GM_TIMER (R154). -/
  | tsyncGmTimer (t : Nat)
  /-- TSYNC_RX (R156). -/
  | tsyncRx (t : Nat) (p ps : Nat) (raw : Bytes)
  /-- TSYNC_LOSS_TIMEOUT (R163). -/
  | tsyncLossTimeout (t : Nat)
  /-- HOLDOVER_TSYNC_TIMER (R154). -/
  | holdoverTsyncTimer (t : Nat)
  /-- HOLDOVER_LIMIT_EXCEEDED (R163). -/
  | holdoverLimitExceeded (t : Nat)
  /-- TREF_IN_PULSE (R166). -/
  | trefInPulse (t : Nat) (ps : Nat)
  /-- TREF_IN_MISSING (R166). -/
  | trefInMissing (t : Nat)
  /-- TREF_OUT_PULSE (R169). -/
  | trefOutPulse (t : Nat)
  /-- CEP_FIRE (R171). -/
  | cepFire (t : Nat) (n : Nat)
  /-- CB_CYCLE_START (R190). -/
  | cbCycleStart (t : Nat)
  /-- CB_FRAME_RX (R194). -/
  | cbFrameRx (t : Nat) (p : Nat) (seen : CbSeen) (idle decodes : Bool) (f : Bytes)
  /-- CB_WINDOW_CLOSE (R194). -/
  | cbWindowClose (t : Nat) (p k : Nat) (running : Option (Nat × Bool))
  /-- CB_FOREIGN_ACTIVITY (R195). -/
  | cbForeignActivity (t : Nat) (stray : CbStray)
  /-- CB_OWN_SLOT_SEND (R199). -/
  | cbOwnSlotSend (t : Nat) (k : Nat)
  /-- CB_EVENT_WINDOW (R203); `t`: log 55. -/
  | cbEventWindow (t : ReadAt)
  /-- CB_GRANT_RESPONSE_TIMEOUT (R204). -/
  | cbGrantResponseTimeout (t : Nat) (p : Nat)
  /-- CB_BEACON_RX (R209). -/
  | cbBeaconRx (t : Nat) (p : Nat) (seen : CbSeen) (f : Bytes)
  /-- CB_LISTEN_TIMEOUT (R208). -/
  | cbListenTimeout (t : Nat)
  /-- CB_OTHER_STAR_LOST (R209). -/
  | cbOtherStarLost (t : Nat)
  /-- CB_POINT_FIRE (R215). -/
  | cbPointFire (t : Nat) (n : Nat)
  /-- CAN_INTEGRATED (R227). -/
  | canIntegrated (t : Nat) (n : Nat)
  /-- CAN_FRAME_RX (R232). -/
  | canFrameRx (t : Nat) (n sof : Nat) (raw : Bytes)
  /-- CAN_TX_START (R236); `t`: log 55. -/
  | canTxStart (t : ReadAt) (n : Nat)
  /-- CAN_TX_COMPLETE (R228). -/
  | canTxComplete (t : Nat) (n : Nat) (tdc : Option Nat)
  /-- CAN_ERROR (R228). -/
  | canError (t : Nat) (n kind : Nat) (clash exempt : Bool) (extra : CanExtra)
  /-- CAN_RECOVERY_COMPLETE (R229). -/
  | canRecoveryComplete (t : Nat) (n : Nat)
  /-- CAN_ALONE_RETRY (R245). -/
  | canAloneRetry (t : Nat) (n : Nat)
  /-- CAN_CELL_START (R238). -/
  | canCellStart (t : Nat) (n : Nat) (idle : Bool)
  /-- CAN_CHECK_CELL_END (R240). -/
  | canCheckCellEnd (t : Nat) (n : CheckEnd)
  /-- CAN_MATRIX_RESUME (R242). -/
  | canMatrixResume (t : Nat) (n : Nat)
  /-- ROUTER_LOOKUP (R256). -/
  | routerLookup (t : Nat)
  /-- GUARD_TIMEOUT (R271). -/
  | guardTimeout (t : Nat) (idx : Nat)
  /-- READ_REQ_RX (R282). -/
  | readReqRx (t : Nat) (p : Nat) (f : Bytes)
  /-- WRITE_RX (R284). -/
  | writeRx (t : Nat) (p : Nat) (f : Bytes)
  /-- IRQ_RX (R300). -/
  | irqRx (t : Nat) (p : Nat) (f : Bytes)
  /-- SEM_ACQUIRE_RX (R303). -/
  | semAcquireRx (t : Nat) (p : Nat) (f : Bytes)
  /-- SEM_RELEASE_RX (R303). -/
  | semReleaseRx (t : Nat) (p : Nat) (f : Bytes)
  /-- EXPORT_TARGET_TIMEOUT (R282). -/
  | exportTargetTimeout (t : Nat) (source : Nat)
  /-- WRITE_ACK_TIMER (R284). -/
  | writeAckTimer (t : Nat) (source : Nat)
  /-- READ_REPLY_RX (R290). -/
  | readReplyRx (t : Nat) (p : Nat) (f : Bytes)
  /-- WRITE_ACK_RX (R297). -/
  | writeAckRx (t : Nat) (p : Nat) (f : Bytes)
  /-- WRITE_FAULT_RX (R297). -/
  | writeFaultRx (t : Nat) (p : Nat) (f : Bytes)
  /-- SEM_REPLY_RX (R301). -/
  | semReplyRx (t : Nat) (p : Nat) (f : Bytes)
  /-- HELD_READ_TIMEOUT (R290). -/
  | heldReadTimeout (t : Nat) (tag : Nat)
  /-- FENCE_TIMEOUT (R299). -/
  | fenceTimeout (t : Nat) (tag : Nat)
  /-- SEM_READ_TIMEOUT (R301). -/
  | semReadTimeout (t : Nat) (tag : Nat)
  /-- SEM_ATTEMPT_TIMEOUT (R301). -/
  | semAttemptTimeout (t : Nat) (n : Nat)
  /-- ASYNC_READ_TIMEOUT (R294). -/
  | asyncReadTimeout (t : Nat) (tag : Nat)
  /-- WRITE_ACK_TIMEOUT (R297). -/
  | writeAckTimeout (t : Nat) (tag : Nat)
  /-- PREFETCH_LINE_EXPIRY (R293). -/
  | prefetchLineExpiry (t : Nat) (n k : Nat)
  /-- WINDOW_DISABLE_COMPLETE (R280). -/
  | windowDisableComplete (t : Nat) (n : Nat)
  /-- VEHICLE_FRAME_RX (R313). -/
  | vehicleFrameRx (t : Nat) (p ps err : Nat) (f : Bytes)
  /-- PAUSE_EXPIRY (R315). -/
  | pauseExpiry (t : Nat) (p : Nat)
  /-- VEHICLE_EGRESS_DEQUEUE (R314); `ecc`: log 55. -/
  | vehicleEgressDequeue (t : Nat) (p fragments : Nat) (ecc : Option Nat)
  /-- VEHICLE_LINK_CHANGE (R319). -/
  | vehicleLinkChange (t : Nat) (p : Nat) (up is100 : Bool)
  /-- RING_POLL (R326). -/
  | ringPoll (t : Nat) (q : Nat) (descs : List Bytes)
  /-- RX_RING_DELIVER (R328); `ecc`: log 55. -/
  | rxRingDeliver (t : Nat) (q : Nat) (ecc : Option Nat)
  /-- TX_CHAIN_PROCESS (R330). -/
  | txChainProcess (t : Nat) (q : Nat) (more bufs : List Bytes) (failed : Bool)
  /-- DDR_TRAINING_COMPLETE (R334). -/
  | ddrTrainingComplete (t : Nat) (passed : Bool)
  /-- DDR_SCRUB_PASS (R335). -/
  | ddrScrubPass (t : Nat) (corrected : Nat) (uces : List Nat)
  /-- MEM_STOP_DRAINED (R334). -/
  | memStopDrained (t : Nat)
  /-- MEM_STOP_TIMEOUT (R334). -/
  | memStopTimeout (t : Nat)
  /-- NUTMEG_FRAME_TIMER (R373). -/
  | nutmegFrameTimer (t : Nat)
  /-- MACE_FRAME_RX (R374). -/
  | maceFrameRx (t : Nat) (good : Bool)
  /-- NUTMEG_ANSWER_RX (R374). -/
  | nutmegAnswerRx (t : Nat) (good : Bool)
  /-- MACE_LINK_TIMEOUT (R33). -/
  | maceLinkTimeout (t : Nat)
  /-- NUTMEG_LINK_TIMEOUT (R373). -/
  | nutmegLinkTimeout (t : Nat)
  /-- LOCKSTEP_MISMATCH (R375). -/
  | lockstepMismatch (t : Nat)
  /-- MACE_CLOCK_MEASURE (R375). -/
  | maceClockMeasure (t : Nat) (interval : Nat)
  /-- SAFE_FUNCTION_EVAL (R388). -/
  | safeFunctionEval (t : Nat) (nutmeg : Bool) (samples : List (BitVec 16)) (rb : BitVec 8)
  /-- DISCREPANCY_TIMEOUT (R382). -/
  | discrepancyTimeout (t : Nat) (nutmeg : Bool) (idx : Nat)
  /-- INPUT_TEST_PULSE (R383). -/
  | inputTestPulse (t : Nat) (j : Nat) (lowN lowM : BitVec 16)
  /-- OFF_PULSE_SLOT (R387). -/
  | offPulseSlot (t : Nat) (k : Nat) (opened other back : BothSee)
  /-- BRAKE_FEEDBACK_DEADLINE (R391). -/
  | brakeFeedbackDeadline (t : Nat) (nutmeg : Bool) (o : Nat)
  /-- ACK_STUCK_TIMEOUT (R393). -/
  | ackStuckTimeout (t : Nat) (nutmeg : Bool)
  /-- STARTING_COMPLETE (R377). -/
  | startingComplete (t : Nat) (nutmeg checkOk : Bool)
  /-- COMPANION_POWER_UP (R376). -/
  | companionPowerUp (t : Nat)
  /-- COMPANION_SUPPLY_LOW (R394). -/
  | companionSupplyLow (t : Nat)
  /-- PASSWORD_LOCKOUT_EXPIRY (R399). -/
  | passwordLockoutExpiry (t : Nat)
  /-- AUTHORISATION_EXPIRY (R399). -/
  | authorisationExpiry (t : Nat)
  /-- TRAIN_WAKE_PULSE_DETECT (R410). -/
  | trainWakePulseDetect (t : Nat) (rear : Bool)
  /-- WAKE_PULSE_END (R410). -/
  | wakePulseEnd (t : Nat)
  /-- CAN_WAKE_DETECT (R409). -/
  | canWakeDetect (t : Nat) (n : Nat)
  /-- CARBUS_WAKE_DETECT (R409). -/
  | carbusWakeDetect (t : Nat) (port : Nat)
  /-- WAKE_AFTER_EXPIRY (R409). -/
  | wakeAfterExpiry (t : Nat)
  /-- FALSE_WAKE_TIMEOUT (R414). -/
  | falseWakeTimeout (t : Nat)
  /-- SLEEP_VOTE_TIMER (R415). -/
  | sleepVoteTimer (t : Nat)
  /-- SLEEP_VOTE_RX (R416). -/
  | sleepVoteRx (t : Nat) (p : Nat) (raw : Sourced)
  /-- SLEEP_VOTE_EXPIRY (R416). -/
  | sleepVoteExpiry (t : Nat)
  /-- SLEEP_GRANT_ISSUE (R416). -/
  | sleepGrantIssue (t : Nat)
  /-- SLEEP_GRANT_RX (R416). -/
  | sleepGrantRx (t : Nat) (p : Nat) (raw : Sourced)
  /-- ABORT_REQUEST_RX (R417). -/
  | abortRequestRx (t : Nat) (p : Nat) (raw : Sourced)
  /-- SLEEP_ABORT_RX (R417). -/
  | sleepAbortRx (t : Nat) (p : Nat) (raw : Sourced)
  /-- SLEEP_INSTANT (R419). -/
  | sleepInstant (t : Nat)
  /-- CLOVE_COUNTDOWN_EXPIRY (R419). -/
  | cloveCountdownExpiry (t : Nat)
  /-- SLEEP_READY (R412). -/
  | sleepReady (t : Nat)
  /-- PREPARE_FAILSAFE_TIMEOUT (R412). -/
  | prepareFailsafeTimeout (t : Nat)
  /-- SLEEP_ENTRY_COMPLETE (R406). -/
  | sleepEntryComplete (t : Nat)
  /-- REFERENCE_LOST (R35). -/
  | referenceLost (t : Nat)
  /-- REFERENCE_RETURN (R35). -/
  | referenceReturn (t : Nat)
  /-- HEALTH_CHALLENGE (R445). -/
  | healthChallenge (t : Nat) (answer : Option Nat)
  /-- OPTIME_SAVE (R426). -/
  | optimeSave (t : Nat)
  /-- POWER_UP (R467). -/
  | powerUp (t : Nat)
  /-- ALWAYS_ON_LOSS (R468). -/
  | alwaysOnLoss (t : Nat)
  /-- NRST_ASSERT (R443). -/
  | nrstAssert (t : Nat)
  /-- NRST_RELEASE (R443). -/
  | nrstRelease (t : Nat)
  /-- MAIN_DIE_RELEASE (R467). -/
  | mainDieRelease (t : Nat) (hang : Nat) (fails : List Nat)
  /-- BOOT_STEP_WATCHDOG (R447). -/
  | bootStepWatchdog (t : Nat)
  /-- RETRY_WAIT_EXPIRY (R451). -/
  | retryWaitExpiry (t : Nat) (hang : Nat) (fails : List Nat)
  /-- FIRMWARE_RESTART (R444). -/
  | firmwareRestart (t : Nat) (hang : Nat) (fails : List Nat)
  /-- FIRMWARE_FATAL_ERROR (R442). -/
  | firmwareFatalError (t : Nat)
  /-- RECORD_STORE (R430); `t`: log 55. -/
  | recordStore (t : ReadAt) (arisen : List (Nat × Nat))
  /-- PIN_EXPIRY (R58). -/
  | pinExpiry (t : Nat) (h : Nat)
  /-- EXPORT_ACCESS_COMPLETE (R282). -/
  | exportAccessComplete (t : Nat) (source : Nat) (ends : AccessEnd) (data : Bytes)
  /-- PCIE_LINK_UP (R457). -/
  | pcieLinkUp (t : Nat) (width speed : Nat)
  /-- PHY_ENERGY_DETECT (R414). -/
  | phyEnergyDetect (t : Nat) (p : Nat)
  /-- SAFFRON_INTERNAL_TICK (R173). -/
  | saffronInternalTick (t : Nat)
  /-- CRYSTAL_STABLE (R467). -/
  | crystalStable (t : Nat)
  /-- CRYSTAL_LOST (R28). -/
  | crystalLost (t : Nat)
  deriving DecidableEq, Repr

end Sys2Proof
end

