-- ==== Sys2Proof/WellFormed.lean ====
section
/-! DEFINITION. Which commands the outside can give: operands in the range of what they number. `exec` does not rest on it: a command
outside these ranges changes nothing but the clock. -/
namespace Sys2Proof

/-- Tiles of a kind (R22). -/
def TileKind.count : TileKind → Nat
  | .backbone | .saffron => 4
  | .mac | .can => 12
  | .carBus => 24
  | .check => 16
  | .mram => 1

/-- A doorbell as its register can carry it (R351). -/
def Doorbell.wf (d : Doorbell) : Bool := decide (d.mb < 8 ∧ d.tag < 16 ∧ d.length < 1024)

/-- A well-formed command. -/
def Instr.wf : Instr → Bool
  | .dirStatus _ d => d.wf
  | .dirPin _ d => d.wf
  | .dirReadPage _ d => d.wf
  | .dirUnpin _ d => d.wf
  | .dirCopy _ d => d.wf
  | .dirResolve _ d => d.wf
  | .vehicleConfigSet _ d => d.wf
  | .vehicleConfigGet _ d => d.wf
  | .rollcallStart _ d => d.wf
  | .rollcallStop _ d => d.wf
  | .rollcallRerun _ d => d.wf
  | .rollcallStatus _ d => d.wf
  | .cabSet _ d => d.wf
  | .rollcallConfigSet _ d => d.wf
  | .rollcallConfigGet _ d => d.wf
  | .rollcallCounters _ d => d.wf
  | .bbStatus _ d => d.wf
  | .bbConfigSet _ d => d.wf
  | .bbConfigGet _ d => d.wf
  | .bbSchedStage _ d => d.wf
  | .bbSchedCommit _ d => d.wf
  | .pdWrite _ d => d.wf
  | .pdRead _ d => d.wf
  | .msgSend _ d => d.wf
  | .leaseStatus _ d => d.wf
  | .bbCounters _ d => d.wf
  | .timeStatus _ d => d.wf
  | .timeConfigSet _ d => d.wf
  | .timeConfigGet _ d => d.wf
  | .timeNow _ d => d.wf
  | .timeRefTod _ d => d.wf
  | .cepSet _ d => d.wf
  | .cepGet _ d => d.wf
  | .cepStatus _ d => d.wf
  | .timePort _ d => d.wf
  | .timeCounters _ d => d.wf
  | .cbStatus _ d => d.wf
  | .cbConfigSet _ d => d.wf
  | .cbConfigGet _ d => d.wf
  | .cbStart _ d => d.wf
  | .cbStop _ d => d.wf
  | .cbSchedStage _ d => d.wf
  | .cbSchedCommit _ d => d.wf
  | .cbTxWrite _ d => d.wf
  | .cbRxRead _ d => d.wf
  | .cbEventSend _ d => d.wf
  | .cbEventRead _ d => d.wf
  | .cbSlotStatus _ d => d.wf
  | .cbPointSet _ d => d.wf
  | .cbCounters _ d => d.wf
  | .canStatus _ d => d.wf
  | .canConfigSet _ d => d.wf
  | .canConfigGet _ d => d.wf
  | .canStart _ d => d.wf
  | .canStop _ d => d.wf
  | .canRecover _ d => d.wf
  | .canBufSet _ d => d.wf
  | .canBufGet _ d => d.wf
  | .canTxWrite _ d => d.wf
  | .canRxRead _ d => d.wf
  | .canSend _ d => d.wf
  | .canMatrixStage _ d => d.wf
  | .canMatrixCommit _ d => d.wf
  | .canBufResume _ d => d.wf
  | .canCounters _ d => d.wf
  | .routeStatus _ d => d.wf
  | .routeStart _ d => d.wf
  | .routeStop _ d => d.wf
  | .routeStage _ d => d.wf
  | .routeCommit _ d => d.wf
  | .routeEntryGet _ d => d.wf
  | .routeEntryEnable _ d => d.wf
  | .guardStatus _ d => d.wf
  | .guardReset _ d => d.wf
  | .routeCounters _ d => d.wf
  | .guardCompute _ d => d.wf
  | .brStatus _ d => d.wf
  | .brConfigSet _ d => d.wf
  | .brConfigGet _ d => d.wf
  | .brStart _ d => d.wf
  | .brStop _ d => d.wf
  | .brWindowSet _ d => d.wf
  | .brWindowEnable _ d => d.wf
  | .brWindowStatus _ d => d.wf
  | .brExport _ d => d.wf
  | .brRead _ d => d.wf
  | .brCompletionRead _ d => d.wf
  | .brFaultRead _ d => d.wf
  | .brStrandedRead _ d => d.wf
  | .brPrefetch _ d => d.wf
  | .brSemControl _ d => d.wf
  | .brCounters _ d => d.wf
  | .ethStatus _ d => d.wf
  | .ethConfigSet _ d => d.wf
  | .ethConfigGet _ d => d.wf
  | .ethStart _ d => d.wf
  | .ethStop _ d => d.wf
  | .ethAddrSet _ d => d.wf
  | .ethCounters _ d => d.wf
  | .queueSet _ d => d.wf
  | .queueStatus _ d => d.wf
  | .ringSet _ d => d.wf
  | .ringEnable _ d => d.wf
  | .memConfigSet _ d => d.wf
  | .memConfigGet _ d => d.wf
  | .memStart _ d => d.wf
  | .memStop _ d => d.wf
  | .memStatus _ d => d.wf
  | .ifIdentify _ d => d.wf
  | .ifEcho _ d => d.wf
  | .ifCounters _ d => d.wf
  | .evRecordRead _ d => d.wf
  | .tileStatus _ d => d.wf
  | .safeStatus _ d => d.wf
  | .safeIoStatus _ d => d.wf
  | .safeParamStage _ d => d.wf
  | .safeParamCommit _ d => d.wf
  | .safeParamRead _ d => d.wf
  | .safeConfigEnter _ d => d.wf
  | .safeParamConfirm _ d => d.wf
  | .safeConfigLeave _ d => d.wf
  | .safePasswordSet _ d => d.wf
  | .safeLogRead _ d => d.wf
  | .safeCounters _ d => d.wf
  | .pwrStatus _ d => d.wf
  | .pwrConfigSet _ d => d.wf
  | .pwrConfigGet _ d => d.wf
  | .pwrVote _ d => d.wf
  | .pwrWakeRequest _ d => d.wf
  | .pwrSleepLocal _ d => d.wf
  | .pwrPnSet _ d => d.wf
  | .pwrPnMode _ d => d.wf
  | .pwrCounters _ d => d.wf
  | .recStatus _ d => d.wf
  | .recConfigSet _ d => d.wf
  | .recConfigGet _ d => d.wf
  | .recRead _ d => d.wf
  | .recCopy _ d => d.wf
  | .recSeqRead _ d => d.wf
  | .recWrite _ d => d.wf
  | .recErase _ d => d.wf
  | .recCounters _ d => d.wf
  | .bootStatus _ d => d.wf
  | .bootJournalRead _ d => d.wf
  | .bootJournalClear _ d => d.wf
  | .bootConfigSet _ d => d.wf
  | .bootConfigGet _ d => d.wf
  | .fwBegin _ d => d.wf
  | .fwWrite _ d => d.wf
  | .fwActivate _ d => d.wf
  | .fwConfirm _ d => d.wf
  | .fwRestart _ d => d.wf
  | .fwSecurityAdvance _ d => d.wf
  | .undefinedOpcode _ d op => d.wf && decide (op < 65536)
  | .heldCommandStart _ n => decide (n < 8)
  | .doorbellIgnored _ d op => d.wf && decide (op < 65536)
  | .requestAreaWriteLocked _ n off data => decide (n < 8 ∧ off + data.length ≤ 512 ∧ data.length ≤ 256 ∧ data ≠ [])
  | .mbRelease _ n => decide (n < 8)
  | .evAck _ word _ => decide (word < 4)
  | .nhirqEnableWrite _ _ => true
  | .registerWrite _ o d => decide (o + d.length ≤ 65536 ∧ d ≠ [])
  | .registerAccessError _ _ o len => decide (o + len ≤ 65536)
  | .fenceRead _ _ n off len => decide (n < 64 ∧ off < 8 ∧ 1 ≤ len ∧ off + len ≤ 8)
  | .remoteIrqWrite _ n _ enables => decide (n < 64 ∧ enables ≠ 0)
  | .semRead _ _ n => decide (n < 16)
  | .semReleaseWrite _ n _ => decide (n < 16)
  | .windowRead _ _ off len => decide (off + len ≤ 0x20000000 ∧ 1 ≤ len)
  | .windowWrite _ off d => decide (off + d.length ≤ 0x20000000 ∧ d ≠ [])
  | .nonpostedRequestAdmitted _ => true
  | .spiFrame _ _ => true
  | .pcieLinkDown _ => true
  | .msiReenable _ _ _ _ k => decide (k.vectors ≤ 5 ∧ k.bar0 < 2 ^ 32 ∧ k.bar2 < 2 ^ 64)
  | .msiUnmask _ _ => true
  | .heartbeatTick _ => true
  | .tileSelfCheckFail _ kind idx => decide (idx < kind.count)
  | .phyLinkLoss _ p => decide (p < 4)
  | .linkRxTimeout _ p => decide (p < 4)
  | .linkProvisional _ p => decide (p < 4)
  | .linkIdleTimer _ p => decide (p < 4)
  | .delayBurstEnd _ p => decide (p < 4)
  | .delayRequestTimer _ p => decide (p < 4)
  | .tdreqRx _ p _ => decide (p < 4)
  | .tdrespRx _ p _ _ => decide (p < 4)
  | .delaySampleTimeout _ p => decide (p < 4)
  | .latencyTempCorrection _ p _ _ => decide (p < 4)
  | .probeRx _ p _ => decide (p < 4)
  | .probeReplyRx _ p _ => decide (p < 4)
  | .probeReplyTimeout _ e => decide (e < 2)
  | .couplerSenseChange _ e _ => decide (e < 2)
  | .couplerDisagreeTimeout _ e => decide (e < 2)
  | .firstStartTimeout _ => true
  | .holdoffExpiry _ => true
  | .startRx _ p _ => decide (p < 4)
  | .startOuterTimeout _ e => decide (e < 2)
  | .countRx _ p _ => decide (p < 4)
  | .reportRx _ p _ _ => decide (p < 4)
  | .reportWaitTimeout _ => true
  | .compositionComplete _ => true
  | .announceRx _ p _ => decide (p < 4)
  | .dirsegRx _ p _ _ => decide (p < 4)
  | .segreqDeadline _ => true
  | .segreqRx _ p _ _ => decide (p < 4)
  | .snapshotIncompleteDeadline _ => true
  | .epochSwitch _ => true
  | .runWatchdogExpiry _ => true
  | .snapshotEffective _ => true
  | .noticeRx _ p _ _ => decide (p < 4)
  | .bridgeTimeout _ _ => true
  | .beaconTimer _ => true
  | .beaconRx _ p _ _ => decide (p < 4)
  | .beaconMissingHeld _ => true
  | .leaderLostTimeout _ => true
  | .leaderLeaseRenew _ => true
  | .leaseRx _ p _ => decide (p < 4)
  | .deputyTakeover _ => true
  | .leaseExpiry _ _ => true
  | .gatewayRequestTimer _ => true
  | .bbTelegramRx _ p _ _ _ _ => decide (p < 4)
  | .bbEgressDequeue _ q _ => decide (q < 16)
  | .dupEntryAgeout _ => true
  | .fallbackReturnTimer _ e => decide (e < 2)
  | .lineRenameTimer _ _ => true
  | .preemptVerifyComplete _ p _ => decide (p < 12)
  | .pdSlotInstant _ _ => true
  | .tsyncGmTimer _ => true
  | .tsyncRx _ p _ _ => decide (p < 4)
  | .tsyncLossTimeout _ => true
  | .holdoverTsyncTimer _ => true
  | .holdoverLimitExceeded _ => true
  | .trefInPulse _ _ => true
  | .trefInMissing _ => true
  | .trefOutPulse _ => true
  | .cepFire _ n => decide (n < 16)
  | .cbCycleStart _ => true
  | .cbFrameRx _ p _ _ _ _ => decide (12 ≤ p ∧ p < 36)
  | .cbWindowClose _ p _ _ => decide (12 ≤ p ∧ p < 36)
  | .cbForeignActivity _ x => decide (12 ≤ x.port ∧ x.port < 36)
  | .cbOwnSlotSend _ _ => true
  | .cbEventWindow _ => true
  | .cbGrantResponseTimeout _ p => decide (12 ≤ p ∧ p < 36)
  | .cbBeaconRx _ p _ _ => decide (12 ≤ p ∧ p < 36)
  | .cbListenTimeout _ => true
  | .cbOtherStarLost _ => true
  | .cbPointFire _ n => decide (n < 8)
  | .canIntegrated _ n => decide (n < 12)
  | .canFrameRx _ n _ _ => decide (n < 12)
  | .canTxStart _ n => decide (n < 12)
  | .canTxComplete _ n _ => decide (n < 12)
  | .canError _ n kind _ _ _ => decide (n < 12 ∧ kind < 9)
  | .canRecoveryComplete _ n => decide (n < 12)
  | .canAloneRetry _ n => decide (n < 12)
  | .canCellStart _ n _ => decide (n < 12)
  | .canCheckCellEnd _ n => decide (n.channel < 12)
  | .canMatrixResume _ n => decide (n < 12)
  | .routerLookup _ => true
  | .guardTimeout _ _ => true
  | .readReqRx _ p _ => decide (p < 4 ∨ p = 62)
  | .writeRx _ p _ => decide (p < 4 ∨ p = 62)
  | .irqRx _ p _ => decide (p < 4 ∨ p = 62)
  | .semAcquireRx _ p _ => decide (p < 4 ∨ p = 62)
  | .semReleaseRx _ p _ => decide (p < 4 ∨ p = 62)
  | .exportTargetTimeout _ _ => true
  | .writeAckTimer _ _ => true
  | .readReplyRx _ p _ => decide (p < 12 ∨ p = 62)
  | .writeAckRx _ p _ => decide (p < 12 ∨ p = 62)
  | .writeFaultRx _ p _ => decide (p < 12 ∨ p = 62)
  | .semReplyRx _ p _ => decide (p < 12 ∨ p = 62)
  | .heldReadTimeout _ _ => true
  | .fenceTimeout _ _ => true
  | .semReadTimeout _ _ => true
  | .semAttemptTimeout _ n => decide (n < 16)
  | .asyncReadTimeout _ _ => true
  | .writeAckTimeout _ _ => true
  | .prefetchLineExpiry _ n _ => decide (n < 64)
  | .windowDisableComplete _ n => decide (n < 64)
  | .vehicleFrameRx _ p _ _ _ => decide (4 ≤ p ∧ p < 12)
  | .pauseExpiry _ p => decide (4 ≤ p ∧ p < 12)
  | .vehicleEgressDequeue _ p _ _ => decide (4 ≤ p ∧ p < 12)
  | .vehicleLinkChange _ p _ _ => decide (4 ≤ p ∧ p < 12)
  | .ringPoll _ q _ => decide (48 ≤ q ∧ q < 60)
  | .rxRingDeliver _ q _ => decide (48 ≤ q ∧ q < 56)
  | .txChainProcess _ q _ _ _ => decide (56 ≤ q ∧ q < 60)
  | .ddrTrainingComplete _ _ => true
  | .ddrScrubPass _ _ _ => true
  | .memStopDrained _ => true
  | .memStopTimeout _ => true
  | .nutmegFrameTimer _ => true
  | .maceFrameRx _ _ => true
  | .nutmegAnswerRx _ _ => true
  | .maceLinkTimeout _ => true
  | .nutmegLinkTimeout _ => true
  | .lockstepMismatch _ => true
  | .maceClockMeasure _ _ => true
  | .safeFunctionEval _ _ samples _ => decide (samples.length = 5)
  | .discrepancyTimeout _ _ idx => decide (idx < 8)
  | .inputTestPulse _ j _ _ => decide (j < 16)
  | .offPulseSlot _ k _ _ _ => decide (k < 8)
  | .brakeFeedbackDeadline _ _ o => decide (o < 4)
  | .ackStuckTimeout _ _ => true
  | .startingComplete _ _ _ => true
  | .companionPowerUp _ => true
  | .companionSupplyLow _ => true
  | .passwordLockoutExpiry _ => true
  | .authorisationExpiry _ => true
  | .trainWakePulseDetect _ _ => true
  | .wakePulseEnd _ => true
  | .canWakeDetect _ n => decide (n < 12)
  | .carbusWakeDetect _ port => decide (12 ≤ port ∧ port < 36)
  | .wakeAfterExpiry _ => true
  | .falseWakeTimeout _ => true
  | .sleepVoteTimer _ => true
  | .sleepVoteRx _ p _ => decide (p < 4)
  | .sleepVoteExpiry _ => true
  | .sleepGrantIssue _ => true
  | .sleepGrantRx _ p _ => decide (p < 4)
  | .abortRequestRx _ p _ => decide (p < 4)
  | .sleepAbortRx _ p _ => decide (p < 4)
  | .sleepInstant _ => true
  | .cloveCountdownExpiry _ => true
  | .sleepReady _ => true
  | .prepareFailsafeTimeout _ => true
  | .sleepEntryComplete _ => true
  | .referenceLost _ => true
  | .referenceReturn _ => true
  | .healthChallenge _ a => a.all (· < 65536)
  | .optimeSave _ => true
  | .powerUp _ => true
  | .alwaysOnLoss _ => true
  | .nrstAssert _ => true
  | .nrstRelease _ => true
  | .mainDieRelease _ hang fails => decide ((hang = 15 ∨ (1 ≤ hang ∧ hang ≤ 14)) ∧ ∀ k ∈ fails, 1 ≤ k ∧ k ≤ 14)
  | .bootStepWatchdog _ => true
  | .retryWaitExpiry _ hang fails => decide ((hang = 15 ∨ (1 ≤ hang ∧ hang ≤ 14)) ∧ ∀ k ∈ fails, 1 ≤ k ∧ k ≤ 14)
  | .firmwareRestart _ hang fails => decide ((hang = 15 ∨ (1 ≤ hang ∧ hang ≤ 14)) ∧ ∀ k ∈ fails, 1 ≤ k ∧ k ≤ 14)
  | .firmwareFatalError _ => true
  | .recordStore _ arisen => decide (∀ k ∈ arisen, k.1 < 65536 ∧ k.2 < 8)
  | .pinExpiry _ h => decide (h < 256)
  | .exportAccessComplete _ _ _ _ => true
  | .pcieLinkUp _ width speed => decide ((width = 1 ∨ width = 2) ∧ (speed = 1 ∨ speed = 2))
  | .phyEnergyDetect _ p => decide (p < 4)
  | .saffronInternalTick _ => true
  | .crystalStable _ => true
  | .crystalLost _ => true

end Sys2Proof
end

