-- ==== Sys2Proof/Decode.lean ====
section
/-! DEFINITION. Words the table spells: the table of operations and events gives its rows no bits, so no word spells a command. -/
namespace Sys2Proof

/-- The command a word spells by the table's bits: the table has none for any row. -/
def decodeTableWord (_nbits _w : Nat) : Option Instr := none

end Sys2Proof
end

