-- ==== Sys2Proof/Config.lean ====
section
/-! DEFINITION. What one device fixes (fuses) and what the spec leaves open (free values): constants without a body,
so that no proof can see what they are. -/
namespace Sys2Proof.Config

/-- What fixes the node identity burned into the fuses (R41, R348). (log 37) -/
opaque nodeSeed : BitVec 64

/-- The node identity: any value from 1 to 0xFFFF_FFFF_FFFF_FFFE (R41). (log 37) -/
def nodeIdentity : Nat := 1 + nodeSeed.toNat % 0xFFFFFFFFFFFFFFFE

/-- A value the spec leaves open, a fresh one for each draw: `Clock.fresh` counts the draws (log 3). -/
opaque freeWord : Nat → BitVec 64

/-- SHA-256 of a password salted and iterated 4,096 times with PBKDF2-HMAC-SHA-256 (R399): salt, password, digest. (log 37) -/
opaque pbkdf2 : Bytes → Bytes → BitVec 256

/-- SHA-256 (R398, R452, R453), the function of FIPS 180-4 that the spec names and does not restate. (log 37) -/
opaque sha256 : Bytes → BitVec 256

/-- ECDSA P-256 verification (R453): public key, signed bytes, signature. (log 37) -/
opaque ecdsaValid : Bytes → Bytes → Bytes → Bool

/-- The key hash in each of the four fuse positions (R453). (log 37) -/
opaque keyHash : Nat → BitVec 256

/-- What an external programmer has put into the flash (R452): slot (0 A, 1 B), offset, byte. (log 37) -/
opaque flashByte : Nat → Nat → BitVec 8

/-- The latency of a backbone port calibrated at production and fused, transmit (`true`) or receive, ps (R151). (log 37) -/
opaque fusedLatency : Nat → Bool → BitVec 32

/-- The Subsystem Vendor ID and, above it, the Subsystem ID in fuses (R340). (log 37) -/
opaque subsystemIds : BitVec 32

/-- InterfaceMinor of the firmware (R366). (log 37) -/
opaque interfaceMinor : BitVec 8

end Sys2Proof.Config
end

