-- ==== Sys2Proof/Machine/Bytes.lean ====
section
/-! DEFINITION. Byte order (R7), fields of a byte string, saturating counters and the CRCs the spec names. -/
namespace Sys2Proof.Machine

/-- A little-endian byte string read as a number (R7). -/
def leNat : Bytes → Nat
  | [] => 0
  | b :: bs => b.toNat + 256 * leNat bs

/-- A number as `n` little-endian bytes, its higher bytes dropped (R7). -/
def le : Nat → Nat → Bytes
  | 0, _ => []
  | n + 1, v => BitVec.ofNat 8 v :: le n (v / 256)

/-- A byte string read most significant byte first (R7, backbone and car-bus formats). -/
def beNat (b : Bytes) : Nat := leNat b.reverse

/-- A number as `n` bytes, most significant byte first. -/
def be (n v : Nat) : Bytes := (le n v).reverse

def slice (b : Bytes) (off n : Nat) : Bytes := (b.drop off).take n

/-- Fields of `n` bytes at an offset: `l…` little-endian, `b…` most significant byte first. Bytes beyond the string read 0. -/
def lAt (b : Bytes) (off n : Nat) : Nat := leNat (slice b off n)
def bAt (b : Bytes) (off n : Nat) : Nat := beNat (slice b off n)
def u8 (b : Bytes) (off : Nat) : Nat := (b.getD off 0).toNat
def u16 (b : Bytes) (off : Nat) : Nat := lAt b off 2
def u32 (b : Bytes) (off : Nat) : Nat := lAt b off 4
def u64 (b : Bytes) (off : Nat) : Nat := lAt b off 8

def zeros (n : Nat) : Bytes := List.replicate n 0

/-- A byte string cut or zero-filled to `n` bytes. -/
def padTo (n : Nat) (b : Bytes) : Bytes := (b ++ zeros n).take n

/-- `data` written over an area at an offset; bytes that would fall beyond the area are dropped. -/
def splice (area : Bytes) (off : Nat) (data : Bytes) : Bytes :=
  (area.take off ++ data ++ area.drop (off + data.length)).take area.length

def isZero (b : Bytes) : Bool := b.all (· == 0)

/-- A Boolean as a bit. -/
def b2n (b : Bool) : Nat := if b then 1 else 0

/-- Bits `[hi:lo]` of a number (R6). -/
def bits (v hi lo : Nat) : Nat := (v >>> lo) % 2 ^ (hi - lo + 1)

/-- A two's complement field of `n` bits read as an integer. -/
def sInt (n v : Nat) : Int := if v % 2 ^ n < 2 ^ (n - 1) then ((v % 2 ^ n : Nat) : Int) else ((v % 2 ^ n : Nat) : Int) - ((2 ^ n : Nat) : Int)

/-- An integer as an `n`-bit two's complement field. -/
def ofInt (n : Nat) (v : Int) : Nat := (v % ((2 ^ n : Nat) : Int)).toNat

def max32 : Nat := 0xFFFFFFFF

/-- Saturation at 0xFFFF_FFFF, as every 32-bit counter of the spec does. -/
def sat32 (v : Nat) : Nat := min v max32

def sat (n v : Nat) : Nat := min v (2 ^ n - 1)

/-- Add to entry `i` of a bank of saturating 32-bit counters. -/
def bumpBy (l : List Nat) (i n : Nat) : List Nat := l.set i (sat32 (l.getD i 0 + n))
def bump (l : List Nat) (i : Nat) : List Nat := bumpBy l i 1

/-- A counter bank as its RC response: every field 4 bytes, little-endian. -/
def cntBytes (l : List Nat) : Bytes := l.flatMap (le 4)

/-- `a` is newer than `b` (R53): (a − b) mod 2^32 lies from 1 to 0x7FFF_FFFF. -/
def newer (a b : Nat) : Bool :=
  let d := (a + 2 ^ 32 - b % 2 ^ 32) % 2 ^ 32
  decide (1 ≤ d ∧ d ≤ 0x7FFFFFFF)

/-- The later of two generations (R53). -/
def laterGen (a b : Nat) : Nat := if newer b a then b else a

/-- The next value of a 32-bit running number that skips 0 when it wraps (R53, R83). -/
def next32 (v : Nat) : Nat := if (v + 1) % 2 ^ 32 = 0 then 1 else (v + 1) % 2 ^ 32

/-- Update entry `i` of a list. -/
def updAt {α : Type} (l : List α) (i : Nat) (f : α → α) : List α := l.mapIdx fun j a => if j = i then f a else a

/-- Reflection of the low `n` bits. -/
def reflectBits (n v : Nat) : Nat :=
  (List.range n).foldl (fun acc i => if v.testBit i then acc ||| (1 <<< (n - 1 - i)) else acc) 0

/-- One bit into a CRC register of width `w`. -/
def crcBit (w poly : Nat) (reg : Nat) (bit : Bool) : Nat :=
  let sh := (reg <<< 1) % 2 ^ w
  if reg.testBit (w - 1) != bit then sh ^^^ poly else sh

/-- One byte into a CRC register; with `refIn` its least significant bit goes first. -/
def crcByte (w poly : Nat) (refIn : Bool) (reg : Nat) (b : Byte) : Nat :=
  (List.range 8).foldl (fun r i => crcBit w poly r (b.getLsbD (if refIn then i else 7 - i))) reg

/-- The CRC of the parameter model the spec uses (R56, R105, R270): width, polynomial, initial value, reflection, final XOR. -/
def crc (w poly init : Nat) (refIn refOut : Bool) (xorOut : Nat) (data : Bytes) : Nat :=
  let r := data.foldl (crcByte w poly refIn) (init % 2 ^ w)
  (if refOut then reflectBits w r else r) ^^^ xorOut

/-- CRC-32C of R56. -/
def crc32c (data : Bytes) : Nat := crc 32 0x1EDC6F41 max32 true true max32 data

/-- CRC-16 of R105 and R344. -/
def crc16 (data : Bytes) : Nat := crc 16 0x1021 0xFFFF false false 0 data

/-- CRC-32 of IEEE 802.3, the frame check sequence (R103). -/
def fcs (data : Bytes) : Nat := crc 32 0x04C11DB7 max32 true true max32 data

/-- The CRC-32C of an image whose 4-byte check field at `off` is taken as 0 (R56, R124, R218, R243, R258). -/
def imageCrc (off : Nat) (b : Bytes) : Nat := crc32c (splice b off (zeros 4))

/-- ⌈a ÷ b⌉. -/
def ceilDiv (a b : Nat) : Nat := (a + b - 1) / b

/-- `v` rounded up to the next multiple of `m`. -/
def roundUp (v m : Nat) : Nat := ceilDiv v m * m

end Sys2Proof.Machine
end

