-- ==== Sys2Proof/Machine/Memory.lean ====
section
/-! DEFINITION. An addressed buffer or RAM as plain data: the cells that differ from 0, addresses strictly rising.
Mailbox areas, staging areas, the DDR4 bridge area and the flash slots are kept so. -/
namespace Sys2Proof.Machine

/-- Cells in canonical form: addresses strictly rising, none equal to what an unlisted address reads as (0). -/
abbrev Memory := List Host.Cell

/-- The canonical form. -/
def Memory.wf (m : Memory) : Bool :=
  m.all (fun c => c.2 != 0) && decide (m.Pairwise fun a b => a.1 < b.1)

/-- The byte at an address; an unlisted address reads 0. -/
def Memory.get (m : Memory) (a : Nat) : Byte := ((m.find? fun c => c.1 == a).map (·.2)).getD 0

/-- The cells a run of bytes occupies from an address, zero bytes left unlisted. -/
def cellsFrom : Nat → Bytes → Memory
  | _, [] => []
  | a, b :: bs => if b = 0 then cellsFrom (a + 1) bs else (a, b) :: cellsFrom (a + 1) bs

/-- Bytes written at an address. -/
def Memory.write (m : Memory) (a : Nat) (d : Bytes) : Memory :=
  m.filter (fun c => decide (c.1 < a)) ++ cellsFrom a d ++ m.filter (fun c => decide (a + d.length ≤ c.1))

/-- Read on from an address, the cells below it already dropped. -/
def readFrom : Memory → Nat → Nat → Bytes
  | _, _, 0 => []
  | [], a, n + 1 => 0 :: readFrom [] (a + 1) n
  | (k, v) :: m, a, n + 1 => if k = a then v :: readFrom m (a + 1) n else 0 :: readFrom ((k, v) :: m) (a + 1) n

/-- `n` bytes read from an address. -/
def Memory.read (m : Memory) (a n : Nat) : Bytes := readFrom (m.dropWhile fun c => decide (c.1 < a)) a n

end Sys2Proof.Machine
end

