-- ==== Sys2Proof/Machine/HostState.lean ====
section
/-! DEFINITION. State of the clock, the outputs, the fuses, the tiles and the host interface (R23, R148, R340–R369). -/
namespace Sys2Proof.Machine

/-- A Shadowed (epoch) parameter (R15–R19): in force, carried by the announced switch, waiting for a later one. -/
structure EpochShadow (α : Type) where
  cur : α
  joined : Option α := none
  wait : Option α := none
  deriving DecidableEq, Repr

/-- A Shadowed (cycle) parameter (R15, R16): in force, and pending with the effective boundaries, the earliest first. -/
structure CycleShadow (α : Type) where
  cur : α
  pending : List (Nat × α) := []
  deriving DecidableEq, Repr

/-- LocalTime (R148) in ns, and the count of free values drawn (the model's own field, log 3). -/
structure Clock where
  now : Nat := 0
  fresh : Nat := 0
  deriving DecidableEq, Repr

/-- What leaves the block: the model's own record of its effects on the outside (log 5), newest first. (log 61) -/
inductive Output where
  /-- A frame sent on a port of R40: on an Ethernet port with its FCS, on a car-bus port from the preamble to the CRC (R185). -/
  | frame (port : Nat) (data : Bytes)
  /-- A car-bus line driven low, a code violation, for `width` ns (R194). -/
  | low (port width : Nat)
  /-- A CAN frame sent on a channel (R236): record of R235 layout. -/
  | can (channel : Nat) (data : Bytes)
  /-- An MSI for a vector (R361). -/
  | msi (vector : Nat)
  /-- A posted DMA write to host memory (R59, R328, R330, R282). -/
  | dma (address : Nat) (data : Bytes)
  /-- A non-posted DMA read of host memory, at most 512 bytes (R282, R326, R340). -/
  | dmaRead (address len : Nat)
  /-- The completion of a register or window read by the host; `tag` is the read's. -/
  | completion (tag : Nat) (data : Bytes)
  /-- An Unsupported Request completion (R288). -/
  | unsupported (tag : Nat)
  /-- Bytes sent on MISO (R344). -/
  | miso (data : Bytes)
  /-- A pulse on a GPIO pin (R169, R171): pin, width in ns. -/
  | pulse (pin width : Nat)
  /-- A train wake pulse driven on TWF (60) or TWR (61) (R410). -/
  | wake (port : Nat)
  /-- A safe output side switched (R387, R391): output, N side or M side, on. -/
  | safeOut (output : Nat) (nSide on : Bool)
  /-- The level Mace gives an input test source; none while it is undriven (R383). -/
  | testSource (source : Nat) (level : Option Bool)
  /-- Clove's report at a start that its crystal was lost since the start before and the RC oscillator drove it (R28). (log 71) -/
  | crystalReport
  deriving DecidableEq, Repr

/-- The read requests for a run of host memory, each of at most 512 bytes (R340). (log 6) -/
def Output.dmaReads (address len : Nat) : List Output :=
  (List.range ((len + 511) / 512)).map fun k => .dmaRead (address + 512 * k) (min 512 (len - 512 * k))

/-- The posted writes for a run of host memory, each of at most the 256 bytes of the maximum payload (R340). (log 6) -/
def Output.dmaWrites (address : Nat) (data : Bytes) : List Output :=
  (List.range ((data.length + 255) / 256)).map fun k => .dma (address + 256 * k) ((data.drop (256 * k)).take 256)

/-- Fuses (R41, R151, R340, R453, R461). (log 37) -/
structure Fuses where
  identity : Nat := 0
  revoked : Nat := 0
  minSecurity : Nat := 0
  /-- Transmit and receive latencies of ports 0 to 3, calibrated at production, ps (R151). -/
  txLatency : List Int := List.replicate 4 0
  rxLatency : List Int := List.replicate 4 0
  /-- The Subsystem Vendor ID and, above it, the Subsystem ID (R340). -/
  subsystem : Nat := 0
  deriving DecidableEq, Repr

/-- Isolated tiles (R23), one bit each, in the layout of TILE_STATUS (R367). -/
structure Tiles where
  backbone : BitVec 4 := 0
  saffron : BitVec 4 := 0
  mac : BitVec 12 := 0
  carBus : BitVec 24 := 0
  can : BitVec 12 := 0
  check : BitVec 16 := 0
  deriving DecidableEq, Repr

inductive MbState where
  | idle | busy | done | offline
  deriving DecidableEq, Repr

/-- One mailbox (R351), its latched doorbell and its two areas (R348). -/
structure Mailbox where
  state : MbState := .offline
  status : Nat := 0
  tag : Nat := 0
  waiting : Bool := false
  completionEvent : Bool := true
  elapsed : Nat := 0
  opcode : Nat := 0
  length : Nat := 0
  rungAt : Nat := 0
  order : Nat := 0
  /-- The epoch in force when the doorbell was accepted (R96). -/
  epoch : Nat := 0
  lockRaised : Bool := false
  /-- The instants that TIME_NOW returns, captured at the doorbell (R176). -/
  capture : Bytes := []
  /-- The error that the command's read of a queue meets (R325, log 55). -/
  ecc : Option Nat := none
  request : Memory := []
  response : Memory := []
  deriving DecidableEq, Repr

/-- An event record (R364). -/
structure EvRecord where
  seq : Nat
  event : Nat
  argKind : Nat
  arg : Nat
  detail : Nat
  timeValid : Bool
  trainTime : Nat
  localTime : Nat
  deriving DecidableEq, Repr

/-- The MSI capability and command register bits that the rules read (R340, R360, R361). (log 6) -/
structure Msi where
  busMaster : Bool := false
  enable : Bool := false
  intDisable : Bool := false
  vecLog2 : Nat := 0
  mask : BitVec 32 := 0
  pending : BitVec 32 := 0
  cond : BitVec 32 := 0
  sent : List Nat := List.replicate 32 0
  /-- The endpoint's power state, D3hot or D0, and the bases the host gave BAR0 and the BAR of BAR2 and BAR3. -/
  d3hot : Bool := false
  bar0 : Nat := 0
  bar2 : Nat := 0
  deriving DecidableEq, Repr

/-- A command that writes a block to host memory (DIR_COPY, REC_COPY): when the block has been written, where it goes, and the response (R342). (log 4) -/
structure CopyJob where
  op : Nat
  due : Nat
  address : Nat
  data : Bytes
  payload : Bytes
  deriving DecidableEq, Repr

/-- The host interface (chapter of R340 to R370). -/
structure HostIf where
  ifVersion : Nat := 0
  heartbeat : Nat := 0
  nhirq : Bool := false
  evStatus : BitVec 128 := 0
  evEnable : BitVec 128 := 0
  evVector : List Nat := List.replicate 128 0
  msi : Msi := {}
  mailboxes : List Mailbox := List.replicate 8 {}
  nextOrder : Nat := 0
  records : List EvRecord := []
  recordSeq : Nat := 1
  lost : Nat := 0
  /-- Last raise of each rate-limited event, keyed by event and argument. -/
  limits : List ((Nat × Nat) × Nat) := []
  pcieUp : Bool := false
  pcieWidth : Nat := 0
  pcieSpeed : Nat := 0
  spiFrameCount : Nat := 0
  spiPrevError : Bool := false
  spiSeen : Bool := false
  counters : List Nat := List.replicate 8 0
  /-- The copies to host memory under way. -/
  copies : List CopyJob := []
  deriving DecidableEq, Repr

/-- Entries of `HostIf.counters`, in the order of IF_COUNTERS (R367). -/
def cntCommands : Nat := 0
def cntRefused : Nat := 1
def cntProtocol : Nat := 2
def cntAccess : Nat := 3
def cntSpiFrames : Nat := 4
def cntSpiErrors : Nat := 5
def cntMsiSent : Nat := 6
def cntInternal : Nat := 7

end Sys2Proof.Machine
end

