-- ==== Sys2Proof/Machine/BootState.lean ====
section
/-! DEFINITION. State of start-up, reset and the firmware images (R349, R442–R462). -/
namespace Sys2Proof.Machine

/-- BootState of R349, in code order. -/
inductive BootSt where
  | reset | booting | ready | service | halted
  deriving DecidableEq, Repr

/-- A boot journal entry (R448); `steps` holds the state of B01 to B14 in order. -/
structure JournalEntry where
  seq : Nat := 0
  powerCycles : Nat := 0
  operatingTime : Nat := 0
  steps : List Nat := List.replicate 14 0
  resetCause : Nat := 0
  endCause : Nat := 0xFF
  imageSlot : Nat := 0xFF
  outcome : Nat := 0
  startCount : Nat := 0
  bootDuration : Nat := 0
  deriving DecidableEq, Repr

/-- The boot journal in MRAM: its header and its ring of 64 entries, oldest first (R446–R455, R460). -/
structure Journal where
  entries : List JournalEntry := []
  nextSeq : Nat := 1
  preferred : Nat := 0
  /-- TrialSlot; 0xFF when none. -/
  trial : Nat := 0xFF
  trialStarts : Nat := 0
  badA : Bool := false
  badB : Bool := false
  /-- Bit n − 1 for step Bn. -/
  skipMask : BitVec 14 := 0
  failures : List Nat := List.replicate 14 0
  session : Nat := 0
  autoStart : Nat := 1
  serviceNext : Nat := 0
  stopOnFailure : Nat := 0
  /-- Slot whose start set the SkipMask; 0xFF when none (R450). -/
  skipSlot : Nat := 0xFF
  /-- Reverts of a trial that no start has reported (R454, R455). -/
  reverts : Nat := 0
  deriving DecidableEq, Repr

/-- A flash slot of 8 MiB (R452): as it was fitted from outside (Config), or, since FW_BEGIN has erased it, the bytes that differ from the erased
value 0xFF, each held inverted. -/
structure FlashSlot where
  fitted : Bool := true
  inverted : Memory := []
  deriving DecidableEq, Repr

/-- The start-up state of the main die (R349, R442–R462). -/
structure Boot where
  state : BootSt := .reset
  step : Nat := 0
  failedStep : Nat := 0
  imageSlot : Nat := 0
  startCount : Nat := 0
  bootDuration : Nat := 0
  fwMajor : Nat := 0
  fwMinor : Nat := 0
  fwPatch : Nat := 0
  buildStamp : Nat := 0
  security : Nat := 0
  /-- The running start is a start on trial (R455). -/
  onTrial : Bool := false
  startedAt : Nat := 0
  journal : Journal := {}
  slotA : FlashSlot := {}
  slotB : FlashSlot := {}
  /-- FW_BEGIN has erased the slot that is not running: byte ranges written since it (R461). -/
  begun : Option (List (Nat × Nat)) := none
  /-- FW_RESTART with this Mode has been accepted and takes place 1 ms after its response. -/
  restart : Option Nat := none
  /-- The mailbox processor complex is in reset while the main die is not (R444). -/
  down : Bool := false
  /-- ServiceNext was 1 at B03 (R456). -/
  service : Bool := false
  /-- A step of this start was skipped or replaced, and EV120 is due for these (R450, R456). -/
  replaced : List Nat := []
  /-- EV121 with Detail 1 is due. -/
  trialBegan : Bool := false
  /-- B08 has loaded the stored values, so that they are the ones in force. -/
  loaded : Bool := false
  /-- The steps from B07 to B13 whose work has been done since the main die's reset, B08 also where its alternative was taken (R444). -/
  ran : List Nat := []
  /-- B11 was skipped at this start: ports 0 to 11 count as isolated. Held here are the tiles of the backbone and of the MACs isolated on their own account. -/
  held : Option (BitVec 4 × BitVec 12) := none
  deriving DecidableEq, Repr

end Sys2Proof.Machine
end

