-- ==== Sys2Proof/Machine/BridgeState.lean ====
section
/-! DEFINITION. State of the window bridge (R277–R308): windows, the requests on their way, held reads, lines, the export table, the semaphores. -/
namespace Sys2Proof.Machine

/-- A window Wn (R277–R280, R299). -/
structure BrWindow where
  /-- The descriptor in force, layout of R279; all 0 for a window never set. -/
  desc : Bytes := List.replicate 64 0
  isSet : Bool := false
  enabled : Bool := false
  /-- The identity its target resolves to (R305). -/
  target : Option Nat := none
  /-- Hold demoted (R289), prefetch refused (R292). -/
  demoted : Bool := false
  refused : Bool := false
  /-- Faults since the last completed fence, the FaultSeq of the first, and whether a record was lost (R299). -/
  faults : Nat := 0
  firstFault : Nat := 0
  queueLost : Bool := false
  lastFence : Nat := 0
  deriving DecidableEq, Repr

/-- A bridge request of this node that is not settled (R283, R295–R302). -/
structure BrReq where
  tag : Nat
  /-- The Selector of R283. -/
  op : Nat
  far : Nat
  /-- The window, or 0x40 + n for SEMn. -/
  source : Nat
  /-- A field target: its port and MAC address. -/
  field : Option (Nat × Nat) := none
  exportId : Nat := 0
  address : Nat := 0
  /-- Window offset and length of the piece. -/
  offset : Nat := 0
  length : Nat := 0
  data : Bytes := []
  /-- The stream Sequence; none before it is sent. -/
  sequence : Option Nat := none
  sentAt : Nat := 0
  sentTrain : Nat := 0
  /-- Tags that must be settled before it is sent (R300, R302). -/
  waits : List Nat := []
  /-- A line fetch (R291). -/
  isLine : Bool := false
  /-- Sent for a BR_READ (R294). -/
  isAsync : Bool := false
  /-- The read it served has ended without it (R290, R294). -/
  late : Bool := false
  /-- The descriptor of its window when it was made: its data keep that order of bytes (R287). -/
  desc : Bytes := []
  deriving DecidableEq, Repr

/-- A piece of a read: window offset, length, the request it waits for, its data. A piece that waits for no request waits for lines of the identity
that the window's target was when the read was accepted (R305). -/
structure BrPart where
  offset : Nat
  length : Nat
  tag : Option Nat := none
  far : Nat := 0
  data : Option Bytes := none
  deriving DecidableEq, Repr

/-- A held BAR2 read (R290). -/
structure BrHeld where
  hostTag : Nat
  window : Nat
  parts : List BrPart
  deriving DecidableEq, Repr

/-- A held fence read (R299): the 8-byte form or the 4-byte one, and the writes it waits for. -/
structure BrFence where
  hostTag : Nat
  window : Nat
  wide : Bool
  waits : List Nat
  deriving DecidableEq, Repr

/-- A BR_READ under way, its place in Q61 reserved (R294). -/
structure BrAsync where
  window : Nat
  hostTag : Nat
  length : Nat
  parts : List BrPart
  /-- The first failure: a Kind of R298, and FarStatus. -/
  status : Nat := 0
  farStatus : Nat := 0
  deriving DecidableEq, Repr

/-- A non-posted request waiting in the PCIe endpoint (R290). -/
inductive BrWaiting where
  | read (tag offset length : Nat)
  /-- With the writes it covers: those unsettled when it reached the endpoint (R299). -/
  | fence (tag window offset length : Nat) (covers : List Nat)
  | sem (tag n : Nat)
  deriving DecidableEq, Repr

/-- A prefetched line (R291). -/
structure BrLine where
  window : Nat
  index : Nat
  /-- In window order. -/
  data : Bytes
  far : Nat
  exportId : Nat
  address : Nat
  sentAt : Nat
  sentTrain : Nat
  attrKnown : Bool
  /-- The descriptor of its window when it was fetched (R287). -/
  desc : Bytes := []
  read : Bool := false
  deriving DecidableEq, Repr

/-- What a semaphore register holds (R301). -/
inductive SemSt where
  | idle | pending | acquired
  | busy (holder : Nat)
  | failed
  deriving DecidableEq, Repr

/-- A semaphore register SEMn (R301–R303). -/
structure SemReg where
  /-- Its binding: the address descriptor and the home index. -/
  bound : Option (Bytes × Nat) := none
  target : Option Nat := none
  state : SemSt := .idle
  /-- Home identity and index of the attempt or the hold, and the attempt's request tag. -/
  home : Nat := 0
  index : Nat := 0
  tag : Nat := 0
  deriving DecidableEq, Repr

/-- A request as an exporter takes it from a telegram (R283). -/
structure BrMsg where
  op : Nat
  source : Nat
  session : Nat
  sequence : Nat
  tag : Nat
  exportId : Nat
  flags : Nat
  length : Nat
  address : Nat
  status : Nat := 0
  ack : Nat := 0
  /-- The export entry under which the access of the request began (R20). -/
  entry : Option Bytes := none
  data : Bytes := []
  deriving DecidableEq, Repr

/-- One stream at the exporter (R284): requests not yet executed, whether the first one's access is under way, and what WRITE_ACK will cover. -/
structure BrStream where
  source : Nat
  session : Nat
  queue : List BrMsg := []
  active : Bool := false
  unacked : Nat := 0
  last : Option BrMsg := none
  deriving DecidableEq, Repr

/-- The window bridge. -/
structure Bridge where
  running : Bool := false
  /-- BR_STOP waits for the windows to settle. -/
  stopping : Bool := false
  /-- The window that BR_WINDOW_ENABLE with Enable 0 waits for. -/
  disabling : Option Nat := none
  config : Bytes := [0xE8, 0x03, 0, 0, 20, 0, 100, 0, 0xB6, 0x88, 0, 0, 0, 0, 0, 0]
  /-- A configuration written while the bridge was stopped, in force from its next start (R13). -/
  written : Option Bytes := none
  windows : List BrWindow := List.replicate 64 {}
  exports : List Bytes := List.replicate 16 (List.replicate 32 0)
  nextTag : Nat := 0
  requests : List BrReq := []
  held : List BrHeld := []
  fences : List BrFence := []
  /-- Held reads of SEMn: host tag and register. -/
  semReads : List (Nat × Nat) := []
  waiting : List BrWaiting := []
  asyncs : List BrAsync := []
  /-- Oldest filled first, at most 64. -/
  lines : List BrLine := []
  sems : List SemReg := List.replicate 16 {}
  /-- Home semaphores: the holder's identity and Session. -/
  homes : List (Option (Nat × Nat)) := List.replicate 16 none
  streams : List BrStream := []
  /-- The Session of each far identity as last seen. -/
  sessions : List (Nat × Nat) := []
  faultSeq : Nat := 1
  strandedSeq : Nat := 1
  stranded : List Bytes := []
  /-- The last remote interrupt taken: initiator, ExportId, value (R300). -/
  lastIrq : Option (Nat × Nat × Nat) := none
  counters : List Nat := List.replicate 20 0
  deriving DecidableEq, Repr

/-- Entries of `Bridge.counters` (R307). -/
def brBarReads : Nat := 0
def brBarWrites : Nat := 1
def brHits : Nat := 2
def brMisses : Nat := 3
def brLinesDiscarded : Nat := 4
def brStranded : Nat := 5
def brStrandedLost : Nat := 6
def brWriteFaults : Nat := 7
def brReadFaults : Nat := 8
def brFaultsLost : Nat := 9
def brLateReplies : Nat := 10
def brAsyncReads : Nat := 11
def brIrqSent : Nat := 12
def brIrqReceived : Nat := 13
def brInbound : Nat := 14
def brRefused : Nat := 15
def brDisabled : Nat := 16
def brSemAcquired : Nat := 17
def brSemBusy : Nat := 18
def brStray : Nat := 19

end Sys2Proof.Machine
end

