-- ==== Sys2Proof/Machine/EthState.lean ====
section
/-! DEFINITION. State of the Ethernet MACs, the host DMA rings, the memory controller and the event recorder (R309–R338, R423–R440). -/
namespace Sys2Proof.Machine

/-- A vehicle port, 4 to 11 (R313–R319, R337). -/
structure VPort where
  running : Bool := false
  linkUp : Bool := false
  is100 : Bool := false
  preempt : Bool := false
  /-- Preemption verification last succeeded (R316). -/
  verified : Bool := true
  /-- End of the pause in force, and its start (R315). -/
  pausedUntil : Option Nat := none
  pauseSince : Nat := 0
  /-- EV029 has been raised for this pause. -/
  pauseLong : Bool := false
  config : Bytes := [0, 0, 0, 0, 0, 48, 4, 0, 0xF2, 0x05, 0, 0, 0, 0, 0, 0]
  addrs : List Bytes := List.replicate 8 (List.replicate 32 0)
  deriving DecidableEq, Repr

/-- A host DMA ring, Q48 to Q59 (R326–R330). -/
structure Ring where
  isSet : Bool := false
  address : Nat := 0
  count : Nat := 0
  bufSize : Nat := 0
  poll : Nat := 0
  holdoff : Nat := 0
  enabled : Bool := false
  next : Nat := 0
  /-- Owned descriptors read ahead, from `next` on, at most 8. -/
  owned : List Bytes := []
  lastEvent : Option Nat := none
  deriving DecidableEq, Repr

/-- A transmit chain with Timestamp that has been placed (R329, R330): its write-back waits for the transmit capture of its first frame. (log 54) -/
structure TxWait where
  token : Nat
  ring : Nat
  /-- Host addresses: of offset 0x28 of the Last descriptor, and of each Control with its value written back. -/
  last : Nat
  controls : List (Nat × Nat)
  /-- Offsets 0x28 to 0x2F of the Last descriptor. -/
  head : Bytes
  deriving DecidableEq, Repr

/-- The MACs and the rings. (log 1) -/
structure EthState where
  vports : List VPort := List.replicate 8 {}
  /-- MAC counters of ports 0 to 11 in the order of R338. -/
  mac : List (List Nat) := List.replicate 12 (List.replicate 18 0)
  rings : List Ring := List.replicate 12 {}
  waits : List TxWait := []
  nextToken : Nat := 0
  deriving DecidableEq, Repr

/-- Entries of a MAC's counters (R338). -/
def macRxBytes : Nat := 0
def macTxBytes : Nat := 1
def macRxFrames : Nat := 2
def macTxFrames : Nat := 3
def macRxFcs : Nat := 4
def macRxRunts : Nat := 5
def macRxTooLong : Nat := 6
def macRxSymbol : Nat := 7
def macRxOverflow : Nat := 8
def macRxForeign : Nat := 9
def macRxUnmatched : Nat := 10
def macRxPause : Nat := 11
def macTagPresent : Nat := 12
def macTooLongTunnel : Nat := 13
def macTunnelInvalid : Nat := 14
def macEgressFlushed : Nat := 15
def macTxFragments : Nat := 16
def macLinkLosses : Nat := 17

/-- States of the memory controller (R334), in code order. -/
inductive MemSt where
  | absent | stopped | training | running | failed
  deriving DecidableEq, Repr

/-- The external memory (R332–R337). -/
structure MemCtl where
  state : MemSt := .absent
  config : Bytes := [0, 0, 0, 0, 0x60, 0x09, 8, 1, 0, 0, 0, 0, 24, 4, 100, 0]
  /-- The bridge area; what nothing has written reads 0 (log 6). -/
  bridge : Memory := []
  /-- MEM_STOP has marked spill unavailable and waits for the queues to drain. -/
  stopping : Bool := false
  corrected : Nat := 0
  uncorrectable : Nat := 0
  scrubPasses : Nat := 0
  lastUce : Nat := 0
  /-- Instants of the uncorrectable errors of the last 60 s, newest first. -/
  uces : List Nat := []
  /-- Instants and numbers of the correctable errors of the last hour. -/
  ces : List (Nat × Nat) := []
  deriving DecidableEq, Repr

/-- States of the recorder (R433), in code order. -/
inductive RecSt where
  | scanning | running | erasing | failed
  deriving DecidableEq, Repr

/-- The reset severity of an event (R439). -/
def resetSeverity (e : Nat) : Byte :=
  if [100, 103].contains e then 7
  else if [96, 98, 99, 101].contains e then 6
  else if [33, 53, 54, 61, 66, 69, 78, 83, 87, 109, 114, 118].contains e then 5
  else if [10, 16, 19, 25, 28, 35, 50, 51, 52, 68, 72, 82, 86, 88, 94, 116, 124, 125, 126].contains e then 4
  else if [30, 31, 39, 55, 59, 79, 89, 91, 112, 113, 127].contains e then 0xFF else 2

/-- The event recorder, with the times that Clove counts for it (R423–R440). -/
structure Recorder where
  state : RecSt := .scanning
  config : Bytes := [6, 0, 0, 0] ++ (List.range 128).map resetSeverity
  /-- Held slots: index and the 64 bytes of R423. Every other slot is free or retired. -/
  slots : List (Nat × Bytes) := []
  retired : List Nat := []
  /-- Words, as slot and word of 0 to 7, in which an uncorrectable error stands that no read has met yet (R432). -/
  worn : List (Nat × Nat) := []
  nextSeq : Nat := 1
  newestSeq : Nat := 0
  /-- OperatingTime and AwakeTime: ns counted up to a local instant, and that instant (R426). -/
  opBase : Nat := 0
  opMark : Nat := 0
  awakeBase : Nat := 0
  awakeMark : Nat := 0
  /-- The copies in MRAM, in ms. -/
  savedOp : Nat := 0
  savedAwake : Nat := 0
  powerCycles : Nat := 0
  /-- The sleep record to be written at the next start (R425): SleepInstant and FailSafe. -/
  sleepNote : Option (Nat × Bool) := none
  /-- The last write of a slot: the slot, and the local instant at which its last word is written (R431). -/
  writing : Option (Nat × Nat) := none
  /-- The copy of PowerCycles in MRAM. -/
  savedPower : Nat := 0
  counters : List Nat := List.replicate 8 0
  deriving DecidableEq, Repr

/-- Entries of `Recorder.counters` (R440). -/
def recStored : Nat := 0
def recOverwritten : Nat := 1
def recDroppedFull : Nat := 2
def recIntakeDropped : Nat := 3
def recDamaged : Nat := 4
def recRetired : Nat := 5
def recHost : Nat := 6
def recAlerts : Nat := 7

end Sys2Proof.Machine
end

