-- ==== Sys2Proof/Machine/FieldState.lean ====
section
/-! DEFINITION. State of the car bus, the CAN channels and the message router (R178–R276). -/
namespace Sys2Proof.Machine

/-! The car bus. -/

/-- Star states (R207), in code order. -/
inductive CbSt where
  | stopped | listen | free | follow | aligned | conflict
  deriving DecidableEq, Repr

/-- What the star keeps for one slot on one channel (R194, R198, R200). Offsets in ns. -/
structure CbCell where
  result : Nat := 9
  /-- The outcome of the current cycle has been settled. -/
  settled : Bool := false
  offset : Int := 0
  refSum : Int := 0
  refCount : Nat := 0
  beyond : Nat := 0
  within : Nat := 0
  creeping : Bool := false
  deriving DecidableEq, Repr

/-- One branch-channel, ports 12 to 35 (R195, R198, R200, R221). -/
structure CbPort where
  present : Bool := false
  babbling : Bool := false
  /-- Consecutive due own slots without a valid frame. -/
  empties : Nat := 0
  /-- Foreign activity or an early block in the current cycle, and the runs of cycles with and without. -/
  disturbed : Bool := false
  disturbedRun : Nat := 0
  cleanRun : Nat := 0
  /-- The last span in which the star drove the port, local ns (R180, R195). -/
  drivenFrom : Nat := 0
  drivenTo : Nat := 0
  /-- Activities judged at a window close while they still ran (R194): the start, and the instant at which the relay was cut, if it was relayed. -/
  judged : List (Nat × Option Nat) := []
  /-- The start of the last activity counted as foreign, which each further cycle that it lasts does not count again (R195). -/
  stray : Option Nat := none
  counters : List Nat := List.replicate 12 0
  deriving DecidableEq, Repr

/-- Entries of `CbPort.counters` (R221). -/
def cbValid : Nat := 0
def cbNoStart : Nat := 1
def cbEarly : Nat := 2
def cbLateBlocked : Nat := 3
def cbTruncated : Nat := 4
def cbDecode : Nat := 5
def cbCrc : Nat := 6
def cbMismatch : Nat := 7
def cbForeign : Nat := 8
def cbCreep : Nat := 9
def cbUnanswered : Nat := 10
def cbEvents : Nat := 11

/-- A slot's receive double buffer, its front half (R213). -/
structure CbRx where
  slot : Nat
  payload : Bytes := []
  cycle : Nat := 0
  frameStart : Nat := 0
  inTrain : Bool := false
  channel : Nat := 0
  fresh : Bool := true
  differed : Bool := false
  deriving DecidableEq, Repr

/-- A star-owned slot's buffers (R199, R214). -/
structure CbTx where
  slot : Nat
  staging : Bytes
  /-- Publishes since the latch of the last send, newest first, each with its local instant. -/
  pubs : List (Nat × Bytes) := []
  /-- Instant of the publish last sent. -/
  lastSent : Option Nat := none
  /-- What the last copy sent took, so that the other channel's copy of the same cycle carries it too (R202): the CycleCount, the instant, and the payload if one
  was ready. -/
  taken : Option (Nat × Nat × Option Bytes) := none
  deriving DecidableEq, Repr

/-- A grant being answered (R204): branch, channels whose response interval is open, its frame start, and those of the channels on which an activity was
early blocked. -/
structure CbGrant where
  branch : Nat
  channels : List Nat
  start : Nat
  early : List Nat := []
  deriving DecidableEq, Repr

/-- The other star of the vehicle as heard on the cross port (R209, R221). -/
structure OtherStar where
  heard : Bool := false
  missed : Nat := 0
  frameStart : Nat := 0
  cycle : Nat := 0
  scheduleId : Nat := 0
  /-- A beacon with Aligned 1 has been heard, and the cycles since the last one (R209). -/
  aligned : Bool := false
  alignedAge : Nat := 0
  /-- This star is integrated as an end node of the other star's bus (R202, R216). -/
  integrated : Bool := false
  /-- The own slots sent on its bus in its cycle in progress (R202). -/
  sent : List Nat := []
  phase : Option Int := none
  differs : Bool := false
  deriving DecidableEq, Repr

/-- The car-bus star. (log 50) -/
structure CarBus where
  state : CbSt := .stopped
  config : Bytes := [0, 1, 0, 0, 0, 0, 0, 0, 0, 0, 0, 0, 0xF4, 0x01, 0x90, 0x01, 0xC8, 0, 0xC8, 0, 8] ++ List.replicate 11 0
  stage : Memory := []
  image : CycleShadow (Option Bytes) := { cur := none }
  cycleCount : Nat := 0
  /-- Local instant of the current cycle's start. -/
  cycleStart : Nat := 0
  /-- Cycle starts since chip reset: the boundaries of Shadowed (cycle) values. -/
  cycleIndex : Nat := 0
  /-- A beacon has been sent since CB_START. -/
  begun : Bool := false
  /-- The instant of the first beacon (R208): of train time in ALIGNED, else local. -/
  first : Nat := 0
  /-- Train time was lost in ALIGNED, and the star goes on from its own last cycle start until it is in step with its new reference (R211). -/
  coasting : Bool := false
  /-- A pull towards a reference is in progress (R210). -/
  pulling : Bool := false
  /-- Own event frames sent in the event window of this cycle. -/
  eventsSent : Nat := 0
  stopping : Bool := false
  grantPos : Nat := 0
  grant : Option CbGrant := none
  /-- Response intervals that ended without a frame start, their ports still watched (R204): port and frame start of the grant. -/
  unanswered : List (Nat × Nat) := []
  /-- Changes of BranchMute, newest first (R20): local instant, and the mask before. -/
  mutes : List (Nat × Nat) := []
  other : OtherStar := {}
  cells : List ((Nat × Nat) × CbCell) := []
  ports : List CbPort := List.replicate 24 {}
  rx : List CbRx := []
  tx : List CbTx := []
  eventSeq : Nat := 0
  /-- Event sequences taken: source, Seq, cycle of taking, payload (R201, R206). -/
  taken : List (Nat × Nat × Nat × Bytes) := []
  points : List (CycleShadow Bytes) := List.replicate 8 { cur := List.replicate 8 0 }
  hits : BitVec 8 := 0
  counters : List Nat := List.replicate 6 0
  /-- Valid frames of end nodes so far (R414). -/
  nodeFrames : Nat := 0
  deriving DecidableEq, Repr

/-- Entries of `CarBus.counters` (R221). -/
def starBeacons : Nat := 0
def starRealigns : Nat := 1
def starNotReady : Nat := 2
def starMismatches : Nat := 3
def starDropped : Nat := 4
def starGrants : Nat := 5

/-! CAN. -/

/-- Channel states (R227), in code order. -/
inductive CanSt where
  | stopped | integrating | errorActive | errorPassive | busOff | recovering | ignoring
  deriving DecidableEq, Repr

/-- A CAN frame. -/
structure CanFrame where
  ident : Nat := 0
  ext : Bool := false
  fd : Bool := false
  brs : Bool := false
  esi : Bool := false
  remote : Bool := false
  dlc : Nat := 0
  data : Bytes := []
  deriving DecidableEq, Repr

/-- A message buffer (R231–R234, R246). -/
structure CanBuf where
  config : Bytes := List.replicate 16 0
  front : Option (CanFrame × Nat × Bool) := none
  fresh : Bool := false
  overwritten : Bool := false
  staging : Bytes := List.replicate 64 0
  /-- Publishes, newest first, each with its local instant; older ones than the latch can take are dropped. -/
  pubs : List (Nat × Bytes) := []
  /-- Instant of the publish last sent in a cell. -/
  lastSent : Option Nat := none
  pending : Bool := false
  /-- Published again since the transmission in progress began. -/
  again : Bool := false
  clashRun : Nat := 0
  suspended : Bool := false
  /-- Start of frame of the last frame taken, local (R240). -/
  tookAt : Option Nat := none
  deriving DecidableEq, Repr

/-- A transmission in progress (R236, R238): its buffer, or none for the FIFO head; whether it is an exclusive cell's; the frame. -/
structure CanTx where
  buffer : Option Nat
  cell : Bool
  frame : CanFrame
  deriving DecidableEq, Repr

/-- One CAN FD channel (R223–R252). -/
structure CanChan where
  state : CanSt := .stopped
  tec : Nat := 0
  rxErrs : Nat := 0
  stoppedBusOff : Bool := false
  warning : Bool := false
  alone : Bool := false
  tdcMeasured : Bool := false
  tdcValue : Nat := 0
  fifoSuspended : Bool := false
  fifoClash : Nat := 0
  config : Bytes := [0, 1, 1, 0, 1, 0, 63, 0, 16, 16, 1, 15, 4, 4, 16, 0, 32, 3, 10, 0, 0xE8, 0x03, 1] ++ List.replicate 9 0
  bufs : List CanBuf := List.replicate 64 {}
  ackRun : Nat := 0
  sending : Option CanTx := none
  /-- CAN_STOP, or PWR_PN_MODE with Mode 1, waits for the frame in progress. -/
  stopping : Bool := false
  ignoring : Bool := false
  /-- The exclusive cell's frame that waits for the bus: its buffer and the instant of its publish, and the payload latched (R238). -/
  cellWait : Option (Nat × Nat) := none
  cellPay : Bytes := []
  /-- An error frame is in progress (R228): whether the error ended an attempt of this channel. -/
  errFrame : Option Bool := none
  /-- The FIFO head has been attempted (R235). -/
  fifoTried : Bool := false
  /-- A receive-check cell has ended while a frame begun in it still ran (R240): its buffer, the column's start and end, local. -/
  checkWait : Option (Nat × Nat × Nat) := none
  /-- Matrix cycle boundaries since chip reset. -/
  cycleIndex : Nat := 0
  /-- End of the previous attempt (R245), local. -/
  lastEnd : Nat := 0
  stage : Memory := []
  image : CycleShadow (Option Bytes) := { cur := none }
  /-- Code of R241. -/
  matrix : Nat := 0
  basicIndex : Nat := 0
  matrixCycle : Nat := 0
  /-- Local instant of the last basic-cycle start, and of the current column, with its number. -/
  basicStart : Nat := 0
  columnStart : Nat := 0
  column : Nat := 0
  resuming : Bool := false
  checkMask : BitVec 64 := 0
  counters : List Nat := List.replicate 22 0
  deriving DecidableEq, Repr

/-- Entries of `CanChan.counters` (R252). -/
def canReceived : Nat := 0
def canSent : Nat := 1
def canAckErrors : Nat := 2
def canBitErrors : Nat := 3
def canStuffErrors : Nat := 4
def canFormErrors : Nat := 5
def canCrcErrors : Nat := 6
def canArbLost : Nat := 7
def canBusOffs : Nat := 8
def canExceptions : Nat := 9
def canTdcFailures : Nat := 10
def canOverwritten : Nat := 11
def canReplaced : Nat := 12
def canResidence : Nat := 13
def canCellLate : Nat := 14
def canCellFailed : Nat := 15
def canCellNotReady : Nat := 16
def canCheckMissed : Nat := 17
def canAlone : Nat := 18
def canClash : Nat := 19
def canOwnId : Nat := 20
def canIgnored : Nat := 21

/-! The router. -/

/-- A field frame taken and waiting for lookup (R254, R255, R257). -/
structure FieldFrame where
  kind : Nat
  port : Nat
  key : Nat
  payload : Bytes
  trainTime : Nat
  timeValid : Bool
  source : Nat := 0
  /-- PDATA: the header fields that a receive descriptor carries (R111), and the arrival port. -/
  header : Bytes := List.replicate 20 0
  arrival : Nat := 0
  /-- The core cycle in which it was taken (R257). -/
  taken : Nat := 0
  deriving DecidableEq, Repr

inductive GuardSt where
  | initial | ok | failed
  deriving DecidableEq, Repr

/-- A guard state (R271–R275): of an entry's check (which 0) or of a destination's writer (which 1 to 4). -/
structure Guard where
  state : GuardSt := .initial
  lastError : Nat := 0
  alive : Nat := 0
  errorRun : Nat := 0
  validRun : Nat := 0
  repeats : Nat := 0
  errors : Nat := 0
  skipped : Nat := 0
  lastValid : Nat := 0
  deriving DecidableEq, Repr

/-- The message router (R254–R276). -/
structure Router where
  running : Bool := false
  stage : Memory := []
  image : EpochShadow (Option Bytes) := { cur := none }
  /-- Entries whose Enabled value in force differs from their EntryFlags (R275). -/
  toggled : List Nat := []
  waiting : List FieldFrame := []
  /-- Guard states that differ from a fresh one, by entry and which. -/
  guards : List ((Nat × Nat) × Guard) := []
  counters : List Nat := List.replicate 15 0
  deriving DecidableEq, Repr

/-- Entries of `Router.counters` (R275). -/
def rtLookups : Nat := 0
def rtExact : Nat := 1
def rtMasked : Nat := 2
def rtNoRoute : Nat := 3
def rtOverrun : Nat := 4
def rtWritten : Nat := 5
def rtShort : Nat := 6
def rtOversize : Nat := 7
def rtInvalid : Nat := 8
def rtFull : Nat := 9
def rtUnresolvable : Nat := 10
def rtPassed : Nat := 11
def rtErrors : Nat := 12
def rtGuards : Nat := 13
def rtUnitDown : Nat := 14

end Sys2Proof.Machine
end

