-- ==== Sys2Proof/Machine/TimeState.lean ====
section
/-! DEFINITION. State of Saffron, the train time unit (R148–R177). -/
namespace Sys2Proof.Machine

/-- Saffron's states (R150), in code order. -/
inductive TmState where
  | free | acquiring | locked | grandmaster | holdover
  deriving DecidableEq, Repr

/-- One hop tile: the link delay measurement of a backbone port (R151, R152). Samples and delays in ps. -/
structure HopTile where
  /-- Accepted samples, newest first, at most 8. -/
  samples : List Nat := []
  valid : Bool := false
  outliers : Nat := 0
  inBurst : Bool := false
  burstCount : Nat := 0
  burstAccepted : Nat := 0
  nextReq : Nat := 0
  /-- The TDREQ awaiting its TDRESP: ReqId and departure timing point in ps. -/
  outstanding : Option (Nat × Int) := none
  reported : Option Nat := none
  /-- Local instant at which the last burst began. -/
  burstAt : Nat := 0
  /-- What the temperature of the tile adds to the fused transmit and receive latencies, ps (R151). -/
  txCorrection : Int := 0
  rxCorrection : Int := 0
  /-- θ of the last accepted TSYNC of this port, ps (TIME_PORT). -/
  lastOffset : Int := 0
  lastAccept : Option Nat := none
  deriving DecidableEq, Repr

/-- A cycle event point (R171–R173): its 16-byte configuration and the last train time at which it fired. -/
structure Cep where
  config : CycleShadow Bytes := { cur := List.replicate 16 0 }
  lastFired : Option Nat := none
  deriving DecidableEq, Repr

/-- The reckoning of train time over a span that has passed: its anchor pair, its rates, and whether train time was valid (R148, R150). -/
structure TimeMark where
  local_ : Nat
  frac : Nat
  rate : Int
  slewAdd : Int
  slewUntil : Nat
  valid : Bool
  deriving DecidableEq, Repr

/-- Saffron. Train time is kept as an anchor pair and a rate, in units of 2^-32 ns and 10^-12 (R148). -/
structure Saffron where
  state : TmState := .free
  anchorLocal : Nat := 0
  anchorFrac : Nat := 0
  rate : Int := 0
  slewAdd : Int := 0
  slewUntil : Nat := 0
  domain : Nat := 0
  stepsRemoved : Nat := 0xFFFF
  hops : Nat := 0
  errorBase : Nat := 0
  lastOffset : Int := 0
  lastStep : Int := 0
  goodRun : Nat := 0
  /-- The last 16 accepted TSYNCs, newest first: OriginTime and arrival LocalTime, ps (R157). -/
  history : List (Nat × Nat) := []
  lastAccept : Nat := 0
  parentLine : Nat := 0
  /-- The difference between the two lines is being slewed away after a change of line (R156). -/
  lineSlew : Bool := false
  gmOscillator : Nat := 0
  holdE0 : Nat := 0
  holdSince : Nat := 0
  taiOffset : Int := 0
  utcOffset : Nat := 0
  taiValid : Bool := false
  gmRefLocked : Bool := false
  refLocked : Bool := false
  refGood : Nat := 0
  refBad : Nat := 0
  /-- Local instant of the last accepted TREF_IN pulse. -/
  refLast : Option Nat := none
  /-- TIME_REF_TOD waiting: TaiSeconds, UtcOffset and the local instant of its success response. -/
  todWaiting : Option (Nat × Nat × Nat) := none
  /-- TaiSeconds of the last accepted pulse since a TIME_REF_TOD took effect. -/
  taiSeconds : Option Nat := none
  config : Bytes := [0, 0, 0, 0, 0xE8, 0x03, 0, 0, 0x50, 0xC3, 0, 0, 0xE8, 0x03, 0, 0, 0, 0, 0, 0, 0xE8, 0x03, 0, 0] ++ List.replicate 24 0
  tiles : List HopTile := List.replicate 4 {}
  ceps : List Cep := List.replicate 16 {}
  hitMask : BitVec 16 := 0
  skipped : Nat := 0
  counters : List Nat := List.replicate 11 0
  /-- The reckonings before the present one, newest first, for stamps whose capture lies before it (R170). -/
  past : List TimeMark := []
  /-- Local instant of the last accepted TSYNC on either line (R176). -/
  heard : Nat := 0
  /-- The configuration written while Saffron is stopped; its Static fields are in force from the next start (R13). -/
  written : Option Bytes := none
  deriving DecidableEq, Repr

/-- Entries of `Saffron.counters`, in the order of TIME_COUNTERS (R176). -/
def tmSyncAccepted : Nat := 0
def tmSyncDiscarded : Nat := 1
def tmSyncMissing : Nat := 2
def tmDelaySamples : Nat := 3
def tmDelayOutliers : Nat := 4
def tmDelayMissing : Nat := 5
def tmSteps : Nat := 6
def tmHoldoverEntries : Nat := 7
def tmTimeLosses : Nat := 8
def tmPpsAccepted : Nat := 9
def tmPpsRejected : Nat := 10

end Sys2Proof.Machine
end

