-- ==== Sys2Proof/Machine/TrainState.lean ====
section
/-! DEFINITION. State of the directory, the roll-call engine, the backbone and the queues (R41–R147, R321). -/
namespace Sys2Proof.Machine

/-- Node entry of a snapshot (R56). -/
structure NodeEntry where
  identity : Nat := 0
  number : Nat := 0
  position : Nat := 0
  segment : Nat := 0
  nodeIndex : Nat := 0
  timeValid : Bool := false
  orientConflict : Bool := false
  identConflict : Bool := false
  unconfigured : Bool := false
  gateway : Bool := false
  leader : Bool := false
  unreachable : Bool := false
  dark : Bool := false
  orientation : Nat := 0
  frontLinks : Nat := 0
  rearLinks : Nat := 0
  functionCode : Nat := 0
  delayHigher : Nat := 0
  darkSince : Nat := 0
  deriving DecidableEq, Repr

/-- Vehicle entry (R56). -/
structure VehicleEntry where
  identity : Nat := 0
  position : Nat := 0
  consist : Nat := 0
  index : Nat := 0
  orientation : Nat := 0
  twoNodes : Bool := false
  allDark : Bool := false
  unreachable : Bool := false
  firstNode : Nat := 0
  nodes : Nat := 0
  gateway : Nat := 0
  vclass : Nat := 0
  deriving DecidableEq, Repr

/-- Consist entry (R56). -/
structure ConsistEntry where
  identity : Nat := 0
  number : Nat := 0
  firstPosition : Nat := 0
  vehicles : Nat := 0
  orientation : Nat := 0
  notContiguous : Bool := false
  indexConflict : Bool := false
  deriving DecidableEq, Repr

/-- Segment entry (R56). -/
structure SegmentEntry where
  number : Nat := 0
  first : Nat := 0
  last : Nat := 0
  line : Nat := 0
  holdsLeader : Bool := false
  unreachable : Bool := false
  deriving DecidableEq, Repr

/-- A directory snapshot (R56). -/
structure Snapshot where
  epoch : Nat := 0
  generation : Nat := 0
  leaderNode : Nat := 0
  timeValid : Bool := false
  cabSet : Bool := false
  leaderIdentity : Nat := 0
  effective : Nat := 0
  nodes : List NodeEntry := []
  vehicles : List VehicleEntry := []
  consists : List ConsistEntry := []
  segments : List SegmentEntry := []
  deriving DecidableEq, Repr

/-- A pin on a snapshot (R58). -/
structure Pin where
  handle : Nat
  snap : Snapshot
  lastUse : Nat
  deriving DecidableEq, Repr

/-- The directory (R41–R65). -/
structure Directory where
  inForce : Option Snapshot := none
  /-- Snapshots held before their effective instant (R54), in order of receipt. -/
  coming : List Snapshot := []
  pins : List Pin := []
  nextHandle : Nat := 0
  /-- Vehicle configuration, the 32 bytes of R64; none until the first is in force (R63). -/
  vehicle : EpochShadow (Option Bytes) := { cur := none }
  /-- Segments of a generation issued outside a run, collected by DIRSEG (R75): generation, index, count, data. -/
  collecting : List (Nat × Nat × Nat × Bytes) := []
  /-- Ends whose neighbour has gone dark, waiting for the bridged link (R48): node number, end, instant of the report. -/
  bridging : List (Nat × Nat × Nat) := []
  /-- The newest generation that this node has issued as leader (R53); 0 before the first. -/
  issued : Nat := 0
  deriving DecidableEq, Repr

/-- Node states of the roll-call engine (R71), in code order. -/
inductive RcState where
  | stopped | uninaugurated | settled | held | holdoff | wave | reported | composing | armed
  deriving DecidableEq, Repr

/-- The wave a node has joined (R73, R77, R92); `est` is its start on the own local clock. -/
structure Wave where
  origin : Nat := 0
  nonce : Nat := 0
  startValid : Bool := false
  start : Nat := 0
  domain : Nat := 0
  est : Int := 0
  deriving DecidableEq, Repr

/-- A cab claim as COUNT carries it (R75, R81); `placed` is its instant on the own local clock where it could be placed. -/
structure CabClaim where
  node : Nat := 0
  toRear : Nat := 0
  kind : Nat := 0
  time : Nat := 0
  domain : Nat := 0
  placed : Option Int := none
  deriving DecidableEq, Repr

/-- A COUNT received from one side (R78). -/
structure CountRec where
  count : Nat := 0
  priority : Nat := 0
  incumbent : Bool := false
  identity : Nat := 0
  endIdentity : Nat := 0
  cab : Option CabClaim := none
  deriving DecidableEq, Repr

/-- One end of the node during a run (R77, R78, R93). -/
structure RunEnd where
  startSeen : Bool := false
  outer : Bool := false
  count : Option CountRec := none
  supersedes : Option (Nat × Nat) := none
  deriving DecidableEq, Repr

/-- A REPORT as the leader records it (R75, R83). -/
structure Report where
  identity : Nat := 0
  senderEpoch : Nat := 0
  config : Bytes := []
  index : Nat := 0
  towardsE1 : Nat := 0
  flags : Nat := 0
  frontLinks : Nat := 0
  rearLinks : Nat := 0
  priority : Nat := 0
  cab : Nat := 0
  generation : Nat := 0
  delayE2 : Nat := 0
  prevNode : Nat := 0
  prevOrientation : Nat := 0
  deriving DecidableEq, Repr

/-- An ANNOUNCE, with the switch instant on the own local clock (R75, R87). -/
structure Announce where
  newEpoch : Nat := 0
  newGeneration : Nat := 0
  switchInstant : Nat := 0
  instantValid : Bool := false
  domain : Nat := 0
  lead : Nat := 0
  nodeCount : Nat := 0
  leadingEnd : Nat := 1
  noSwitch : Bool := false
  quarantine : Bool := false
  size : Nat := 0
  check : Nat := 0
  deputies : List Nat := []
  leader : Nat := 0
  localInstant : Nat := 0
  deriving DecidableEq, Repr

/-- The facts of R79. -/
structure RunFacts where
  n : Nat := 0
  leader : Nat := 0
  leaderPriority : Nat := 0
  /-- End from which the leader's key came: 0 front, 1 rear; none on the leader. -/
  towards : Option Nat := none
  e1 : Nat := 0
  endTowardsE1 : Nat := 0
  index : Nat := 0
  cab : Option CabClaim := none
  deriving DecidableEq, Repr

/-- The node's own standing cab claim (R66, R81). -/
structure OwnCab where
  toRear : Nat := 0
  localTime : Nat := 0
  trainTime : Nat := 0
  domain : Nat := 0
  deriving DecidableEq, Repr

/-- A NOTICE as the leader takes it (R75): the reporter's identity, kind, end, lines, peer and delay. -/
structure NoticeRec where
  reporter : Nat
  kind : Nat
  e : Nat
  lines : Nat
  peer : Nat
  delay : Nat
  deriving DecidableEq, Repr

/-- The roll-call engine (R66–R102). -/
structure RollCall where
  state : RcState := .stopped
  config : Bytes := [8, 1, 0, 0, 0, 0, 0, 0]
  counters : List Nat := List.replicate 6 0
  cab : Option OwnCab := none
  claimLost : Bool := false
  nonce : Nat := 0
  wave : Wave := {}
  ends : List RunEnd := [{}, {}]
  incumbent : Bool := false
  /-- LeaderPriority of the run, as configured when the node joined it (R101). -/
  priority : Nat := 8
  facts : Option RunFacts := none
  reports : List Report := []
  announce : Option Announce := none
  /-- The composed or collected snapshot of the run. -/
  composed : Option Snapshot := none
  segments : List (Nat × Bytes) := []
  segmentCount : Nat := 0
  /-- The node lacked the snapshot 0.5 ms before the switch (R88). -/
  incomplete : Bool := false
  /-- Copies already taken: end, telegram less what differs between copies, instant (R72). -/
  seen : List (Nat × Bytes × Nat) := []
  heldTrigger : Bool := false
  /-- Triggers of R66 so far (the model's own count, by which the sleep agreement sees them). -/
  triggers : Nat := 0
  /-- No run before this local instant unless a host asks (R79). -/
  barredUntil : Nat := 0
  deputies : List Nat := []
  lastBeacon : Nat := 0
  triggerAt : Nat := 0
  lastRunUs : Nat := 0
  /-- Coupler sense after debouncing: front, rear; true is a high level (R69). -/
  couplers : List Bool := [false, false]
  /-- Ends with a PROBE outstanding (R67). -/
  probing : List Bool := [false, false]
  quarantineUntil : Nat := 0
  startedAt : Nat := 0
  /-- BYPF and BYPR hold the relays open (R38, R99). -/
  relaysOpen : Bool := false
  /-- NOTICEs that reached the leader while it may not act yet (R134), oldest first. -/
  notices : List NoticeRec := []
  /-- The configuration written while the engine is stopped; its Static fields are in force from the next start (R13). -/
  written : Option Bytes := none
  deriving DecidableEq, Repr

/-- Entries of `RollCall.counters`, in the order of ROLLCALL_COUNTERS (R101). -/
def rcJoined : Nat := 0
def rcCompleted : Nat := 1
def rcBeaten : Nat := 2
def rcAbandoned : Nat := 3
def rcDiscarded : Nat := 4
def rcBeaconLosses : Nat := 5

inductive LinkState where
  | down | provisional | up
  deriving DecidableEq, Repr

/-- One backbone port (R112, R122). -/
structure BbPort where
  link : LinkState := .down
  phyUp : Bool := false
  bridged : Bool := false
  /-- Local instants of the valid frames counted towards the provisional stage. -/
  recent : List Nat := []
  lastRx : Nat := 0
  lastTx : Nat := 0
  upSince : Nat := 0
  preempt : Bool := false
  verified : Bool := true
  /-- Local instant at which the preemptable frame in transmission ends (R122). -/
  lowUntil : Nat := 0
  counters : List Nat := List.replicate 19 0
  deriving DecidableEq, Repr

/-- One end of the backbone (R114). -/
structure BbEnd where
  egress : Nat := 0
  fallback : Bool := false
  /-- Local instant at which both lines were last lost (R66). -/
  lostAt : Option Nat := none
  deriving DecidableEq, Repr

/-- An entry of the stream table (R117); the StreamId is its index. -/
structure Stream where
  dstKind : Nat
  dstIndex : Nat
  dstValue : Nat
  tc : Nat
  sequence : Nat
  lastUse : Nat
  /-- A router image let it go (R263): the next telegram to its destination takes an entry afresh. -/
  retired : Bool := false
  deriving DecidableEq, Repr

/-- An entry of the duplicate-discard table (R118). -/
structure DupEntry where
  source : Nat
  session : Nat
  stream : Nat
  tc : Nat
  highest : Nat
  map : BitVec 64
  lastUse : Nat
  deriving DecidableEq, Repr

/-- A lease as a node records it (R132–R134). -/
structure Lease where
  holder : Nat := 0
  start : Nat := 0
  expiry : Nat := 0
  epoch : Nat := 0
  timed : Bool := true
  grantor : Nat := 0
  grantorPriority : Nat := 0
  generation : Nat := 0
  deriving DecidableEq, Repr

/-- A gateway request as the leader records it (R138). -/
structure GatewayRequest where
  vehicle : Nat
  identity : Nat
  priority : Nat
  receivedAt : Nat
  deriving DecidableEq, Repr

/-- The buffers of an own slot (R131). -/
structure PubSlot where
  dataId : Nat
  staging : Bytes
  publish : Option Bytes
  sequence : Nat
  deriving DecidableEq, Repr

/-- A process-data receive buffer (R131). -/
structure RecvSlot where
  dataId : Nat
  payload : Bytes
  sequence : Nat
  source : Nat
  cycle : Nat
  deriving DecidableEq, Repr

/-- Schedule states (R129), in code order. -/
inductive SchedState where
  | none | aligned | holdover | unaligned
  deriving DecidableEq, Repr

/-- The backbone (R103–R147). -/
structure Backbone where
  ports : List BbPort := List.replicate 4 {}
  ends : List BbEnd := [{}, {}]
  config : Bytes := [0xB5, 0x88, 1, 0, 8, 0, 10, 0, 0xF4, 0x01, 0, 0, 0, 0, 0, 0]
  streams : List Stream := []
  dups : List DupEntry := []
  stage : Memory := []
  image : EpochShadow (Option Bytes) := { cur := none }
  schedState : SchedState := .none
  /-- The leader's ScheduleId from the last LEASE (R125, R144). -/
  leaderScheduleId : Option Nat := none
  differs : Bool := false
  pubs : List PubSlot := []
  recvs : List RecvSlot := []
  leaderLease : Option Lease := none
  gateways : List (Nat × Lease) := []
  requests : List GatewayRequest := []
  /-- Evidence that the leader is gone (R136), received in the current epoch. -/
  evidence : Bool := false
  /-- Losses reported by NOTICE and not yet recorded in a generation (R137): end, peer identity. -/
  unrecorded : List (Nat × Nat) := []
  /-- Frames that wait for a protect window to close, with their ports (R127). -/
  held : List (Nat × Bytes) := []
  /-- The first gateway grants of the epoch are due as soon as the leader may act (R134, R138). -/
  firstDue : Bool := false
  deriving DecidableEq, Repr

/-- Entries of `BbPort.counters`, in the order of R146. -/
def bbReceived : Nat := 0
def bbSent : Nat := 1
def bbCutThrough : Nat := 2
def bbStoreForward : Nat := 3
def bbHeaderInvalid : Nat := 4
def bbFcsFailed : Nat := 5
def bbStale : Nat := 6
def bbUnresolvable : Nat := 7
def bbDuplicates : Nat := 8
def bbLate : Nat := 9
def bbGapSum : Nat := 10
def bbHopLimit : Nat := 11
def bbNoEgress : Nat := 12
def bbResidence : Nat := 13
def bbPreempted : Nat := 14
def bbSlotsMissed : Nat := 15
def bbWindowOverruns : Nat := 16
def bbLinkLosses : Nat := 17
def bbFallbacks : Nat := 18

/-- A frame held in a queue (R321, R31): the frame, the receive fields that go with it, the instant of its admission,
and whether it lies in DDR4. -/
structure QEntry where
  data : Bytes
  info : Bytes := []
  since : Nat := 0
  inDdr : Bool := false
  /-- The transmit chain whose write-back takes the capture of this frame (R329). -/
  stamp : Option Nat := none
  deriving DecidableEq, Repr

/-- A queue with its Live limits (R321, R324), sizes in KiB. -/
structure Queue where
  entries : List QEntry := []
  reserve : Nat
  spill : Nat
  limit : Nat
  maxEntries : Nat
  dropped : Nat := 0
  eccDropped : Nat := 0
  /-- A frame was dropped since the last delivery (R328). -/
  droppedSince : Bool := false
  deriving DecidableEq, Repr

/-- The reset values of R321. -/
def resetQueue (q : Nat) : Queue :=
  if q < 16 then
    match q % 4 with
    | 3 => { reserve := 32, spill := 64, limit := 64, maxEntries := 65535 }
    | 2 => { reserve := 32, spill := 256, limit := 256, maxEntries := 65535 }
    | 1 => { reserve := 32, spill := 256, limit := 65536, maxEntries := 65535 }
    | _ => { reserve := 32, spill := 512, limit := 262144, maxEntries := 65535 }
  else if q < 32 then { reserve := 16, spill := 256, limit := 65536, maxEntries := 65535 }
  else if q < 48 then { reserve := 8, spill := 8, limit := 8, maxEntries := 64 }
  else if q < 56 then { reserve := 32, spill := 512, limit := 65536, maxEntries := 65535 }
  else if q < 60 then { reserve := 64, spill := 64, limit := 64, maxEntries := 256 }
  else if q = 60 then { reserve := 64, spill := 64, limit := 64, maxEntries := 1024 }
  else if q = 61 then { reserve := 32, spill := 32, limit := 32, maxEntries := 64 }
  else if q = 62 then { reserve := 16, spill := 16, limit := 16, maxEntries := 256 }
  else { reserve := 128, spill := 128, limit := 128, maxEntries := 65535 }

/-- The queue manager (R31, R321–R325). -/
structure QueueMgr where
  queues : List Queue := (List.range 64).map resetQueue
  retiredCells : Nat := 0
  /-- Errors corrected in the burst buffer, and the instants of those of the last hour (R325). -/
  corrected : Nat := 0
  ces : List (Nat × Nat) := []
  deriving DecidableEq, Repr

end Sys2Proof.Machine
end

