-- ==== Sys2Proof/Machine/PowerState.lean ====
section
/-! DEFINITION. State of the always-on domain (Clove), of the sleep agreement, and of the configurations that MRAM keeps over a reset of the main die
(R18, R35, R405–R422, R442–R451). -/
namespace Sys2Proof.Machine

/-- Clove's states (R405), in code order. -/
inductive ClSt where
  | awake | armed | prepare | sleep | waking
  deriving DecidableEq, Repr

/-- Clove and the always-on registers (R35, R405–R412, R442, R443, R445, R451, R467). (log 35) -/
structure Clove where
  /-- The always-on supplies are in range and Clove has started. -/
  powered : Bool := true
  state : ClSt := .awake
  wakeCause : Nat := 0
  wakePort : Nat := 0xFF
  /-- When the wake was recorded: two events within one 32.768 kHz period record the lower cause (R409). -/
  wokenAt : Option Nat := none
  /-- The last sleep entry took the fail-safe path; the next start has still to report it. -/
  failSafe : Bool := false
  failSafeDue : Bool := false
  resetCause : Nat := 0
  /-- The cause of R35 has been recorded since the always-on supply was applied. -/
  refLost : Bool := false
  refRunning : Bool := true
  nrstHigh : Bool := true
  /-- Runs on the crystal; the loss of the crystal noted for the next start (R28). -/
  crystal : Bool := false
  crystalNote : Bool := false
  /-- The last start reported the loss of the crystal (R28). (log 71) -/
  crystalReported : Bool := false
  /-- Local instant at which the countdown of R416 expires. -/
  countdown : Option Nat := none
  /-- A wake latched (R417). -/
  latched : Bool := false
  /-- A wake pulse is being driven; nothing is detected before `refractory` (R410). -/
  driving : Bool := false
  refractory : Nat := 0
  prepareAt : Nat := 0
  /-- The companion die's power-down input is asserted (R408). -/
  companionOff : Bool := false
  /-- Sleep-ready has been reported, or the fail-safe path taken: the domains are being switched off. -/
  switching : Bool := false
  sleptAt : Nat := 0
  /-- Failure counts of B01, B02, B03 and B14 (R451), the 10 s wait, and the steps waited for that no start has reported. -/
  retries : List Nat := [0, 0, 0, 0]
  /-- The start that the journal's last entry holds has been judged for them. -/
  counted : Bool := false
  waiting : Bool := false
  waited : List Nat := []
  /-- The health register and the answer register (R445); no challenge has been written since the start. -/
  challenge : Nat := 0
  answer : Nat := 0
  challenged : Bool := false
  deriving DecidableEq, Repr

/-- A sleep grant (R415, R416); `asked`: this node has sent an abort request for it and stays awake. -/
structure SleepGrant where
  commit : Nat
  sleep : Nat
  epoch : Nat
  asked : Bool := false
  deriving DecidableEq, Repr

/-- A vote as the leader holds it (R416): held without interruption since, received last. -/
structure SleepVote where
  node : Nat
  since : Nat
  last : Nat
  deriving DecidableEq, Repr

/-- The power configuration's reset values (R420). -/
def pwrReset : Bytes := [3, 0, 0, 0, 0, 0, 0, 0, 0xFF, 0x0F, 0xD0, 0x07, 0xE8, 0x03] ++ List.replicate 18 0

/-- Power: the agreement, the false-wake check, the wake filters, the counters (R413–R421). -/
structure Power where
  config : Bytes := pwrReset
  /-- The last PWR_VOTE since the start. -/
  hostVote : Option Bool := none
  /-- The node votes since. -/
  votes : Option Nat := none
  grant : Option SleepGrant := none
  /-- The commit instant of the last grant that was cancelled here. -/
  cancelled : Nat := 0
  held : List SleepVote := []
  lastAbort : Option Nat := none
  /-- A false-wake check is running. -/
  checking : Bool := false
  lastPrepare : Nat := 0
  sleepCount : Nat := 0
  /-- Four wake filter entries for each channel, channel by channel (R413). -/
  filters : List Bytes := List.replicate 48 (List.replicate 16 0)
  /-- Channels stored in PREPARE (R412): their number and message buffers. -/
  savedCan : List (Nat × List CanBuf) := []
  counters : List Nat := List.replicate 9 0
  deriving DecidableEq, Repr

/-- Entries of `Power.counters` (R421). -/
def pwSleeps : Nat := 0
def pwFailSafe : Nat := 1
def pwWakes : Nat := 2
def pwFalseWakes : Nat := 3
def pwAborts : Nat := 4
def pwLatched : Nat := 5
def pwPulsesSent : Nat := 6
def pwPulsesDetected : Nat := 7
def pwGrants : Nat := 8

/-- A CAN channel as MRAM keeps it. -/
structure StoredCan where
  config : Bytes := ({} : CanChan).config
  bufs : List Bytes := List.replicate 64 (List.replicate 16 0)
  image : Option Bytes := none
  deriving DecidableEq, Repr

/-- The configurations and images that firmware keeps in MRAM and that B08 loads (R18, R446). -/
structure Stored where
  vehicle : Option Bytes := none
  rollcall : Bytes := ({} : RollCall).config
  backbone : Bytes := ({} : Backbone).config
  schedule : Option Bytes := none
  time : Bytes := ({} : Saffron).config
  ceps : List Bytes := List.replicate 16 (List.replicate 16 0)
  carBus : Bytes := ({} : CarBus).config
  cbImage : Option Bytes := none
  cbPoints : List Bytes := List.replicate 8 (List.replicate 8 0)
  can : List StoredCan := List.replicate 12 {}
  router : Option Bytes := none
  bridge : Bytes := ({} : Bridge).config
  vports : List (Bytes × List Bytes) := List.replicate 8 (({} : VPort).config, ({} : VPort).addrs)
  queues : List (Nat × Nat × Nat × Nat) := (List.range 64).map fun q => let x := resetQueue q; (x.reserve, x.spill, x.limit, x.maxEntries)
  memory : Bytes := ({} : MemCtl).config
  recorder : Bytes := ({} : Recorder).config
  power : Bytes := pwrReset
  filters : List Bytes := ({} : Power).filters
  deriving DecidableEq, Repr

end Sys2Proof.Machine
end

