-- ==== Sys2Proof/Machine/SafeState.lean ====
section
/-! DEFINITION. State of the safety island: its two channels, the cross-channel link, the parameter sets, the password and the change log (R371–R404). -/
namespace Sys2Proof.Machine

/-- Island states (R376), in code order. -/
inductive IslSt where
  | unconfigured | configuration | starting | running | hold | safeStop
  deriving DecidableEq, Repr

/-- One wire as a channel filters it (R382). Times are of the channel's own clock, in µs. -/
structure SafeWire where
  /-- The level being timed, and since when. -/
  level : Bool := false
  since : Nat := 0
  /-- Start of a low of a kind 3 wire not yet longer than DarkPulseMax. -/
  dip : Option Nat := none
  filtered : Bool := false
  /-- No sample counts before this instant: the wire's own test pulse. -/
  holdUntil : Nat := 0
  /-- The set has just come into force: the next sample is the level the wire shows at that moment. -/
  fresh : Bool := false
  deriving DecidableEq, Repr

/-- One safe input in a channel (R382–R384, R388). -/
structure SafeIn where
  a : SafeWire := {}
  b : SafeWire := {}
  /-- Latched fault code; 0 none. -/
  fault : Nat := 0
  /-- The wires have disagreed since. -/
  differ : Option Nat := none
  /-- Sources whose pulses have shown a failure on this input. -/
  bad : BitVec 16 := 0
  /-- Last instant at which the cause of a fault was present. -/
  causeAt : Nat := 0
  trusted : Bool := false
  /-- v has been false since, for the trust rule. -/
  openSince : Option Nat := none
  deriving DecidableEq, Repr

/-- One safe output in a channel (R386–R392). -/
structure SafeOut where
  demand : Bool := false
  /-- Instant of the last change of the demand. -/
  changedAt : Nat := 0
  fault : Nat := 0
  causeAt : Nat := 0
  /-- R378, R398. -/
  restart : Bool := false
  /-- R392: an acknowledge is needed before it is energised again. -/
  manual : Bool := false
  /-- The request has been seen inactive since RUNNING (R390). -/
  seen : Bool := false
  /-- Feedback has reached the demand in time since its last change (R391). -/
  settled : Bool := false
  /-- No readback check before this instant: an off-pulse and what follows it. -/
  quietUntil : Nat := 0
  deriving DecidableEq, Repr

/-- The acknowledge evaluation (R393): the codes of AckState. -/
inductive AckSt where
  | idle
  | pressed (since : Nat)
  | stuck
  deriving DecidableEq, Repr

/-- A link frame (R373): what it carries. -/
structure SafeFrame where
  number : Nat
  state : IslSt
  /-- Per input: v, wires A and B, trust, fault code. -/
  ins : List (Bool × Bool × Bool × Bool × Nat)
  /-- Per output: demand, readbacks N and M, restart latch, fault code. -/
  outs : List (Bool × Bool × Bool × Bool × Nat)
  /-- Restart latches of R392, apart from those of R378. -/
  manuals : List Bool
  /-- The state of the acknowledge evaluation, and whether an accepted press waits for the other channel (R393). -/
  ackState : AckSt
  ack : Bool
  setId : Nat
  check : Nat
  inPos : Nat
  outPos : Nat
  safeStop : Bool
  plannedSleep : Bool
  slot : Option Nat
  deriving DecidableEq, Repr

/-- One channel: Nutmeg or Mace (R371). -/
structure SafeChan where
  /-- Powered, out of reset and not stopped. -/
  on : Bool := false
  state : IslSt := .unconfigured
  stopReason : Nat := 0
  set : Option Bytes := none
  /-- The channel's own clock, µs: it counts its samples. -/
  clk : Nat := 0
  raw : BitVec 16 := 0
  readback : BitVec 8 := 0
  ins : List SafeIn := List.replicate 8 {}
  outs : List SafeOut := List.replicate 4 {}
  ack : AckSt := .idle
  /-- Entry into STARTING (R388). -/
  activeAt : Nat := 0
  /-- A press accepted by this channel, waiting for the other one. -/
  vote : Option Nat := none
  /-- The press waiting in `vote` has taken effect here. -/
  applied : Bool := false
  /-- Sources pulsed since STARTING. -/
  pulsed : BitVec 16 := 0
  /-- Items that differ from the other channel's last valid frame, and since when (R375). -/
  diffs : List (Nat × Nat) := []
  /-- The other channel's last valid frame. -/
  seen : Option SafeFrame := none
  /-- Mace only (R383): the input round position as it follows it, none before the first one of the set in force; its clock at the last advance and at the last
  valid frame that carried a position; the sources whose pulse has come and not yet started. -/
  pos : Option Nat := none
  posAt : Nat := 0
  heard : Nat := 0
  due : BitVec 16 := 0
  deriving DecidableEq, Repr

/-- The island (R371–R402). -/
structure SafeIsland where
  nutmeg : SafeChan := {}
  mace : SafeChan := {}
  /-- Number of Nutmeg's next frame; the frames it sent within the last 2 ms with their instants. -/
  nextNumber : Nat := 0
  sent : List (Nat × Nat) := []
  /-- Number of the last valid frame or base at Mace; a frame failed its check since. -/
  last : Option Nat := none
  missed : Bool := false
  inPos : Nat := 0
  outPos : Nat := 0
  /-- Frames on the link. -/
  toMace : Option SafeFrame := none
  toNutmeg : Option SafeFrame := none
  /-- Test-slot marker of Nutmeg's last frame. -/
  slot : Option Nat := none
  plannedSleep : Bool := false
  /-- Consecutive frames sent with PlannedSleep (R412). -/
  plannedSent : Nat := 0
  /-- The frames before Mace's HOLD carried PlannedSleep (R378). -/
  plannedHold : Bool := false
  /-- Number of the first frame Nutmeg sends in HOLD: answers to earlier ones show Mace as it was before (R378). -/
  holdFrom : Nat := 0
  /-- Frames a stopped Nutmeg still sends (R375). -/
  farewell : Option Nat := none
  /-- Bad measurements of Mace's clock in a row. -/
  clockBad : Nat := 0
  /-- Nutmeg has dropped its set because the companion die came up alone, and waits for the stored one (R378). -/
  redeliver : Bool := false
  candidate : Option Bytes := none
  stage : Memory := []
  /-- In MRAM: the confirmed set, the withholding note, salt and digest of the password, the change log. -/
  stored : Option Bytes := none
  withhold : Bool := false
  password : Option (Bytes × Nat) := none
  wrong : Nat := 0
  lockout : Bool := false
  authorised : Bool := false
  log : List Bytes := []
  logSeq : Nat := 1
  /-- Accepted and stuck acknowledges so far (EV101): what the counters show without their saturation and clearing. -/
  ackEvents : Nat := 0
  counters : List Nat := List.replicate 10 0
  deriving DecidableEq, Repr

/-- Entries of `SafeIsland.counters` (R401). -/
def sfInputFaults : Nat := 0
def sfOutputFaults : Nat := 1
def sfInputPulses : Nat := 2
def sfOffPulses : Nat := 3
def sfAcks : Nat := 4
def sfAckShort : Nat := 5
def sfAckStuck : Nat := 6
def sfHolds : Nat := 7
def sfLinkErrors : Nat := 8
def sfAuthFailures : Nat := 9

end Sys2Proof.Machine
end

