-- ==== Sys2Proof/Machine/State.lean ====
section
/-! DEFINITION. The state of the block: every register, buffer, counter, mode and pin the spec gives the ZK640 (`Chip`),
and the commands waiting (`State`). -/
namespace Sys2Proof.Machine

/-- Everything the spec gives the block, one field for each subsystem chapter. -/
structure Chip where
  clk : Clock := {}
  out : List Output := []
  fuses : Fuses := {}
  tiles : Tiles := {}
  host : HostIf := {}
  boot : Boot := {}
  dir : Directory := {}
  rc : RollCall := {}
  bb : Backbone := {}
  qm : QueueMgr := {}
  time : Saffron := {}
  eth : EthState := {}
  mem : MemCtl := {}
  cb : CarBus := {}
  can : List CanChan := List.replicate 12 {}
  rt : Router := {}
  br : Bridge := {}
  safe : SafeIsland := {}
  log : Recorder := {}
  pwr : Power := {}
  clove : Clove := {}
  stored : Stored := {}
  deriving DecidableEq, Repr

/-- The block and its queue of waiting commands, first in, first out. -/
structure State where
  chip : Chip
  pending : List Instr
  deriving DecidableEq, Repr

/-- Reasons to stop with a fault. No command of this block ends so: the spec gives every one an effect or a status. -/
inductive Fault where
  deriving DecidableEq, Repr

/-- Reasons to refuse a command. -/
inductive Refusal where
  /-- The command has no meaning yet; raised by `exec`'s arm for it alone. Safe: the machine stops. -/
  | notModelled (mnemonic : String)
  deriving DecidableEq, Repr

/-- The block right after chip reset (R10, R148, R349, R351): every field at the value the spec states or the log names,
the fuses as Config gives them, no command waiting. (log 1, log 34, log 76) -/
def State.reset : State :=
  { chip := { fuses := { identity := Config.nodeIdentity, txLatency := (List.range 4).map fun p => (Config.fusedLatency p true).toInt
                         rxLatency := (List.range 4).map fun p => (Config.fusedLatency p false).toInt
                         subsystem := Config.subsystemIds.toNat } }, pending := [] }

end Sys2Proof.Machine
end

