-- ==== Sys2Proof/Machine/Queues.lean ====
section
/-! DEFINITION. The sixty-four queues (R31, R321–R324): cells, the shared pool, admission, the records of Q60 (R27, R423). -/
namespace Sys2Proof.Machine

/-- The 64-byte cells a frame of `n` bytes occupies (R321). -/
def cellsOf (n : Nat) : Nat := ceilDiv (n + 16) 64
def QEntry.cells (e : QEntry) : Nat := cellsOf e.data.length
def cellSum (es : List QEntry) : Nat := es.foldl (fun n e => n + e.cells) 0
def Queue.cells (q : Queue) : Nat := cellSum q.entries
def Queue.onChip (q : Queue) : Nat := cellSum (q.entries.filter fun e => !e.inDdr)
def Queue.spilled (q : Queue) : Nat := cellSum (q.entries.filter fun e => e.inDdr)
def Queue.spilling (q : Queue) : Bool := q.entries.any fun e => e.inDdr
/-- Cells a queue takes out of the shared pool. -/
def Queue.pooled (q : Queue) : Nat := q.onChip - q.reserve * 16

def QueueMgr.queue (m : QueueMgr) (q : Nat) : Queue := m.queues.getD q (resetQueue 63)
def QueueMgr.upd (m : QueueMgr) (q : Nat) (f : Queue → Queue) : QueueMgr := { m with queues := updAt m.queues q f }

/-- Free cells of the shared pool (R321, R325): 4 MiB less the reserves, less the retired cells when they exceed 1,024. -/
def QueueMgr.poolFree (m : QueueMgr) : Nat :=
  65536 - m.queues.foldl (fun n q => n + q.reserve * 16 + q.pooled) 0 - (if 1024 < m.retiredCells then m.retiredCells else 0)

def QueueMgr.spilledCells (m : QueueMgr) : Nat := m.queues.foldl (fun n q => n + q.spilled) 0

/-- Queues that may spill (R321). -/
def maySpill (q : Nat) : Bool := decide (q < 16 ∧ q % 4 < 2) || decide (16 ≤ q ∧ q < 32) || decide (48 ≤ q ∧ q < 56)

/-- The spill area (R31, R333) in cells, and whether spill is available (R334). -/
def MemCtl.spillOn (m : MemCtl) : Bool := m.state == .running && !m.stopping
def MemCtl.spillCells (m : MemCtl) : Nat := (u32 m.config 0 - u32 m.config 8) * 16384

/-- Where an arriving frame goes (R322). -/
inductive Place where
  | onChip | ddr | drop
  deriving DecidableEq, Repr

/-- Admission of a frame of `n` bytes (R322 steps 1 to 6). -/
def QueueMgr.place (m : QueueMgr) (mem : MemCtl) (q n : Nat) : Place :=
  let a := m.queue q
  let k := cellsOf n
  let room := decide (m.spilledCells + k ≤ mem.spillCells)
  if a.maxEntries ≤ a.entries.length ∨ a.limit * 16 < a.cells + k then .drop
  else if mem.spillOn && a.spilling then (if room then .ddr else .drop)
  else if a.onChip + k ≤ a.reserve * 16 then .onChip
  else if a.onChip + k ≤ a.spill * 16 ∧ a.onChip + k - a.reserve * 16 - a.pooled ≤ m.poolFree then .onChip
  else if maySpill q && mem.spillOn && room then .ddr
  else .drop

def QueueMgr.push (m : QueueMgr) (q : Nat) (e : QEntry) : QueueMgr := m.upd q fun a => { a with entries := a.entries ++ [e] }

/-! The records of Q60. -/

/-- A record of R423 as it waits in Q60: RecordSeq and RecordCheck are filled in at storage. -/
def recordBytes (severity source flags op cycles code kind arg detail : Nat) (payload : Bytes) : Bytes :=
  padTo 60 (zeros 4 ++ le 1 severity ++ le 1 source ++ le 1 flags ++ le 1 payload.length ++ le 6 op ++ zeros 2 ++ le 4 cycles ++ le 2 code ++
    le 1 kind ++ zeros 1 ++ le 2 arg ++ zeros 2 ++ le 4 detail ++ payload) ++ zeros 4

def QEntry.severity (e : QEntry) : Nat := u8 e.data 4

/-- The position of the newest entry of the lowest severity. -/
def lowestNewest (es : List QEntry) : Option (Nat × Nat) :=
  (es.zipIdx.foldl (fun acc (e, i) =>
    match acc with
    | some (s, _) => if e.severity ≤ s then some (e.severity, i) else acc
    | none => some (e.severity, i)) none)

/-- Intake of a record into Q60 (R27, R428): the queues, the severity of the record dropped, and whether it is the arriving one. -/
def QueueMgr.intake (m : QueueMgr) (mem : MemCtl) (e : QEntry) : QueueMgr × Option (Nat × Bool) :=
  if m.place mem 60 e.data.length = .onChip then (m.push 60 e, none)
  else
    match lowestNewest (m.queue 60).entries with
    | some (s, i) =>
      if s < e.severity then (m.upd 60 fun a => { a with entries := a.entries.eraseIdx i ++ [e] }, some (s, false))
      else (m, some (e.severity, true))
    | none => (m, some (e.severity, true))

/-- OperatingTime and AwakeTime in ms at a local instant (R426). (log 74) -/
def Recorder.opTime (r : Recorder) (now : Nat) : Nat := (r.opBase + (now - r.opMark)) / 1000000 % 2 ^ 48
def Recorder.awakeTime (r : Recorder) (now : Nat) : Nat := (r.awakeBase + (now - r.awakeMark)) / 1000000 % 2 ^ 48

end Sys2Proof.Machine
end

