-- ==== Sys2Proof/Machine/Ops.lean ====
section
/-! DEFINITION. Named operations every chapter uses: the clock and free values, train time, events and interrupts, rate limits,
the checks and replies of mailbox commands, the doorbell and the completion of a command. -/
namespace Sys2Proof.Machine

/-! Sub-state updates. -/

def Chip.onClk (c : Chip) (f : Clock → Clock) : Chip := { c with clk := f c.clk }
def Chip.onHost (c : Chip) (f : HostIf → HostIf) : Chip := { c with host := f c.host }
def Chip.onBoot (c : Chip) (f : Boot → Boot) : Chip := { c with boot := f c.boot }
def Chip.onJournal (c : Chip) (f : Journal → Journal) : Chip := { c with boot := { c.boot with journal := f c.boot.journal } }
def Chip.onDir (c : Chip) (f : Directory → Directory) : Chip := { c with dir := f c.dir }
def Chip.onRc (c : Chip) (f : RollCall → RollCall) : Chip := { c with rc := f c.rc }
def Chip.onBb (c : Chip) (f : Backbone → Backbone) : Chip := { c with bb := f c.bb }
def Chip.onQm (c : Chip) (f : QueueMgr → QueueMgr) : Chip := { c with qm := f c.qm }
def Chip.onEth (c : Chip) (f : EthState → EthState) : Chip := { c with eth := f c.eth }
def Chip.onMem (c : Chip) (f : MemCtl → MemCtl) : Chip := { c with mem := f c.mem }
def Chip.onCb (c : Chip) (f : CarBus → CarBus) : Chip := { c with cb := f c.cb }
def Chip.onRt (c : Chip) (f : Router → Router) : Chip := { c with rt := f c.rt }
def Chip.onLog (c : Chip) (f : Recorder → Recorder) : Chip := { c with log := f c.log }
def Chip.onBr (c : Chip) (f : Bridge → Bridge) : Chip := { c with br := f c.br }
def Chip.onPwr (c : Chip) (f : Power → Power) : Chip := { c with pwr := f c.pwr }
def Chip.onClove (c : Chip) (f : Clove → Clove) : Chip := { c with clove := f c.clove }
def Chip.canCh (c : Chip) (n : Nat) : CanChan := c.can.getD n {}
def Chip.onCan (c : Chip) (n : Nat) (f : CanChan → CanChan) : Chip := { c with can := updAt c.can n f }
def Chip.onTime (c : Chip) (f : Saffron → Saffron) : Chip := { c with time := f c.time }

/-- Record an effect on the outside (log 5). -/
def Chip.emit (c : Chip) (o : Output) : Chip := { c with out := o :: c.out }
/-- See log 5. -/
def Chip.emits (c : Chip) (os : List Output) : Chip := os.foldl Chip.emit c

/-- The clock moved to the instant at which a command reaches the block; it never moves back (log 2). -/
def Chip.advance (c : Chip) (t : Nat) : Chip := { c with clk := { c.clk with now := max c.clk.now t } }

/-- A value the spec leaves open: a fresh, unconstrained one (log 3). -/
def Chip.draw (c : Chip) : Nat × Chip :=
  ((Config.freeWord c.clk.fresh).toNat, { c with clk := { c.clk with fresh := c.clk.fresh + 1 } })

/-- `n` open bytes (log 3). -/
def Chip.drawBytes (c : Chip) : Nat → Bytes × Chip
  | 0 => ([], c)
  | n + 1 =>
    let (v, c) := c.draw
    let (bs, c) := c.drawBytes n
    (BitVec.ofNat 8 v :: bs, c)

/-- Count on a MAC (R320, R338): byte counts saturate at 64 bits, the others at 32. -/
def Chip.macCountBy (c : Chip) (p i n : Nat) : Chip :=
  c.onEth fun e => { e with mac := updAt e.mac p fun l => l.set i (sat (if i < 2 then 64 else 32) (l.getD i 0 + n)) }
def Chip.macCount (c : Chip) (p i : Nat) : Chip := c.macCountBy p i 1
def Chip.macSent (c : Chip) (p len : Nat) : Chip := (c.macCount p macTxFrames).macCountBy p macTxBytes len

/-! Train time (R148–R150, R157, R162, R163). -/

/-- Train time passed between two local instants under the current rate and slew, in 2^-32 ns. -/
def Saffron.elapsed (s : Saffron) (t0 t1 : Nat) : Nat :=
  let lim := fun (r : Int) => max (-200000000) (min 200000000 r)
  let span := fun (d : Nat) (r : Int) => ((d : Int) * 4294967296 * (1000000000000 + lim r) / 1000000000000).toNat
  let e := max t0 (min t1 s.slewUntil)
  span (e - t0) (s.rate + s.slewAdd) + span (t1 - e) s.rate

/-- TrainTime at a local instant, in 2^-32 ns (R148). -/
def Saffron.frac (s : Saffron) (t : Nat) : Nat := s.anchorFrac + s.elapsed s.anchorLocal t

/-- The reckoning in use. -/
def Saffron.mark (s : Saffron) : TimeMark :=
  { local_ := s.anchorLocal, frac := s.anchorFrac, rate := s.rate, slewAdd := s.slewAdd, slewUntil := s.slewUntil
    valid := match s.state with | .locked | .grandmaster | .holdover => true | .free | .acquiring => false }

/-- Train time, in units of 2^-32 ns, and its validity as they were at local instant `t`, by the reckoning that held then (R170). -/
def Saffron.captured (s : Saffron) (t : Nat) : Nat × Bool :=
  let m := if s.anchorLocal ≤ t then s.mark else (s.past.find? fun m => decide (m.local_ ≤ t)).getD (s.past.getLast?.getD s.mark)
  (({ s with anchorLocal := m.local_, anchorFrac := m.frac, rate := m.rate, slewAdd := m.slewAdd, slewUntil := m.slewUntil } : Saffron).frac t, m.valid)

/-- The stamp of a capture at local instant `t`: train time in ns and its validity (R170). -/
def Chip.captureAt (c : Chip) (t : Nat) : Nat × Bool := let x := c.time.captured t; (x.1 / 4294967296, x.2)

def Chip.trainFrac (c : Chip) : Nat := c.time.frac c.clk.now
/-- TrainTime in ns and in ps. -/
def Chip.trainTime (c : Chip) : Nat := c.trainFrac / 4294967296
def Chip.trainPs (c : Chip) : Nat := c.trainFrac * 1000 / 4294967296

/-- Train time is valid in LOCKED, GRANDMASTER and HOLDOVER (R150). -/
def Chip.timeValid (c : Chip) : Bool :=
  match c.time.state with
  | .locked | .grandmaster | .holdover => true
  | .free | .acquiring => false

/-- The TimeDomain the node holds valid train time in; 0 without (R73, R150). -/
def Chip.domain (c : Chip) : Nat := if c.timeValid then c.time.domain else 0

/-- ⌈√v⌉ for v below 2^64, bit by bit. (log 22) -/
def ceilSqrt (v : Nat) : Nat :=
  let r := (List.range 32).foldr (fun i acc => if (acc + 2 ^ i) * (acc + 2 ^ i) ≤ v then acc + 2 ^ i else acc) 0
  if r * r = v then r else r + 1

/-- E_chain(h) in ps, rounded up (R162). (log 22) -/
def eChain (h : Nat) : Nat := 2 * h + ceilSqrt (234 * 234 * h)

/-- The holdover coefficients r in ps/s and a in ps/s² (R163, R175). -/
def Saffron.coeffs (s : Saffron) : Nat × Nat :=
  match u8 s.config 0 with
  | 0 => (50000, 1000)
  | 1 => (2000, 10)
  | _ => (u32 s.config 8, u32 s.config 12)

/-- The slew correction still to apply at a local instant, ps (R157). -/
def Saffron.slewLeft (s : Saffron) (t : Nat) : Nat := ceilDiv ((s.slewUntil - t) * s.slewAdd.natAbs) 1000000000

/-- The holdover bound at `t` (R163): E0 + r·t + ½·a·t². -/
def Saffron.holdBound (s : Saffron) (t : Nat) : Nat :=
  let d := t - s.holdSince
  let (r, a) := s.coeffs
  s.holdE0 + ceilDiv (r * d) 1000000000 + ceilDiv (a * d * d) (2 * 1000000000 * 1000000000)

/-- The error bound E in ps (R150): 0xFFFF_FFFF where no bound exists, else saturating at 0xFFFF_FFFE. -/
def Saffron.errorBound (s : Saffron) (t : Nat) : Nat :=
  match s.state with
  | .free | .acquiring => max32
  | .grandmaster => 0
  | .locked => min 0xFFFFFFFE (s.errorBase + eChain s.hops + s.slewLeft t)
  | .holdover => min 0xFFFFFFFE (s.holdBound t)

def Chip.errorBound (c : Chip) : Nat := c.time.errorBound c.clk.now

/-- HoldoverLimit in ps (R175). -/
def Saffron.limitPs (s : Saffron) : Nat := u32 s.config 4 * 1000

/-- The lease margin M in ns (R133). (log 36) -/
def Chip.margin (c : Chip) (timed : Bool) : Nat := if timed then ceilDiv c.errorBound 1000 + 1000 else 100000

/-! Who works (R3, R38, R349). -/

/-- Firmware runs: BootState READY or SERVICE, or a start that has completed B06. (log 34, log 79) -/
def Chip.firmware (c : Chip) : Bool :=
  match c.boot.state with
  | .ready | .service => true
  | .booting => decide (7 ≤ c.boot.step)
  | .reset | .halted => false

/-- The main die is powered and out of reset. (log 34, log 79) -/
def Chip.mainDie (c : Chip) : Bool := c.boot.state != .reset || c.boot.down

/-- The roll-call engine runs, and with it the backbone and Saffron's telegrams (R99, R142, R174). (log 79) -/
def Chip.rolling (c : Chip) : Bool := c.rc.state != .stopped

/-! Events and interrupts (R359–R364). -/

/-- The vector an event uses (R360). -/
def HostIf.vectorOf (h : HostIf) (e : Nat) : Nat :=
  let v := h.evVector.getD e 0
  if h.msi.enable then v % 2 ^ h.msi.vecLog2 else v

/-- The condition bits of all vectors (R360). -/
def HostIf.conditions (h : HostIf) : BitVec 32 :=
  let p := h.evStatus &&& h.evEnable
  (List.range 128).foldl (fun acc e => if p.getLsbD e then acc ||| (1#32 <<< h.vectorOf e) else acc) 0

/-- One MSI for a vector (R361). -/
def Chip.sendMsi (c : Chip) (v : Nat) : Chip :=
  (c.onHost fun h => { h with
    msi := { h.msi with sent := updAt h.msi.sent v fun n => (n + 1) % 65536, pending := h.msi.pending &&& ~~~(1#32 <<< v) }
    counters := bump h.counters cntMsiSent }).emit (.msi v)

/-- Re-evaluate every vector's condition (R360, R361): a change from 0 to 1 sends one MSI, or sets the pending bit of a masked vector. (log 57) -/
def Chip.evalConds (c : Chip) : Chip :=
  let new := c.host.conditions
  let rose := new &&& ~~~c.host.msi.cond
  let c := c.onHost fun h => { h with msi := { h.msi with cond := new } }
  if rose = 0 then c
  else if c.host.msi.enable && c.host.msi.busMaster then
    (List.range 32).foldl (fun c v =>
      if rose.getLsbD v then
        if c.host.msi.mask.getLsbD v then c.onHost fun h => { h with msi := { h.msi with pending := h.msi.pending ||| (1#32 <<< v) } }
        else c.sendMsi v
      else c) c
  else c

/-- An event record into the ring of 512 (R364); the flag says whether the oldest record was lost. -/
def HostIf.record (h : HostIf) (r : EvRecord) : HostIf × Bool :=
  let full := decide (512 ≤ h.records.length)
  ({ h with records := (if full then h.records.drop 1 else h.records) ++ [{ r with seq := h.recordSeq }]
            recordSeq := next32 h.recordSeq
            lost := if full then sat32 (h.lost + 1) else h.lost }, full)

/-- Last raise of a rate-limited event within `period` ns. -/
def HostIf.limited (h : HostIf) (key : Nat × Nat) (now period : Nat) : Bool :=
  match h.limits.lookup key with
  | some last => decide (now < last + period)
  | none => false

def HostIf.stamp (h : HostIf) (key : Nat × Nat) (now : Nat) : HostIf :=
  { h with limits := (key, now) :: h.limits.filter fun p => p.1 != key }

def Chip.recordOf (c : Chip) (e kind arg detail : Nat) : EvRecord :=
  { seq := 0, event := e, argKind := kind, arg := arg % 65536, detail := detail % 4294967296
    timeValid := c.timeValid, trainTime := c.trainTime, localTime := c.clk.now }

/-- Set an event's bit, write its record while firmware runs, re-evaluate the conditions (R359). -/
def Chip.raiseRaw (c : Chip) (e kind arg detail : Nat) : Chip × Bool :=
  let r := c.recordOf e kind arg detail
  let h := { c.host with evStatus := c.host.evStatus ||| (1#128 <<< e) }
  if c.firmware then
    let (h, lost) := h.record r
    ({ c with host := h }.evalConds, lost)
  else ({ c with host := h }.evalConds, false)

/-- The recorder's counters (R440). -/
def Chip.logCountBy (c : Chip) (i n : Nat) : Chip := c.onLog fun r => { r with counters := bumpBy r.counters i n }
def Chip.logCount (c : Chip) (i : Nat) : Chip := c.logCountBy i 1

/-- A record of R423 stamped with the node's operating time and power-cycle count (R428). -/
def Chip.makeRecord (c : Chip) (severity source flags code kind arg detail : Nat) (payload : Bytes) : Bytes :=
  recordBytes severity source flags (c.log.opTime c.clk.now) c.log.powerCycles code kind arg detail payload

/-- A record enters Q60 (R27, R428); the answer names the severity dropped and whether the arriving record was. -/
def Chip.intake (c : Chip) (rec : Bytes) : Chip × Option (Nat × Bool) :=
  let (m, d) := c.qm.intake c.mem { data := rec, info := le 1 (u8 c.log.config 0), since := c.clk.now }
  let c := { c with qm := m }
  (if d.isSome then c.logCount recIntakeDropped else c, d)

/-- The record of an event raise (R425, R439), which firmware produces while it runs. -/
def Chip.intakeEvent (c : Chip) (e kind arg detail : Nat) : Chip × Option Nat :=
  let sev := u8 c.log.config (4 + e)
  if !c.firmware || decide (7 < sev) then (c, none)
  else
    let epoch := match c.dir.inForce with | some s => s.epoch | none => 0
    let (c, d) := c.intake (c.makeRecord sev 0 (b2n c.timeValid) e kind arg detail (le 8 c.trainTime ++ le 8 c.clk.now ++ le 4 epoch))
    (c, d.map (·.1))

/-- One raise: the event itself, then its record. -/
def Chip.raiseStep (c : Chip) (e kind arg detail : Nat) : Chip × Bool × Option Nat :=
  let (c, lost) := c.raiseRaw e kind arg detail
  let (c, d) := c.intakeEvent e kind arg detail
  (c, lost, d)

/-- EV112 for a record dropped at intake or at storage (R27, R441), at most once per 100 ms. -/
def Chip.noteDrop (c : Chip) (d : Option Nat) : Chip × Bool :=
  match d with
  | some sev =>
    if c.host.limited (112, 0) c.clk.now 100000000 then (c, false)
    else
      let (c, lost, _) := (c.onHost fun h => h.stamp (112, 0) c.clk.now).raiseStep 112 0 0xFFFF sev
      (c, lost)
  | none => (c, false)

/-- Raise an event with its argument and detail (R359, R364), with its recorder record (R425). A lost event record raises
EV124, at most once per 100 ms. While the main die is unpowered or in reset there is nothing to raise it in. -/
def Chip.raiseD (c : Chip) (e kind arg detail : Nat) : Chip :=
  if !c.mainDie then c else
  let (c, lost, d) := c.raiseStep e kind arg detail
  let (c, lost2) := c.noteDrop d
  if (lost || lost2) && !(c.host.limited (124, 0) c.clk.now 100000000) then
    let (c, _, d) := (c.onHost fun h => h.stamp (124, 0) c.clk.now).raiseStep 124 0 0xFFFF 0
    (c.noteDrop d).1
  else c

/-- Raise an event whose chapter defines no argument (R364). (log 40) -/
def Chip.raise (c : Chip) (e : Nat) : Chip := c.raiseD e 0 0xFFFF 0

/-- Raise an event about a port (R40). (log 40) -/
def Chip.raisePort (c : Chip) (e port : Nat) : Chip := c.raiseD e 1 port 0

/-- Raise an event at most once per `period` ns for one argument. -/
def Chip.raiseLimited (c : Chip) (e kind arg detail period : Nat) : Chip :=
  if c.host.limited (e, arg) c.clk.now period then c
  else (c.onHost fun h => h.stamp (e, arg) c.clk.now).raiseD e kind arg detail

/-- Raise an event at most once per `period` ns for one key that the record's argument does not show. -/
def Chip.raiseKeyed (c : Chip) (e key kind arg detail period : Nat) : Chip :=
  if c.host.limited (e, key) c.clk.now period then c
  else (c.onHost fun h => h.stamp (e, key) c.clk.now).raiseD e kind arg detail

/-- EV074 at each change of a channel's matrix state (R241). (log 51) -/
def Chip.setMatrix (c : Chip) (n s : Nat) : Chip :=
  if (c.canCh n).matrix = s then c else (c.onCan n fun x => { x with matrix := s }).raisePort 74 (36 + n)

/-- Train time is lost: every aligned matrix goes on in FREE (R241, R242). -/
def Chip.matricesFree (c : Chip) : Chip :=
  (List.range 12).foldl (fun c n => let c := c.onCan n fun x => { x with resuming := false }; if (c.canCh n).matrix = 1 then c.setMatrix n 2 else c) c

/-! Checks and replies of mailbox commands (R354, R355). -/

/-- A check: passed, or the status and Detail it fails with. (log 14) -/
abbrev Check := Option (Nat × Nat)

/-- See log 14. -/
def firstFail : List Check → Check
  | [] => none
  | some f :: _ => some f
  | none :: cs => firstFail cs

/-- The failure that decides among the layout checks (R354, R355): the lower step first, then the field at the lower offset. (log 14) -/
def leastFail : List Check → Check
  | [] => none
  | none :: cs => leastFail cs
  | some f :: cs =>
    match leastFail cs with
    | none => some f
    | some g => if f.1 < g.1 ∨ (f.1 = g.1 ∧ f.2 ≤ g.2) then some f else some g

/-- Step 4: the request length is the layout's. -/
def lenIs (r : Bytes) (n : Nat) : Check := if r.length = n then none else some (0x01, n)

/-- Step 4 for a layout ending in data: a fixed part, then as many bytes as the request states. -/
def lenData (r : Bytes) (fixed stated : Nat) : Check :=
  if r.length < fixed then some (0x01, 0xFFFF)
  else if r.length = fixed + stated ∧ r.length ≤ 512 then none else some (0x01, min 0xFFFF (fixed + stated))

/-- Step 5: reserved bytes are 0, or an encoding is defined; the Detail is the field's offset. (log 14) -/
def rsv (r : Bytes) (off n : Nat) : Check := if isZero (slice r off n) then none else some (0x03, off)
/-- See log 14. -/
def enc (ok : Bool) (off : Nat) : Check := if ok then none else some (0x03, off)

/-- Step 6: a value lies in its range; the Detail is the field's offset. (log 14) -/
def rng (ok : Bool) (off : Nat) : Check := if ok then none else some (0x04, off)

/-- Steps 7 and 8: a status of the class, the state or the owning chapter. -/
def need (ok : Bool) (status : Nat) : Check := if ok then none else some (status, 0)

/-- What a command body answers: its status and Detail, its payload, the chip after it, and whether it stays BUSY. -/
structure Reply where
  status : Nat := 0
  detail : Nat := 0
  payload : Bytes := []
  chip : Chip
  busy : Bool := false

def Chip.ok (c : Chip) (payload : Bytes := []) : Reply := { payload := payload, chip := c }
def Chip.refuse (c : Chip) (status : Nat) (detail : Nat := 0) : Reply := { status := status, detail := detail, chip := c }

/-- A mailbox command: its layout checks (steps 4 to 6), its state checks (steps 7 and 8) and its effect. -/
structure Cmd where
  form : Chip → Bytes → List Check
  state : Chip → Bytes → List Check := fun _ _ => []
  act : Chip → Bytes → Reply

/-- Run a command's checks in order, then its effect (R355, R357). -/
def Cmd.run (m : Cmd) (c : Chip) (r : Bytes) : Reply :=
  match leastFail (m.form c r) with
  | some (st, d) => c.refuse st d
  | none =>
    match firstFail (m.state c r) with
    | some (st, d) => c.refuse st d
    | none => m.act c r

/-- A command that sends a telegram, held since an earlier epoch: status 0x0A (R96). -/
def Cmd.under (m : Cmd) (sameEpoch : Bool) : Cmd := { m with state := fun c r => need sameEpoch 0x0A :: m.state c r }

/-- A command without a request. -/
def noReq : Chip → Bytes → List Check := fun _ r => [lenIs r 0]

/-! Mailboxes (R351–R357). -/

def HostIf.mb (h : HostIf) (n : Nat) : Mailbox := h.mailboxes.getD n { state := .offline }

def Chip.onMb (c : Chip) (n : Nat) (f : Mailbox → Mailbox) : Chip :=
  c.onHost fun h => { h with mailboxes := updAt h.mailboxes n f }

/-- The request as it stands in the area (R353); a Length above 512 is taken as it is and fails at step 4 (R351). -/
def HostIf.request (h : HostIf) (n len : Nat) : Bytes := (h.mb n).request.read 0 len

/-- The response header of R354 and the payload behind it. -/
def responseBytes (opcode status tag detail : Nat) (payload : Bytes) : Bytes :=
  le 2 opcode ++ le 1 status ++ le 1 (tag % 16) ++ le 2 payload.length ++ le 2 detail ++ payload

/-- A command completes (R352, R354): response written, DONE, Status and Elapsed set, then EV127 when CompletionEvent is 1.
Within its bound the time the command takes is open: a free value (log 4). -/
def Chip.complete (c : Chip) (n status detail : Nat) (payload : Bytes) : Chip :=
  let m := c.host.mb n
  let (extra, c) := c.draw
  let payload := payload.take 504
  let el := sat32 ((c.clk.now - m.rungAt) / 1000 + extra)
  let c := c.onMb n fun m => { m with
    state := .done, status := status, waiting := false, elapsed := el
    response := m.response.write 0 (responseBytes m.opcode status m.tag detail payload) }
  let c := c.onHost fun h => { h with counters :=
    let k := if status = 0 then h.counters else bump h.counters cntRefused
    if status = 0x0E ∨ status = 0x0F then bump k cntInternal else k }
  let c := if status = 0x0E ∨ status = 0x0F then c.raiseD 126 6 n m.opcode else c
  if m.completionEvent then c.raiseD 127 6 n 0 else c

/-- Give a reply to a mailbox: complete it, or leave it BUSY. -/
def Reply.settle (r : Reply) (n : Nat) : Chip :=
  if r.busy then r.chip else r.chip.complete n r.status r.detail r.payload

/-- No tile that serves a backbone port is isolated: its port tile and its MAC tile (R23). (log 41) -/
def Tiles.portSound (t : Tiles) (p : Nat) : Bool := !t.backbone.getLsbD p && !t.mac.getLsbD p

/-- Every tile of the tiled subsystem behind an opcode is isolated (R23, R355). -/
def Tiles.allIsolated (t : Tiles) (op : Nat) : Bool :=
  match op / 256 with
  | 2 => t.backbone == 0xF
  | 3 => t.saffron == 0xF
  | 4 => t.carBus == 0xFFFFFF
  | 5 => t.can == 0xFFF
  | 6 => t.check == 0xFFFF && (op == 0x0607 || op == 0x0608 || op == 0x060A)
  | 8 => t.mac == 0xFFF && decide (op ≤ 0x0806)
  | _ => false

/-- Firmware has not started what serves an opcode: Saffron, where B11 was skipped or is not over (R355, R446). -/
def Chip.unstarted (c : Chip) (op : Nat) : Bool := op / 256 == 3 && c.boot.held.isSome

/-- PREPARE refuses everything but PWR_STATUS and 0x0Dxx at step 7 (R412). -/
def Chip.preparing (c : Chip) (op : Nat) : Check := need (c.clove.state != .prepare || op == 0x0A00 || op / 256 == 0x0D) 0x06

/-- Steps 2 and 3 of R355 and the check of R412, then the command. (log 4) -/
def Chip.runCmd (c : Chip) (n op : Nat) (m : Cmd) : Chip :=
  let grp := op / 256
  let req := c.host.request n (c.host.mb n).length
  if (c.boot.state = .service ∧ grp ≠ 0x0C ∧ grp ≠ 0x0D) ∨ c.tiles.allIsolated op ∨ c.unstarted op then c.complete n 0x02 0 []
  else (Cmd.run { m with state := fun c r => c.preparing op :: m.state c r } c req).settle n

/-- An earlier command of the same high byte is still BUSY (R356). -/
def HostIf.heldBehind (h : HostIf) (grp order : Nat) : Bool :=
  h.mailboxes.any fun m => m.state == .busy && m.opcode / 256 == grp && decide (m.order < order)

/-- The place in the order of a doorbell that arrives now: before the held commands that higher mailboxes were rung with in this core cycle (R352). (log 56) -/
def HostIf.orderAt (h : HostIf) (now n : Nat) : Nat :=
  h.mailboxes.zipIdx.foldl (fun o m => if m.1.state == .busy && m.1.waiting && decide (n < m.2 ∧ m.1.rungAt / 5 = now / 5) then min o m.1.order else o) h.nextOrder

/-- A doorbell accepted in IDLE or DONE (R352): BUSY at once, Tag latched. (log 4) (log 56) -/
def Chip.ring (c : Chip) (d : Doorbell) (op : Nat) (waiting : Bool) : Chip :=
  let o := c.host.orderAt c.clk.now d.mb
  let c := c.onHost fun h => { h with mailboxes := h.mailboxes.map fun m => if o ≤ m.order then { m with order := m.order + 1 } else m }
  let c := c.onMb d.mb fun m => { m with
    state := .busy, tag := d.tag % 16, opcode := op, length := d.length, rungAt := c.clk.now
    order := o, waiting := waiting, lockRaised := false, epoch := match c.dir.inForce with | some s => s.epoch | none => 0
    capture := if op = 0x0303 ∨ op = 0x0A03 ∨ op = 0x0A04 then le 8 c.trainTime ++ le 2 (c.trainPs % 1000) ++ le 1 (b2n c.timeValid) ++ zeros 5 ++ le 8 c.clk.now else []
    ecc := d.ecc }
  c.onHost fun h => { h with nextOrder := h.nextOrder + 1, counters := bump h.counters cntCommands }

/-- A doorbell ignored in BUSY or OFFLINE (R352). -/
def Chip.ignoreDoorbell (c : Chip) (n : Nat) : Chip :=
  (c.onHost fun h => { h with counters := bump h.counters cntProtocol }).raiseD 125 6 n 0

/-- A doorbell with a command's opcode (R352, R355, R356). `none` stands for an opcode that is not defined (R370). -/
def Chip.doorbell (c : Chip) (d : Doorbell) (op : Nat) (m : Option Cmd) : Chip :=
  if 8 ≤ d.mb ∨ !c.mainDie then c
  else match (c.host.mb d.mb).state with
  | .busy | .offline => c.ignoreDoorbell d.mb
  | .idle | .done =>
    let held := op / 256 ≠ 0x0D ∧ c.host.heldBehind (op / 256) c.host.nextOrder
    let c := c.ring d op (decide held)
    if held then c
    else match m with
      | some m => c.runCmd d.mb op m
      | none => c.complete d.mb 0x03 0xFFFF []

/-- The mailbox that an operation in progress keeps BUSY with opcode `op`, oldest first. -/
def HostIf.busyWith (h : HostIf) (op : Nat) : Option Nat :=
  (List.range 8).find? fun n => let m := h.mb n; m.state == .busy && m.opcode == op && !m.waiting

/-- Complete the mailbox waiting on opcode `op`, if one is. -/
def Chip.completeWaiting (c : Chip) (op status : Nat) (payload : Bytes := []) : Chip :=
  match c.host.busyWith op with
  | some n => c.complete n status 0 payload
  | none => c

/-- A copy to host memory begins: BUSY until all of it is written, which takes a free time within `bound` (R342, R356). (log 4) -/
def Chip.copyOut (c : Chip) (op bound address : Nat) (data payload : Bytes) : Reply :=
  let (v, c) := c.draw
  { chip := c.onHost fun h => { h with copies := h.copies ++ [{ op := op, due := c.clk.now + v % bound, address := address, data := data, payload := payload }] }, busy := true }

/-- The copies that are over by now: their writes are sent and their commands end with status 0. (log 4) -/
def Chip.copiesDone (c : Chip) : Chip :=
  if c.host.copies = [] then c
  else
    let done := c.host.copies.filter fun j => decide (j.due ≤ c.clk.now)
    let c := c.onHost fun h => { h with copies := h.copies.filter fun j => !decide (j.due ≤ c.clk.now) }
    done.foldl (fun c j => (c.emits (Output.dmaWrites j.address j.data)).completeWaiting j.op 0 j.payload) c

/-- The block at the instant `t`: the clock is there, and the copies under way until then are done. (log 2) (log 4) -/
def Chip.tick (c : Chip) (t : Nat) : Chip := (c.advance t).copiesDone

/-- Every mailbox goes OFFLINE (R352, R358). -/
def Chip.mailboxesOffline (c : Chip) : Chip :=
  c.onHost fun h => { h with mailboxes := h.mailboxes.map fun m => { m with state := .offline, waiting := false }, copies := [] }

/-- BootState becomes READY or SERVICE: every mailbox IDLE with both areas cleared (R352). -/
def Chip.mailboxesIdle (c : Chip) : Chip :=
  c.onHost fun h => { h with mailboxes := h.mailboxes.map fun m => { m with state := .idle, waiting := false, request := [], response := [] } }

/-- Shadowed (epoch) writes (R15, R18, R19): waiting while the roll-call engine runs, in force at once while it is stopped. (log 38) -/
def EpochShadow.write {α : Type} (p : EpochShadow α) (running : Bool) (v : α) : EpochShadow α :=
  if running then { p with wait := some v } else { cur := v }

/-- The announcement of a switch carries what waits (R19). (log 38) -/
def EpochShadow.join {α : Type} (p : EpochShadow α) : EpochShadow α :=
  match p.wait with
  | some v => { p with joined := some v, wait := none }
  | none => p

/-- The epoch switch (R15, R24). (log 38) -/
def EpochShadow.switch {α : Type} (p : EpochShadow α) : EpochShadow α :=
  match p.joined with
  | some v => { p with cur := v, joined := none }
  | none => p

/-- A run ends without its switch: what it carried waits again unless a later value does. (log 38) -/
def EpochShadow.unjoin {α : Type} (p : EpochShadow α) : EpochShadow α :=
  { p with joined := none, wait := match p.wait with | some v => some v | none => p.joined }

/-- A stop, a start or a reset makes a pending value the value in force (R18). -/
def EpochShadow.settle {α : Type} (p : EpochShadow α) : EpochShadow α :=
  { cur := match p.wait with | some v => v | none => match p.joined with | some v => v | none => p.cur }

/-- The pending value a read returns (R17). -/
def EpochShadow.pending {α : Type} (p : EpochShadow α) : Option α := match p.wait with | some v => some v | none => p.joined

/-- A write with its effective boundary (R15, R16): it displaces the pending values whose boundary is not an earlier one. (log 38) -/
def CycleShadow.write {α : Type} (p : CycleShadow α) (boundary : Nat) (v : α) : CycleShadow α :=
  { p with pending := (p.pending.filter fun x => decide (x.1 < boundary)) ++ [(boundary, v)] }

/-- The latest pending value. -/
def CycleShadow.latest {α : Type} (p : CycleShadow α) : Option α := p.pending.getLast?.map (·.2)

/-- A pending value's boundary has come. -/
def CycleShadow.due {α : Type} (p : CycleShadow α) (boundary : Nat) : Bool := p.pending.any fun x => decide (x.1 ≤ boundary)

/-- A cycle boundary: a pending value whose boundary has come is in force (R15). (log 38) -/
def CycleShadow.tick {α : Type} (p : CycleShadow α) (boundary : Nat) : CycleShadow α :=
  { cur := match (p.pending.filter fun x => decide (x.1 ≤ boundary)).getLast? with | some (_, v) => v | none => p.cur
    pending := p.pending.filter fun x => decide (boundary < x.1) }

/-- A stop or a reset makes the latest pending value the value in force (R18). (log 38) -/
def CycleShadow.settle {α : Type} (p : CycleShadow α) : CycleShadow α := { cur := p.latest.getD p.cur }

/-- The latest pending value if one exists, else the value in force (R17). (log 38) -/
def CycleShadow.read {α : Type} (p : CycleShadow α) : α := p.latest.getD p.cur

end Sys2Proof.Machine
end

