-- ==== Sys2Proof/Machine/Directory.lean ====
section
/-! DEFINITION. Train model and the directory (R41–R65): the snapshot's layout, lookups, address descriptors, and opcodes 0x0100–0x0107. -/
namespace Sys2Proof.Machine
open Host (Outcome)

/-! The snapshot's layout (R56). -/

def NodeEntry.flags (n : NodeEntry) : Nat :=
  n.nodeIndex % 4 * 512 + b2n n.timeValid * 256 + b2n n.orientConflict * 128 + b2n n.identConflict * 64 + b2n n.unconfigured * 32 +
  b2n n.gateway * 16 + b2n n.leader * 8 + b2n n.unreachable * 4 + b2n n.dark * 2 + n.orientation % 2

def NodeEntry.bytes (n : NodeEntry) : Bytes :=
  le 8 n.identity ++ le 2 (n.number % 4096) ++ le 2 n.position ++ le 2 n.segment ++ le 2 n.flags ++ le 1 n.frontLinks ++ le 1 n.rearLinks ++
  le 2 n.functionCode ++ le 4 n.delayHigher ++ le 4 n.darkSince ++ zeros 4

def NodeEntry.parse (b : Bytes) : NodeEntry :=
  let f := u16 b 14
  { identity := u64 b 0, number := u16 b 8 % 4096, position := u16 b 10, segment := u16 b 12, nodeIndex := bits f 10 9,
    timeValid := f.testBit 8, orientConflict := f.testBit 7, identConflict := f.testBit 6, unconfigured := f.testBit 5, gateway := f.testBit 4,
    leader := f.testBit 3, unreachable := f.testBit 2, dark := f.testBit 1, orientation := f % 2, frontLinks := u8 b 16, rearLinks := u8 b 17,
    functionCode := u16 b 18, delayHigher := u32 b 20, darkSince := u32 b 24 }

def VehicleEntry.bytes (v : VehicleEntry) : Bytes :=
  le 8 v.identity ++ le 2 v.position ++ le 2 v.consist ++ le 2 v.index ++
  le 2 (v.orientation % 2 + b2n v.twoNodes * 2 + b2n v.allDark * 4 + b2n v.unreachable * 8) ++ le 2 v.firstNode ++ le 1 v.nodes ++ zeros 1 ++
  le 2 v.gateway ++ le 2 v.vclass ++ zeros 8

def VehicleEntry.parse (b : Bytes) : VehicleEntry :=
  let f := u16 b 14
  { identity := u64 b 0, position := u16 b 8, consist := u16 b 10, index := u16 b 12, orientation := f % 2, twoNodes := f.testBit 1,
    allDark := f.testBit 2, unreachable := f.testBit 3, firstNode := u16 b 16, nodes := u8 b 18, gateway := u16 b 20, vclass := u16 b 22 }

def ConsistEntry.bytes (v : ConsistEntry) : Bytes :=
  le 8 v.identity ++ le 2 v.number ++ le 2 v.firstPosition ++ le 2 v.vehicles ++ le 2 (v.orientation % 2 + b2n v.notContiguous * 2 + b2n v.indexConflict * 4)

def ConsistEntry.parse (b : Bytes) : ConsistEntry :=
  let f := u16 b 14
  { identity := u64 b 0, number := u16 b 8, firstPosition := u16 b 10, vehicles := u16 b 12, orientation := f % 2,
    notContiguous := f.testBit 1, indexConflict := f.testBit 2 }

def SegmentEntry.bytes (g : SegmentEntry) : Bytes :=
  le 2 g.number ++ le 2 g.first ++ le 2 g.last ++ le 1 g.line ++ le 1 (b2n g.holdsLeader + b2n g.unreachable * 2) ++ zeros 8

def SegmentEntry.parse (b : Bytes) : SegmentEntry :=
  let f := u8 b 7
  { number := u16 b 0, first := u16 b 2, last := u16 b 4, line := u8 b 6, holdsLeader := f.testBit 0, unreachable := f.testBit 1 }

def Snapshot.totalSize (s : Snapshot) : Nat := 64 + 32 * s.nodes.length + 32 * s.vehicles.length + 16 * s.consists.length + 16 * s.segments.length

/-- The snapshot with its check field 0. -/
def Snapshot.body (s : Snapshot) : Bytes :=
  let nv := 64 + 32 * s.nodes.length
  let nc := nv + 32 * s.vehicles.length
  let ns := nc + 16 * s.consists.length
  le 2 1 ++ le 2 64 ++ le 4 s.epoch ++ le 4 s.generation ++ le 2 s.nodes.length ++ le 2 s.vehicles.length ++ le 2 s.consists.length ++
  le 2 s.segments.length ++ le 2 (s.leaderNode % 4096) ++ le 2 (b2n s.timeValid + b2n s.cabSet * 2) ++ le 8 s.leaderIdentity ++ le 8 s.effective ++
  le 4 64 ++ le 4 nv ++ le 4 nc ++ le 4 ns ++ le 4 s.totalSize ++ zeros 4 ++
  s.nodes.flatMap NodeEntry.bytes ++ s.vehicles.flatMap VehicleEntry.bytes ++ s.consists.flatMap ConsistEntry.bytes ++ s.segments.flatMap SegmentEntry.bytes

/-- CheckValue of R56. -/
def Snapshot.check (s : Snapshot) : Nat := crc32c s.body

/-- The snapshot's bytes, CheckValue included. -/
def Snapshot.bytes (s : Snapshot) : Bytes := splice s.body 0x3C (le 4 s.check)

/-- `n` entries of `size` bytes read from an offset. -/
def parseTable {α : Type} (f : Bytes → α) (b : Bytes) (off size n : Nat) : List α := (List.range n).map fun i => f (slice b (off + size * i) size)

/-- Bytes read as a snapshot: none when the format, a table's place, the size or CheckValue is wrong. -/
def Snapshot.parse (b : Bytes) : Option Snapshot :=
  let nn := u16 b 12
  let nv := u16 b 14
  let nc := u16 b 16
  let ns := u16 b 18
  let ov := 64 + 32 * nn
  let oc := ov + 32 * nv
  let og := oc + 16 * nc
  let total := og + 16 * ns
  if u16 b 0 = 1 ∧ u16 b 2 = 64 ∧ u32 b 0x28 = 64 ∧ u32 b 0x2C = ov ∧ u32 b 0x30 = oc ∧ u32 b 0x34 = og ∧ u32 b 0x38 = total ∧
     b.length = total ∧ imageCrc 0x3C b = u32 b 0x3C then
    some { epoch := u32 b 4, generation := u32 b 8, leaderNode := u16 b 20 % 4096, timeValid := (u16 b 22).testBit 0, cabSet := (u16 b 22).testBit 1,
           leaderIdentity := u64 b 24, effective := u64 b 32, nodes := parseTable NodeEntry.parse b 64 32 nn,
           vehicles := parseTable VehicleEntry.parse b ov 32 nv, consists := parseTable ConsistEntry.parse b oc 16 nc,
           segments := parseTable SegmentEntry.parse b og 16 ns }
  else none

/-! Lookups. -/

def Snapshot.node (s : Snapshot) (num : Nat) : Option NodeEntry := s.nodes.find? fun n => n.number == num
def Snapshot.byId (s : Snapshot) (id : Nat) : Option NodeEntry := s.nodes.find? fun n => n.identity == id
def Snapshot.vehicle (s : Snapshot) (pos : Nat) : Option VehicleEntry := s.vehicles.find? fun v => v.position == pos
/-- The vehicle of an identity; of several with one identity (R43) the first: a choice. (log 47) -/
def Snapshot.vehicleById (s : Snapshot) (id : Nat) : Option VehicleEntry := s.vehicles.find? fun v => v.identity == id
def Snapshot.segmentOf (s : Snapshot) (num : Nat) : Option SegmentEntry := s.segments.find? fun g => g.number == num

/-- The epoch in force; 0 before the first (R41). -/
def Chip.epoch (c : Chip) : Nat := match c.dir.inForce with | some s => s.epoch | none => 0
def Chip.generation (c : Chip) : Nat := match c.dir.inForce with | some s => s.generation | none => 0
/-- The epoch tag (R41). -/
def Chip.epochTag (c : Chip) : Nat := c.epoch % 256
/-- The node's own entry in the snapshot in force. -/
def Chip.ownNode (c : Chip) : Option NodeEntry := c.dir.inForce.bind fun s => s.byId c.fuses.identity
def Chip.ownNumber (c : Chip) : Nat := match c.ownNode with | some n => n.number | none => 0
def Chip.ownOrientation (c : Chip) : Nat := match c.ownNode with | some n => n.orientation | none => 0
def Chip.nodeCount (c : Chip) : Nat := match c.dir.inForce with | some s => s.nodes.length | none => 0
/-- This node leads in the snapshot in force. -/
def Chip.leads (c : Chip) : Bool := match c.dir.inForce with | some s => s.leaderIdentity == c.fuses.identity | none => false
/-- The active line named for the own segment (R51). -/
def Chip.namedLine (c : Chip) : Nat :=
  match c.dir.inForce, c.ownNode with
  | some s, some n => match s.segmentOf n.segment with | some g => g.line | none => 0
  | _, _ => 0

/-- The end leading towards a node number (R109): 0 front, 1 rear. -/
def Chip.endTowards (c : Chip) (num : Nat) : Nat :=
  let higher := decide (c.ownNumber < num)
  if higher then (if c.ownOrientation = 0 then 1 else 0) else (if c.ownOrientation = 0 then 0 else 1)

/-- The vehicle configuration in force: its fields, or the unconfigured defaults (R56 NodeFlags bit 5). -/
def Chip.vehicleId (c : Chip) : Nat := match c.dir.vehicle.cur with | some v => u64 v 0 | none => c.fuses.identity
def Chip.nodeIndex (c : Chip) : Nat := match c.dir.vehicle.cur with | some v => u8 v 0x12 | none => 1

/-! Address descriptors (R60, R61). -/

/-- Steps 5 of R355 for a descriptor at offset `o`. -/
def addrRsv (r : Bytes) (o : Nat) : List Check :=
  let k := u8 r o
  [enc (decide (k ≤ 4)) o, (if k = 1 ∨ k = 3 then none else rsv r (o + 1) 1), rsv r (o + 2) 2, (if k ≤ 1 then enc (isZero (slice r (o + 10) 6)) (o + 8) else rsv r (o + 4) 4),
   (if k = 4 then rsv r (o + 8) 8 else none)]

/-- Step 6 of R355 for a descriptor. -/
def addrRng (r : Bytes) (o : Nat) : List Check :=
  let k := u8 r o
  [rng (!(k == 1 || k == 3) || decide (u8 r (o + 1) ≤ 2)) (o + 1)]

/-- The node of a vehicle that a NodeIndex selects (R60, R139). -/
def Snapshot.selectNode (s : Snapshot) (v : VehicleEntry) (idx : Nat) : Option NodeEntry :=
  let mine := s.nodes.filter fun n => n.position == v.position
  if idx = 0 then
    match mine with
    | [n] => some n
    | _ => match mine.find? (fun n => n.number == v.gateway && v.gateway != 0) with
      | some n => some n
      | none => mine.find? fun n => n.nodeIndex == 1
  else mine.find? fun n => n.nodeIndex == idx

/-- What an address names in a snapshot: kind, node index, value (R60). -/
def Snapshot.find (s : Snapshot) (kind idx value : Nat) : Option NodeEntry :=
  match kind with
  | 0 => s.node value
  | 1 => (s.vehicle value).bind fun v => s.selectNode v idx
  | 2 => s.byId value
  | 3 => (s.vehicleById value).bind fun v => s.selectNode v idx
  | _ => none

/-- The fields of a descriptor at offset `o`. -/
structure Addr where
  kind : Nat
  index : Nat
  expected : Nat
  value : Nat
  deriving DecidableEq, Repr

def Addr.at (r : Bytes) (o : Nat) : Addr :=
  let k := u8 r o
  { kind := k, index := u8 r (o + 1), expected := u32 r (o + 4), value := if k ≤ 1 then u16 r (o + 8) else u64 r (o + 8) }

/-- All nodes: kind 0x04, or node number 0xFFF (R41, R109). -/
def Addr.isAll (a : Addr) : Bool := a.kind == 4 || (a.kind == 0 && a.value == 0xFFF)

/-- The epoch check of R61: status 0x0A. -/
def Chip.addrEpoch (c : Chip) (a : Addr) : Check := need (!(decide (a.kind ≤ 1) && a.expected != 0 && a.expected != c.epoch)) 0x0A

/-- The node an address names in the snapshot in force. (log 47) -/
def Chip.resolve (c : Chip) (a : Addr) : Option NodeEntry := c.dir.inForce.bind fun s => s.find a.kind a.index a.value

/-! Commands (R64). -/

def dirStatus : Cmd where
  form := noReq
  act c _ :=
    match c.dir.inForce with
    | none => c.ok (zeros 16 ++ le 8 c.fuses.identity ++ zeros 19 ++ le 1 (b2n (c.rc.state == .held) * 8))
    | some s =>
      let o := c.ownNode.getD {}
      c.ok (le 4 s.epoch ++ le 4 s.generation ++ le 8 s.effective ++ le 8 c.fuses.identity ++ le 2 o.number ++ le 2 o.position ++ le 2 o.segment ++
        le 2 s.leaderNode ++ le 8 s.leaderIdentity ++ le 2 s.nodes.length ++ le 1 c.namedLine ++
        le 1 (o.orientation % 2 + b2n c.leads * 2 + b2n (s.segments.any (·.unreachable)) * 4 + b2n (c.rc.state == .held) * 8))

/-- A handle not in use; which one is open (log 3). (log 16) -/
def freeHandle (pins : List Pin) (start : Nat) : Nat :=
  ((List.range 256).map fun i => (start + i) % 256).find? (fun h => pins.all fun p => p.handle != h) |>.getD 0

/-- See log 16. -/
def dirPin : Cmd where
  form := noReq
  state c _ := [need c.dir.inForce.isSome 0x06, need (decide (c.dir.pins.length < 4)) 0x08]
  act c _ :=
    match c.dir.inForce with
    | none => c.refuse 0x06
    | some s =>
      let (v, c) := c.draw
      let h := freeHandle c.dir.pins v
      let c := c.onDir fun d => { d with pins := d.pins ++ [{ handle := h, snap := s, lastUse := c.clk.now }] }
      c.ok (le 1 h ++ zeros 3 ++ le 4 s.epoch ++ le 4 s.generation ++ le 4 s.totalSize ++ le 2 (ceilDiv s.totalSize 480))

def Directory.pin (d : Directory) (h : Nat) : Option Pin := d.pins.find? fun p => p.handle == h

/-- See log 16. -/
def dirReadPage : Cmd where
  form _ r := [lenIs r 4, rsv r 1 1]
  state c r :=
    [need (c.dir.pin (u8 r 0)).isSome 0x07,
     match c.dir.pin (u8 r 0) with
     | some p => if u16 r 2 < ceilDiv p.snap.totalSize 480 then none else some (0x04, 2)
     | none => none]
  act c r :=
    match c.dir.pin (u8 r 0) with
    | none => c.refuse 0x07
    | some p =>
      let d := slice p.snap.bytes (480 * u16 r 2) 480
      let c := c.onDir fun dir => { dir with pins := dir.pins.map fun q => if q.handle = p.handle then { q with lastUse := c.clk.now } else q }
      c.ok (le 2 (u16 r 2) ++ le 2 d.length ++ le 4 p.snap.generation ++ d)

def dirUnpin : Cmd where
  form _ r := [lenIs r 4, rsv r 1 3]
  state c r := [need (c.dir.pin (u8 r 0)).isSome 0x07]
  act c r := (c.onDir fun d => { d with pins := d.pins.filter fun p => p.handle != u8 r 0 }).ok

/-- See log 17. -/
def dirCopy : Cmd where
  form _ r := [lenIs r 12]
  state c r :=
    [need c.dir.inForce.isSome 0x06,
     match c.dir.inForce with
     | some s => if s.totalSize ≤ u32 r 8 then none else some (0x04, 8)
     | none => none,
     need c.host.pcieUp 0x09]
  act c r :=
    match c.dir.inForce with
    | none => c.refuse 0x06
    | some s => c.copyOut 0x0104 2000000 (u64 r 0) s.bytes (le 4 s.epoch ++ le 4 s.generation ++ le 4 s.totalSize)

def dirResolve : Cmd where
  form _ r := [lenIs r 16, enc (u8 r 0 != 4) 0] ++ addrRsv r 0 ++ [enc (!(Addr.at r 0).isAll) 8] ++ addrRng r 0
  state c r := [need c.dir.inForce.isSome 0x0B, c.addrEpoch (Addr.at r 0), need (c.resolve (Addr.at r 0)).isSome 0x0B]
  act c r :=
    match c.dir.inForce, c.resolve (Addr.at r 0) with
    | some s, some n => c.ok (le 4 s.epoch ++ le 4 s.generation ++ n.bytes ++ ((s.vehicle n.position).getD {}).bytes)
    | _, _ => c.refuse 0x0B

/-- An identity in the range of R41. -/
def idOk (v : Nat) : Bool := decide (1 ≤ v ∧ v ≤ 0xFFFFFFFFFFFFFFFE)

def vehicleConfigSet : Cmd where
  form _ r :=
    [lenIs r 32, enc (decide (u8 r 0x13 < 2)) 0x13, rsv r 0x18 8, rng (idOk (u64 r 0)) 0, rng (idOk (u64 r 8)) 8,
     rng (decide (1 ≤ u16 r 0x10 ∧ u16 r 0x10 ≤ 4094)) 0x10, rng (u8 r 0x12 == 1 || u8 r 0x12 == 2) 0x12,
     rng (!(u8 r 0x12 == 2 && u8 r 0x13 == 0)) 0x12]
  state c _ := [need (c.rc.state != .reported && c.rc.state != .composing) 0x06]
  act c r :=
    let run := c.rolling
    (c.onDir fun d => { d with vehicle := d.vehicle.write run (some r) }).ok (le 4 c.epoch ++ le 1 (b2n (!run)) ++ zeros 3)

/-- VEHICLE_CONFIG_GET (R64): with no configuration in force, as with none pending, its 32 bytes read 0: a choice. (log 16) -/
def vehicleConfigGet : Cmd where
  form := noReq
  act c _ :=
    let p := (c.dir.vehicle.pending.getD none).getD (zeros 32)
    c.ok (le 1 (b2n c.dir.vehicle.pending.isSome) ++ zeros 3 ++ (c.dir.vehicle.cur.getD (zeros 32)) ++ p)

/-! Pins (R58). -/

/-- A pin unused for 2,000 ms is released, and EV004 raised. (log 16) -/
def pinExpiry (h : Nat) (c : Chip) : Chip :=
  match c.dir.pin h with
  | none => c
  | some p =>
    if p.lastUse + 2000000000 ≤ c.clk.now then
      (c.onDir fun d => { d with pins := d.pins.filter fun q => q.handle != h }).raise 4
    else c

end Sys2Proof.Machine
end

