-- ==== Sys2Proof/Machine/Windows.lean ====
section
/-! DEFINITION. The process-data schedule as every node computes it (R123–R128): slots, cycle lengths, protect windows and deferred slots. -/
namespace Sys2Proof.Machine

/-! Backbone ports. Port p of 0 to 3 is end p ÷ 2 (0 front, 1 rear), line p mod 2. -/

def Backbone.port (b : Backbone) (p : Nat) : BbPort := b.ports.getD p {}
def Backbone.isUp (b : Backbone) (p : Nat) : Bool := (b.port p).link == .up

/-! The schedule image (R123, R124). -/

def schedSlots (b : Bytes) : Nat := u16 b 0x0E
def schedSlot (b : Bytes) (i : Nat) : Bytes := slice b (64 + 32 * i) 32
/-- The cycle length L in ns (R123). -/
def cycleLen (code : Nat) : Nat := 250000 * 2 ^ code
def schedCycle (b : Bytes) : Nat := cycleLen (u8 b 0x0C)

/-- D of R127 in ns. -/
def slotWire (s : Bytes) : Nat := (58 + u16 s 6 + 8) * 8

/-! Protect windows (R127, R128). -/

/-- The live nodes from `a` to `b` by number, and the hop count and the delays between them in ps (R127). -/
def Snapshot.path (s : Snapshot) (a b : Nat) : Nat × Nat :=
  let live := s.nodes.filter fun n => !n.dark && decide (min a b ≤ n.number ∧ n.number < max a b)
  (live.length, live.foldl (fun acc n => acc + n.delayHigher) 0)

/-- The protect window of a slot on an end of node `num`, in ps from the cycle start: none when the telegram does not leave there (R109, R127). (log 46) -/
def Snapshot.window (s : Snapshot) (guard : Nat) (slot : Bytes) (num : Nat) (higher : Bool) : Option (Int × Int) :=
  match s.find 3 (u8 slot 0x10) (u64 slot 8) with
  | none => none
  | some src =>
    let away := if higher then decide (src.number ≤ num) else decide (num ≤ src.number)
    let dst := if u8 slot 0x11 = 4 then none else s.find (u8 slot 0x11) (u8 slot 0x12) (u64 slot 0x18)
    let beyond := if u8 slot 0x11 = 4 then true else match dst with | some d => (if higher then decide (num < d.number) else decide (d.number < num)) | none => false
    if away && beyond then
      let (h, d) := s.path src.number num
      let base : Int := u32 slot 0 * 1000000 + d
      some (base + 800000 * h - guard * 1000, base + 900000 * h + slotWire slot * 1000 + 100000)
    else none

/-- Two windows overlap modulo the cycle L (ps). (log 46) -/
def windowsClash (L : Int) (a b : Int × Int) : Bool :=
  [(-1 : Int), 0, 1].any fun k => decide (a.1 < b.2 + k * L ∧ b.1 + k * L < a.2)

/-- Two slots share cycles (R127). -/
def shareCycles (a b : Bytes) : Bool :=
  let m := 2 ^ min (u8 a 0x13) (u8 b 0x13)
  u8 a 0x14 % m == u8 b 0x14 % m

/-- The guard G in ns (R122). (log 46) -/
def Chip.guardNs (c : Chip) : Nat := if u8 c.bb.config 2 = 1 then 1200 else 16300

/-- The deferred slots of an image (R128): a slot that overlaps an earlier, undeferred one on some egress port of the train. -/
def Chip.deferred (c : Chip) (b : Bytes) : List Nat :=
  match c.dir.inForce with
  | none => []
  | some s =>
    let L : Int := schedCycle b * 1000
    let clash := fun (i j : Nat) =>
      shareCycles (schedSlot b i) (schedSlot b j) && s.nodes.any fun n => !n.dark && [true, false].any fun up =>
        match s.window c.guardNs (schedSlot b i) n.number up, s.window c.guardNs (schedSlot b j) n.number up with
        | some x, some y => windowsClash L x y
        | _, _ => false
    ((List.range (schedSlots b)).foldl (fun (acc : List Nat × List Nat) j =>
      if acc.1.any fun i => clash i j then (acc.1, acc.2 ++ [j]) else (acc.1 ++ [j], acc.2)) ([], [])).2

/-- A window `(lo, hi)` of some cycle in which the slot is due meets the span from `now` to `now + span`. -/
def dueAt (L per phase : Nat) (w : Int × Int) (now : Nat) (span : Nat := 0) : Bool :=
  let k := now / L
  [k - 1, k, k + 1].any fun c => c % per == phase && decide (w.1 ≤ (now : Int) + span - c * L ∧ (now : Int) - c * L ≤ w.2)

/-- How long after `now` a window that holds it ends. -/
def dueRest (L per phase : Nat) (w : Int × Int) (now : Nat) : Nat :=
  let k := now / L
  [k - 1, k, k + 1].foldl (fun (m c : Nat) =>
    let x : Int := (now : Int) - c * L
    if c % per = phase ∧ w.1 ≤ x ∧ x ≤ w.2 then max m ((w.2 - x).toNat + 1) else m) 0

/-- The guard G of an egress port (R122): by its preemption. (log 46) -/
def Chip.portGuard (c : Chip) (q : Nat) : Nat := if (c.bb.port q).preempt then 1200 else 16300

/-- The scheduled, undeferred slots of the image in force with their protect windows on egress port `q`. (log 45) -/
def Chip.windows (c : Chip) (q : Nat) : List (Bytes × Int × Int) :=
  match c.bb.image.cur, c.dir.inForce with
  | some b, some s =>
    if c.bb.schedState = .aligned ∨ c.bb.schedState = .holdover then
      let skip := c.deferred b
      let up := c.endTowards 0xFFF == q / 2
      (List.range (schedSlots b)).filterMap fun i =>
        if skip.contains i then none
        else (s.window (c.portGuard q) (schedSlot b i) c.ownNumber up).map fun w => (schedSlot b i, w)
    else []
  | _, _ => []

/-- The cycle length of the image in force, ps. -/
def Chip.cyclePs (c : Chip) : Nat := match c.bb.image.cur with | some b => schedCycle b * 1000 | none => 0

/-- The DataIds whose protect windows hold the instant, or open within `span` ps of it, on egress port `q`. (log 45) -/
def Chip.windowsNow (c : Chip) (q : Nat) (span : Nat := 0) : List Nat :=
  (c.windows q).filterMap fun x => if dueAt c.cyclePs (2 ^ u8 x.1 0x13) (u8 x.1 0x14) x.2 c.trainPs span then some (u16 x.1 4) else none

/-- Train time in ps from `now` on at which no window holds the port; fuel bounds the chain of windows that follow one another. -/
def clearFrom (L : Nat) (ws : List (Bytes × Int × Int)) : Nat → Nat → Nat
  | 0, now => now
  | k + 1, now =>
    let r := ws.foldl (fun m x => max m (dueRest L (2 ^ u8 x.1 0x13) (u8 x.1 0x14) x.2 now)) 0
    if r = 0 then now else clearFrom L ws k (now + r)

/-- How long protect windows hold egress port `q` from now on, ns rounded up (R127, R154). -/
def Chip.windowWait (c : Chip) (q : Nat) : Nat :=
  let ws := c.windows q
  ceilDiv (clearFrom c.cyclePs ws (ws.length + 1) c.trainPs - c.trainPs) 1000

end Sys2Proof.Machine
end

