-- ==== Sys2Proof/Machine/Telegram.lean ====
section
/-! DEFINITION. The backbone frame and header (R103–R108), the stream table (R117), the ports and ends, and the roll-call telegram (R73–R76). -/
namespace Sys2Proof.Machine

/-! Ports and ends. -/

def Chip.onPort (c : Chip) (p : Nat) (f : BbPort → BbPort) : Chip := c.onBb fun b => { b with ports := updAt b.ports p f }
/-- Count on a backbone port (R146). -/
def Chip.bbCountBy (c : Chip) (p i n : Nat) : Chip := c.onPort p fun q => { q with counters := bumpBy q.counters i n }
def Chip.bbCount (c : Chip) (p i : Nat) : Chip := c.bbCountBy p i 1

/-- The ports of an end whose link is up. -/
def Chip.upPorts (c : Chip) (e : Nat) : List Nat := [2 * e, 2 * e + 1].filter c.bb.isUp
def Chip.endUp (c : Chip) (e : Nat) : Bool := !(c.upPorts e).isEmpty

/-- The links of an end in the layout of FrontLinks (R56). -/
def Chip.links (c : Chip) (e : Nat) : Nat :=
  b2n (c.bb.isUp (2 * e)) + b2n (c.bb.isUp (2 * e + 1)) * 2 + b2n ((c.bb.port (2 * e)).bridged || (c.bb.port (2 * e + 1)).bridged) * 4

/-- The measured link delay of a port in ps (R152): the mean of its accepted samples, or, while a new burst has given none, the value last reported (log 10). -/
def HopTile.delay (h : HopTile) : Nat := if h.samples = [] then h.reported.getD 0 else h.samples.foldl (· + ·) 0 / h.samples.length
/-- See log 10. -/
def Chip.linkDelayPs (c : Chip) (p : Nat) : Nat := (c.time.tiles.getD p {}).delay
def Chip.linkDelay (c : Chip) (p : Nat) : Nat := c.linkDelayPs p / 1000

/-! The backbone header (R105). -/

structure Telegram where
  type : Nat
  tc : Nat
  dstKind : Nat := 4
  dstIndex : Nat := 0
  dstValue : Nat := 0
  scheduled : Bool := false
  byPosition : Bool := false
  line : Nat := 0
  tag : Nat := 0
  srcNode : Nat := 0
  source : Nat := 0
  session : Nat := 0
  stream : Nat := 0
  sequence : Nat := 0
  selector : Nat := 0
  hop : Nat := 0
  payload : Bytes := []
  deriving DecidableEq, Repr

/-- See log 20. -/
def Telegram.control (t : Telegram) : Nat := b2n t.byPosition * 16 + b2n t.scheduled * 8 + t.line % 2 * 4 + t.tc % 4

/-- Header bytes 0x00 to 0x25, then HeaderCheck. -/
def Telegram.header (t : Telegram) : Bytes :=
  let h := be 1 2 ++ be 1 t.type ++ be 1 t.control ++ be 1 t.tag ++ be 1 t.dstKind ++ be 1 t.dstIndex ++ be 2 (t.srcNode % 4096) ++ be 8 t.dstValue ++
    be 8 t.source ++ be 2 t.session ++ be 2 t.stream ++ be 4 t.sequence ++ be 2 t.selector ++ be 2 t.payload.length ++ be 2 t.hop
  h ++ be 2 (crc16 h)

/-- The EtherType in force (R143). -/
def Chip.etherType (c : Chip) : Nat := u16 c.bb.config 0

/-- The Ethernet frame of a telegram (R103): addresses, EtherType, header, payload padded to 6 bytes, FCS. -/
def Telegram.frame (t : Telegram) (dst etherType : Nat) : Bytes :=
  let b := be 6 dst ++ be 1 2 ++ be 5 t.source ++ be 2 etherType ++ t.header ++ t.payload ++ zeros (6 - t.payload.length)
  b ++ le 4 (fcs b)

def Chip.frameOf (c : Chip) (t : Telegram) : Bytes := t.frame 0x035A4B000001 c.etherType

/-- The length of a telegram's frame, FCS included (R103). -/
def Telegram.frameLen (t : Telegram) : Nat := 58 + max 6 t.payload.length

/-- The time a frame of `n` bytes takes on the wire, preamble included, ns. -/
def wireNs (n : Nat) : Nat := (n + 8) * 8

/-- The egress port may start this telegram now (R120, R122, R127): outside every protect window, or inside its own slot's; a port without
preemption starts no preemptable frame that could not end before the next window opens. (log 45) -/
def Chip.clearOf (c : Chip) (q : Nat) (t : Telegram) : Bool :=
  let w := c.windowsNow q (if t.tc < 3 && !(c.bb.port q).preempt then wireNs t.frameLen * 1000 else 0)
  w.isEmpty || (t.type == 4 && w.contains t.selector)

/-- The outer header of a telegram of this origin that a node sends on (R105, R106): all but Line, HopCount and the checks as received. (log 7) -/
def Telegram.ofOuter (o : Outer) (type : Nat) (payload : Bytes := []) : Telegram :=
  { type := type, tc := 3, tag := o.tag, srcNode := o.node, source := o.source, session := o.session, stream := o.stream, sequence := o.sequence, hop := o.hop,
    payload := payload }

/-- The classes each type allows (R107). -/
def typeAllows (type tc : Nat) : Bool :=
  match type with
  | 1 | 2 | 3 | 4 | 8 => tc == 3
  | 5 | 7 => tc == 0 || tc == 1
  | 6 => tc == 2
  | _ => false

/-- Why a received frame is not a valid telegram (R104, R108). -/
inductive Discard where
  | fcs | header | foreign
  deriving DecidableEq, Repr

/-- A frame of an EtherType read as a telegram with the checks of R104 and R108 except the FCS. -/
def parseAs (etherType : Nat) (f : Bytes) : Except Discard Telegram :=
  let n := f.length - 4
  let b := f.take n
  let h := slice b 14 40
  let ctl := u8 h 2
  let len := bAt h 0x22 2
  if bAt b 12 2 ≠ etherType then .error .foreign
  else if u8 h 0 ≠ 2 ∨ crc16 (h.take 38) ≠ bAt h 0x26 2 ∨ ctl / 32 ≠ 0 ∨ bAt h 6 2 / 4096 ≠ 0 ∨ typeAllows (u8 h 1) (ctl % 4) = false ∨ n - 54 < len then .error .header
  else .ok
    { type := u8 h 1, tc := ctl % 4, dstKind := u8 h 4, dstIndex := u8 h 5, dstValue := bAt h 8 8, scheduled := ctl.testBit 3, byPosition := ctl.testBit 4,
      line := bits ctl 2 2, tag := u8 h 3, srcNode := bAt h 6 2 % 4096, source := bAt h 16 8, session := bAt h 24 2, stream := bAt h 26 2,
      sequence := bAt h 28 4, selector := bAt h 32 2, hop := bAt h 36 2, payload := slice b 54 len }

def Chip.parseBody (c : Chip) (f : Bytes) : Except Discard Telegram := parseAs c.etherType f

/-- The FCS of a received frame is good (R103, R108). -/
def fcsGood (f : Bytes) : Bool := decide (fcs (f.take (f.length - 4)) = leNat (f.drop (f.length - 4)))

/-- A received frame read as a telegram, with the checks of R104 and R108. -/
def Chip.parseFrame (c : Chip) (f : Bytes) : Except Discard Telegram :=
  if f.length < 64 ∨ !fcsGood f then .error .fcs else c.parseBody f

/-! Streams (R117, R118). -/

/-- Tc2Residence and Tc10Residence in ns, and the residence limit of a class (R110). (log 8) -/
def Chip.residence (c : Chip) (tc : Nat) : Nat :=
  match tc with
  | 3 => 1000000
  | 2 => u16 c.bb.config 6 * 1000000
  | _ => u16 c.bb.config 8 * 1000000

/-- The age-out of a duplicate-discard entry (R118). -/
def Chip.dupAge (c : Chip) : Nat := 1000000000 + c.nodeCount * c.residence 2

/-- The stream of a destination and class: its StreamId and next Sequence, or none when no entry can be reused. (log 43) -/
def Chip.takeSequence (c : Chip) (dstKind dstIndex dstValue tc : Nat) : Option (Nat × Nat × Chip) :=
  let ss := c.bb.streams
  let mine := fun (s : Stream) => s.dstKind == dstKind && s.dstIndex == dstIndex && s.dstValue == dstValue && s.tc == tc && !s.retired
  let fresh : Stream := { dstKind := dstKind, dstIndex := dstIndex, dstValue := dstValue, tc := tc, sequence := 1, lastUse := c.clk.now }
  match ss.findIdx? mine with
  | some i =>
    let q := (ss.getD i fresh).sequence
    some (i, q, c.onBb fun b => { b with streams := updAt ss i fun s => { s with sequence := (s.sequence + 1) % 4294967296, lastUse := c.clk.now } })
  | none =>
    if ss.length < 1024 then some (ss.length, 0, c.onBb fun b => { b with streams := ss ++ [fresh] })
    else match ss.findIdx? fun s => decide (s.lastUse + 2 * c.dupAge ≤ c.clk.now) with
      | some i =>
        let q := (ss.getD i fresh).sequence
        some (i, q, c.onBb fun b => { b with streams := ss.set i { fresh with sequence := (q + 1) % 4294967296 } })
      | none => none

/-- Fill in what the originating node writes (R105, R117). -/
def Chip.originate (c : Chip) (t : Telegram) : Option (Telegram × Chip) :=
  match c.takeSequence t.dstKind t.dstIndex t.dstValue t.tc with
  | none => none
  | some (id, q, c) => some ({ t with source := c.fuses.identity, session := c.boot.journal.session % 65536, tag := c.epochTag, srcNode := c.ownNumber,
                                      stream := id, sequence := q, hop := 0 }, c)

/-- A preemptable frame leaves the port: it is in transmission until it ends, or until a protect window that opens before preempts it (R127, R146). (log 45) -/
def Chip.sendsLow (c : Chip) (p n : Nat) : Chip :=
  if (c.bb.port p).preempt && !(c.windowsNow p (wireNs n * 1000)).isEmpty then ((c.onPort p fun q => { q with lowUntil := 0 }).bbCount p bbPreempted).macCount p macTxFragments
  else c.onPort p fun q => { q with lowUntil := c.clk.now + wireNs n }

/-- An express frame preempts the preemptable frame in transmission (R122, R146). (log 45) -/
def Chip.preempts (c : Chip) (p : Nat) : Chip :=
  if (c.bb.port p).preempt && decide (c.clk.now < (c.bb.port p).lowUntil) then ((c.onPort p fun q => { q with lowUntil := 0 }).bbCount p bbPreempted).macCount p macTxFragments else c

/-- A frame leaves a backbone port. -/
def Chip.transmit (c : Chip) (p : Nat) (f : Bytes) : Chip :=
  ((c.onPort p fun q => { q with lastTx := c.clk.now, counters := bump q.counters bbSent }).macSent p f.length).emit (.frame p f)

/-- Send a frame on one backbone port: now, or, where a protect window holds the port, when the window is over (R127). (log 45) -/
def Chip.sendOn (c : Chip) (p : Nat) (t : Telegram) : Chip :=
  let f := c.frameOf { t with line := p % 2 }
  if c.bb.isUp p && !c.clearOf p t then c.onBb fun b => { b with held := b.held ++ [(p, f)] }
  else (if t.tc < 3 then c.sendsLow p f.length else c.preempts p).transmit p f

/-- The frames that waited for a protect window leave once it is over; those of a port that went down are lost. (log 45) -/
def Chip.releaseHeld (c : Chip) : Chip :=
  if c.bb.held = [] then c
  else
    let wait := fun (x : Nat × Bytes) => !(c.windowsNow x.1).isEmpty
    let go := c.bb.held.filter fun x => c.bb.isUp x.1 && !wait x
    go.foldl (fun c x => (c.preempts x.1).transmit x.1 x.2) (c.onBb fun b => { b with held := b.held.filter fun x => c.bb.isUp x.1 && wait x })

/-- Send a telegram on both lines of an end, on the links that are up. -/
def Chip.sendEnd (c : Chip) (e : Nat) (t : Telegram) : Chip := (c.upPorts e).foldl (fun c p => c.sendOn p t) c

/-! The roll-call telegram (R73–R76). -/

structure RcMsg where
  mtype : Nat
  rpt : Nat := 0
  hop : Nat := 0
  epoch : Nat := 0
  sender : Nat := 0
  origin : Nat := 0
  nonce : Nat := 0
  age : Nat := 0
  start : Nat := 0
  domain : Nat := 0
  flags : Nat := 0
  body : Bytes := []
  deriving DecidableEq, Repr

def RcMsg.bytes (m : RcMsg) : Bytes :=
  let b := be 1 m.mtype ++ be 1 2 ++ be 1 m.rpt ++ be 1 m.hop ++ be 4 m.epoch ++ be 8 m.sender ++ be 8 m.origin ++ be 4 m.nonce ++ be 4 m.age ++
    be 8 m.start ++ be 8 m.domain ++ be 2 m.flags ++ be 2 m.body.length ++ m.body
  b ++ be 4 (crc32c b)

/-- Body length and reserved bytes of each message type (R74, R75). -/
def rcBodyOk (mtype : Nat) (b : Bytes) : Bool :=
  let z := fun o n => isZero (slice b o n)
  match mtype with
  | 1 | 2 => b.length == 8 && z 7 1 && decide (bAt b 4 2 < 4096)
  | 3 => b.length == 16 && z 12 4
  | 4 => b.length == 48 && z 4 4 && z 0x22 6 && decide (u8 b 3 ≤ 1) && decide (u8 b 0x20 ≤ 1) && decide (u8 b 0x21 ≤ 3)
  | 5 => b.length == 64 && z 0x33 1 && z 0x3C 4 && decide (u8 b 0x22 ≤ 1) && decide (u8 b 0x23 < 32) && decide (u8 b 0x27 ≤ 2)
  | 6 => b.length == 72 && z 0x24 4 && decide (u8 b 0x1B < 8) && (u8 b 0x1A == 1 || u8 b 0x1A == 2)
  | 7 => decide (12 ≤ b.length) && z 10 2 && decide (bAt b 8 2 ≤ 1024) && b.length == 12 + bAt b 8 2
  | 8 => b.length == 8
  | 9 => b.length == 48
  | 10 => b.length == 16 && z 3 1 && decide (1 ≤ u8 b 0 ∧ u8 b 0 ≤ 4) && decide (u8 b 1 ≤ 1) && decide (u8 b 2 < 8)
  | _ => false

/-- A received roll-call telegram with the checks of R76. -/
def RcMsg.parse (b : Bytes) : Option RcMsg :=
  let n := bAt b 0x32 2
  let body := slice b 0x34 n
  if b.length = 0x34 + n + 4 ∧ crc32c (b.take (0x34 + n)) = bAt b (0x34 + n) 4 ∧ u8 b 1 = 2 ∧ u8 b 2 ≤ 1 ∧ bAt b 0x30 2 < 8 ∧ rcBodyOk (u8 b 0) body then
    some { mtype := u8 b 0, rpt := u8 b 2, hop := u8 b 3, epoch := bAt b 4 4, sender := bAt b 8 8, origin := bAt b 0x10 8, nonce := bAt b 0x18 4,
           age := bAt b 0x1C 4, start := bAt b 0x20 8, domain := bAt b 0x28 8, flags := bAt b 0x30 2, body := body }
  else none

/-- The second copy of a telegram, 20 µs later (R72): WaveAge, ANNOUNCE's Elapsed and a claim's age have grown by as much (R73, R75). (log 7) -/
def RcMsg.later (m : RcMsg) : RcMsg :=
  let grow := fun (b : Bytes) (o n : Nat) => splice b o (be n (min (256 ^ n - 1) (bAt b o n + 20000)))
  { m with rpt := 1, age := if m.origin = 0 then m.age else sat32 (m.age + 20000)
           body := if m.mtype = 6 then grow m.body 0x14 4
             else if m.mtype = 4 ∧ u8 m.body 0x21 = 2 then grow m.body 0x28 8
             else if m.mtype = 5 ∧ u8 m.body 0x27 ≠ 0 ∧ !(u8 m.body 0x23).testBit 4 then grow m.body 0x34 8 else m.body }

/-- A roll-call telegram with outer header `t` on an end: on both lines, twice, Repeat 0 then 1 (R72). (log 7) -/
def Chip.sendCopies (c : Chip) (e : Nat) (t : Telegram) (m : RcMsg) : Chip :=
  [{ m with rpt := 0 }, m.later].foldl (fun c m =>
    (c.upPorts e).foldl (fun c p => c.sendOn p { t with payload := RcMsg.bytes { m with sender := c.fuses.identity, flags := m.flags % 2 + e * 2 + p % 2 * 4 } }) c) c

/-- A roll-call telegram of this node (R73, R105). (log 7) -/
def Chip.sendRc (c : Chip) (e : Nat) (m : RcMsg) : Chip :=
  match c.draw.2.originate { type := 1, tc := 3 } with
  | none => c
  | some (t, c) => c.sendCopies e t m

/-- A roll-call telegram of another node re-sent on an end: the outer header stays its originating node's (R105, R106), and its
HopCount one more, unless that is 4,095 (R110): then the telegram is counted at its port of arrival `p`. (log 7) -/
def Chip.relayRc (c : Chip) (p : Nat) (o : Outer) (e : Nat) (m : RcMsg) : Chip :=
  if 4095 ≤ o.hop + 1 then c.bbCount p bbHopLimit else c.draw.2.sendCopies e { Telegram.ofOuter o 1 with hop := o.hop + 1 } m

/-- The header of a telegram outside a run (R73). -/
def Chip.rcPlain (c : Chip) (mtype : Nat) (body : Bytes) : RcMsg :=
  { mtype := mtype, epoch := c.epoch, domain := c.domain, body := body }

/-- The header of a telegram of the node's run: its wave, aged to now (R73, R76). TimeDomain is 0 without valid train time; COUNT, REPORT and ANNOUNCE,
whose bodies hold train times of the sender, name its own domain, and the others the wave's (R75, R81); WaveStart is valid only in the domain named. (log 19) -/
def Chip.rcRun (c : Chip) (mtype : Nat) (body : Bytes) : RcMsg :=
  let w := c.rc.wave
  let dom := if c.timeValid && w.startValid && !(4 ≤ mtype && mtype ≤ 6) then w.domain else c.domain
  let valid := c.timeValid && w.startValid && w.domain == dom
  { c.rcPlain mtype body with
    origin := w.origin, nonce := w.nonce, age := sat32 ((c.clk.now : Int) - w.est).toNat, start := if valid then w.start else 0, domain := dom, flags := b2n valid }

/-- The residence time of what the node sends next, in ns: open up to the rule's bound, so a free value below it (log 8). (log 3) -/
def Chip.stay (c : Chip) (bound : Nat) : Nat := (Config.freeWord c.clk.fresh).toNat % (bound + 1)

/-- A re-originated copy (R76): HopCount + 1, WaveAge advanced by the delay of the arrival link and the residence time, at most 10 µs, of DIRSEG 15 µs (R74).
SenderEpoch stays the originating node's. (log 7) -/
def Chip.rcForward (c : Chip) (p : Nat) (m : RcMsg) : RcMsg :=
  { m with hop := min 255 (m.hop + 1), age := sat32 (m.age + c.linkDelay p + c.stay (if m.mtype = 7 then 15000 else 10000)) }

end Sys2Proof.Machine
end

