-- ==== Sys2Proof/Machine/Compose.lean ====
section
/-! DEFINITION. What the leader computes from the REPORTs of a run: numbers, vehicles, consists, the active line, the new epoch, NoSwitch
(R42–R45, R83–R85, R116), and the election key and the cab claims (R80, R81). -/
namespace Sys2Proof.Machine

/-! Election (R80). -/

structure Key where
  priority : Nat
  incumbent : Bool
  identity : Nat
  deriving DecidableEq, Repr

/-- `a` is the higher key. -/
def Key.higher (a b : Key) : Bool :=
  if a.priority ≠ b.priority then decide (b.priority < a.priority)
  else if a.incumbent ≠ b.incumbent then a.incumbent
  else decide (a.identity < b.identity)

def Key.best (a b : Key) : Key := if b.higher a then b else a

/-! Cab claims (R81). -/

/-- Claim `a` wins over claim `b`, judged on the node's own clock. -/
def CabClaim.wins (a b : CabClaim) : Bool :=
  if a.kind = 1 ∧ b.kind = 1 ∧ a.domain = b.domain ∧ a.time ≠ b.time then decide (a.time < b.time)
  else match a.placed, b.placed with
    | some x, some y =>
      if ¬(a.kind = 1 ∧ b.kind = 1 ∧ a.domain = b.domain) ∧ 1000 ≤ (x - y).natAbs then decide (x < y) else decide (a.node < b.node)
    | _, _ => decide (a.node < b.node)

def bestClaim : Option CabClaim → Option CabClaim → Option CabClaim
  | none, b => b
  | a, none => a
  | some a, some b => if b.wins a then some b else some a

/-- The leading end is E2 (R81): `cab` the winning claim, `order` every participant's report. (log 18) -/
def leadsE2 (reports : List Report) (leader : Nat) (cab : Option CabClaim) : Bool :=
  let towards := fun (id : Nat) => ((reports.find? fun r => r.identity == id).getD {}).towardsE1
  let lead := (reports.find? fun r => r.identity == leader).getD {}
  match cab with
  | some k => k.toRear != towards k.node
  | none => if lead.flags.testBit 2 then lead.prevOrientation % 2 != lead.towardsE1 else 0 != lead.towardsE1

/-! Composition (R42–R45, R83). -/

/-- See log 77. -/
def Report.configured (r : Report) : Bool := !r.flags.testBit 0
def Report.vehicleId (r : Report) : Nat := if r.configured then u64 r.config 0 else r.identity
def Report.consistId (r : Report) : Nat := if r.configured then u64 r.config 8 else r.identity
def Report.indexInConsist (r : Report) : Nat := if r.configured then u16 r.config 0x10 else 1
def Report.nodeIndex (r : Report) : Nat := if r.configured then u8 r.config 0x12 else 1
def Report.twoNodes (r : Report) : Bool := r.configured && (u8 r.config 0x13).testBit 0

/-- The report at chain index `i` (from 0, leading end first) stands in an identity conflict (R43). (log 18, log 77) -/
def identConflict (order : List Report) (i : Nat) : Bool :=
  let r := order.getD i {}
  let same := (List.range order.length).filter fun j => (order.getD j {}).vehicleId == r.vehicleId
  match same with
  | [_] => false
  | [a, b] =>
    let x := order.getD a {}
    let y := order.getD b {}
    b != a + 1 || x.nodeIndex == y.nodeIndex || !x.twoNodes || !y.twoNodes
  | _ => true

/-- Chain index `i` is the second node of the vehicle that index `i − 1` begins (R43). (log 18) -/
def secondOfVehicle (order : List Report) (i : Nat) : Bool :=
  decide (0 < i) && (order.getD (i - 1) {}).vehicleId == (order.getD i {}).vehicleId && !identConflict order i

/-- Vehicle position of chain index `i` (R42). (log 77) -/
def positionOf (order : List Report) (i : Nat) : Nat := ((List.range (i + 1)).filter fun j => !secondOfVehicle order j).length

/-- The node entry of chain index `i` (R56, R83). -/
def composeNode (order : List Report) (leadE2 : Bool) (leader : Nat) (i : Nat) : NodeEntry :=
  let r := order.getD i {}
  let pairMate : Option Nat := if secondOfVehicle order i then some (i - 1) else if secondOfVehicle order (i + 1) && decide (i + 1 < order.length) then some (i + 1) else none
  let orient := fun (x : Report) => if leadE2 then 1 - x.towardsE1 % 2 else x.towardsE1 % 2
  { identity := r.identity, number := i + 1, position := positionOf order i, segment := 1, nodeIndex := r.nodeIndex, timeValid := r.flags.testBit 4
    orientConflict := match pairMate with | some j => orient (order.getD j {}) != orient r | none => false
    identConflict := identConflict order i, unconfigured := !r.configured, leader := r.identity == leader, orientation := orient r
    frontLinks := r.frontLinks, rearLinks := r.rearLinks, functionCode := if r.configured then u16 r.config 0x14 else 0
    delayHigher := if leadE2 then (if i + 1 < order.length then (order.getD (i + 1) {}).delayE2 else 0) else r.delayE2 }

/-- The vehicle entry that chain index `i` begins (R44, R56). Where the two nodes of a vehicle give different consist identities, IndexInConsist or
VehicleClass, those of node index 1 count: DESIGN CHOICE, R45 names none. (log 18) -/
def composeVehicle (order : List Report) (nodes : List NodeEntry) (i : Nat) : VehicleEntry :=
  let two := secondOfVehicle order (i + 1) && decide (i + 1 < order.length)
  let main := if two && (order.getD (i + 1) {}).nodeIndex == 1 then i + 1 else i
  let r := order.getD main {}
  { identity := r.vehicleId, position := positionOf order i, index := r.indexInConsist, orientation := (nodes.getD main {}).orientation
    twoNodes := two, firstNode := i + 1, nodes := if two then 2 else 1, vclass := if r.configured then u16 r.config 0x16 else 0 }

/-- Consist orientation of a run of vehicles in position order (R45). -/
def consistOrientation (vs : List VehicleEntry) : Nat :=
  let lo : Nat := vs.foldl (fun m v => min m v.index) 0xFFFF
  let hi : Nat := vs.foldl (fun m v => max m v.index) 0
  let first := (vs.find? fun v => v.index == lo).getD {}
  let last := (vs.reverse.find? fun v => v.index == hi).getD {}
  if lo = hi then (vs.headD {}).orientation else if first.position < last.position then 0 else 1

/-- Contiguous runs of one consist identity (R45), in position order. -/
def consistRuns (vs : List (Nat × VehicleEntry)) : List (Nat × List VehicleEntry) :=
  vs.foldr (fun x acc =>
    match acc with
    | (k, run) :: rest => if k = x.1 then (k, x.2 :: run) :: rest else (x.1, [x.2]) :: acc
    | [] => [(x.1, [x.2])]) []

def hasRepeat (l : List Nat) : Bool :=
  match l with
  | [] => false
  | a :: t => t.contains a || hasRepeat t

/-- Links of a line missing between the reported neighbours (R116): `order` leading end first. (log 9) -/
def linksDown (order : List Report) (leadE2 : Bool) (line : Nat) : Nat :=
  let bit := fun (r : Report) (rear : Bool) => ((if rear then r.rearLinks else r.frontLinks).testBit line)
  let n := order.length
  (List.range n).foldl (fun acc i =>
    let r := order.getD i {}
    let towardsHigherIsRear := (if leadE2 then 1 - r.towardsE1 % 2 else r.towardsE1 % 2) == 0
    acc + (if i + 1 < n ∧ !bit r towardsHigherIsRear then 1 else 0) + (if 0 < i ∧ !bit r (!towardsHigherIsRear) then 1 else 0)) 0

/-- The active line named at an epoch switch (R116); on a tie the preferred line (log 9). -/
def nameLine (order : List Report) (leadE2 : Bool) (preferred : Nat) : Nat :=
  let p := linksDown order leadE2 preferred
  let o := linksDown order leadE2 (1 - preferred)
  if p ≤ o then preferred else 1 - preferred

/-- The snapshot of a run (R42–R45, R83); EffectiveTime and the epoch are set by the caller. (log 77) -/
def compose (reports : List Report) (leader : Nat) (leadE2 cabSet timeValid : Bool) (line epoch generation : Nat) : Snapshot :=
  let n := reports.length
  let order := (List.range n).map fun i => (reports.find? fun r => r.index == (if leadE2 then n - i else i + 1)).getD {}
  let nodes := (List.range n).map (composeNode order leadE2 leader)
  let heads := (List.range n).filter fun i => !secondOfVehicle order i
  let vehicles := heads.map (composeVehicle order nodes)
  let keyed := heads.map fun i =>
    let v := composeVehicle order nodes i
    let main := if v.nodes = 2 && (order.getD (i + 1) {}).nodeIndex == 1 then i + 1 else i
    ((order.getD main {}).consistId, v)
  let runs := consistRuns keyed
  let consists := runs.mapIdx fun k (x : Nat × List VehicleEntry) =>
    ({ identity := x.1, number := k + 1, firstPosition := (x.2.headD {}).position, vehicles := x.2.length, orientation := consistOrientation x.2
       notContiguous := decide (1 < (runs.filter fun y => y.1 == x.1).length), indexConflict := hasRepeat (x.2.map (·.index)) } : ConsistEntry)
  let consistOf := fun (pos : Nat) => ((consists.find? fun k => decide (k.firstPosition ≤ pos ∧ pos < k.firstPosition + k.vehicles)).getD {}).number
  { epoch := epoch, generation := generation, leaderNode := ((nodes.find? fun e => e.identity == leader).getD {}).number
    timeValid := timeValid, cabSet := cabSet, leaderIdentity := leader, nodes := nodes
    vehicles := vehicles.map fun v => { v with consist := consistOf v.position }, consists := consists
    segments := [{ number := 1, first := 1, last := n, line := line, holdsLeader := true }] }

/-- The acting gateways of a snapshot that keeps every number (R56, R138): a run without a switch ends no gateway lease. -/
def Snapshot.keepGateways (s : Snapshot) (old : Option Snapshot) : Snapshot :=
  match old with
  | none => s
  | some o =>
    { s with nodes := s.nodes.map fun n => { n with gateway := match o.byId n.identity with | some x => x.gateway | none => false }
             vehicles := s.vehicles.map fun v => { v with gateway := match o.vehicle v.position with | some x => x.gateway | none => 0 } }

/-- NewEpoch and Quarantine (R84); 512 values above the highest take in every low byte, also across the wrap where 0 is skipped. -/
def chooseEpoch (epochs : List Nat) : Nat × Bool :=
  let hi := epochs.foldl max 0
  let used := epochs.map (· % 256)
  match (List.range 512).foldl (fun (acc : Nat × Option Nat) _ =>
      let v := next32 acc.1
      (v, match acc.2 with | some r => some r | none => if used.contains (v % 256) then none else some v)) (hi, none) with
  | (_, some v) => (v, false)
  | (_, none) => (next32 hi, true)

/-- Every participant keeps number, position, consist number and orientation (R85), and no numbered node leaves (R52): DEDUCED, since a change of the set
of numbered nodes is an epoch switch under R52, which R85's words on the participants alone would leave out. (log 18) -/
def unchanged (old : Option Snapshot) (new : Snapshot) (reports : List Report) : Bool :=
  match old with
  | none => false
  | some o =>
    o.nodes.length == new.nodes.length && reports.all (fun r => r.senderEpoch == o.epoch) &&
    new.nodes.all fun e =>
      match o.byId e.identity with
      | none => false
      | some x =>
        let consist := fun (s : Snapshot) (p : Nat) => ((s.vehicle p).getD {}).consist
        x.number == e.number && x.position == e.position && x.orientation == e.orientation && consist o x.position == consist new e.position

/-- Deputies (R97): the four highest keys after the leader among the deputy-eligible. -/
def chooseDeputies (reports : List Report) (leader : Nat) : List Nat :=
  let keys := (reports.filter fun r => r.flags.testBit 3 && r.identity != leader).map fun r => ({ priority := r.priority, incumbent := r.flags.testBit 2, identity := r.identity } : Key)
  let sorted := keys.foldl (fun acc k => (acc.takeWhile fun x => x.higher k) ++ [k] ++ acc.dropWhile fun x => x.higher k) []
  ((sorted.take 4).map (·.identity)) ++ List.replicate (4 - min 4 sorted.length) 0

/-- Lead (R86). -/
def leadNs (n : Nat) : Nat := 5000000 + 100000 * n

end Sys2Proof.Machine
end

