-- ==== Sys2Proof/Machine/Leases.lean ====
section
/-! DEFINITION. Leases (R132–R141), Saffron's state changes with their effects (R25, R150, R160, R165, R174), the schedule state (R129), and putting a
snapshot in force (R46, R54, R65, R114, R135). -/
namespace Sys2Proof.Machine

/-! LEASE telegrams (R132). -/

structure LeaseMsg where
  role : Nat
  flags : Nat := 0
  priority : Nat := 0
  epoch : Nat := 0
  generation : Nat := 0
  scheduleId : Nat := 0
  holder : Nat := 0
  scope : Nat := 0
  start : Nat := 0
  expiry : Nat := 0
  grantor : Nat := 0
  age : Nat := 0
  gatewayPriority : Nat := 0
  tail : Bytes := zeros 3
  deriving DecidableEq, Repr

def LeaseMsg.timed (m : LeaseMsg) : Bool := m.flags.testBit 0
def LeaseMsg.release (m : LeaseMsg) : Bool := m.flags.testBit 1
def LeaseMsg.request (m : LeaseMsg) : Bool := m.flags.testBit 2
def LeaseMsg.noTime (m : LeaseMsg) : Bool := m.flags.testBit 3

def LeaseMsg.bytes (m : LeaseMsg) : Bytes :=
  be 1 m.role ++ be 1 m.flags ++ be 1 m.priority ++ zeros 1 ++ be 4 m.epoch ++ be 4 m.generation ++ be 4 m.scheduleId ++ be 8 m.holder ++ be 8 m.scope ++
  be 8 m.start ++ be 8 m.expiry ++ be 8 m.grantor ++ be 4 m.age ++ be 1 m.gatewayPriority ++ m.tail

def LeaseMsg.parse (b : Bytes) : Option LeaseMsg :=
  let role := u8 b 0
  if b.length = 64 ∧ 1 ≤ role ∧ role ≤ 3 ∧ u8 b 3 = 0 ∧ (role = 3 ∨ (u8 b 1 < 16 ∧ isZero (slice b 0x3D 3))) then
    some { role := role, flags := u8 b 1, priority := u8 b 2, epoch := bAt b 4 4, generation := bAt b 8 4, scheduleId := bAt b 12 4, holder := bAt b 0x10 8,
           scope := bAt b 0x18 8, start := bAt b 0x20 8, expiry := bAt b 0x28 8, grantor := bAt b 0x30 8, age := bAt b 0x38 4, gatewayPriority := u8 b 0x3C,
           tail := slice b 0x3D 3 }
  else none

/-- The schedule identity in force; 0 when none (R124). -/
def imageId (i : Option Bytes) : Nat := match i with | some b => u32 b 8 | none => 0
def Chip.leaderPriority (c : Chip) : Nat := u8 c.rc.config 0

/-- Send a LEASE telegram of this node on an end (R132). (log 20) -/
def Chip.sendLease (c : Chip) (e : Nat) (m : LeaseMsg) : Chip :=
  match c.draw.2.originate { type := 3, tc := 3 } with
  | none => c
  | some (t, c) => c.sendEnd e { t with payload := m.bytes }

/-- The lines of an end on which the copy of a dual-line telegram that arrived on port `p` goes out (R113): its own line, and the other where the other
line of the arrival end is down. -/
def Chip.linesFor (c : Chip) (p e : Nat) : List Nat :=
  let own := p % 2
  if c.bb.isUp (2 * (p / 2) + (1 - own)) then [2 * e + own] else [2 * e + own, 2 * e + (1 - own)]

/-- Send a copy out on each of these ports that is up; a port that is down counts it as no-egress on the arrival port (R113). -/
def Chip.copiesOut (c : Chip) (p : Nat) (ports : List Nat) (out : Chip → Nat → Chip) : Chip :=
  ports.foldl (fun c q => if c.bb.isUp q then out c q else c.bbCount p bbNoEgress) c

/-- Re-send a LEASE telegram that arrived on port `p` (R113, R132): each copy on its own line, with the outer header of its originating node and Age advanced.
(log 7) -/
def Chip.relayLease (c : Chip) (p : Nat) (o : Outer) (m : LeaseMsg) : Chip :=
  let t := { Telegram.ofOuter o 3 ({ m with age := sat32 (m.age + c.linkDelay p + c.stay 10000) } : LeaseMsg).bytes with hop := o.hop + 1 }
  if 4095 ≤ t.hop then c.bbCount p bbHopLimit else c.draw.2.copiesOut p (c.linesFor p (1 - p / 2)) fun c q => c.sendOn q t

/-- TREF_IN no longer serves: a locked reference is unlocked, with EV038 (R166). -/
def Chip.unlockRef (c : Chip) : Chip :=
  if c.time.refLocked then (c.onTime fun s => { s with refLocked := false, refGood := 0, refBad := 0, refLast := none }).raise 38 else c

/-- Flood a LEASE telegram outwards on both ends: the copies of one telegram, of one Sequence (R117, R132). -/
def Chip.floodLease (c : Chip) (m : LeaseMsg) : Chip :=
  match c.draw.2.originate { type := 3, tc := 3 } with
  | none => c
  | some (t, c) => (c.sendEnd 0 { t with payload := m.bytes }).sendEnd 1 { t with payload := m.bytes }

/-- The fields every LEASE telegram of this node carries. -/
def Chip.leaseMsg (c : Chip) (role flags : Nat) : LeaseMsg :=
  { role := role, flags := flags, priority := c.leaderPriority, epoch := c.epoch, generation := c.generation, scheduleId := imageId c.bb.image.cur,
    holder := c.fuses.identity, grantor := c.fuses.identity }

/-! Lease records (R133–R135). -/

/-- The clock a lease is read on: train time, or the local clock for an untimed one (R133). -/
def Chip.leaseNow (c : Chip) (l : Lease) : Nat := if l.timed then c.trainTime else c.clk.now

/-- A holder acts only within [StartTime + M, Expiry − M] on its own time (R134), and under a timed lease only with valid train time (R25). (log 48) -/
def Chip.acts (c : Chip) (l : Lease) : Bool :=
  let m := c.margin l.timed
  (c.timeValid || !l.timed) && decide (l.start + m ≤ c.leaseNow l ∧ c.leaseNow l + m ≤ l.expiry)

/-- This node is recorded as holder of the leader lease of its epoch. -/
def Chip.recordedLeader (c : Chip) : Bool :=
  match c.bb.leaderLease with
  | some l => l.holder == c.fuses.identity && l.epoch == c.epoch
  | none => false

/-- This node acts as leader now. (log 48) -/
def Chip.actsAsLeader (c : Chip) : Bool := c.recordedLeader && match c.bb.leaderLease with | some l => c.acts l | none => false

/-- The holder of the leader lease in the node's records; 0 when none. -/
def Chip.leaderHolder (c : Chip) : Nat := match c.bb.leaderLease with | some l => l.holder | none => 0

/-- The sender holds the leader lease of the epoch in force in this node's records now (R134): a lapsed lease counts for nothing. -/
def Chip.fromHolder (c : Chip) (id ago : Nat) : Bool :=
  match c.bb.leaderLease with
  | some l => id != 0 && l.holder == id && l.epoch == c.epoch && decide (c.leaseNow l ≤ l.expiry + ago)
  | none => false

/-- The Release of a leader lease that ends now (R132, R135): a train time, or an instant after issue for an untimed lease. (log 48) -/
def Chip.releaseMsg (c : Chip) (l : Lease) : LeaseMsg :=
  if l.timed then { c.leaseMsg 1 3 with start := l.start, expiry := c.trainTime } else c.leaseMsg 1 2

/-- A leader lease of this node as the LEASE telegram that renews it (R135): Expiry = sending time + 100 ms, StartTime unchanged. -/
def Chip.renewMsg (c : Chip) (l : Lease) : LeaseMsg :=
  if l.timed then { c.leaseMsg 1 1 with start := l.start, expiry := l.expiry } else { c.leaseMsg 1 0 with start := 0, expiry := l.expiry - c.clk.now }

/-- A leader lease from now on, of 100 ms (R136). -/
def Chip.newLease (c : Chip) (holder priority : Nat) : Lease :=
  let now := if c.timeValid then c.trainTime else c.clk.now
  { holder := holder, start := now, expiry := now + 100000000, epoch := c.epoch, timed := c.timeValid
    grantor := holder, grantorPriority := priority, generation := c.generation }

/-! Saffron's state (R150). -/

/-- Move the anchor to a local instant, so that a change of rate applies from there. -/
def Saffron.anchor (s : Saffron) (t : Nat) : Saffron := { s with anchorLocal := t, anchorFrac := s.frac t, past := (s.mark :: s.past).take 64 }

/-- The schedule state that the image and Saffron call for (R129). -/
def Chip.schedWanted (c : Chip) : SchedState :=
  if c.bb.image.cur = none then .none
  else if c.time.state = .holdover then .holdover
  else if c.timeValid then .aligned else .unaligned

/-- Follow R129; each change raises EV021. -/
def Chip.schedUpdate (c : Chip) : Chip :=
  let w := c.schedWanted
  if w = c.bb.schedState then c else (c.onBb fun b => { b with schedState := w }).raise 21

/-- The node takes part in its vehicle's gateway role (R138): a vehicle of two nodes and a GatewayPriority above 0. -/
def Chip.gatewayEligible (c : Chip) : Bool :=
  (match c.dir.vehicle.cur with | some v => (u8 v 0x13).testBit 0 | none => false) && u8 c.bb.config 4 != 0 && c.dir.inForce.isSome

/-- The gateway leases of this node are dropped; EV023 where it held one (R141). -/
def Chip.dropOwnGateways (c : Chip) : Chip :=
  if c.bb.gateways.any fun g => g.2.holder == c.fuses.identity then
    (c.onBb fun b => { b with gateways := b.gateways.filter fun g => g.2.holder != c.fuses.identity }).raise 23
  else c

/-- The node's own leases end when train time is lost (R25, R141): a Release for the leader role, a Request with NoTime for the gateway role of an eligible
node, EV023 for each lease. (log 48) -/
def Chip.leasesLost (c : Chip) : Chip :=
  let led := c.recordedLeader
  let c := match c.bb.leaderLease with
    | some l => if led then ((c.floodLease (c.releaseMsg l)).onBb fun b => { b with leaderLease := none }).raise 23 else c
    | none => c
  let c := c.dropOwnGateways.onBb fun b => { b with requests := b.requests.filter fun r => r.identity != c.fuses.identity }
  let lead := match c.dir.inForce with | some s => s.leaderNode | none => 0
  if !c.rolling || !c.gatewayEligible || led then c else c.sendLease (c.endTowards lead) { c.leaseMsg 2 12 with scope := c.vehicleId, grantor := 0 }

/-- A change of Saffron's state (R150): EV032, EV033 with R25 and R242 when train time is lost, EV034 when it is regained. (log 23) -/
def Chip.setTm (c : Chip) (st : TmState) : Chip :=
  if c.time.state = st then c
  else
    let was := c.timeValid
    let lost := was && (st == .free || st == .acquiring)
    let c := if lost then c.leasesLost else c
    let c := c.onTime fun s => { s.anchor c.clk.now with state := st, domain := if st = .free then 0 else s.domain, stepsRemoved := if st = .free then 0xFFFF else s.stepsRemoved }
    let c := c.raise 32
    let c := if lost then (c.onTime fun s => { s with counters := bump s.counters tmTimeLosses }).raise 33
      else if !was && (st == .locked || st == .grandmaster) then c.raise 34 else c
    let c := if lost then c.matricesFree else c
    c.schedUpdate

/-- The node becomes grandmaster (R153, R160): its own count, its own domain, no step. -/
def Chip.toGrandmaster (c : Chip) : Chip :=
  let dom := c.time.domain
  let c := (c.onTime fun s => { s.anchor c.clk.now with slewAdd := 0, slewUntil := 0, domain := c.fuses.identity, stepsRemoved := 0, hops := 0, errorBase := 0
                                                        gmOscillator := u8 s.config 0, gmRefLocked := s.refLocked }).setTm .grandmaster
  if dom ≠ c.fuses.identity then c.raise 36 else c

/-- Enter HOLDOVER (R163, R165): E0 at entry, the last rate estimate and no slew. -/
def Chip.toHoldover (c : Chip) (e0 : Nat) : Chip :=
  (c.onTime fun s => { s.anchor c.clk.now with slewAdd := 0, slewUntil := 0, holdE0 := e0, holdSince := c.clk.now, counters := bump s.counters tmHoldoverEntries }).setTm .holdover

/-- The own ScheduleId is held against the leader's (R125): EV020 when they come to differ. The leader's own is the leader's. -/
def Chip.schedJudge (c : Chip) : Chip :=
  let d := !c.recordedLeader && match c.bb.leaderScheduleId with | some i => i != imageId c.bb.image.cur | none => false
  let was := c.bb.differs
  let c := c.onBb fun b => { b with differs := d }
  if d && !was then c.raise 20 else c

/-- After a snapshot or an image comes into force: EV020 for deferred slots and for a ScheduleId that differs from the leader's (R125, R128). -/
def Chip.schedCheck (c : Chip) : Chip :=
  (match c.bb.image.cur with
   | none => c
   | some b => if c.deferred b = [] then c else c.raise 20).schedJudge

/-- Saffron follows the leader lease (R150, R165). -/
def Chip.timeRole (c : Chip) : Chip :=
  if c.recordedLeader then (if c.time.state = .grandmaster then c else c.toGrandmaster)
  else if c.time.state = .grandmaster then c.toHoldover 0 else c

/-! Egress lines (R114). -/

/-- The egress line an end must use now: the named line, or the other while the named line's link is down. (log 44) -/
def Chip.wantLine (c : Chip) (e : Nat) : Nat × Bool :=
  let n := c.namedLine
  let named := c.bb.port (2 * e + n)
  let other := c.bb.port (2 * e + 1 - n)
  let b := c.bb.ends.getD e {}
  if named.link ≠ .up then (if other.link = .up ∨ (b.fallback ∧ b.egress ≠ n) then (1 - n, true) else (n, false))
  else if b.fallback ∧ b.egress ≠ n ∧ c.clk.now < named.upSince + 1000000000 then (1 - n, true) else (n, false)

/-- Move the TC1 and TC0 entries of the old line to the head of the new line's queues (R115). -/
def Chip.moveEgress (c : Chip) (e old new : Nat) : Chip :=
  [0, 1].foldl (fun c tc =>
    let qo := 4 * (2 * e + old) + tc
    let qn := 4 * (2 * e + new) + tc
    c.onQm fun m =>
      let es := (m.queues.getD qo (resetQueue qo)).entries
      { m with queues := (updAt m.queues qo fun q => { q with entries := [] }) |> fun l => updAt l qn fun q => { q with entries := es ++ q.entries } }) c

/-- Apply R114 to an end: EV018 at the start and the end of a fallback. (log 44) -/
def Chip.egressUpdate (c : Chip) (e : Nat) : Chip :=
  let b := c.bb.ends.getD e {}
  let (line, fb) := c.wantLine e
  let c := if line ≠ b.egress then c.moveEgress e b.egress line else c
  let c := c.onBb fun x => { x with ends := updAt x.ends e fun y => { y with egress := line, fallback := fb } }
  if fb = b.fallback then c
  else
    let c := if fb then c.bbCount (2 * e + c.namedLine) bbFallbacks else c
    c.raisePort 18 (2 * e)

/-! Putting a snapshot in force (R54, R65). -/

/-- The events that a new snapshot's flags call for: EV001 a dark flag gained, EV002 lost, EV003 a segment's reach changed, EV005 an identity conflict that
the leader found (R43): in the snapshot of a run any, in another generation a new one. -/
def Chip.snapshotEvents (c : Chip) (old : Option Snapshot) (new : Snapshot) (run : Bool := false) : Chip :=
  let prev := fun (id : Nat) => match old with | some o => o.byId id | none => none
  let c := new.nodes.foldl (fun c e =>
    let was := match prev e.identity with | some p => p.dark | none => false
    if e.dark && !was then c.raiseD 1 7 e.number 0 else if !e.dark && was then c.raiseD 2 7 e.number 0 else c) c
  let reach := new.nodes.any fun e => match prev e.identity with | some p => p.unreachable != e.unreachable | none => e.unreachable
  let c := if reach then c.raise 3 else c
  if new.nodes.any (fun e => e.identConflict && (run || match prev e.identity with | some p => !p.identConflict | none => true)) then c.raise 5 else c

/-- Put a snapshot in force: EV000 (R54), the events of R65, the named lines (R114), the schedule identity check (R125). -/
def Chip.putInForce (c : Chip) (s : Snapshot) (run : Bool := false) : Chip :=
  let old := c.dir.inForce
  let c := c.onDir fun d => { d with inForce := some s, coming := d.coming.filter fun x => newer x.generation s.generation }
  let c := (c.raise 0).snapshotEvents old s run
  (c.egressUpdate 0).egressUpdate 1

/-- The elected leader's lease entered at the end of a run (R135): from I + M to I + 100 ms. An epoch switch also ends the gateway leases (R138). -/
def Chip.electedLease (c : Chip) (leader priority : Nat) (switched : Bool) : Chip :=
  let now := if c.timeValid then c.trainTime else c.clk.now
  let l : Lease := { holder := leader, start := now + c.margin c.timeValid, expiry := now + 100000000, epoch := c.epoch, timed := c.timeValid
                     grantor := leader, grantorPriority := priority, generation := c.generation }
  let own := c.fuses.identity
  let hadIt := match c.bb.leaderLease with | some x => x.holder == own | none => false
  let hadGateway := switched && c.bb.gateways.any fun g => g.2.holder == own
  let c := c.onBb fun b => { b with leaderLease := some l, evidence := false, unrecorded := []
                                    gateways := if switched then [] else b.gateways }
  let c := if hadIt then c.raise 23 else c
  let c := if hadGateway then c.raise 23 else c
  let c := if leader = own then c.raise 22 else c
  c.timeRole.schedJudge

/-! Duplicate discard (R118). -/

inductive DupVerdict where
  | accept (gap : Nat) | duplicate | late
  deriving DecidableEq, Repr

/-- The entry after a copy with sequence `s`, and the verdict. (log 43) -/
def DupEntry.judge (d : DupEntry) (s now : Nat) : DupVerdict × DupEntry :=
  let d := { d with lastUse := now }
  let ahead := (s + 4294967296 - d.highest) % 4294967296
  let behind := (d.highest + 4294967296 - s) % 4294967296
  if ahead ≠ 0 ∧ ahead ≤ 0x7FFFFFFF then
    let m : BitVec 64 := if ahead < 64 then d.map.shiftLeft ahead ||| BitVec.ofNat 64 (2 ^ (ahead - 1)) else if ahead = 64 then BitVec.ofNat 64 (2 ^ 63) else 0
    (.accept (ahead - 1), { d with highest := s, map := m })
  else if behind = 0 then (.duplicate, d)
  else if behind ≤ 64 ∧ d.map.getLsbD (behind - 1) then (.duplicate, d)
  else (.late, d)

/-- Judge a copy that arrived on port `p` (R118): the chip with its table and counters, and whether the telegram is delivered. (log 43) (log 20) -/
def Chip.dupCheck (c : Chip) (p : Nat) (t : Telegram) : Bool × Chip :=
  let mine := fun (d : DupEntry) => d.source == t.source && d.session == t.session && d.stream == t.stream && d.tc == t.tc
  let live := c.bb.dups.filter fun d => decide (c.clk.now < d.lastUse + c.dupAge)
  match live.find? mine with
  | some d =>
    let (v, d) := d.judge t.sequence c.clk.now
    let c := c.onBb fun b => { b with dups := d :: live.filter fun x => !mine x }
    match v with
    | .accept g => (true, if g = 0 then c else c.bbCountBy p bbGapSum g)
    | .duplicate => (false, c.bbCount p bbDuplicates)
    | .late => (false, c.bbCount p bbLate)
  | none =>
    if live.length < 4096 then
      (true, c.onBb fun b => { b with dups := { source := t.source, session := t.session, stream := t.stream, tc := t.tc, highest := t.sequence, map := 0, lastUse := c.clk.now } :: live })
    else
      let c := (c.onBb fun b => { b with dups := live }).raiseLimited 25 0 0xFFFF 0 1000000000
      (p % 2 == c.namedLine, c)

end Sys2Proof.Machine
end

