-- ==== Sys2Proof/Machine/Rollcall.lean ====
section
/-! DEFINITION. Roll-call (R66–R102): triggers, waves, counts, reports, composition, the announcement, beacons, notices and generations issued
outside a run (R46–R54), and opcodes 0x0110–0x0117. -/
namespace Sys2Proof.Machine
open Host (Outcome)

def RcState.code : RcState → Nat
  | .stopped => 0 | .uninaugurated => 1 | .settled => 2 | .held => 3 | .holdoff => 4 | .wave => 5 | .reported => 6 | .composing => 7 | .armed => 8

def Chip.rcCount (c : Chip) (i : Nat) : Chip := c.onRc fun r => { r with counters := bump r.counters i }

/-- A change of the engine's state; entering or leaving HELD raises EV013 (R102). -/
def Chip.setRc (c : Chip) (st : RcState) : Chip :=
  let was := c.rc.state
  let c := c.onRc fun r => { r with state := st }
  if (was = .held) ≠ (st = .held) then c.raise 13 else c

/-! Shadowed (epoch) values of every block (R19, R24, R82, R85). -/

def Chip.epochWaiting (c : Chip) : Bool := c.dir.vehicle.pending.isSome || c.bb.image.pending.isSome || c.rt.image.pending.isSome
def Chip.joinEpoch (c : Chip) : Chip :=
  ((c.onDir fun d => { d with vehicle := d.vehicle.join }).onBb fun b => { b with image := b.image.join }).onRt fun r => { r with image := r.image.join }
def Chip.unjoinEpoch (c : Chip) : Chip :=
  ((c.onDir fun d => { d with vehicle := d.vehicle.unjoin }).onBb fun b => { b with image := b.image.unjoin }).onRt fun r => { r with image := r.image.unjoin }

/-- A publish buffer under a new image: nothing staged or published; the Sequence goes on (R117, R131). -/
def PubSlot.renew (p : PubSlot) : PubSlot := { p with staging := [], publish := none }

/-- An image comes into force: its publish buffers start empty (R131). -/
def Backbone.switchImage (b : Backbone) : Backbone :=
  match b.image.joined with
  | some _ => { b with image := b.image.switch, pubs := b.pubs.map PubSlot.renew, recvs := [] }
  | none => b

/-- A stop or a start brings the waiting image into force (R18, R131). -/
def Backbone.settleImage (b : Backbone) : Backbone :=
  match b.image.pending with
  | some _ => { b with image := b.image.settle, pubs := b.pubs.map PubSlot.renew, recvs := [] }
  | none => b

/-- A stop or a start brings the waiting configurations of the event points into force (R18, R173). -/
def Saffron.settleCeps (s : Saffron) : Saffron := { s with ceps := s.ceps.map fun p => { p with config := p.config.settle } }

/-! Triggers (R66, R70). -/

/-- Start the hold-off of a run with this node as origin. -/
def Chip.toHoldoff (c : Chip) : Chip := (c.onRc fun r => { r with triggerAt := c.clk.now, heldTrigger := false }).setRc .holdoff

/-- A trigger; `link` is the end of its link, none for a request without one; `host` for ROLLCALL_RERUN. A link carries a telegram of the run once a START or
COUNT of it has been received there: DESIGN CHOICE, the node's own START sent there does not count. (log 19) -/
def Chip.trigger (c : Chip) (link : Option Nat) (host : Bool := false) : Chip :=
  if c.clove.state = .prepare then c
  else
    let carries := match link with | some e => (c.rc.ends.getD e {}).startSeen | none => false
    let c := if c.rc.state = .stopped then c else c.onRc fun r => { r with triggers := r.triggers + 1 }
    let hold := c.onRc fun r => { r with heldTrigger := true }
    match c.rc.state with
    | .stopped | .holdoff => c
    | .uninaugurated | .settled | .held => if c.clk.now < c.rc.barredUntil ∧ !host then c else c.toHoldoff
    | .wave => if host || carries then c else hold
    | .reported | .composing => if !host && carries then c else hold
    | .armed => hold

/-- The run is abandoned by this node: EV010, and a new run as origin (R83, R88, R89). -/
def Chip.abandonRun (c : Chip) : Chip := ((c.unjoinEpoch.rcCount rcAbandoned).raise 10).toHoldoff

/-! Claims and keys. -/

def Chip.ownKey (c : Chip) : Key := { priority := c.rc.priority, incumbent := c.rc.incumbent, identity := c.fuses.identity }

/-- The own standing claim as this node carries it (R81): train time while it holds valid train time, else an age. -/
def Chip.ownClaim (c : Chip) : Option CabClaim :=
  c.rc.cab.map fun k =>
    { node := c.fuses.identity, toRear := k.toRear, kind := if c.timeValid then 1 else 2
      time := if c.timeValid && k.domain == c.domain then k.trainTime else c.trainTime - (c.clk.now - k.localTime), domain := c.domain, placed := some (k.localTime : Int) }

/-- A claim placed on the own clock (R81). `delay` is that of the arrival link. (log 19) -/
def Chip.placeClaim (c : Chip) (kind time domain delay : Nat) : Option Int :=
  if kind = 2 then some ((c.clk.now : Int) - delay - time)
  else if kind = 1 ∧ c.timeValid ∧ domain = c.time.domain then some ((c.clk.now : Int) - ((c.trainTime : Int) - time))
  else none

/-- CabTimeKind and CabTime as this node sends a claim on (R81). -/
def Chip.claimForm (c : Chip) (k : CabClaim) : Nat × Nat :=
  match k.placed with
  | none => (3, 0)
  | some p =>
    if c.timeValid then (1, if k.kind = 1 ∧ k.domain = c.time.domain then k.time else ((c.trainTime : Int) - ((c.clk.now : Int) - p)).toNat)
    else (2, ((c.clk.now : Int) - p).toNat)

def Chip.countBody (c : Chip) (count : Nat) (k : Key) (endId : Nat) (cab : Option CabClaim) : Bytes :=
  let (kind, time, node, toRear) := match cab with
    | some x => let f := c.claimForm x; (f.1, f.2, x.node, x.toRear)
    | none => (0, 0, 0, 0)
  be 2 (min 4095 count) ++ be 1 k.priority ++ be 1 (b2n k.incumbent) ++ zeros 4 ++ be 8 k.identity ++ be 8 endId ++ be 8 node ++ be 1 toRear ++ be 1 kind ++
  zeros 6 ++ be 8 time

def Chip.readCount (c : Chip) (p : Nat) (m : RcMsg) : CountRec :=
  let b := m.body
  let kind := u8 b 0x21
  { count := bAt b 0 2, priority := u8 b 2, incumbent := u8 b 3 == 1, identity := bAt b 8 8, endIdentity := bAt b 0x10 8
    cab := if kind = 0 then none else some
      { node := bAt b 0x18 8, toRear := u8 b 0x20, kind := kind, time := bAt b 0x28 8, domain := m.domain
        placed := c.placeClaim kind (bAt b 0x28 8) m.domain (c.linkDelay p) } }

def CountRec.key (k : CountRec) : Key := { priority := k.priority, incumbent := k.incumbent, identity := k.identity }

/-! The facts of a run (R79) and the REPORT (R82). -/

/-- The measured delay of an end in ps (R56, R75): its named line's, or the other's while the named line's link is down; 0 with both down. (log 18) -/
def Chip.endDelayPs (c : Chip) (e : Nat) : Nat :=
  let p := 2 * e + c.namedLine
  let q := 2 * e + (1 - c.namedLine)
  if c.bb.isUp p then c.linkDelayPs p else if c.bb.isUp q then c.linkDelayPs q else 0

/-- The REPORT of this node (R75, R82). -/
def Chip.ownReport (c : Chip) (f : RunFacts) : Report :=
  let cfg := match c.dir.vehicle.pending with | some v => v | none => c.dir.vehicle.cur
  let e2 := 1 - f.endTowardsE1
  let outer := (c.rc.ends.getD e2 {}).outer
  { identity := c.fuses.identity, senderEpoch := c.epoch, config := cfg.getD (zeros 32), index := f.index, towardsE1 := f.endTowardsE1
    flags := b2n cfg.isNone + b2n c.epochWaiting * 2 + b2n c.rc.incumbent * 4 + (u8 c.rc.config 1 % 2) * 8 + b2n c.timeValid * 16
    frontLinks := c.links 0, rearLinks := c.links 1, priority := c.rc.priority
    cab := match c.rc.cab with | some k => k.toRear + 1 | none => 0
    generation := c.generation, delayE2 := if outer then 0 else c.endDelayPs e2, prevNode := c.ownNumber, prevOrientation := c.ownOrientation }

def Chip.reportBody (c : Chip) (r : Report) : Bytes :=
  let t := match c.ownClaim with | some k => (c.claimForm k).2 | none => 0
  padTo 32 r.config ++ be 2 r.index ++ be 1 r.towardsE1 ++ be 1 r.flags ++ be 1 r.frontLinks ++ be 1 r.rearLinks ++ be 1 r.priority ++ be 1 r.cab ++
  be 4 r.generation ++ be 4 r.delayE2 ++ be 2 r.prevNode ++ be 1 r.prevOrientation ++ zeros 1 ++ be 8 t ++ zeros 4

def readReport (src : Nat) (m : RcMsg) : Report :=
  let b := m.body
  { identity := src, senderEpoch := m.epoch, config := b.take 32, index := bAt b 0x20 2, towardsE1 := u8 b 0x22, flags := u8 b 0x23, frontLinks := u8 b 0x24
    rearLinks := u8 b 0x25, priority := u8 b 0x26, cab := u8 b 0x27, generation := bAt b 0x28 4, delayE2 := bAt b 0x2C 4, prevNode := bAt b 0x30 2
    prevOrientation := u8 b 0x32 }

/-- The facts of R79, once the COUNT of each inner side is held. -/
def Chip.runFacts (c : Chip) : Option RunFacts :=
  let side := fun (e : Nat) => let x := c.rc.ends.getD e {}; if x.outer then some none else x.count.map some
  match side 0, side 1 with
  | some a, some b =>
    let cnt : Option CountRec → Nat := fun x => match x with | some k => k.count | none => 0
    let eid : Option CountRec → Nat := fun x => match x with | some k => k.endIdentity | none => c.fuses.identity
    let key : Option CountRec → Key → Key := fun x k => match x with | some y => k.best y.key | none => k
    let lead := key b (key a c.ownKey)
    let cab : Option CountRec → Option CabClaim := fun x => match x with | some y => y.cab | none => none
    let e1 := if eid a ≤ eid b then 0 else 1
    some { n := cnt a + cnt b + 1, leader := lead.identity, leaderPriority := lead.priority
           towards := if lead.identity = c.fuses.identity then none
             else if (match a with | some y => y.identity == lead.identity | none => false) then some 0 else some 1
           e1 := if e1 = 0 then eid a else eid b, endTowardsE1 := e1, index := (if e1 = 0 then cnt a else cnt b) + 1
           cab := bestClaim (bestClaim c.ownClaim (cab a)) (cab b) }
  | _, _ => none

/-- Go on once R79 is known: report, compose, or give up a chain of more than 4,094 nodes: then SETTLED with a snapshot in force, else UNINAUGURATED, DESIGN
CHOICE, since R71 names no state. (log 19) -/
def Chip.know (c : Chip) : Chip :=
  if c.rc.state ≠ .wave ∨ c.rc.facts.isSome then c
  else match c.runFacts with
  | none => c
  | some f =>
    let c := c.onRc fun r => { r with facts := some f }
    if 4094 < f.n then
      let c := (c.unjoinEpoch.rcCount rcAbandoned).raise 12
      (c.onRc fun r => { r with barredUntil := c.clk.now + 10000000000, facts := none }).setRc (if c.dir.inForce.isSome then .settled else .uninaugurated)
    else
      let rep := c.ownReport f
      match f.towards with
      | none => (c.onRc fun r => { r with reports := [rep] }).setRc .composing
      | some e => (c.sendRc e (c.rcRun 5 (c.reportBody rep))).setRc .reported

/-! Waves (R77, R92, R93). -/

/-- The arriving wave beats the node's own (R92). -/
def Wave.beats (x y : Wave) : Bool :=
  if x.origin = y.origin then newer x.nonce y.nonce
  else if x.startValid && y.startValid && x.domain == y.domain then
    (if x.start ≠ y.start then decide (x.start < y.start) else decide (x.origin < y.origin))
  else if 1000 ≤ (x.est - y.est).natAbs then decide (x.est < y.est) else decide (x.origin < y.origin)

def Chip.readWave (c : Chip) (p : Nat) (m : RcMsg) : Wave :=
  { origin := m.origin, nonce := m.nonce, startValid := m.flags.testBit 0, start := m.start, domain := m.domain
    est := (c.clk.now : Int) - c.linkDelay p - m.age }

/-- An end becomes an outer end: COUNT goes out on the other end (R78). -/
def Chip.outerEnd (c : Chip) (e : Nat) : Chip :=
  if (c.rc.ends.getD e {}).outer then c
  else
    let c := c.onRc fun r => { r with ends := updAt r.ends e fun x => { x with outer := true } }
    let c := if (c.rc.ends.getD (1 - e) {}).outer then c
      else c.sendRc (1 - e) (c.rcRun 4 (c.countBody 1 c.ownKey c.fuses.identity c.ownClaim))
    c.know

/-- Join a wave (R77, R93): START on both ends, EV006; EV007 when the own origin wave was beaten. LeaderPriority is latched here (R101). A node that joins
another's wave counts LastRunDuration from here: DESIGN CHOICE, R100's trigger is the origin's. (log 19) -/
def Chip.joinWave (c : Chip) (w : Wave) (arrival : Option Nat) (hop : Nat) : Chip :=
  let inRun := c.rc.state == .wave || c.rc.state == .reported || c.rc.state == .composing
  let old := c.rc.wave
  let beaten := inRun && old.origin == c.fuses.identity && !(w.origin == old.origin)
  let sup := if inRun then (old.origin, old.nonce) else (0, 0)
  let c := if beaten then (c.rcCount rcBeaten).raise 7 else c
  let inc := c.actsAsLeader
  let c := (c.onRc fun r => { r with
    wave := w, incumbent := inc, priority := c.leaderPriority, facts := none, reports := [], announce := none, composed := none, segments := [], segmentCount := 0, incomplete := false
    ends := [0, 1].map fun e => { startSeen := arrival == some e, supersedes := if inRun then some sup else none }
    triggerAt := if inRun || r.state == .holdoff then r.triggerAt else c.clk.now }).setRc .wave
  let c := (c.rcCount rcJoined).raise 6
  let run := c.rcRun 3 (be 8 sup.1 ++ be 4 sup.2 ++ zeros 4)
  let m := { run with hop := hop, age := if arrival.isSome then sat32 (run.age + c.stay 10000) else run.age }
  let c := (c.sendRc 0 m).sendRc 1 m
  let c := if c.endUp 0 then c else c.outerEnd 0
  if c.endUp 1 then c else c.outerEnd 1

/-- HOLDOFF_EXPIRY (R77): 5 ms after the trigger the node starts a wave as origin. -/
def holdoffExpiry (c : Chip) : Chip :=
  if c.rc.state ≠ .holdoff then c
  else
    let n := next32 c.rc.nonce
    let c := c.onRc fun r => { r with nonce := n }
    c.joinWave { origin := c.fuses.identity, nonce := n, startValid := c.timeValid, start := c.trainTime, domain := c.domain, est := c.clk.now } none 0

/-- What two copies of a roll-call telegram share (R76): all but what relays change on the way. (log 20) -/
def RcMsg.norm (m : RcMsg) : Bytes :=
  RcMsg.bytes { m with rpt := 0, age := 0, flags := m.flags % 4
                       body := if m.mtype = 6 then splice m.body 0x14 (zeros 4) else if m.mtype = 4 then splice m.body 0x28 (zeros 8) else if m.mtype = 5 then splice m.body 0x34 (zeros 8) else m.body }

/-- The telegrams taken in the last 1 ms. (log 20) -/
def Chip.rcRecent (c : Chip) : List (Nat × Bytes × Nat) := c.rc.seen.filter fun x => decide (c.clk.now < x.2.2 + 1000000)

/-- A copy of this telegram has come in on the end within 1 ms (R76). (log 20) -/
def Chip.rcKnown (c : Chip) (p : Nat) (m : RcMsg) : Bool := c.rcRecent.any fun x => x.1 == p / 2 && x.2.1 == m.norm

/-- The telegram remembered (R76). (log 20) -/
def Chip.rcRemember (c : Chip) (p : Nat) (m : RcMsg) : Chip := c.onRc fun r => { r with seen := (p / 2, m.norm, c.clk.now) :: c.rcRecent.take 31 }

/-- A received roll-call telegram, taken once (R72, R76), its other copies counted as duplicates or late (R118): only while the engine runs and the port's
link is up. (log 20) -/
def Chip.rcTake (c : Chip) (p mtype : Nat) (src : Outer) (raw : Bytes) (k : Chip → RcMsg → Chip) : Chip :=
  if !c.rolling || !c.bb.isUp p then c
  else match RcMsg.parse raw with
  | none => c.rcCount rcDiscarded
  | some m =>
    if m.mtype ≠ mtype then c
    else
      let (first, c) := c.dupCheck p (Telegram.ofOuter src 1 raw)
      if !first || c.rcKnown p m then c else k (c.rcRemember p m) m

/-- A node in a run joins another wave (R92, R93): where the wave supersedes the node's own, unless the own one supersedes it and the sender has the
higher identity; else where it beats the own one. -/
def Chip.joinsWave (c : Chip) (e : Nat) (w : Wave) (m : RcMsg) : Bool :=
  let own := c.rc.wave
  if bAt m.body 0 8 != 0 && bAt m.body 0 8 == own.origin && bAt m.body 8 4 == own.nonce then
    (c.rc.ends.getD e {}).supersedes != some (w.origin, w.nonce) || decide (m.sender < c.fuses.identity)
  else w.beats own

/-- START_RX (R70, R77, R92, R93). -/
def startRx (p : Nat) (raw : Sourced) (c : Chip) : Chip :=
  c.rcTake p 3 raw.outer raw.bytes fun c m =>
    let e := p / 2
    let w := c.readWave p m
    let own := c.rc.wave
    let same := w.origin == own.origin && w.nonce == own.nonce
    let seen := c.onRc fun r => { r with ends := updAt r.ends e fun x => { x with startSeen := true } }
    match c.rc.state with
    | .stopped => c
    | .armed => if same then c else c.onRc fun r => { r with heldTrigger := true }
    | .uninaugurated | .settled | .held | .holdoff => c.joinWave w (some e) (min 255 (m.hop + 1))
    | .wave | .reported | .composing =>
      if same then seen
      else if c.joinsWave e w m then c.joinWave w (some e) (min 255 (m.hop + 1)) else c

/-- START_OUTER_TIMEOUT (R77): no START of the run on an end within 1 ms. -/
def startOuterTimeout (e : Nat) (c : Chip) : Chip :=
  if c.rc.state = .wave ∧ e < 2 ∧ !(c.rc.ends.getD e {}).startSeen then c.outerEnd e else c

/-- COUNT_RX (R78): recorded, merged with the own key and claim, sent on at the other end. (log 18) -/
def countRx (p : Nat) (raw : Sourced) (c : Chip) : Chip :=
  c.rcTake p 4 raw.outer raw.bytes fun c m =>
    if c.rc.state ≠ .wave ∨ m.origin ≠ c.rc.wave.origin ∨ m.nonce ≠ c.rc.wave.nonce then c
    else
      let e := p / 2
      let k := c.readCount p m
      let c := c.onRc fun r => { r with ends := updAt r.ends e fun x => { x with count := some k, startSeen := true } }
      let c := if (c.rc.ends.getD (1 - e) {}).outer then c
        else c.sendRc (1 - e) { c.rcRun 4 (c.countBody (k.count + 1) (c.ownKey.best k.key) k.endIdentity (bestClaim c.ownClaim k.cab)) with
          hop := min 255 (m.hop + 1), age := sat32 (m.age + c.linkDelay p + c.stay 10000) }
      c.know

/-- REPORT_RX (R82, R83): the leader records it, another node re-sends it towards the leader. -/
def reportRx (p : Nat) (src : Outer) (raw : Bytes) (c : Chip) : Chip :=
  c.rcTake p 5 src raw fun c m =>
    if m.origin ≠ c.rc.wave.origin ∨ m.nonce ≠ c.rc.wave.nonce then c
    else match c.rc.facts with
    | none => c
    | some f =>
      match f.towards with
      | some e => c.relayRc p src e (c.rcForward p m)
      | none =>
        let r := readReport src.source m
        if c.rc.state ≠ .composing ∨ r.index < 1 ∨ f.n < r.index then c
        else c.onRc fun x => { x with reports := x.reports.filter (fun y => y.index != r.index) ++ [r] }

/-- Every REPORT of the run is held (R83). -/
def Chip.reportsComplete (c : Chip) : Bool :=
  match c.rc.facts with
  | some f => (List.range f.n).all fun i => c.rc.reports.any fun r => r.index == i + 1
  | none => false

/-- REPORT_WAIT_TIMEOUT (R83): a missing index makes the leader abandon the run and start a fresh one. -/
def reportWaitTimeout (c : Chip) : Chip := if c.rc.state = .composing ∧ !c.reportsComplete then c.abandonRun else c

/-- A snapshot in DIRSEG telegrams outwards (R75, R88): the segments `first` to `first + count − 1`. -/
def Chip.sendSegments (c : Chip) (run : Bool) (s : Snapshot) (first count : Nat) : Chip :=
  let b := s.bytes
  let total := ceilDiv b.length 1024
  (List.range total).foldl (fun c i =>
    if first ≤ i ∧ i < first + count then
      let d := slice b (1024 * i) 1024
      let body := be 4 s.generation ++ be 2 i ++ be 2 total ++ be 2 d.length ++ zeros 2 ++ d
      let m := if run then c.rcRun 7 body else c.rcPlain 7 body
      (c.sendRc 0 m).sendRc 1 m
    else c) c

def announceBody (a : Announce) (elapsed : Nat) : Bytes :=
  be 4 a.newEpoch ++ be 4 a.newGeneration ++ be 8 a.switchInstant ++ be 4 a.lead ++ be 4 elapsed ++ be 2 a.nodeCount ++ be 1 a.leadingEnd ++
  be 1 (b2n a.noSwitch + b2n a.quarantine * 2 + b2n a.instantValid * 4) ++ be 4 a.size ++ be 4 a.check ++ zeros 4 ++
  (List.range 4).flatMap fun i => be 8 (a.deputies.getD i 0)

/-- The newest snapshot this node holds. -/
def Chip.newest (c : Chip) : Option Snapshot := match c.dir.coming.getLast? with | some s => some s | none => c.dir.inForce

/-- COMPOSITION_COMPLETE (R83–R88): the leader finishes the snapshot, sends ANNOUNCE and DIRSEG, and enters ARMED. ANNOUNCE's Lead runs to the rounded
instant (R75, R87). EV008 carries NoSwitch as its argument and NewEpoch as its detail: DESIGN CHOICE, R102 names no field. (log 18, log 40) -/
def compositionComplete (c : Chip) : Chip :=
  if c.rc.state ≠ .composing ∨ !c.reportsComplete then c
  else match c.rc.facts with
  | none => c
  | some f =>
    let reps := (List.range f.n).map fun i => (c.rc.reports.find? fun r => r.index == i + 1).getD {}
    let e2 := leadsE2 reps f.leader f.cab
    let order := if e2 then reps.reverse else reps
    let gens := reps.map (·.generation)
    let newest := gens.foldl laterGen (if c.dir.issued = 0 then c.generation else laterGen c.generation c.dir.issued)
    let gen := next32 newest
    let plan := compose reps f.leader e2 f.cab.isSome c.timeValid c.namedLine c.epoch gen
    let waits := reps.any (fun r => r.flags.testBit 1) || c.epochWaiting
    let noSwitch := unchanged c.dir.inForce plan reps && !waits
    let (ep, quar) := chooseEpoch (reps.map (·.senderEpoch))
    let line := if noSwitch then c.namedLine else nameLine order e2 (u8 c.bb.config 3 % 2)
    let instant := roundUp (c.trainTime + leadNs f.n) 250000
    let lead := if c.timeValid then instant - c.trainTime else leadNs f.n
    let plan := if noSwitch then plan.keepGateways c.newest else plan
    let snap := { plan with epoch := if noSwitch then c.epoch else ep, effective := if c.timeValid then instant else 0
                            segments := plan.segments.map fun g => { g with line := line } }
    let a : Announce :=
      { newEpoch := snap.epoch, newGeneration := gen, switchInstant := if c.timeValid then instant else 0, instantValid := c.timeValid, domain := c.domain
        lead := lead, nodeCount := f.n, leadingEnd := if e2 then 2 else 1, noSwitch := noSwitch, quarantine := !noSwitch && quar, size := snap.totalSize
        check := snap.check, deputies := chooseDeputies reps f.leader, leader := f.leader
        localInstant := c.clk.now + lead }
    let c := c.joinEpoch.onRc fun r => { r with announce := some a, composed := some snap }
    let m := c.rcRun 6 (announceBody a 0)
    let c := ((c.sendRc 0 m).sendRc 1 m).sendSegments true snap 0 65535
    (c.setRc .armed).raiseD 8 7 (b2n noSwitch) a.newEpoch

/-- ANNOUNCE_RX (R87, R135): from the elected leader of the run only; the node is armed for the switch instant and re-sends the telegram outwards. -/
def announceRx (p : Nat) (raw : Sourced) (c : Chip) : Chip :=
  c.rcTake p 6 raw.outer raw.bytes fun c m =>
    match c.rc.state, c.rc.facts with
    | .reported, some f =>
      if m.origin ≠ c.rc.wave.origin ∨ m.nonce ≠ c.rc.wave.nonce ∨ raw.outer.source ≠ f.leader then c
      else
        let b := m.body
        let el := bAt b 0x14 4
        let valid := (u8 b 0x1B).testBit 2
        let byTrain := valid && c.timeValid && m.domain == c.time.domain
        let inst := bAt b 8 8
        let a : Announce :=
          { newEpoch := bAt b 0 4, newGeneration := bAt b 4 4, switchInstant := inst, instantValid := valid, domain := m.domain, lead := bAt b 0x10 4
            nodeCount := bAt b 0x18 2, leadingEnd := u8 b 0x1A, noSwitch := (u8 b 0x1B).testBit 0, quarantine := (u8 b 0x1B).testBit 1, size := bAt b 0x1C 4
            check := bAt b 0x20 4, deputies := (List.range 4).map fun i => bAt b (0x28 + 8 * i) 8, leader := f.leader
            localInstant := if byTrain then c.clk.now + (inst - c.trainTime) else c.clk.now + bAt b 0x10 4 - el - c.linkDelay p }
        let c := c.joinEpoch.onRc fun r => { r with announce := some a, segments := [], segmentCount := 0, composed := none, incomplete := false }
        let fw := c.rcForward p { m with body := splice b 0x14 (be 4 (sat32 (el + c.linkDelay p + c.stay 10000))) }
        let c := c.relayRc p raw.outer (1 - p / 2) fw
        (c.setRc .armed).raiseD 8 7 (b2n a.noSwitch) a.newEpoch
    | _, _ => c

/-! Generations outside a run (R46–R54). -/

/-- A snapshot accepted outside a run comes into force at its effective instant, or at once where the node holds no valid train time in the sender's
TimeDomain or the instant has passed (R54). (log 19) -/
def Chip.acceptSnapshot (c : Chip) (s : Snapshot) : Chip :=
  if !c.timeValid || decide (s.effective ≤ c.trainTime) then c.putInForce s
  else c.onDir fun d => { d with coming := d.coming ++ [s] }

/-- An UNINAUGURATED node becomes SETTLED once the snapshot it accepted is in force (R68, R71). -/
def Chip.joinTrain (c : Chip) (s : Snapshot) : Chip := if c.rc.state = .uninaugurated ∧ c.dir.inForce = some s then c.setRc .settled else c

/-- SNAPSHOT_EFFECTIVE (R54): the next snapshot whose effective instant has come is put in force. -/
def snapshotEffective (c : Chip) : Chip :=
  match c.dir.coming with
  | [] => c
  | s :: rest => if s.effective ≤ c.trainTime ∨ !c.timeValid then ((c.onDir fun d => { d with coming := rest }).putInForce s).joinTrain s else c

/-- DelayTowardsHigher of the last live node is 0 (R56). -/
def Snapshot.endDelay (s : Snapshot) : Snapshot :=
  { s with nodes := s.nodes.map fun n => if n.dark || s.nodes.any (fun m => !m.dark && decide (n.number < m.number)) then n else { n with delayHigher := 0 } }

/-- The number of the generation that the leader issues next (R53): above the newest it holds, the last it issued, and that of the run it has composed. -/
def Chip.nextGeneration (c : Chip) (s : Snapshot) : Nat :=
  let g := if c.dir.issued = 0 then s.generation else laterGen s.generation c.dir.issued
  next32 (match c.rc.composed with | some x => laterGen g x.generation | none => g)

/-- The leader issues a new generation (R50, R53, R54): the newest snapshot changed by `f`, distributed outwards. It is newer than every generation of
this node, and than `over` where that is ahead of them (R140). -/
def Chip.issueOver (c : Chip) (gen : Option Nat) (f : Nat → Snapshot → Snapshot) : Chip :=
  match c.newest with
  | none => c
  | some s =>
    let g := match gen with | some o => laterGen (c.nextGeneration s) (next32 o) | none => c.nextGeneration s
    let c := c.onDir fun d => { d with issued := g }
    let s := { (f g s).endDelay with generation := g, timeValid := c.timeValid
                                     effective := if c.timeValid then roundUp (c.trainTime + 500000 + 50000 * s.nodes.length) 250000 else 0 }
    (c.acceptSnapshot s).sendSegments false s 0 65535

/-- See `Chip.issueOver`. -/
def Chip.issue (c : Chip) (f : Nat → Snapshot → Snapshot) : Chip := c.issueOver none f

/-- Segments from the unreachable flags (R48): runs of equal flags, dark nodes on the leader's side; each keeps the line its first node had. -/
def Snapshot.resegment (s : Snapshot) : Snapshot :=
  let starts := s.nodes.foldl (fun (acc : List (Nat × Nat × Bool × Nat)) n =>
    match acc with
    | (a, _, u, l) :: rest => if u = n.unreachable then (a, n.number, u, l) :: rest
        else (n.number, n.number, n.unreachable, ((s.segmentOf n.segment).getD {}).line) :: acc
    | [] => [(n.number, n.number, n.unreachable, ((s.segmentOf n.segment).getD {}).line)]) []
  let segs := starts.reverse.mapIdx fun i x =>
    ({ number := i + 1, first := x.1, last := x.2.1, line := x.2.2.2, holdsLeader := decide (x.1 ≤ s.leaderNode ∧ s.leaderNode ≤ x.2.1), unreachable := x.2.2.1 } : SegmentEntry)
  let segOf := fun (n : Nat) => ((segs.find? fun g => decide (g.first ≤ n ∧ n ≤ g.last)).getD {}).number
  let nodes := s.nodes.map fun n => { n with segment := segOf n.number }
  { s with segments := segs, nodes := nodes
           vehicles := s.vehicles.map fun v =>
             let mine := nodes.filter fun n => n.position == v.position
             { v with allDark := mine.all (·.dark), unreachable := mine.all (·.unreachable) } }

def Snapshot.onNode (s : Snapshot) (num : Nat) (f : NodeEntry → NodeEntry) : Snapshot :=
  { s with nodes := s.nodes.map fun n => if n.number = num then f n else n }

/-- The node number next to `num` along its end `e` (R109). -/
def neighbourNumber (n : NodeEntry) (e : Nat) : Nat :=
  if (e = 1) = (n.orientation = 0) then n.number + 1 else n.number - 1

/-- The next live node from `num` along an end, counting past dark entries; fuel bounds the walk. -/
def Snapshot.nextLive (s : Snapshot) (up : Bool) : Nat → Nat → Option NodeEntry
  | 0, _ => none
  | k + 1, num =>
    match s.node (if up then num + 1 else num - 1) with
    | none => none
    | some n => if n.dark then s.nextLive up k n.number else some n

/-- The links of a node towards higher or towards lower numbers. -/
def NodeEntry.linksTo (n : NodeEntry) (up : Bool) : Nat := if up == (n.orientation == 0) then n.rearLinks else n.frontLinks

/-- The live nodes outwards from `far` that working links join to it: a gap of dark nodes is passed only where the node before it shows a link. (log 18) -/
def Snapshot.joined (s : Snapshot) (up : Bool) (far : NodeEntry) : List Nat :=
  let beyond := if up then s.nodes.filter fun n => decide (far.number < n.number) else (s.nodes.filter fun n => decide (n.number < far.number)).reverse
  (beyond.foldl (fun (a : Bool × NodeEntry × List Nat) n =>
    if n.dark then (a.1 && a.2.1.linksTo up % 4 != 0, a.2.1, a.2.2) else (a.1, n, if a.1 then n.number :: a.2.2 else a.2.2)) (true, far, [far.number])).2.2

/-- A report of a neighbour's loss, a link or a rejoin, applied by the leader (R46, R48, R49, R53, R55, R75). The node lost is the next live one along the
end, when the NOTICE names it; a link past a gap brings the nodes joined there back within reach, and the leader sends its lease and the generation in
force again for them; a returning node is cleared when it is the one the next entry names. (log 18) -/
def Chip.applyNotice (c : Chip) (reporter kind e lines peer delay : Nat) : Chip :=
  match c.newest, c.newest.bind fun s => s.byId reporter with
  | some held, some n =>
    let other := neighbourNumber n e
    let up := decide (n.number < other)
    let report := fun (s : Snapshot) => s.onNode n.number fun x =>
      let x := if e = 0 then { x with frontLinks := lines } else { x with rearLinks := lines }
      if up then { x with delayHigher := delay } else x
    let next := held.nextLive up held.nodes.length n.number
    match kind with
    | 1 =>
      match next with
      | some x =>
        if x.identity = peer ∧ !x.unreachable ∧ x.identity ≠ c.fuses.identity then
          (c.issue fun g s => ((report s).onNode x.number fun y => { y with dark := true, darkSince := g }).resegment).onDir fun d =>
            { d with bridging := d.bridging ++ [(x.number, e, c.clk.now)] }
        else c.issue fun _ s => report s
      | none => c.issue fun _ s => report s
    | 2 =>
      match next with
      | some x =>
        let outUp := decide (held.leaderNode ≤ min n.number x.number)
        let far := if outUp == decide (n.number < x.number) then x else n
        let back := held.joined outUp far
        let again := match c.bb.leaderLease with | some l => (c.floodLease (c.renewMsg l)).sendSegments false held 0 65535 | none => c
        ((again.onDir fun d => { d with bridging := d.bridging.filter fun b => !decide (min n.number x.number < b.1 ∧ b.1 < max n.number x.number) }).issue fun _ s =>
          let s := report s
          Snapshot.resegment { s with nodes := s.nodes.map fun (y : NodeEntry) => if back.contains y.number then { y with unreachable := false } else y })
      | none => c.issue fun _ s => report s
    | 4 => c.issue fun _ s => report s
    | _ =>
      match held.node other with
      | some x =>
        if x.identity ≠ peer then c.trigger none
        else if x.dark then
          (c.onDir fun d => { d with bridging := d.bridging.filter fun b => b.1 != x.number }).issue fun _ s =>
            ((report s).onNode other fun y => { y with dark := false, darkSince := 0, unreachable := false }).resegment
        else c.issue fun _ s => report s
      | none => c.trigger none
  | _, _ => c

/-- BRIDGE_TIMEOUT (R48): 3,000 ms after a node went dark without a bridged link the nodes beyond the gap are flagged unreachable. -/
def bridgeTimeout (num : Nat) (c : Chip) : Chip :=
  if !c.actsAsLeader then c
  else match c.dir.bridging.find? fun x => x.1 == num, c.newest with
  | some _, some s =>
    let up := decide (s.leaderNode < num)
    let far := (s.nextLive up s.nodes.length num).map (·.number)
    let c := c.onDir fun d => { d with bridging := d.bridging.filter fun x => x.1 != num }
    match far with
    | none => c
    | some f => if (s.node f).any (·.unreachable) || !(s.node num).any (·.dark) then c else c.issue fun _ s =>
        Snapshot.resegment { s with nodes := s.nodes.map fun (n : NodeEntry) => if (if up then decide (f ≤ n.number) else decide (n.number ≤ f)) then { n with unreachable := true } else n }
  | _, _ => c

/-- The gaps of a snapshot that still wait for their bridge (R48): dark nodes next to a live one towards the leader's number `own` that shows no link to them,
with live nodes beyond that are not flagged unreachable; with the end of the live node. (log 18) -/
def Snapshot.openGaps (s : Snapshot) (own : Nat) : List (Nat × Nat) :=
  s.nodes.filterMap fun (x : NodeEntry) =>
    let up := decide (own < x.number)
    match s.node (if up then x.number - 1 else x.number + 1), s.nextLive up s.nodes.length x.number with
    | some n, some f => if x.dark && !n.dark && n.linksTo up % 4 == 0 && !f.unreachable then some (x.number, if neighbourNumber n 0 = x.number then 0 else 1) else none
    | _, _ => none

/-- A report that reaches the leader (R54, R134): applied, or kept until the leader may act. -/
def Chip.takeNotice (c : Chip) (reporter kind e lines peer delay : Nat) : Chip :=
  if c.actsAsLeader then c.applyNotice reporter kind e lines peer delay
  else c.onRc fun r => { r with notices := r.notices ++ [{ reporter := reporter, kind := kind, e := e, lines := lines, peer := peer, delay := delay }] }

def noticeBody (kind e lines peer delay : Nat) : Bytes := be 1 kind ++ be 1 e ++ be 1 lines ++ zeros 1 ++ be 8 peer ++ be 4 delay

/-- Report a change on an end (R46, R67, R112, R137): the leader applies it itself, another node sends NOTICE towards the leader, or outwards when the leader is lost. -/
def Chip.notice (c : Chip) (kind e peer : Nat) : Chip :=
  let lines := c.links e
  let delay := c.endDelayPs e
  if c.rc.state = .uninaugurated ∨ c.rc.state = .stopped then c
  else if c.recordedLeader then c.takeNotice c.fuses.identity kind e lines peer delay
  else
    let lead := match c.dir.inForce with | some s => s.leaderNode | none => 0
    let lost := kind = 1 ∧ peer = c.leaderHolder ∧ peer ≠ 0
    let c := if kind = 1 then c.onBb fun b => { b with unrecorded := b.unrecorded ++ [(e, peer)], evidence := b.evidence || decide lost } else c
    c.sendRc (if lost then 1 - e else c.endTowards lead) (c.rcPlain 10 (noticeBody kind e lines peer delay))

/-- The identity the snapshot places next along an end (R67): counting past dark entries, or the very next entry. -/
def Chip.nextAlong (c : Chip) (e : Nat) (skipDark : Bool) : Option NodeEntry :=
  match c.dir.inForce, c.ownNode with
  | some s, some n =>
    let up := decide (n.number < neighbourNumber n e)
    if skipDark then s.nextLive up s.nodes.length n.number else s.node (neighbourNumber n e)
  | _, _ => none

/-- The identity last known next along an end, for a NOTICE. -/
def Chip.peerOf (c : Chip) (e : Nat) : Nat := match c.nextAlong e true with | some n => n.identity | none => 0

/-- NOTICE_RX (R54, R134, R136, R137): the leader acts on it, another node passes it on. -/
def noticeRx (p : Nat) (src : Outer) (raw : Bytes) (c : Chip) : Chip :=
  c.rcTake p 10 src raw fun c m =>
    let b := m.body
    let c := if u8 b 0 = 1 ∧ bAt b 4 8 = c.leaderHolder ∧ bAt b 4 8 ≠ 0 ∧ m.epoch = c.epoch then c.onBb fun x => { x with evidence := true } else c
    if c.recordedLeader then c.takeNotice src.source (u8 b 0) (u8 b 1) (u8 b 2) (bAt b 4 8) (bAt b 12 4)
    else c.relayRc p src (1 - p / 2) (c.rcForward p m)

/-! DIRSEG and SEGREQ (R75, R88). -/

/-- Segments held for a generation joined into a snapshot, when complete. -/
def joinSegments (segs : List (Nat × Bytes)) (count : Nat) : Option Bytes :=
  if (List.range count).all (fun i => segs.any fun s => s.1 == i) then
    some ((List.range count).flatMap fun i => ((segs.find? fun s => s.1 == i).map (·.2)).getD [])
  else none

/-- A complete snapshot received outside a run (R50, R68, R134): an UNINAUGURATED node takes one that names it from that train's leader, any other node one
from the holder of the leader lease at its sending, `ago` ns before. (log 19) -/
def Chip.offerSnapshot (c : Chip) (src ago : Nat) (s : Snapshot) : Chip :=
  let names := match s.byId c.fuses.identity with | some n => !n.dark | none => false
  if c.rc.state = .uninaugurated then
    if names && src == s.leaderIdentity && src != 0 then
      ((c.onBb fun b => { b with leaderLease := some { c.newLease src 0 with epoch := s.epoch } }).acceptSnapshot s).joinTrain s
    else c
  else if c.fromHolder src ago ∧ s.epoch = c.epoch ∧ newer s.generation (match c.newest with | some x => x.generation | none => 0) then c.acceptSnapshot s
  else c

/-- DIRSEG_RX (R88, R135): a segment is stored and re-sent outwards; the complete snapshot of the run, from the leader that announced it, is checked against
ANNOUNCE, and comes too late once the node has given the run up. -/
def dirsegRx (p : Nat) (src : Outer) (raw : Bytes) (c : Chip) : Chip :=
  c.rcTake p 7 src raw fun c m =>
    let b := m.body
    let gen := bAt b 0 4
    let i := bAt b 4 2
    let n := bAt b 6 2
    let d := b.drop 12
    let fw := c.relayRc p src (1 - p / 2) (c.rcForward p m)
    match c.rc.state, c.rc.announce with
    | .armed, some a =>
      if gen ≠ a.newGeneration then fw
      else if src.source ≠ a.leader then c
      else if c.rc.composed.isSome || c.rc.incomplete then fw
      else
        let segs := c.rc.segments.filter (fun s => s.1 != i) ++ [(i, d)]
        let snap := (joinSegments segs n).bind fun x => if x.length = a.size ∧ u32 x 0x3C = a.check then Snapshot.parse x else none
        fw.onRc fun r => { r with segments := segs, segmentCount := n, composed := snap }
    | _, _ =>
      let keep := c.dir.collecting.filter fun x => x.1 == gen && x.2.1 != i
      let all := keep ++ [(gen, i, n, d)]
      match (joinSegments (all.map fun x => (x.2.1, x.2.2.2)) n).bind Snapshot.parse with
      | some s => (fw.onDir fun x => { x with collecting := [] }).offerSnapshot src.source (c.linkDelay p + m.age) s
      | none => fw.onDir fun x => { x with collecting := all }

/-- SEGREQ_DEADLINE (R88): 2 ms before the switch a node lacking segments asks for them. -/
def segreqDeadline (c : Chip) : Chip :=
  match c.rc.state, c.rc.announce, c.rc.composed, c.rc.facts with
  | .armed, some a, none, some f =>
    let total := ceilDiv a.size 1024
    let missing := (List.range total).filter fun i => !(c.rc.segments.any fun s => s.1 == i)
    match missing, f.towards with
    | first :: _, some e => c.sendRc e (c.rcRun 8 (be 4 a.newGeneration ++ be 2 first ++ be 2 ((missing.getLast?).getD first - first + 1)))
    | _, _ => c
  | _, _, _, _ => c

/-- SEGREQ_RX (R88): the leader resends the segments outwards, another node passes the request on. -/
def segreqRx (p : Nat) (src : Outer) (raw : Bytes) (c : Chip) : Chip :=
  c.rcTake p 8 src raw fun c m =>
    match c.rc.facts, c.rc.composed, c.rc.announce with
    | some f, some s, some a =>
      match f.towards with
      | none => if bAt m.body 0 4 = a.newGeneration ∧ c.rc.state = .armed then c.sendSegments true s (bAt m.body 4 2) (bAt m.body 6 2) else c
      | some e => c.relayRc p src e (c.rcForward p m)
    | some f, _, _ => match f.towards with | some e => c.relayRc p src e (c.rcForward p m) | none => c
    | _, _, _ => c

/-- SNAPSHOT_INCOMPLETE_DEADLINE (R88): 0.5 ms before the switch a node without a good snapshot gives the run up; its new run starts at the switch instant. -/
def snapshotIncompleteDeadline (c : Chip) : Chip :=
  if c.rc.state = .armed ∧ c.rc.composed = none ∧ !c.rc.incomplete then
    ((c.onRc fun r => { r with incomplete := true }).rcCount rcAbandoned).raise 10
  else c

/-- RUN_WATCHDOG_EXPIRY (R89). -/
def runWatchdogExpiry (c : Chip) : Chip :=
  match c.rc.state with
  | .wave | .reported | .composing => c.abandonRun
  | .stopped | .uninaugurated | .settled | .held | .holdoff | .armed => c

/-- The claim of this node lost to another (R81): EV011 when the leading end was set by a cab and does not lie beyond the claimed end. -/
def Chip.claimVerdict (c : Chip) (s : Snapshot) : Chip :=
  match c.rc.cab, s.byId c.fuses.identity with
  | some k, some n =>
    let lost := s.cabSet && k.toRear != n.orientation
    let c := c.onRc fun r => { r with claimLost := lost }
    if lost then c.raise 11 else c
  | _, _ => c.onRc fun r => { r with claimLost := false }

/-- The switch or effective instant on the roll-call engine, the directory and the backbone (R24, R71, R84, R87, R135). -/
def Chip.rollcallSwitch (c : Chip) : Chip :=
  match c.rc.state, c.rc.announce with
  | .armed, some a =>
    match c.rc.composed with
    | none =>
      let c := if c.rc.incomplete then c else ((c.rcCount rcAbandoned).raise 10)
      c.unjoinEpoch.toHoldoff
    | some s =>
      let c := if a.noSwitch then c.unjoinEpoch.onDir fun d => { d with bridging := d.bridging.filter fun b => (s.node b.1).any (·.dark) }
        else (c.onDir fun d => { d with vehicle := d.vehicle.switch, coming := [], bridging := [] }).onBb Backbone.switchImage
      let c := c.putInForce s true
      let c := if a.noSwitch then c else c.raise 9
      let c := c.electedLease a.leader (match c.rc.facts with | some f => f.leaderPriority | none => 0) (!a.noSwitch)
      let c := c.claimVerdict s
      let c := c.onRc fun r => { r with
        deputies := a.deputies, lastBeacon := c.clk.now, lastRunUs := sat32 ((c.clk.now - r.triggerAt) / 1000), announce := none, composed := none, segments := []
        facts := none, reports := [], quarantineUntil := if a.quarantine then c.clk.now + 1000000 else r.quarantineUntil }
      let c := ((c.rcCount rcCompleted).setRc .settled).schedUpdate
      if c.rc.heldTrigger then c.toHoldoff else c
  | _, _ => c

/-! Probes and links (R67–R69, R75, R112). -/

def Chip.probeBody (c : Chip) : Bytes := be 4 c.generation ++ be 2 c.ownNumber ++ be 1 c.rc.state.code ++ zeros 1

/-- Send PROBE on an end (R67, R68). -/
def Chip.probe (c : Chip) (e : Nat) : Chip :=
  (c.onRc fun r => { r with probing := updAt r.probing e fun _ => true }).sendRc e (c.rcPlain 1 c.probeBody)

/-- An UNINAUGURATED node starts a run on a neighbour that is neither SETTLED nor HELD (R68). (log 21) -/
def Chip.neighbourState (c : Chip) (e st : Nat) : Chip :=
  if c.rc.state = .uninaugurated ∧ st ≠ 2 ∧ st ≠ 3 then c.trigger (some e) else c

/-- PROBE_RX (R68, R75). (log 42) -/
def probeRx (p : Nat) (raw : Sourced) (c : Chip) : Chip :=
  c.rcTake p 1 raw.outer raw.bytes fun c m => (c.sendRc (p / 2) (c.rcPlain 2 c.probeBody)).neighbourState (p / 2) (u8 m.body 6)

/-- PROBE_REPLY_RX (R67, R68). (log 21) -/
def probeReplyRx (p : Nat) (raw : Sourced) (c : Chip) : Chip :=
  c.rcTake p 2 raw.outer raw.bytes fun c m =>
    let e := p / 2
    if !(c.rc.probing.getD e false) then c
    else
      let c := c.onRc fun r => { r with probing := updAt r.probing e fun _ => false }
      match c.rc.state with
      | .settled | .held | .holdoff | .wave | .reported | .composing | .armed =>
        let live : Bool := match c.nextAlong e true with | some n => n.identity == m.sender | none => false
        let dark : Bool := match c.nextAlong e false with | some n => n.dark && n.identity == m.sender | none => false
        if m.epoch = c.epoch ∧ live then c.notice 2 e m.sender
        else if dark ∧ u8 m.body 6 = 1 then c.notice 3 e m.sender
        else c.trigger (some e)
      | .uninaugurated => c.neighbourState e (u8 m.body 6)
      | .stopped => c

/-- PROBE_REPLY_TIMEOUT (R67): the end is an outer end; nothing is triggered. -/
def probeReplyTimeout (e : Nat) (c : Chip) : Chip := c.onRc fun r => { r with probing := updAt r.probing e fun _ => false }

/-- FIRST_START_TIMEOUT (R68). -/
def firstStartTimeout (c : Chip) : Chip := if c.rc.state = .uninaugurated then c.trigger none else c

/-- Coupler sense of an end reads uncoupled: 1 = coupled when high, 2 = coupled when low, 0 = absent (R69, R101). -/
def Chip.coupled (c : Chip) (e : Nat) : Option Bool :=
  match u8 c.rc.config (2 + e) with
  | 1 => some (c.rc.couplers.getD e false)
  | 2 => some (!c.rc.couplers.getD e false)
  | _ => none

/-- A port's link is declared up (R67, R70, R112); EV015 when the coupler sense of the end reads uncoupled (R69). (log 42) -/
def Chip.linkUp (c : Chip) (p : Nat) : Chip :=
  let e := p / 2
  let other := c.bb.isUp (2 * e + (1 - p % 2))
  let bridged := match c.nextAlong e false with | some n => n.dark | none => false
  let c := (c.onPort p fun q => { q with link := .up, upSince := c.clk.now, lastRx := c.clk.now, bridged := bridged }).raisePort 17 p
  let c := c.egressUpdate e
  let c := if c.rolling && !other && c.coupled e == some false then c.raisePort 15 (2 * e) else c
  if !c.rolling then c
  else if other then c.notice 4 e (c.peerOf e)
  else match c.rc.state with
  | .settled | .held | .uninaugurated => c.probe e
  | .holdoff | .wave | .reported | .composing | .armed => c.trigger (some e)
  | .stopped => c

/-- A port's link goes down (R112): what its measurement and its port held is gone; where it was up, it counts and raises EV016. -/
def Chip.dropLink (c : Chip) (p : Nat) : Chip :=
  let up := c.bb.isUp p
  let c := c.onPort p fun q => { q with link := .down, recent := [], bridged := false, preempt := false, lowUntil := 0 }
  let c := c.onTime fun s => { s with tiles := updAt s.tiles p fun h => { h with samples := [], valid := false, inBurst := false, outstanding := none, reported := none } }
  let c := c.onBb fun b => { b with held := b.held.filter fun x => x.1 != p }
  if up then ((c.bbCount p bbLinkLosses).macCount p macLinkLosses).raisePort 16 p else c

/-- A port's link is declared down (R46, R66, R112, R114). (log 42) -/
def Chip.linkDown (c : Chip) (p : Nat) : Chip :=
  let e := p / 2
  let wasUp := c.bb.isUp p
  let c := c.dropLink p
  if !wasUp then c
  else
    let c := c.egressUpdate e
    if !c.rolling then c
    else if c.endUp e then c.notice 4 e (c.peerOf e)
    else
      let c := c.onBb fun b => { b with ends := updAt b.ends e fun x => { x with lostAt := some c.clk.now } }
      let c := c.notice 1 e (c.peerOf e)
      if c.coupled e = some false then c.trigger (some e) else c

/-- COUPLER_SENSE_CHANGE (R66, R69): the debounced level of CPLF or CPLR. -/
def couplerSenseChange (e : Nat) (high : Bool) (c : Chip) : Chip :=
  if 2 ≤ e then c
  else
    let c := c.onRc fun r => { r with couplers := updAt r.couplers e fun _ => high }
    if !c.rolling then c
    else if c.coupled e = some false then
      if c.endUp e then c.raisePort 15 (2 * e)
      else match (c.bb.ends.getD e {}).lostAt with
        | some t => if c.clk.now ≤ t + 20000000 then c.trigger (some e) else c
        | none => c
    else c

/-- COUPLER_DISAGREE_TIMEOUT (R69): coupled for 10 s with both lines down, EV015 with the end's line A as its port. While the engine is STOPPED, whose links
are all down, it raises nothing: DESIGN CHOICE. (log 42) (log 40) -/
def couplerDisagreeTimeout (e : Nat) (c : Chip) : Chip :=
  if c.rolling && decide (e < 2) && c.coupled e == some true && !c.endUp e then c.raisePort 15 (2 * e) else c

/-! Beacons and succession (R97, R98, R136). -/

def Chip.beaconBody (c : Chip) : Bytes :=
  be 4 c.epoch ++ be 4 c.generation ++ be 8 c.fuses.identity ++ (List.range 4).flatMap fun i => be 8 (c.rc.deputies.getD i 0)

/-- BEACON_TIMER (R97): the leader sends BEACON outwards every 10 ms. -/
def beaconTimer (c : Chip) : Chip :=
  if c.rolling && c.actsAsLeader then
    let m := c.rcPlain 9 c.beaconBody
    (c.sendRc 0 m).sendRc 1 m
  else c

/-- The rank of this node in the deputy list; 0 when none. -/
def Chip.deputyRank (c : Chip) : Nat := match c.rc.deputies.findIdx? (fun d => d == c.fuses.identity) with | some i => i + 1 | none => 0

/-- The rank of a node in the deputy list; 0 when none. -/
def Chip.rankOf (c : Chip) (id : Nat) : Nat := match c.rc.deputies.findIdx? (fun d => d == id) with | some i => i + 1 | none => 0

/-- A deputy of lower rank number than this node's (R98, R136). -/
def Chip.outranks (c : Chip) (id : Nat) : Bool := id != 0 && decide (1 ≤ c.rankOf id ∧ c.rankOf id < c.deputyRank)

/-- BEACON_RX (R71, R97, R98, R134, R136): one from the holder of the lease is kept and re-sent. One from a deputy of lower rank, or from the leader whose
lease has lapsed here, ends a deputy's evidence. -/
def beaconRx (p : Nat) (src : Outer) (raw : Bytes) (c : Chip) : Chip :=
  c.rcTake p 9 src raw fun c m =>
    let b := m.body
    let id := bAt b 8 8
    let back : Bool := match c.bb.leaderLease with | some l => l.holder == id && decide (l.expiry + c.margin l.timed ≤ c.leaseNow l) | none => false
    let c := if (c.outranks id ∨ back) ∧ bAt b 0 4 = c.epoch then c.onBb fun x => { x with evidence := false } else c
    if bAt b 0 4 ≠ c.epoch ∨ src.source ≠ id ∨ !c.fromHolder id (c.linkDelay p + m.age) ∨ c.recordedLeader then c
    else
      let c := c.onRc fun r => { r with lastBeacon := c.clk.now, deputies := (List.range 4).map fun i => bAt b (16 + 8 * i) 8 }
      let c := if c.rc.state = .held then c.setRc .settled else c
      c.relayRc p src (1 - p / 2) (c.rcForward p m)

/-- BEACON_MISSING_HELD (R71). -/
def beaconMissingHeld (c : Chip) : Chip := if c.rc.state = .settled ∧ !c.recordedLeader then (c.rcCount rcBeaconLosses).setRc .held else c

/-- LEADER_LOST_TIMEOUT (R66, R98). -/
def leaderLostTimeout (c : Chip) : Chip := if c.rc.state = .held then c.trigger none else c

/-- A new leader names itself in a generation (R50, R98). -/
def Snapshot.newLeader (s : Snapshot) (id : Nat) : Snapshot :=
  { s with leaderIdentity := id, leaderNode := ((s.byId id).getD {}).number
           nodes := s.nodes.map fun n => { n with leader := n.identity == id }
           segments := s.segments.map fun g => let x := ((s.byId id).getD {}).number; { g with holdsLeader := decide (g.first ≤ x ∧ x ≤ g.last) } }

/-- Mark the previous leader dark when its neighbours reported its loss (R46, R136). -/
def Snapshot.leaderLost (s : Snapshot) (old g : Nat) : Snapshot :=
  { s with nodes := s.nodes.map fun n => if n.identity = old ∧ !n.dark then { n with dark := true, darkSince := g } else n }

/-- DEPUTY_TAKEOVER (R98, R136): a deputy with evidence takes the lapsed role, issues a generation in which the old leader is dark, and every loss it knows of
is recorded (R137), raises EV014 and EV022; the gap the old leader leaves and those it still waited for wait for their bridges from now on (R48). A deputy in HELD becomes SETTLED, and BEACON goes on
with the deputy list as it stands, the new leader in it: DESIGN CHOICE, the spec states neither. (log 19) (log 18) -/
def deputyTakeover (c : Chip) : Chip :=
  let k := c.deputyRank
  match c.bb.leaderLease with
  | none => c
  | some l =>
    if !c.rolling ∨ k = 0 ∨ !c.bb.evidence ∨ l.holder = c.fuses.identity ∨ l.epoch ≠ c.epoch ∨ c.leaseNow l < l.expiry + c.margin l.timed + (k - 1) * 20000000 then c
    else
      let n := c.newLease c.fuses.identity c.leaderPriority
      let c := (c.onBb fun b => { b with leaderLease := some n, evidence := false }).raise 22
      let c := c.timeRole.schedJudge
      let c := c.floodLease (c.renewMsg n)
      let c := if c.rc.state = .held then c.setRc .settled else c
      let gone := match c.newest.bind fun s => s.byId l.holder with | some x => if x.dark then [] else [(x.number, c.endTowards x.number, c.clk.now)] | none => []
      let c := c.issue fun g s => ((s.newLeader c.fuses.identity).leaderLost l.holder g).resegment
      let c := c.onDir fun d => { d with bridging := d.bridging ++ gone }
      let gaps : List (Nat × Nat) := match c.newest with | some s => (s.openGaps c.ownNumber).filter fun (g : Nat × Nat) => !c.dir.bridging.any fun b => b.1 == g.1 | none => []
      let c := c.onDir fun d => { d with bridging := d.bridging ++ gaps.map fun g => (g.1, g.2, c.clk.now) }
      let todo := c.bb.unrecorded.filter fun u => match c.newest.bind fun s => s.byId u.2 with | some x => !x.dark | none => false
      let c := todo.foldl (fun c u => c.applyNotice c.fuses.identity 1 u.1 (c.links u.1) u.2 (c.endDelayPs u.1)) (c.onBb fun b => { b with unrecorded := [] })
      (beaconTimer c).raise 14

/-! Commands (R99–R101). -/

/-- ROLLCALL_START (R99): relays open, engine UNINAUGURATED, a PROBE on every end whose link is up (R68). The isolated tiles of the ports
rejoin (R23), but for those that a skipped B11 holds isolated for this start (R446). (log 21, log 41) -/
def Chip.startEngine (c : Chip) : Chip :=
  let c := if c.boot.held.isSome then c else { c with tiles := { c.tiles with backbone := 0, saffron := 0, mac := c.tiles.mac &&& 0xFF0 } }
  let c := c.onDir fun d => { d with vehicle := d.vehicle.settle }
  let waited := c.bb.image.pending.isSome
  let c := (c.onBb Backbone.settleImage).onTime fun s => { s.settleCeps with config := s.written.getD s.config, written := none }
  let c := (if u8 c.time.config 1 = 0 then c.unlockRef else c)
  let c := (c.onRc fun r => { r with config := r.written.getD r.config, written := none, relaysOpen := true, startedAt := c.clk.now, heldTrigger := false, cab := r.cab, probing := [false, false] }).setRc .uninaugurated
  let c := if waited then c.schedUpdate.schedCheck else c.schedUpdate
  [0, 1].foldl (fun c e => if c.endUp e then c.probe e else c) c

/-- The engine and the backbone stop without a telegram (R18, R99, R141, R174, R444): relays released, links down with EV016, EV023 for each lease of this node,
Saffron holds over. -/
def Chip.haltEngine (c : Chip) : Chip :=
  let c := (if c.recordedLeader then c.raise 23 else c).dropOwnGateways
  let c := (List.range 4).foldl Chip.dropLink c
  let waited := c.bb.image.pending.isSome
  let c := (c.onBb fun b => { b.settleImage with leaderLease := none, gateways := [], requests := [], evidence := false, unrecorded := [], firstDue := false }).onTime Saffron.settleCeps
  let c := c.onDir fun d => { d with vehicle := d.vehicle.settle, coming := [], collecting := [], bridging := [] }
  let c := match c.time.state with
    | .locked | .grandmaster => c.toHoldover c.errorBound
    | .acquiring => c.setTm .free
    | .free | .holdover => c
  let c := c.onRc fun r => { r with relaysOpen := false, heldTrigger := false, facts := none, reports := [], announce := none, composed := none, segments := [], probing := [false, false], notices := [] }
  let c := (c.setRc .stopped).schedUpdate
  if waited then c.schedCheck else c

/-- The engine and the backbone stop (R99, R135): a Release for the leader role first. -/
def Chip.stopEngine (c : Chip) : Chip :=
  (match c.bb.leaderLease with | some l => if c.recordedLeader then c.floodLease (c.releaseMsg l) else c | none => c).haltEngine

/-- See log 21. -/
def rollcallStart : Cmd where
  form := noReq
  state c _ := [need (!c.rolling) 0x06]
  act c _ := let c := c.startEngine; c.ok (le 1 c.rc.state.code ++ zeros 3)

def rollcallStop : Cmd where
  form := noReq
  state c _ := [need c.rolling 0x06]
  act c _ := c.stopEngine.ok

def rollcallRerun : Cmd where
  form := noReq
  state c _ := [need c.rolling 0x06]
  act c _ :=
    let st := c.rc.state
    let joined := st == .holdoff || st == .wave
    let (o, n) := if st = .wave then (c.rc.wave.origin, c.rc.wave.nonce) else (c.fuses.identity, next32 c.rc.nonce)
    (c.trigger none true).ok (le 8 o ++ le 4 n ++ le 1 (b2n joined) ++ zeros 3)

def rollcallStatus : Cmd where
  form := noReq
  act c _ :=
    let armed := c.rc.state == .armed
    let a := c.rc.announce.getD {}
    let cpl := fun (e : Nat) => b2n (c.coupled e == some true)
    c.ok (le 1 c.rc.state.code ++ le 1 c.deputyRank ++ le 1 (match c.rc.cab with | some k => k.toRear + 1 | none => 0) ++
      le 1 (b2n c.rc.claimLost + b2n c.rc.heldTrigger * 2 + cpl 0 * 4 + cpl 1 * 8) ++ le 4 c.epoch ++ le 4 (if armed then a.newEpoch else 0) ++
      le 4 c.rc.lastRunUs ++ le 8 (if armed then a.switchInstant else 0) ++ le 8 c.rc.wave.origin ++ le 4 c.rc.wave.nonce ++ zeros 4)

/-- See log 19. -/
def cabSet : Cmd where
  form _ r := [lenIs r 4, rsv r 1 3, enc (decide (u8 r 0 ≤ 2)) 0]
  act c r :=
    let v := u8 r 0
    let cur := match c.rc.cab with | some k => k.toRear + 1 | none => 0
    if v = cur then c.ok (le 8 (match c.rc.cab with | some k => k.trainTime | none => 0))
    else
      let t := if c.timeValid then c.trainTime else 0
      let claim : Option OwnCab := if v = 0 then none else some { toRear := v - 1, localTime := c.clk.now, trainTime := t, domain := c.domain }
      ((c.onRc fun x => { x with cab := claim }).trigger none).ok (le 8 (if v = 0 then 0 else t))

/-- The record in force after one is written to a stopped block: the Static fields stay as they were until its next start (R13). (log 15) -/
def staticLate (old new : Bytes) (fields : List (Nat × Nat)) : Bytes := fields.foldl (fun b f => splice b f.1 (slice old f.1 f.2)) new

/-- A Static field of a record keeps its value (R13). (log 15) -/
def staticKept (old new : Bytes) (fields : List (Nat × Nat)) : Bool := fields.all fun f => slice old f.1 f.2 == slice new f.1 f.2

def rollcallConfigSet : Cmd where
  form _ r :=
    [lenIs r 8, rsv r 4 4, rng (decide (u8 r 0 ≤ 15)) 0, rng (decide (u8 r 1 ≤ 1)) 1, enc (decide (u8 r 2 ≤ 2)) 2, enc (decide (u8 r 3 ≤ 2)) 3]
  state c r := [need (!c.rolling || staticKept c.rc.config r [(2, 2)]) 0x05]
  act c r := (c.onRc fun x => if c.rolling then { x with config := r } else { x with config := staticLate x.config r [(2, 2)], written := some r }).ok

def rollcallConfigGet : Cmd where
  form := noReq
  act c _ := c.ok (c.rc.written.getD c.rc.config)

def rollcallCounters : Cmd where
  form := noReq
  act c _ := (c.onRc fun r => { r with counters := List.replicate 6 0 }).ok (cntBytes c.rc.counters)

end Sys2Proof.Machine
end

