-- ==== Sys2Proof/Machine/Backbone.lean ====
section
/-! DEFINITION. Backbone transport (R103–R147) less the queues: links, the process-data schedule, leases, and the commands that need no egress queue. -/
namespace Sys2Proof.Machine
open Host (Outcome)

/-! Links (R112, R114, R116, R122). -/

/-- PHY_LINK_LOSS (R112). (log 42) -/
def phyLinkLoss (p : Nat) (c : Chip) : Chip := (c.linkDown p).onPort p fun q => { q with phyUp := false }

/-- LINK_RX_TIMEOUT (R112): 1.5 ms after the last valid frame. -/
def linkRxTimeout (p : Nat) (c : Chip) : Chip := if (c.bb.port p).link = .down then c else c.linkDown p

/-- A burst of 8 TDREQs begins (R152). -/
def Chip.startBurst (c : Chip) (p : Nat) : Chip :=
  c.onTime fun s => { s with tiles := updAt s.tiles p fun h => { h with inBurst := true, burstCount := 0, burstAccepted := 0, outliers := 0, burstAt := c.clk.now } }

/-- LINK_PROVISIONAL (R112): PHY link up and three valid frames within 1.5 ms; the delay measurement begins. (log 42) -/
def linkProvisional (p : Nat) (c : Chip) : Chip :=
  if c.rolling && decide (p < 4) && (c.bb.port p).link == .down && c.tiles.portSound p then
    (c.onPort p fun q => { q with phyUp := true, link := .provisional, lastRx := c.clk.now, recent := [] }).startBurst p
  else c

/-- LINK_IDLE_TIMER (R112): a LINK telegram after 250 µs of silence. -/
def linkIdleTimer (p : Nat) (c : Chip) : Chip :=
  if c.rolling && decide (p < 4) && c.tiles.portSound p then
    match c.originate { type := 8, tc := 3 } with
    | some (t, c) => c.sendOn p t
    | none => c
  else c

/-- FALLBACK_RETURN_TIMER (R114): the named line has been up for 1,000 ms. -/
def fallbackReturnTimer (e : Nat) (c : Chip) : Chip := if e < 2 then c.egressUpdate e else c

/-- Links of a line missing inside a segment, from the node entries (R116). -/
def Snapshot.lineDown (s : Snapshot) (g : SegmentEntry) (line : Nat) : Bool :=
  let live := s.nodes.filter fun n => !n.dark && decide (g.first ≤ n.number ∧ n.number ≤ g.last)
  live.any fun n =>
    let rear := n.orientation == 0
    let hi := live.any fun m => decide (n.number < m.number)
    let lo := live.any fun m => decide (m.number < n.number)
    let bit := fun (r : Bool) => (if r then n.rearLinks else n.frontLinks).testBit line
    (hi && !bit rear) || (lo && !bit !rear)

/-- LINE_RENAME_TIMER (R116): the leader re-names the active line of a segment when some link of it is down and every link of the other line has been up for 1,000 ms. -/
def lineRenameTimer (seg : Nat) (c : Chip) : Chip :=
  if !c.actsAsLeader then c
  else match c.newest with
  | none => c
  | some s =>
    match s.segmentOf seg with
    | none => c
    | some g =>
      if s.lineDown g g.line ∧ !s.lineDown g (1 - g.line) then
        c.issue fun _ s => { s with segments := s.segments.map fun x => if x.number = seg then { x with line := 1 - x.line } else x }
      else c

/-- PREEMPT_VERIFY_COMPLETE (R122): each failure, and the first success after one, raises EV019 (R147). -/
def preemptVerifyComplete (p : Nat) (ok : Bool) (c : Chip) : Chip :=
  if 4 ≤ p then c
  else
    let was := (c.bb.port p).verified
    let c := c.onPort p fun q => { q with preempt := ok && u8 c.bb.config 2 == 1, verified := ok }
    if ok && was then c else c.raisePort 19 p

/-! The schedule image (R123–R128). -/

def schedSlotOk (L : Nat) (s : Bytes) : Bool :=
  let off := u32 s 0
  let kind := u8 s 0x11
  decide (off * 1000 < L) && decide (u16 s 4 ≤ 0x7FFF) && decide (u16 s 6 ≤ 1024) && idOk (u64 s 8) && decide (u8 s 0x10 ≤ 2) &&
  (kind == 2 || kind == 3 || kind == 4) && (if kind = 3 then decide (u8 s 0x12 ≤ 2) else u8 s 0x12 == 0) && decide (u8 s 0x13 ≤ 6) &&
  decide (u8 s 0x14 < 2 ^ u8 s 0x13) && isZero (slice s 0x15 3) && (if kind = 4 then u64 s 0x18 == 0 else idOk (u64 s 0x18)) &&
  decide (off * 1000 + slotWire s + 100 ≤ L)

/-- The checks of R125. -/
def schedValid (b : Bytes) : Bool :=
  let n := schedSlots b
  u32 b 0 == 0x5A4B5342 && u16 b 4 == 1 && u16 b 6 == 64 && u32 b 8 != 0 && decide (u8 b 0x0C ≤ 7) && isZero (slice b 0x0D 1) && decide (n ≤ 4096) &&
  u32 b 0x10 == 64 + 32 * n && b.length == 64 + 32 * n && imageCrc 0x14 b == u32 b 0x14 && isZero (slice b 0x20 32) &&
  ((List.range n).all fun i => schedSlotOk (schedCycle b) (schedSlot b i)) && !hasRepeat ((List.range n).map fun i => u16 (schedSlot b i) 4)

/-- The image as staged: as many bytes as its TotalSize names, within the staging area. -/
def Chip.stagedSched (c : Chip) : Bytes := c.bb.stage.read 0 (max 64 (min 131136 (leNat (c.bb.stage.read 0x10 4))))

/-- This node holds the acting-gateway lease of its vehicle now (R134, R138). -/
def Chip.holdsGateway (c : Chip) : Bool :=
  match c.bb.gateways.lookup c.vehicleId with
  | some l => l.holder == c.fuses.identity && c.acts l
  | none => false

/-- This node is the only one of its vehicle (R43, R126). -/
def Chip.onlyNode (c : Chip) : Bool :=
  match c.dir.inForce, c.ownNode with
  | some s, some n => decide ((s.nodes.filter fun m => m.position == n.position).length ≤ 1)
  | _, _ => true

/-- A slot is the node's own (R126). -/
def Chip.ownSlot (c : Chip) (s : Bytes) : Bool :=
  u64 s 8 == c.vehicleId && (u8 s 0x10 == c.nodeIndex || (u8 s 0x10 == 0 && (c.onlyNode || c.holdsGateway)))

/-- The cycle number (R123): on train time, or on the local clock in state Unaligned (R129). -/
def Chip.cycleNow (c : Chip) (L : Nat) : Nat := (if c.bb.schedState = .unaligned then c.clk.now else c.trainTime) / L

def Chip.cycleNumber (c : Chip) : Nat := c.cycleNow (match c.bb.image.cur with | some b => schedCycle b | none => cycleLen 2)

def Backbone.pub (b : Backbone) (id : Nat) : Option PubSlot := b.pubs.find? fun p => p.dataId == id

/-- DUP_ENTRY_AGEOUT (R118). (log 43) -/
def dupEntryAgeout (c : Chip) : Chip := c.onBb fun b => { b with dups := b.dups.filter fun d => decide (c.clk.now < d.lastUse + c.dupAge) }

/-! Leases (R132–R141). -/

/-- The instants of a received lease on the clock it is read on (R133). -/
def Chip.leaseOf (c : Chip) (p : Nat) (m : LeaseMsg) : Lease :=
  let base := if m.timed then 0 else c.clk.now - c.linkDelay p - m.age
  { holder := m.holder, start := base + m.start, expiry := base + m.expiry, epoch := m.epoch, timed := m.timed, grantor := m.grantor
    grantorPriority := m.priority, generation := m.generation }

/-- Send again every NOTICE whose loss no generation has recorded (R137). -/
def Chip.resendNotices (c : Chip) : Chip :=
  let todo := c.bb.unrecorded.filter fun u => match c.dir.inForce.bind fun s => s.byId u.2 with | some n => !n.dark | none => true
  let c := c.onBb fun b => { b with unrecorded := todo }
  let lead := match c.dir.inForce.bind fun s => s.byId c.leaderHolder with | some n => n.number | none => 0
  todo.foldl (fun c u => c.sendRc (c.endTowards lead) (c.rcPlain 10 (noticeBody 1 u.1 (c.links u.1) u.2 0))) c

/-- Enter another holder's leader lease into the records (R98, R134, R137): `deputy` when it is a deputy's self-grant, EV014. -/
def Chip.recordLeader (c : Chip) (l : Lease) (deputy : Bool) : Chip :=
  let c := c.onBb fun b => { b with leaderLease := some l, evidence := false }
  (if deputy then c.raise 14 else c).resendNotices

/-- A leader lease of the epoch in force received (R134, R136, R140). With no record a self-grant of a deputy is entered, or a lease of the leader that the
snapshot names. (log 48) -/
def Chip.leaderLeaseRx (c : Chip) (p : Nat) (m : LeaseMsg) : Chip :=
  let l := c.leaseOf p m
  if m.epoch ≠ c.epoch then c
  else match c.bb.leaderLease with
  | none =>
    let named : Bool := match c.dir.inForce with | some s => s.leaderIdentity == m.holder | none => false
    if m.release ∨ m.holder = 0 ∨ m.holder = c.fuses.identity ∨ (c.rankOf m.holder = 0 ∧ !named) then c else c.recordLeader l (c.rankOf m.holder != 0)
  | some r =>
    let own := c.fuses.identity
    if m.release then
      if m.holder = r.holder ∧ r.holder ≠ own then c.onBb fun b => { b with evidence := true, leaderLease := some { r with expiry := min r.expiry l.expiry } } else c
    else if m.holder = r.holder then (if r.holder = own ∨ (r.timed = l.timed ∧ l.expiry ≤ r.expiry) then c else c.onBb fun b => { b with leaderLease := some l, evidence := false })
    else if r.holder = own then
      let mine : Key := { priority := c.leaderPriority, incumbent := true, identity := own }
      let theirs : Key := { priority := m.priority, incumbent := true, identity := m.holder }
      if mine.higher theirs then
        c.issueOver (some m.generation) fun _ s => s
      else
        let c := ((c.floodLease (c.releaseMsg r)).raise 24).raise 23
        (c.recordLeader l false).timeRole
    else
      let rank := c.rankOf m.holder
      let later := r.expiry + c.margin r.timed + (rank - 1) * 20000000
      if rank ≠ 0 ∧ later ≤ l.start then c.recordLeader l true
      else
        let a : Key := { priority := m.priority, incumbent := true, identity := m.holder }
        let b : Key := { priority := r.grantorPriority, incumbent := true, identity := r.holder }
        if a.higher b then c.recordLeader l false else c

/-- The vehicle's acting gateway in the next generation (R53, R56, R138). -/
def Snapshot.setGateway (s : Snapshot) (vehicle holder : Nat) : Snapshot :=
  match s.vehicleById vehicle with
  | none => s
  | some v =>
    let num := match s.byId holder with | some n => n.number | none => 0
    { s with vehicles := s.vehicles.map fun x => if x.position = v.position then { x with gateway := num } else x
             nodes := s.nodes.map fun n => if n.position = v.position then { n with gateway := n.identity == holder } else n }

/-- Enter an acting-gateway lease; EV022 and EV023 when this node gains or loses it. -/
def Chip.recordGateway (c : Chip) (vehicle : Nat) (l : Lease) : Chip :=
  let own := c.fuses.identity
  let had := match c.bb.gateways.lookup vehicle with | some x => x.holder == own | none => false
  let c := c.onBb fun b => { b with gateways := (vehicle, l) :: b.gateways.filter fun g => g.1 != vehicle }
  if l.holder = own ∧ !had then c.raise 22 else if had ∧ l.holder ≠ own then c.raise 23 else c

/-- The leader grants the lease of a vehicle from `start` on for 200 ms (R138); a change of holder is a new generation. (log 48) -/
def Chip.grantGateway (c : Chip) (vehicle holder start : Nat) : Chip :=
  let timed := c.timeValid
  let l : Lease := { holder := holder, start := start, expiry := start + 200000000, epoch := c.epoch, timed := timed, grantor := c.fuses.identity
                     grantorPriority := c.leaderPriority, generation := c.generation }
  let changed := match c.bb.gateways.lookup vehicle with | some x => x.holder != holder | none => true
  let c := c.recordGateway vehicle l
  let c := c.floodLease { c.leaseMsg 2 (b2n timed) with holder := holder, scope := vehicle, start := if timed then start else start - c.clk.now, expiry := if timed then l.expiry else l.expiry - c.clk.now }
  if changed then c.issue fun _ s => s.setGateway vehicle holder else c

/-- The best requester of a vehicle (R138): the higher GatewayPriority, node index 1 on a tie. (log 48) -/
def Chip.bestRequest (c : Chip) (vehicle : Nat) (not : Nat) : Option GatewayRequest :=
  let idx := fun (r : GatewayRequest) => match c.dir.inForce.bind fun s => s.byId r.identity with | some n => n.nodeIndex | none => 2
  (c.bb.requests.filter fun r => r.vehicle == vehicle && r.identity != not && decide (c.clk.now ≤ r.receivedAt + 100000000)).foldl (fun best r =>
    match best with
    | none => some r
    | some b => if b.priority < r.priority ∨ (b.priority = r.priority ∧ idx r < idx b) then some r else best) none

/-- The instant now on the clock that this leader's grants use. -/
def Chip.grantClock (c : Chip) : Nat := if c.timeValid then c.trainTime else c.clk.now

/-- A gateway Request at the leader (R138, R141). -/
def Chip.gatewayRequest (c : Chip) (m : LeaseMsg) : Chip :=
  let keep := c.bb.requests.filter fun r => !(r.vehicle == m.scope && r.identity == m.holder)
  if m.noTime ∨ m.gatewayPriority = 0 then c.onBb fun b => { b with requests := keep }
  else
    let c := c.onBb fun b => { b with requests := keep ++ [{ vehicle := m.scope, identity := m.holder, priority := m.gatewayPriority, receivedAt := c.clk.now }] }
    if !c.actsAsLeader then c
    else match c.bb.gateways.lookup m.scope with
    | some l =>
      if l.holder = m.holder ∧ c.leaseNow l ≤ l.expiry then
        let l := { l with expiry := c.grantClock + 200000000, grantor := c.fuses.identity, grantorPriority := c.leaderPriority }
        (c.recordGateway m.scope l).floodLease { c.leaseMsg 2 (b2n l.timed) with holder := m.holder, scope := m.scope
                                                                                 start := if l.timed then l.start else 0, expiry := if l.timed then l.expiry else 200000000 }
      else if l.expiry + c.margin l.timed ≤ c.leaseNow l then c.grantGateway m.scope m.holder (max (l.expiry + c.margin l.timed) c.grantClock)
      else c
    | none => match c.bestRequest m.scope 0 with
      | some r => c.grantGateway m.scope r.identity c.grantClock
      | none => c

/-- The first grants after an epoch switch (R138), once the leader may act (R134). -/
def Chip.firstGrants (c : Chip) : Chip :=
  if !c.actsAsLeader then c
  else match c.dir.inForce with
  | none => c
  | some s => s.vehicles.foldl (fun c v => if v.nodes = 2 then (match c.bestRequest v.identity 0 with | some r => c.grantGateway v.identity r.identity c.grantClock | none => c) else c) c

/-- A LEASE telegram that arrived on a port: re-sent (`relay`), and acted on here (`mine`) once among its copies (R113, R118, R132). -/
def Chip.hearLease (c : Chip) (p : Nat) (raw : Sourced) (m : LeaseMsg) (relay mine : Bool) (k : Chip → Chip) : Chip :=
  let c := if relay then c.relayLease p raw.outer m else c
  if !mine then c
  else
    let (first, c) := c.dupCheck p (Telegram.ofOuter raw.outer 3 raw.bytes)
    if first then k c else c

/-- A Release of a gateway role (R132): the lease ends, with EV023 at its holder; at the leader the change of holder is a new generation (R53). -/
def Chip.releaseGateway (c : Chip) (m : LeaseMsg) : Chip :=
  if m.epoch = c.epoch ∧ (c.bb.gateways.any fun g => g.1 == m.scope && g.2.holder == m.holder) then
    let c := c.onBb fun b => { b with gateways := b.gateways.filter fun g => !(g.1 == m.scope && g.2.holder == m.holder) }
    let c := if m.holder = c.fuses.identity then c.raise 23 else c
    if c.recordedLeader then c.issue fun _ s => s.setGateway m.scope 0 else c
  else c

/-- The leader's ScheduleId, from any LEASE of the leader, whatever its role (R125, R144). -/
def Chip.heardSchedule (c : Chip) (m : LeaseMsg) : Chip :=
  if m.grantor = c.leaderHolder ∧ m.epoch = c.epoch then (c.onBb fun b => { b with leaderScheduleId := some m.scheduleId }).schedJudge else c

/-- A LEASE telegram of role 1 or 2 other than a Request, entered into the records (R25, R125, R134, R136, R138). A grant that names this node counts for
nothing while its train time is lost. (log 48) -/
def Chip.takeLease (c : Chip) (p : Nat) (m : LeaseMsg) : Chip :=
  let c := if c.outranks m.grantor ∧ m.epoch = c.epoch then c.onBb fun b => { b with evidence := false } else c
  let c := if m.role = 1 then c.leaderLeaseRx p m
    else if m.release then c.releaseGateway m
    else if c.fromHolder m.grantor (c.linkDelay p + m.age) ∧ m.epoch = c.epoch ∧ !(m.holder == c.fuses.identity && !c.timeValid) then c.recordGateway m.scope (c.leaseOf p m) else c
  c.heardSchedule m

/-- LEASE_RX (R132, R134, R138): re-sent within 10 µs, Age advanced; roles 1 and 2 entered into the records, a Request at the leader. (log 48) -/
def leaseRx (p : Nat) (raw : Sourced) (c : Chip) : Chip :=
  if !c.rolling || !c.bb.isUp p then c
  else match LeaseMsg.parse raw.bytes with
  | none => c.bbCount p bbHeaderInvalid
  | some m =>
    if m.role = 3 then c
    else if m.request then c.hearLease p raw m (!c.recordedLeader) c.recordedLeader fun c => if m.epoch = c.epoch then c.gatewayRequest m else c
    else c.hearLease p raw m true true fun c => c.takeLease p m

/-- LEADER_LEASE_RENEW (R135). -/
def leaderLeaseRenew (c : Chip) : Chip :=
  match c.bb.leaderLease with
  | some l =>
    if c.rolling && c.recordedLeader && decide (c.leaseNow l + c.margin l.timed ≤ l.expiry) then
      let l := { l with expiry := c.leaseNow l + 100000000 }
      (c.onBb fun b => { b with leaderLease := some l }).floodLease (c.renewMsg l)
    else c
  | none => c

/-- LEASE_EXPIRY (R134, R138): the leader role (vehicle 0) or a vehicle's gateway role reaches Expiry − M and its holder stops acting;
at the leader a lapsed gateway lease passes to the other requester from Expiry + M on, or stands vacant (holder 0) so that no later grant starts before
that. (log 48) -/
def leaseExpiry (vehicle : Nat) (c : Chip) : Chip :=
  if vehicle = 0 then
    match c.bb.leaderLease with
    | some l =>
      if c.recordedLeader ∧ l.expiry < c.leaseNow l + c.margin l.timed then ((c.onBb fun b => { b with leaderLease := none }).raise 23).timeRole.schedJudge else c
    | none => c
  else match c.bb.gateways.lookup vehicle with
  | none => c
  | some l =>
    if l.holder = 0 ∨ c.leaseNow l + c.margin l.timed ≤ l.expiry then c
    else
      let c := if l.holder = c.fuses.identity then c.raise 23 else c
      let c := c.onBb fun b => { b with gateways := b.gateways.filter fun g => g.1 != vehicle }
      let vacant := fun (c : Chip) => c.onBb fun b => { b with gateways := (vehicle, { l with holder := 0 }) :: b.gateways }
      if c.recordedLeader then
        match c.bestRequest vehicle l.holder with
        | some r => if c.actsAsLeader then c.grantGateway vehicle r.identity (l.expiry + c.margin l.timed) else vacant c
        | none => if c.actsAsLeader then (vacant c).issue fun _ s => s.setGateway vehicle 0 else vacant c
      else c

/-- GATEWAY_REQUEST_TIMER (R138): an eligible node of a two-node vehicle requests every 50 ms. (log 48) (log 20) -/
def gatewayRequestTimer (c : Chip) : Chip :=
  if !c.rolling || !c.gatewayEligible || !c.timeValid then c
  else
    let m := { c.leaseMsg 2 4 with scope := c.vehicleId, gatewayPriority := u8 c.bb.config 4, grantor := 0 }
    if c.recordedLeader then c.gatewayRequest m
    else c.sendLease (c.endTowards (match c.dir.inForce with | some s => s.leaderNode | none => 0)) m

/-! Process data received (R131). -/

/-- A received PDATA telegram into its receive buffer (R131). -/
def Chip.pdReceive (c : Chip) (t : Telegram) : Chip :=
  c.onBb fun b => { b with recvs := { dataId := t.selector, payload := t.payload, sequence := t.sequence, source := t.source, cycle := c.cycleNumber } ::
                                     b.recvs.filter fun r => r.dataId != t.selector }

/-! Commands (R143–R146). -/

/-- See log 44. -/
def bbStatus : Cmd where
  form := noReq
  act c _ :=
    let bitsOf := fun (f : Nat → Bool) => (List.range 4).foldl (fun acc p => acc + b2n (f p) * 2 ^ p) 0
    let e := fun (i : Nat) => c.bb.ends.getD i {}
    let dfr := match c.bb.image.cur with | some b => (c.deferred b).length | none => 0
    c.ok (le 1 (bitsOf c.bb.isUp + bitsOf (fun p => (c.bb.port p).preempt) * 16) ++
      le 1 ((e 0).egress + (e 1).egress * 2 + b2n (e 0).fallback * 4 + b2n (e 1).fallback * 8) ++ le 1 c.namedLine ++
      le 1 (match c.bb.schedState with | .none => 0 | .aligned => 1 | .holdover => 2 | .unaligned => 3) ++ le 4 (imageId c.bb.image.cur) ++
      le 4 (imageId (c.bb.image.pending.getD none)) ++ le 2 dfr ++ le 1 (b2n (dfr != 0) + b2n c.bb.differs * 2) ++ zeros 1 ++ le 8 c.cycleNumber ++
      le 4 (if c.recordedLeader then imageId c.bb.image.cur else c.bb.leaderScheduleId.getD 0) ++ zeros 4)

def bbConfigSet : Cmd where
  form _ r :=
    [lenIs r 16, rsv r 5 1, rsv r 10 6, rng (decide (0x0600 ≤ u16 r 0)) 0, rng (decide (u8 r 2 ≤ 1)) 2, enc (decide (u8 r 3 ≤ 1)) 3, rng (decide (u8 r 4 ≤ 15)) 4,
     rng (decide (1 ≤ u16 r 6 ∧ u16 r 6 ≤ 10)) 6, rng (decide (10 ≤ u16 r 8 ∧ u16 r 8 ≤ 1000)) 8]
  state c r := [need (!c.rolling || staticKept c.bb.config r [(0, 2), (2, 1)]) 0x05]
  act c r := (c.onBb fun b => { b with config := r }).ok

def bbConfigGet : Cmd where
  form := noReq
  act c _ := c.ok c.bb.config

/-- A staging command: Offset (4), Length (2) at most 480, data; status 0x04 beyond `size` bytes. -/
def stageForm (size : Nat) (r : Bytes) : List Check :=
  [lenData r 8 (u16 r 4), rsv r 6 2, rng (decide (u32 r 0 + u16 r 4 ≤ size)) 0, rng (decide (u16 r 4 ≤ 480)) 4]

def bbSchedStage : Cmd where
  form _ r := stageForm 131136 r
  act c r := (c.onBb fun b => { b with stage := b.stage.write (u32 r 0) (r.drop 8) }).ok

def bbSchedCommit : Cmd where
  form := noReq
  state c _ := [need (schedValid c.stagedSched) 0x0C]
  act c _ :=
    let b := c.stagedSched
    let v : Option Bytes := if schedSlots b = 0 then none else some b
    let run := c.rolling
    let c' := c.onBb fun x => { x with image := x.image.write run v, pubs := if run then x.pubs else x.pubs.map PubSlot.renew, recvs := if run then x.recvs else [] }
    let c' := if run then c' else c'.schedUpdate.schedCheck
    c'.ok (le 4 (u32 b 8) ++ le 4 c.epoch ++ le 1 (b2n (!run)) ++ zeros 3)

/-- The slot entry of a DataId in the image in force. -/
def Chip.slotOf (c : Chip) (id : Nat) : Option Bytes :=
  c.bb.image.cur.bind fun b => ((List.range (schedSlots b)).map (schedSlot b)).find? fun s => u16 s 4 == id

/-- Write into the staging copy of an own slot; with `complete` it is published whole (R131). -/
def Chip.pdStage (c : Chip) (id len off : Nat) (d : Bytes) (complete : Bool) : Chip :=
  let old : PubSlot := (c.bb.pub id).getD { dataId := id, staging := zeros len, publish := none, sequence := 0 }
  let st := splice (padTo len old.staging) off d
  let new := { old with staging := st, publish := if complete then some st else old.publish }
  c.onBb fun b => { b with pubs := new :: b.pubs.filter fun p => p.dataId != id }

def pdWrite : Cmd where
  form c r :=
    [lenData r 8 (u16 r 4), enc (decide (u8 r 6 ≤ 1)) 6, rsv r 7 1,
     rng (match c.slotOf (u16 r 0) with | some s => c.ownSlot s | none => false) 0,
     rng (match c.slotOf (u16 r 0) with | some s => decide (u16 r 2 + u16 r 4 ≤ u16 s 6) | none => false) 2, rng (decide (u16 r 4 ≤ 480)) 4]
  act c r :=
    match c.slotOf (u16 r 0) with
    | some s => (c.pdStage (u16 r 0) (u16 s 6) (u16 r 2) (r.drop 8) (u8 r 6 == 1)).ok
    | none => c.refuse 0x04

def pdRead : Cmd where
  form _ r := [lenIs r 8, rsv r 6 2, rng (decide (u16 r 4 ≤ 480)) 4]
  act c r :=
    match c.bb.recvs.find? fun x => x.dataId == u16 r 0 with
    | none => c.ok (le 2 (u16 r 0) ++ zeros 22)
    | some x =>
      let d := slice x.payload (u16 r 2) (u16 r 4)
      c.ok (le 2 x.dataId ++ le 2 d.length ++ le 4 x.sequence ++ le 8 x.source ++ le 8 x.cycle ++ d)

def leaseStatus : Cmd where
  form := noReq
  act c _ :=
    let l := c.bb.leaderLease.getD {}
    let g := ((c.bb.gateways.lookup c.vehicleId).filter fun l => l.holder != 0).getD {}
    c.ok (le 8 l.holder ++ le 8 l.start ++ le 8 l.expiry ++ le 8 g.holder ++ le 8 g.start ++ le 8 g.expiry ++ le 4 (c.margin (if c.bb.leaderLease.isSome then l.timed else c.timeValid)) ++
      le 1 (b2n c.actsAsLeader + b2n c.holdsGateway * 2 + b2n (c.bb.leaderLease.isSome && !l.timed) * 4) ++ zeros 3)

def bbCounters : Cmd where
  form _ r := [lenIs r 4, rsv r 1 3, rng (decide (u8 r 0 ≤ 3)) 0]
  act c r := (c.onPort (u8 r 0) fun q => { q with counters := List.replicate 19 0 }).ok (cntBytes (c.bb.port (u8 r 0)).counters)

end Sys2Proof.Machine
end

