-- ==== Sys2Proof/Machine/Fabric.lean ====
section
/-! DEFINITION. What several chapters share about frames in flight: queue admission and dequeue with their events (R321–R325, R335, R339),
receive descriptors (R327), and the hand-over of a field frame to the router (R254–R257). -/
namespace Sys2Proof.Machine

/-! Queues on the chip. -/

/-- A frame dropped at admission is counted and raises EV116, at most once per queue per 100 ms (R322). -/
def Chip.queueDrop (c : Chip) (q : Nat) : Chip :=
  (c.onQm fun m => m.upd q fun a => { a with dropped := sat32 (a.dropped + 1), droppedSince := true }).raiseLimited 116 2 q 0 100000000

/-- A frame of `data` may be admitted to a queue now (R322). -/
def Chip.admits (c : Chip) (q n : Nat) : Bool := c.qm.place c.mem q n != .drop

/-- Offer a frame to a queue (R322, R323): whether it was admitted, and the chip after it. -/
def Chip.enqueue (c : Chip) (q : Nat) (data : Bytes) (info : Bytes := []) : Bool × Chip :=
  match c.qm.place c.mem q data.length with
  | .drop => (false, c.queueDrop q)
  | .onChip => (true, c.onQm fun m => m.push q { data := data, info := info, since := c.clk.now })
  | .ddr =>
    let first := !(c.qm.queue q).spilling
    let c := c.onQm fun m => m.push q { data := data, info := info, since := c.clk.now, inDdr := true }
    (true, if first then c.raiseD 117 2 q 0 else c)

/-- An uncorrectable error in DDR4 (R335, R336): counted, EV118, and FAILED at UceLimit errors within 60 s. (log 55) -/
def Chip.ddrError (c : Chip) (address arg : Nat) : Chip :=
  let now := c.clk.now
  let recent := (now :: c.mem.uces).filter fun t => decide (now < t + 60000000000)
  let c := (c.onMem fun m => { m with uncorrectable := sat32 (m.uncorrectable + 1), lastUce := address, uces := recent }).raiseD 118 (if arg = 0xFFFF then 0 else 2) arg 0
  if c.mem.state = .running ∧ u8 c.mem.config 13 ≤ recent.length then (c.onMem fun m => { m with state := .failed, uces := [] }).raise 119 else c

/-- The queue's head is taken; EV117 when it was the last frame held in DDR4 (R323). -/
def Chip.dropHead (c : Chip) (q : Nat) : Chip :=
  let was := (c.qm.queue q).spilling
  let c := c.onQm fun m => m.upd q fun a => { a with entries := a.entries.drop 1 }
  if was && !(c.qm.queue q).spilling then c.raiseD 117 2 q 0 else c

/-- Correctable errors of the last hour with `n` more, and whether they have passed CeAlarm by them (R335, R339). (log 55) -/
def MemCtl.tally (m : MemCtl) (ces : List (Nat × Nat)) (n now : Nat) : List (Nat × Nat) × Bool :=
  let recent := ces.filter fun x => decide (now < x.1 + 3600000000000)
  let before := recent.foldl (fun k x => k + x.2) 0
  let alarm := u16 m.config 14
  (if n = 0 then recent else (now, n) :: recent, decide (before ≤ alarm ∧ alarm < before + n))

/-- Errors that the controller has corrected in DDR4 (R335). (log 55) -/
def Chip.ddrCorrected (c : Chip) (n : Nat) : Chip :=
  let t := c.mem.tally c.mem.ces n c.clk.now
  let c := c.onMem fun m => { m with corrected := sat32 (m.corrected + n), ces := t.1 }
  if t.2 then c.raise 118 else c

/-- An error that the queue manager has corrected in the burst buffer (R325). (log 55) -/
def Chip.burstCorrected (c : Chip) (q : Nat) : Chip :=
  let t := c.mem.tally c.qm.ces 1 c.clk.now
  let c := c.onQm fun m => { m with corrected := sat32 (m.corrected + 1), ces := t.1 }
  if t.2 then c.raiseD 118 2 q 0 else c

/-- Take the head of a queue. `ecc` names an error met on reading it. Below 4 GiB it is the address of an uncorrectable one: the frame is dropped and counted
as EccDropped; an on-chip cell is retired (R325), a DDR4 error goes to the memory controller (R335). From there on it stands for an error corrected. (log 55) -/
def Chip.takeHead (c : Chip) (q : Nat) (ecc : Option Nat) : Option QEntry × Chip :=
  match (c.qm.queue q).entries, ecc with
  | [], _ => (none, c)
  | e :: _, none => (some e, c.dropHead q)
  | e :: _, some a =>
    if 4294967296 ≤ a then (some e, if e.inDdr then (c.dropHead q).ddrCorrected 1 else (c.dropHead q).burstCorrected q)
    else
      let c := (c.dropHead q).onQm fun m => m.upd q fun x => { x with eccDropped := sat32 (x.eccDropped + 1), droppedSince := true }
      (none, if e.inDdr then c.ddrError a q else (c.onQm fun m => { m with retiredCells := m.retiredCells + 1 }).raiseD 118 2 q 0)

/-- A reader that may leave the head of a queue where it is reads it (R325): a corrected error is counted, and a frame with an uncorrectable one is dropped, so
that the reader goes on with the next. (log 55) -/
def Chip.headRead (c : Chip) (q : Nat) (ecc : Option Nat) : Chip :=
  match (c.qm.queue q).entries, ecc with
  | e :: _, some a => if 4294967296 ≤ a then (if e.inDdr then c.ddrCorrected 1 else c.burstCorrected q) else (c.takeHead q ecc).2
  | _, _ => c

/-- The same for the queue that a mailbox command reads, with the error that its doorbell brought (R325). (log 55) -/
def Chip.mailRead (c : Chip) (op q : Nat) : Chip := c.headRead q ((c.host.busyWith op).bind fun n => (c.host.mb n).ecc)

/-! Receive descriptors (R327). -/

/-- What a record of a host receive queue takes along: the descriptor with buffer, Control and lengths still 0. -/
structure RxInfo where
  kind : Nat
  trainTime : Nat := 0
  ps : Nat := 0
  timeValid : Bool := false
  tag : Nat := 0
  node : Nat := 0
  selector : Nat := 0
  source : Nat := 0
  session : Nat := 0
  stream : Nat := 0
  sequence : Nat := 0
  port : Nat
  tagRemoved : Bool := false
  tci : Nat := 0

def RxInfo.bytes (i : RxInfo) : Bytes :=
  padTo 64 (zeros 11 ++ le 1 i.kind ++ zeros 4 ++ le 8 i.trainTime ++ le 2 i.ps ++ le 1 (b2n i.timeValid) ++ le 1 i.tag ++ le 2 i.node ++ le 2 i.selector ++
    le 8 i.source ++ le 2 i.session ++ le 2 i.stream ++ le 4 i.sequence ++ le 1 i.port ++ le 1 (b2n i.tagRemoved) ++ le 2 i.tci)

/-- The receive latency of a port in ps (R151, R170): calibrated and corrected on ports 0 to 3, that of the external PHY on ports 8 to 11. -/
def Chip.rxLatency (c : Chip) (p : Nat) : Int :=
  if p < 4 then c.fuses.rxLatency.getD p 0 + (c.time.tiles.getD p {}).rxCorrection
  else if 8 ≤ p ∧ p ≤ 11 then 100 * (u16 c.time.config (0x18 + 4 * (p - 8)) : Int) else 0

/-- The transmit latency of a port in ps (R151, R170). -/
def Chip.txLatency (c : Chip) (p : Nat) : Int :=
  if p < 4 then c.fuses.txLatency.getD p 0 + (c.time.tiles.getD p {}).txCorrection
  else if 8 ≤ p ∧ p ≤ 11 then 100 * (u16 c.time.config (0x1A + 4 * (p - 8)) : Int) else 0

/-- The train time at a capture point measured `ps` picoseconds from now less a latency (R170): ns and the picosecond part. -/
def Chip.stampLess (c : Chip) (latency : Int) (ps : Nat) : Nat × Nat := let x := ((c.trainPs : Int) + ps - latency).toNat; (x / 1000, x % 1000)
def Chip.rxStamp (c : Chip) (p ps : Nat) : Nat × Nat := c.stampLess (c.rxLatency p) ps
/-- See log 54. -/
def Chip.txStamp (c : Chip) (p ps : Nat) : Nat × Nat := c.stampLess (c.txLatency p) ps

/-- The descriptor of a record that a telegram brought, arriving on `port` (R111). EpochTag is the header's, as R111 lists it
for telegrams; every other record carries the tag in force, as R95 and R327 say: DEDUCED. (log 44) -/
def Chip.telegramInfo (c : Chip) (kind port ps : Nat) (t : Telegram) : RxInfo :=
  { kind := kind, trainTime := (c.rxStamp port ps).1, ps := (c.rxStamp port ps).2, timeValid := c.timeValid, tag := t.tag, node := t.srcNode, selector := t.selector, source := t.source
    session := t.session, stream := t.stream, sequence := t.sequence, port := port }

/-! Transmit captures written back (R329, R330). -/

def EthState.ring (e : EthState) (q : Nat) : Ring := e.rings.getD (q - 48) {}
def Chip.onRing (c : Chip) (q : Nat) (f : Ring → Ring) : Chip := c.onEth fun e => { e with rings := updAt e.rings (q - 48) f }

/-- The ring runs and can reach host memory. -/
def Chip.ringOn (c : Chip) (q : Nat) : Bool := decide (48 ≤ q ∧ q ≤ 59) && (c.eth.ring q).enabled && c.host.pcieUp

/-- EV030 or EV031 for a ring, at most once per IntHoldoff unless at once (R328, R330). (log 54) -/
def Chip.ringEvent (c : Chip) (q e : Nat) (atOnce : Bool) : Chip :=
  let x := c.eth.ring q
  let soon := match x.lastEvent with | some t => decide (c.clk.now < t + x.holdoff * 1000) | none => false
  if soon && !atOnce then c else (c.onRing q fun x => { x with lastEvent := some c.clk.now }).raiseD e 2 q 0

/-- A transmit chain's write-back (R330): the result, with the capture of its first frame on a port where it has left (R329), Owner 0 on every descriptor, and
EV031. (log 54) -/
def Chip.txFinish (c : Chip) (w : TxWait) (port : Option Nat) : Chip :=
  let c := c.onEth fun e => { e with waits := e.waits.filter fun x => x.token != w.token }
  if !c.ringOn w.ring then c
  else
    let at_ := match port with | some p => le 8 (c.txStamp p 0).1 ++ le 2 (c.txStamp p 0).2 ++ le 1 (b2n c.timeValid) | none => zeros 11
    ((c.emit (.dma w.last (w.head ++ at_ ++ zeros 5))).emits (w.controls.map fun x => Output.dma x.1 (le 1 x.2))).ringEvent w.ring 31 false

/-- A frame leaves a queue by a port: a chain that waits for its capture is written back (R329). (log 54) -/
def Chip.stamped (c : Chip) (p : Nat) (e : QEntry) : Chip :=
  match e.stamp.bind fun k => c.eth.waits.find? fun w => w.token == k with
  | some w => c.txFinish w (some p)
  | none => c

/-- The chains whose first frame has left every queue unsent are written back without a capture (R330). (log 54) -/
def Chip.stampsLost (c : Chip) : Chip :=
  (c.eth.waits.filter fun w => !c.qm.queues.any fun q => q.entries.any fun e => e.stamp == some w.token).foldl (fun c w => c.txFinish w none) c

/-! The router's input (R254–R257). -/

def Chip.rtCount (c : Chip) (i : Nat) : Chip := c.onRt fun r => { r with counters := bump r.counters i }

/-- A frame joins those waiting for lookup, before the frames of its own core cycle that arrived on a higher port; PDATA, with port 0xFE, is the last
(R257). (log 78) -/
def takeInOrder (f : FieldFrame) (l : List FieldFrame) : List FieldFrame :=
  let behind := fun (x : FieldFrame) => x.taken == f.taken && decide (f.port < x.port)
  l.filter (fun x => !behind x) ++ f :: l.filter behind

/-- A field frame is taken: it waits for lookup; stopped, it counts NoRoute; with 256 waiting it counts Overrun and raises EV086. -/
def Chip.fieldTake (c : Chip) (f : FieldFrame) : Bool × Chip :=
  if !c.rt.running then (false, c.rtCount rtNoRoute)
  else if 256 ≤ c.rt.waiting.length then (false, (c.rtCount rtOverrun).raiseLimited 86 0 0xFFFF f.port 100000000)
  else (true, c.onRt fun r => { r with waiting := takeInOrder { f with taken := c.clk.now / 5 } r.waiting })

end Sys2Proof.Machine
end

