-- ==== Sys2Proof/Machine/BackboneRx.lean ====
section
/-! DEFINITION. Backbone frames received, forwarded, delivered and sent from the queues (R103–R122, R311, R317, R318), and MSG_SEND. -/
namespace Sys2Proof.Machine

/-! Where a telegram goes (R109, R139). -/

/-- The resolution of a destination at this node. -/
inductive Way where
  | here
  | towards (e : Nat)
  | everyEnd
  | unresolvable
  deriving DecidableEq, Repr

/-- The other node of the own vehicle. -/
def Chip.partner (c : Chip) : Option NodeEntry :=
  match c.dir.inForce, c.ownNode with
  | some s, some n => s.nodes.find? fun m => m.position == n.position && m.number != n.number
  | _, _ => none

/-- Node index 0 of the own vehicle, from the lease records (R139). -/
def Chip.gatewayIsHere (c : Chip) : Bool :=
  if c.holdsGateway then true
  else match c.partner with
    | none => true
    | some m =>
      let partnerHolds := match c.bb.gateways.lookup c.vehicleId with | some l => l.holder == m.identity && decide (l.start ≤ c.leaseNow l ∧ c.leaseNow l < l.expiry) | none => false
      !partnerHolds && c.nodeIndex == 1

/-- A vehicle as a destination: the own one by node index, another one by direction. -/
def Chip.wayToVehicle (c : Chip) (s : Snapshot) (v : VehicleEntry) (idx : Nat) : Way :=
  match c.ownNode with
  | none => .unresolvable
  | some n =>
    if v.position = n.position then
      if (if idx = 0 then c.gatewayIsHere else idx == c.nodeIndex) then .here
      else match c.partner with
        | some m => .towards (c.endTowards m.number)
        | none => .unresolvable
    else match s.nodes.find? fun m => m.position == v.position with
      | some m => .towards (c.endTowards m.number)
      | none => .unresolvable

/-- All nodes: kind 0x04, or node number 0xFFF (R109). -/
def Telegram.toAll (t : Telegram) : Bool := t.dstKind == 4 || (t.dstKind == 0 && t.dstValue == 0xFFF)

/-- R109. Without a snapshot in force only all-nodes telegrams resolve. (log 44, log 47) (log 43) -/
def Chip.wayOf (c : Chip) (t : Telegram) : Way :=
  if t.toAll then .everyEnd
  else match c.dir.inForce with
    | none => .unresolvable
    | some s =>
      match t.dstKind with
      | 0 => if t.dstValue = c.ownNumber then .here else .towards (c.endTowards t.dstValue)
      | 1 => match s.vehicle t.dstValue, c.ownNode with
        | some v, _ => c.wayToVehicle s v t.dstIndex
        | none, some n => .towards (c.endTowards (if n.position < t.dstValue then 0xFFF else 0))
        | none, none => .unresolvable
      | 2 => if t.dstValue = c.fuses.identity then .here else match s.byId t.dstValue with | some n => .towards (c.endTowards n.number) | none => .unresolvable
      | 3 => match s.vehicleById t.dstValue with | some v => c.wayToVehicle s v t.dstIndex | none => .unresolvable
      | _ => .unresolvable

/-- A position address as source or destination (R95). -/
def Telegram.positioned (t : Telegram) : Bool := t.byPosition || t.dstKind == 1 || (t.dstKind == 0 && t.dstValue != 0xFFF)

/-- Dropped as stale at dequeue: a position address with another epoch's tag (R95, R109). -/
def Chip.oldTag (c : Chip) (t : Telegram) : Bool := t.positioned && t.tag != c.epochTag

/-- Dropped as stale on receipt: for its tag, or in the quarantine of R84 (R84, R95, R109). -/
def Chip.stale (c : Chip) (t : Telegram) : Bool := c.oldTag t || (t.positioned && decide (c.clk.now < c.rc.quarantineUntil))

/-! Protect windows at this node (R127, R128). -/

/-- A scheduled telegram that reaches an egress port outside its window is an overrun (R128). (log 44) -/
def Chip.overrun (c : Chip) (q : Nat) (t : Telegram) : Bool :=
  t.scheduled && t.type == 4 && (c.bb.schedState == .aligned || c.bb.schedState == .holdover) && !(c.windowsNow q).contains t.selector &&
    (match c.bb.image.cur with
     | some b => (List.range (schedSlots b)).any fun i => u16 (schedSlot b i) 4 == t.selector && !(c.deferred b).contains i
     | none => false)

/-! Local delivery (R111). -/

/-- The egress queue of a vehicle port (R314). -/
def egressQueue (port : Nat) (high : Bool) : Nat := (if high then 16 else 17) + 2 * (port - 4)

/-- An Ethernet frame without FCS padded to the least length, its FCS appended. (log 53) -/
def withFcs (b : Bytes) : Bytes := let b := b ++ zeros (60 - b.length); b ++ le 4 (fcs b)

def EthState.vport (e : EthState) (p : Nat) : VPort := e.vports.getD (p - 4) {}

/-- The port whose counters hold what a tunnel frame from `port` does: a frame of the host's own (port 62) counts on the front egress port, the port of
this node's own sends. (log 53) -/
def Chip.tunnelPort (c : Chip) (port : Nat) : Nat := if port < 12 then port else (c.bb.ends.getD 0 {}).egress

/-- A TUNNEL telegram delivered (R317, R318). -/
def Chip.deliverTunnel (c : Chip) (port ps : Nat) (t : Telegram) : Chip :=
  let h := t.payload.take 8
  let frame := t.payload.drop 8
  let dst := u8 h 0
  let bad := t.payload.length < 22 ∨ 2 ≤ u8 h 2 ∨ !isZero (slice h 3 5) ∨ t.selector ≠ 0
  if bad then c.macCount (c.tunnelPort port) macTunnelInvalid
  else if 4 ≤ dst ∧ dst ≤ 11 then
    if (c.eth.vport dst).running then (c.enqueue (egressQueue dst (t.tc == 1)) (withFcs frame)).2 else c.macCount (c.tunnelPort port) macTunnelInvalid
  else if 48 ≤ dst ∧ dst ≤ 55 then (c.enqueue dst frame (c.telegramInfo 3 port ps t).bytes).2
  else c.macCount (c.tunnelPort port) macTunnelInvalid

/-- Hand a telegram to its consumer (R111). Control types and BRIDGE telegrams go to the units that take them by commands of their own. -/
def Chip.deliver (c : Chip) (port ps : Nat) (t : Telegram) : Chip :=
  match t.type with
  | 4 => ((c.pdReceive t).fieldTake { kind := 4, port := 0xFE, key := t.selector % 32768, payload := t.payload, trainTime := (c.rxStamp port ps).1, timeValid := c.timeValid
                                      source := t.source, header := slice (c.telegramInfo 2 port ps t).bytes 28 20, arrival := port }).2
  | 5 => (c.enqueue (48 + t.selector % 8) t.payload (c.telegramInfo 1 port ps t).bytes).2
  | 7 => c.deliverTunnel port ps t
  | _ => c

/-! Forwarding (R106, R110, R113, R114, R120). -/

/-- The egress ports of the copies that a telegram arriving on port `p` sends out on end `e` (R113, R114). -/
def Chip.egressPorts (c : Chip) (p e : Nat) (t : Telegram) : List Nat := if t.tc < 2 then [2 * e + (c.bb.ends.getD e {}).egress] else c.linesFor p e

/-- The conditions of R120 for one egress port. `busy` marks in bits 3 to 0 the ports that send another express frame, in bits 7 to 4 those that
send a preemptable one. (log 45) -/
def Chip.cutsThrough (c : Chip) (p q busy : Nat) (t : Telegram) : Bool :=
  t.type == 4 && q / 2 != p / 2 && c.bb.isUp q && !busy.testBit q && (!busy.testBit (q + 4) || (c.bb.port q).preempt) && c.clearOf q t

/-- One copy onto an egress port: cut through, or stored in Q(4q + c). -/
def Chip.forwardOn (c : Chip) (p q busy : Nat) (t : Telegram) : Chip :=
  let c := if c.overrun q t then c.bbCount q bbWindowOverruns else c
  if c.cutsThrough p q busy t then
    let c := if busy.testBit (q + 4) then c.onPort q fun x => { x with lowUntil := max x.lowUntil (c.clk.now + 1) } else c
    (c.sendOn q t).bbCount p bbCutThrough
  else ((c.enqueue (4 * q + t.tc) (c.frameOf { t with line := q % 2 })).2).bbCount p bbStoreForward

/-- Forward a telegram towards an end (R110, R113): each copy for an egress line that is down counts as no-egress, beyond an outer end every one. (log 44) -/
def Chip.forward (c : Chip) (p e busy : Nat) (t : Telegram) : Chip :=
  let t := { t with hop := t.hop + 1 }
  if 4095 ≤ t.hop then c.bbCount p bbHopLimit
  else c.copiesOut p (c.egressPorts p e t) fun c q => c.forwardOn p q busy t

/-- A telegram received whole and valid on an up link: delivered, forwarded, or dropped (R109). (log 44) -/
def Chip.route (c : Chip) (p ps busy : Nat) (t : Telegram) : Chip :=
  let local_ := fun (c : Chip) => if t.type = 6 then c else let (ok, c) := c.dupCheck p t; if ok then c.deliver p ps t else c
  if c.stale t then c.bbCount p bbStale
  else match c.wayOf t with
    | .here => local_ c
    | .towards e => c.forward p e busy t
    | .everyEnd => local_ (c.forward p (1 - p / 2) busy t)
    | .unresolvable => c.bbCount p bbUnresolvable

/-- A frame with a bad FCS that was being cut through ends with the FCS inverted on each egress port (R121). -/
def Chip.cutBad (c : Chip) (p busy : Nat) (f : Bytes) : Chip :=
  match c.parseBody f with
  | .error _ => c
  | .ok t =>
    let out := fun (c : Chip) (e : Nat) =>
      let t := { t with hop := t.hop + 1 }
      if 4095 ≤ t.hop then c
      else (c.egressPorts p e t).foldl (fun c q =>
        if c.cutsThrough p q busy t then
          let g := c.frameOf { t with line := q % 2 }
          let n := g.length - 4
          let c := (if busy.testBit (q + 4) then c.onPort q fun x => { x with lowUntil := max x.lowUntil (c.clk.now + 1) } else c).preempts q
          (((c.onPort q fun x => { x with lastTx := c.clk.now, counters := bump x.counters bbSent }).macSent q g.length).emit
            (.frame q (g.take n ++ (g.drop n).map fun b => ~~~b))).bbCount p bbCutThrough
        else c) c
    if c.stale t || !c.bb.isUp p then c
    else match c.wayOf t with
      | .towards e => out c e
      | .everyEnd => out c (1 - p / 2)
      | .here | .unresolvable => c

/-- The MAC counters that a received frame's faults raise (R310, R311), `limit` the longest frame of the port: a frame with several faults counts under
each. A symbol error with no frame at all is low-power idle signalling (R310). (log 53) -/
def macFaults (limit err : Nat) (f : Bytes) : List Nat :=
  (if err = 1 then [macRxSymbol] else []) ++
  (if err = 1 ∧ f = [] then []
   else (if fcsGood f then [] else [macRxFcs]) ++ (if f.length < 64 then [macRxRunts] else []) ++ (if limit < f.length then [macRxTooLong] else []))

def Chip.macCounts (c : Chip) (p : Nat) (is : List Nat) : Chip := is.foldl (fun c i => c.macCount p i) c

/-- BB_TELEGRAM_RX (R108, R109, R310, R311). `err` 1 is a symbol error, 2 a receive overflow. A frame arrives only over a PHY link; the valid frames that
make a link count from there (R112). (log 45) (log 42) -/
def bbTelegramRx (p ps err busy : Nat) (f : Bytes) (c : Chip) : Chip :=
  if !c.rolling || decide (4 ≤ p) || !c.tiles.portSound p then c
  else
    let c := c.onPort p fun q => { q with phyUp := true, recent := if q.phyUp then q.recent else [] }
    let faults := macFaults 2000 err f
    if err = 2 then (c.macCount p macRxOverflow).raiseLimited 28 1 p 0 100000000
    else if faults.contains macRxFcs then ((c.macCounts p faults).bbCount p bbFcsFailed).cutBad p busy f
    else if faults ≠ [] then c.macCounts p faults
    else
      let c := (c.macCount p macRxFrames).macCountBy p macRxBytes f.length
      match c.parseBody f with
      | .error .foreign => c.macCount p macRxForeign
      | .error _ => c.bbCount p bbHeaderInvalid
      | .ok t =>
        let now := c.clk.now
        let c := (c.onPort p fun q => { q with lastRx := now, recent := ((now :: q.recent).filter fun x => decide (now ≤ x + 1500000)).take 3 }).bbCount p bbReceived
        if t.type = 2 ∧ (c.bb.port p).link ≠ .down ∧ (t.selector < 1 ∨ 3 < t.selector) then c.onTime fun s => { s with counters := bump s.counters tmSyncDiscarded }
        else if t.type = 1 ∨ t.type = 2 ∨ t.type = 3 ∨ t.type = 8 ∨ !c.bb.isUp p then c
        else c.route p ps busy t

/-! Sending from the queues (R110). -/

/-- BB_EGRESS_DEQUEUE: the head of Q(4p + c) is checked again and sent (R95, R110, R127). (log 44) -/
def bbEgressDequeue (q : Nat) (ecc : Option Nat) (c : Chip) : Chip :=
  let p := q / 4
  let head := (c.qm.queue q).entries.head?.bind fun e => (c.parseBody e.data).toOption
  let hold := match head with | some t => !c.clearOf p t | none => false
  if !c.rolling || decide (16 ≤ q) || !c.bb.isUp p || hold then c
  else match c.takeHead q ecc with
    | (none, c) => c
    | (some e, c) =>
      match c.parseBody e.data with
      | .error _ => c
      | .ok t =>
        if e.since + c.residence t.tc < c.clk.now then c.bbCount p bbResidence
        else if c.oldTag t then c.bbCount p bbStale
        else if c.wayOf t = .unresolvable then c.bbCount p bbUnresolvable
        else (c.sendOn p t).stamped p e

/-! Originating (R109, R113, R114, R117). -/

/-- The egress queues of a telegram this node originates, by the ends it is sent on. -/
def Chip.originQueues (c : Chip) (t : Telegram) : List Nat :=
  let ends := match c.wayOf t with | .everyEnd => [0, 1] | .towards e => [e] | .here | .unresolvable => []
  ends.flatMap fun e =>
    if t.tc < 2 then let p := 2 * e + (c.bb.ends.getD e {}).egress; if c.bb.isUp p then [4 * p + t.tc] else []
    else (c.upPorts e).map fun p => 4 * p + t.tc

/-- Every queue that the telegram needs would admit it. -/
def Chip.roomFor (c : Chip) (t : Telegram) : Bool := (c.originQueues t).all fun q => c.admits q t.frameLen

/-- A telegram from here goes out: to its queues, or, to this node itself, straight to its consumer with arrival port 62. A unicast telegram
whose end has no link counts NoEgress there (R110, R113), one that resolves to nothing counts as unresolvable on the front egress port (R109). (log 44) -/
def Chip.launch (c : Chip) (t : Telegram) : Chip :=
  match c.wayOf t with
  | .here => c.deliver 62 0 t
  | .unresolvable => c.bbCount (c.bb.ends.getD 0 {}).egress bbUnresolvable
  | .towards e =>
    if (c.originQueues t).isEmpty then c.bbCount (2 * e + (c.bb.ends.getD e {}).egress) bbNoEgress
    else (c.originQueues t).foldl (fun c q => (c.enqueue q (c.frameOf { t with line := q / 4 % 2 })).2) c
  | .everyEnd => (c.originQueues t).foldl (fun c q => (c.enqueue q (c.frameOf { t with line := q / 4 % 2 })).2) c

/-- Originate and launch; none when the stream table has no entry to give (R117). -/
def Chip.post (c : Chip) (t : Telegram) : Option (Telegram × Chip) := (c.originate t).map fun (t, c) => (t, c.launch t)

/-! Process data sent (R126, R129, R131). -/

/-- The ends on which the node sends. -/
def Way.ends : Way → List Nat
  | .everyEnd => [0, 1]
  | .towards e => [e]
  | .here | .unresolvable => []

/-- Where the telegrams of a slot entry go (R109). -/
def Chip.wayOfSlot (c : Chip) (s : Bytes) : Way := c.wayOf { type := 4, tc := 3, dstKind := u8 s 0x11, dstIndex := u8 s 0x12, dstValue := u64 s 0x18 }

/-- PD_SLOT_INSTANT (R126, R129, R131): a due own slot sends its latest published payload; one whose destination is this node is delivered here and never
enters the backbone (R109). (log 44) -/
def pdSlotInstant (i : Nat) (c : Chip) : Chip :=
  match c.bb.image.cur with
  | none => c
  | some b =>
    let s := schedSlot b i
    let per := 2 ^ u8 s 0x13
    if !c.rolling ∨ schedSlots b ≤ i ∨ !c.ownSlot s ∨ c.bb.schedState = .none ∨ c.cycleNow (schedCycle b) % per ≠ u8 s 0x14 then c
    else
      let id := u16 s 4
      let way := c.wayOfSlot s
      match (c.bb.pub id).bind (·.publish) with
      | none => (way.ends.flatMap fun e => [2 * e, 2 * e + 1]).foldl (fun c p => c.bbCount p bbSlotsMissed) c
      | some pay =>
        let seq := match c.bb.pub id with | some p => p.sequence | none => 0
        let sched := (c.bb.schedState == .aligned || c.bb.schedState == .holdover) && !(c.deferred b).contains i
        let t : Telegram :=
          { type := 4, tc := 3, dstKind := u8 s 0x11, dstIndex := u8 s 0x12, dstValue := u64 s 0x18, scheduled := sched, tag := c.epochTag, srcNode := c.ownNumber
            source := c.fuses.identity, session := c.boot.journal.session % 65536, stream := 0x8000 + id, sequence := seq, selector := id, payload := pay }
        let c := c.onBb fun x => { x with pubs := x.pubs.map fun q => if q.dataId = id then { q with sequence := (q.sequence + 1) % 4294967296 } else q }
        match way with
        | .here => c.deliver 62 0 t
        | .unresolvable => c.bbCount (c.bb.ends.getD 0 {}).egress bbUnresolvable
        | .towards e => c.sendEnd e t
        | .everyEnd => (c.sendEnd 0 t).sendEnd 1 t

/-! MSG_SEND (R61, R117, R144). -/

/-- The destination fields of a telegram from an address. -/
def Addr.telegram (a : Addr) (type tc : Nat) (payload : Bytes) : Telegram :=
  { type := type, tc := tc, dstKind := a.kind, dstIndex := if a.kind = 1 ∨ a.kind = 3 then a.index else 0, dstValue := if a.kind = 4 then 0 else a.value, payload := payload }

/-- Steps 7 and 8 of R61 for a destination that may be all nodes: 0x0A for another epoch, 0x0B for an address that names nothing. (log 47) -/
def Chip.addrChecks (c : Chip) (a : Addr) : List Check := [c.addrEpoch a, need (a.isAll || (c.resolve a).isSome) 0x0B]

/-- See log 43, log 44. -/
def msgSend : Cmd where
  form _ r :=
    lenData r 24 (u16 r 0x14) :: addrRsv r 0 ++ [rsv r 0x11 1, rsv r 0x16 2] ++ addrRng r 0 ++ [rng (decide (u8 r 0x10 ≤ 1)) 0x10, rng (decide (u16 r 0x14 ≤ 480)) 0x14]
  state c r :=
    let t := (Addr.at r 0).telegram 5 (u8 r 0x10) (r.drop 24)
    need c.rolling 0x06 :: c.addrChecks (Addr.at r 0) ++ [need (c.takeSequence t.dstKind t.dstIndex t.dstValue t.tc).isSome 0x08, need (c.roomFor t) 0x08]
  act c r :=
    match c.post { (Addr.at r 0).telegram 5 (u8 r 0x10) (r.drop 24) with selector := u16 r 0x12 } with
    | some (t, c) => c.ok (le 2 t.stream ++ zeros 2 ++ le 4 t.sequence)
    | none => c.refuse 0x08

end Sys2Proof.Machine
end

