-- ==== Sys2Proof/Machine/Eth.lean ====
section
/-! DEFINITION. The vehicle ports, the host DMA rings and the external memory (R309–R339). -/
namespace Sys2Proof.Machine

def Chip.onVport (c : Chip) (p : Nat) (f : VPort → VPort) : Chip := c.onEth fun e => { e with vports := updAt e.vports (p - 4) f }
def Chip.vport (c : Chip) (p : Nat) : VPort := c.eth.vport p

/-- A vehicle port that works: running, its tile not isolated. -/
def Chip.vportOn (c : Chip) (p : Nat) : Bool := decide (4 ≤ p ∧ p ≤ 11) && (c.vport p).running && !c.tiles.mac.getLsbD p

/-! Frames received on a vehicle port (R311–R317). -/

/-- See log 52. -/
def VPort.paused (v : VPort) (now : Nat) : Bool := match v.pausedUntil with | some u => decide (now < u) | none => false

/-- The end of a pause: EV029 when it was long (R315). -/
def Chip.endPause (c : Chip) (p : Nat) : Chip :=
  let long := (c.vport p).pauseLong
  let c := c.onVport p fun v => { v with pausedUntil := none, pauseLong := false }
  if long then c.raisePort 29 p else c

/-- A pause frame (R315): its time counts 512 bit times a unit. (log 52) -/
def Chip.pauseFrame (c : Chip) (p quanta : Nat) : Chip :=
  let c := c.macCount p macRxPause
  let v := c.vport p
  if u8 v.config 3 = 1 then c
  else if quanta = 0 then (if v.pausedUntil.isSome then c.endPause p else c)
  else
    let now := c.clk.now
    let until_ := now + quanta * (if v.is100 then 5120 else 512)
    let since := if v.paused now then v.pauseSince else now
    let long := decide (since + 1000000 < until_)
    let was := v.paused now && v.pauseLong
    let c := c.onVport p fun v => { v with pausedUntil := some until_, pauseSince := since, pauseLong := long || was }
    if long && !was then c.raisePort 29 p else c

/-- The frame carries an IEEE 802.1Q tag. -/
def tagged (b : Bytes) : Bool := bAt b 12 2 == 0x8100

/-- A TUNNEL telegram's payload (R317). -/
def tunnelPayload (dst src : Nat) (frame : Bytes) : Bytes := be 1 dst ++ be 1 src ++ be 1 (b2n (tagged frame)) ++ zeros 5 ++ frame

/-- Send a frame through the tunnel from a port (R313 action 3, R317). (log 53) -/
def Chip.tunnelFrom (c : Chip) (p : Nat) (entry frame : Bytes) : Chip :=
  if 1934 < frame.length then c.macCount p macTooLongTunnel
  else match c.post ((Addr.at entry 16).telegram 7 (u8 entry 8) (tunnelPayload (u8 entry 7) p frame)) with
    | some (_, c) => c
    | none => c

/-- VEHICLE_FRAME_RX (R310–R317). `err` 1 is a symbol error, 2 a receive overflow; `f` ends in its FCS. (log 53) -/
def vehicleFrameRx (p ps err : Nat) (f : Bytes) (c : Chip) : Chip :=
  let v := c.vport p
  let cfg := v.config
  if !c.vportOn p || !v.linkUp then c
  else if err = 2 then (c.macCount p macRxOverflow).raiseLimited 28 1 p 0 100000000
  else if macFaults (u16 cfg 8) err f ≠ [] then c.macCounts p (macFaults (u16 cfg 8) err f)
  else
    let c := (c.macCount p macRxFrames).macCountBy p macRxBytes f.length
    let b := f.take (f.length - 4)
    if bAt b 12 2 = 0x8808 ∧ bAt b 14 2 = 1 then c.pauseFrame p (bAt b 16 2)
    else
      let strip := tagged b && u8 cfg 1 == 1
      let frame := if strip then b.take 12 ++ b.drop 16 else b
      let info := (({ kind := 3, trainTime := (c.rxStamp p ps).1, ps := (c.rxStamp p ps).2, timeValid := c.timeValid, tag := c.epochTag, port := p, tagRemoved := strip
                      tci := if strip then bAt b 14 2 else 0 } : RxInfo)).bytes
      match v.addrs.find? fun a => u8 a 6 != 0 && a.take 6 == b.take 6 with
      | some a =>
        let target := u8 a 7
        match u8 a 6 with
        | 1 => (c.enqueue target frame info).2
        | 2 =>
          if target = p then c.macCount p macRxUnmatched
          else (c.enqueue (egressQueue target (tagged frame && decide (u8 (c.vport target).config 6 ≤ bAt frame 14 2 / 8192))) (withFcs frame)).2
        | _ => c.tunnelFrom p a frame
      | none => if u8 cfg 4 = 1 then (c.enqueue (u8 cfg 5) frame info).2 else c.macCount p macRxUnmatched

/-- PAUSE_EXPIRY (R315). (log 52) -/
def pauseExpiry (p : Nat) (c : Chip) : Chip :=
  match (c.vport p).pausedUntil with
  | some u => if u ≤ c.clk.now then c.endPause p else c
  | none => c

/-- VEHICLE_EGRESS_DEQUEUE (R314–R316): the high queue first; `fragments` counts those a preempted frame was sent in. (log 53) -/
def vehicleEgressDequeue (p fragments : Nat) (ecc : Option Nat) (c : Chip) : Chip :=
  let v := c.vport p
  let high := !(c.qm.queue (egressQueue p true)).entries.isEmpty
  if !c.vportOn p || !v.linkUp || v.paused c.clk.now then c
  else match c.takeHead (egressQueue p high) ecc with
    | (none, c) => c
    | (some e, c) =>
      let c := ((c.macSent p e.data.length).emit (.frame p e.data)).stamped p e
      if v.preempt && !high then c.macCountBy p macTxFragments fragments else c

/-- The rate of a port's link is 100 Mb/s (R309): always on a VT port; on a VS port as PhyMode forces it, else as the partner signals. -/
def VPort.at100 (v : VPort) (p : Nat) (signalled : Bool) : Bool := decide (p < 8) || u8 v.config 0 == 2 || (u8 v.config 0 == 0 && signalled)

/-- VEHICLE_LINK_CHANGE (R309, R319). (log 53) -/
def vehicleLinkChange (p : Nat) (up is100 : Bool) (c : Chip) : Chip :=
  if !c.vportOn p || (c.vport p).linkUp == up then c
  else
    let c := c.onVport p fun v => { v with linkUp := up, is100 := up && v.at100 p is100, preempt := false }
    let c := if up then c else c.macCount p macLinkLosses
    c.raisePort 26 p

/-- Preemption verification on a vehicle port (R316): each failure, and the first success after one, raises EV027 (R339). -/
def vehiclePreemptVerify (p : Nat) (ok : Bool) (c : Chip) : Chip :=
  let v := c.vport p
  if !c.vportOn p || !v.linkUp || u8 v.config 2 = 0 then c
  else
    let c := c.onVport p fun v => { v with preempt := ok, verified := ok }
    if ok && v.verified then c else c.raisePort 27 p

/-- Remove everything a queue holds; EV117 when some of it lay in DDR4 (R323). -/
def Chip.flushQueue (c : Chip) (q : Nat) : Chip :=
  let was := (c.qm.queue q).spilling
  let c := c.onQm fun m => m.upd q fun a => { a with entries := [] }
  if was then c.raiseD 117 2 q 0 else c

/-! Port commands (R337, R338). -/

/-- Port (1) and three bytes of 0. (log 53) -/
def portForm (lo hi : Nat) (r : Bytes) : List Check := [lenIs r 4, rsv r 1 3, rng (decide (lo ≤ u8 r 0 ∧ u8 r 0 ≤ hi)) 0]

def ethStatus : Cmd where
  form _ r := portForm 0 11 r
  act c r :=
    let p := u8 r 0
    let v := c.vport p
    let f := if p < 4 then b2n c.rolling + b2n (c.bb.isUp p) * 2 + b2n (c.bb.port p).preempt * 8 + b2n (!c.tiles.portSound p) * 32
             else b2n v.running + b2n v.linkUp * 2 + b2n v.is100 * 4 + b2n v.preempt * 8 + b2n (v.paused c.clk.now) * 16 + b2n (c.tiles.mac.getLsbD p) * 32
    c.ok (le 1 p ++ le 1 f ++ zeros 2)

def ethConfigSet : Cmd where
  form _ r :=
    let p := u8 r 0
    [lenIs r 20, rsv r 1 3, rsv r 11 1, rsv r 14 6, rng (decide (4 ≤ p ∧ p ≤ 11)) 0, enc (decide (u8 r 4 ≤ (if p < 8 then 1 else 2))) 4, rng (decide (u8 r 5 ≤ 1)) 5,
     rng (decide (u8 r 6 ≤ 1)) 6, rng (decide (u8 r 7 ≤ 1)) 7, enc (decide (u8 r 8 ≤ 1)) 8, rng (decide (48 ≤ u8 r 9 ∧ u8 r 9 ≤ 55)) 9, rng (decide (u8 r 10 ≤ 7)) 10,
     rng (decide (64 ≤ u16 r 12 ∧ u16 r 12 ≤ 2000)) 12]
  state c r := [need (!(c.vport (u8 r 0)).running || staticKept (c.vport (u8 r 0)).config (r.drop 4) [(0, 3), (8, 2)]) 0x05]
  act c r := (c.onVport (u8 r 0) fun v => { v with config := r.drop 4 }).ok

def ethConfigGet : Cmd where
  form _ r := portForm 4 11 r
  act c r := c.ok (c.vport (u8 r 0)).config

def ethStart : Cmd where
  form _ r := portForm 4 11 r
  state c r := [need (!(c.vport (u8 r 0)).running) 0x06]
  act c r :=
    let c := if c.boot.held.isSome then c else { c with tiles := { c.tiles with mac := c.tiles.mac &&& ~~~(1#12 <<< u8 r 0) } }
    (c.onVport (u8 r 0) fun v => { v with running := true, linkUp := false, preempt := false, pausedUntil := none }).ok

def ethStop : Cmd where
  form _ r := portForm 4 11 r
  state c r := [need (c.vport (u8 r 0)).running 0x06]
  act c r :=
    let p := u8 r 0
    let n := [true, false].foldl (fun n h => n + (c.qm.queue (egressQueue p h)).entries.length) 0
    let c := ((c.flushQueue (egressQueue p true)).flushQueue (egressQueue p false)).macCountBy p macEgressFlushed n
    let c := if (c.vport p).linkUp then (c.macCount p macLinkLosses).raisePort 26 p else c
    let c := if (c.vport p).pausedUntil.isSome then c.endPause p else c
    (c.onVport p fun v => { v with running := false, linkUp := false, preempt := false }).ok

def ethAddrSet : Cmd where
  form _ r :=
    let set := u8 r 2 == 0
    let act := u8 r 10
    let tgt := u8 r 11
    [lenIs r 36, enc (decide (u8 r 2 ≤ 1)) 2, rsv r 3 1] ++
    (if !set then [rsv r 4 32]
     else [enc (decide (act ≤ 3)) 10, rsv r 13 7] ++ (if act = 3 then addrRsv r 20 else [rsv r 20 16])) ++
    [rng (decide (4 ≤ u8 r 0 ∧ u8 r 0 ≤ 11)) 0, rng (decide (u8 r 1 ≤ 7)) 1] ++
    (if !set then []
     else [rng (match act with
        | 1 => decide (48 ≤ tgt ∧ tgt ≤ 55)
        | 2 => decide (4 ≤ tgt ∧ tgt ≤ 11)
        | 3 => decide (4 ≤ tgt ∧ tgt ≤ 11) || decide (48 ≤ tgt ∧ tgt ≤ 55)
        | _ => true) 11, rng (decide (u8 r 12 ≤ (if act = 3 then 1 else 0))) 12] ++
        (if act = 3 then addrRng r 20 ++ [rng (decide (u8 r 20 ≤ 1 → u32 r 24 = 0)) 24] else []))
  act c r :=
    let p := u8 r 0
    if u8 r 2 = 1 then c.ok ((c.vport p).addrs.getD (u8 r 1) [])
    else (c.onVport p fun v => { v with addrs := v.addrs.set (u8 r 1) (r.drop 4) }).ok (r.drop 4)

def ethCounters : Cmd where
  form _ r := portForm 0 11 r
  act c r :=
    let l := c.eth.mac.getD (u8 r 0) []
    (c.onEth fun e => { e with mac := e.mac.set (u8 r 0) (List.replicate 18 0) }).ok (((l.take 2).flatMap (le 8)) ++ (l.drop 2).flatMap (le 4))

/-! Queue commands (R321, R324, R338). -/

def Queue.config (q : Queue) : Bytes := le 4 q.reserve ++ le 4 q.spill ++ le 4 q.limit ++ le 2 q.maxEntries ++ zeros 2

/-- The limits allowed together (R324). -/
def Chip.limitsOk (c : Chip) (q res sp lim : Nat) : Bool :=
  let others := c.qm.queues.zipIdx.foldl (fun n (a, i) => if i = q then n else n + a.reserve) 0
  decide (res ≤ sp ∧ sp ≤ lim) && (maySpill q || decide (lim = sp ∧ lim ≤ 4096)) && decide (others + res ≤ 3584)

def queueSet : Cmd where
  form c r :=
    [lenIs r 20, enc (decide (u8 r 1 ≤ 1)) 1, rsv r 2 2, rsv r 18 2, rng (decide (u8 r 0 ≤ 60)) 0] ++
    (if u8 r 1 = 1 then []
     else [rng (decide (u32 r 12 ≤ 4194304)) 12, rng (decide (1 ≤ u16 r 16)) 16, rng (c.limitsOk (u8 r 0) (u32 r 4) (u32 r 8) (u32 r 12)) 4])
  act c r :=
    let q := u8 r 0
    if u8 r 1 = 1 then c.ok (c.qm.queue q).config
    else
      let c := c.onQm fun m => m.upd q fun a => { a with reserve := u32 r 4, spill := u32 r 8, limit := u32 r 12, maxEntries := u16 r 16 }
      c.ok (c.qm.queue q).config

def queueStatus : Cmd where
  form _ r := portForm 0 63 r
  act c r :=
    let q := c.qm.queue (u8 r 0)
    (c.onQm fun m => m.upd (u8 r 0) fun a => { a with dropped := 0, eccDropped := 0 }).ok
      (le 4 q.entries.length ++ le 4 q.onChip ++ le 4 q.spilled ++ le 4 q.dropped ++ le 4 q.eccDropped ++ le 4 c.qm.poolFree ++ le 4 c.qm.retiredCells ++
        le 1 (b2n q.spilling) ++ zeros 3)

/-! Rings (R326–R331). -/

def isRx (q : Nat) : Bool := decide (q < 56)

def ringSet : Cmd where
  form _ r :=
    let q := u8 r 0
    let n := u16 r 12
    let b := u16 r 14
    [lenIs r 20, rsv r 1 3, rng (decide (48 ≤ q ∧ q ≤ 59)) 0, rng (decide (u64 r 4 % 64 = 0)) 4, rng (decide (16 ≤ n ∧ n ≤ 4096) && (List.range 13).any fun i => n == 2 ^ i) 12,
     rng (if isRx q then decide (256 ≤ b ∧ b ≤ 16384 ∧ b % 64 = 0) else decide (b = 0)) 14, rng (decide (2 ≤ u16 r 16 ∧ u16 r 16 ≤ 1000)) 16, rng (decide (u16 r 18 ≤ 10000)) 18]
  state c r := [need (!(c.eth.ring (u8 r 0)).enabled) 0x05, need c.host.pcieUp 0x09]
  act c r :=
    (c.onRing (u8 r 0) fun x => { x with isSet := true, address := u64 r 4, count := u16 r 12, bufSize := u16 r 14, poll := u16 r 16, holdoff := u16 r 18, next := 0, owned := [] }).ok

/-- See log 54. -/
def ringEnable : Cmd where
  form _ r := [lenIs r 4, rsv r 2 2, rng (decide (48 ≤ u8 r 0 ∧ u8 r 0 ≤ 59)) 0, rng (decide (u8 r 1 ≤ 1)) 1]
  state c r := [need (c.eth.ring (u8 r 0)).isSet 0x06, need c.host.pcieUp 0x09]
  act c r :=
    let c := c.onEth fun e => { e with waits := e.waits.filter fun w => w.ring != u8 r 0 }
    let c := c.onRing (u8 r 0) fun x => if u8 r 1 = 1 then { x with enabled := true, next := 0, owned := [] } else { x with enabled := false, owned := [] }
    c.ok (le 2 (c.eth.ring (u8 r 0)).next ++ zeros 2)

def descOwned (d : Bytes) : Bool := (u8 d 10).testBit 0

/-- RING_POLL (R326): `descs` are the descriptors that stand in host memory behind those read ahead; owned ones are kept, at most eight. -/
def ringPoll (q : Nat) (descs : List Bytes) (c : Chip) : Chip :=
  if !c.ringOn q then c
  else
    let x := c.eth.ring q
    let at_ := x.address + 64 * ((x.next + x.owned.length) % x.count)
    (c.onRing q fun x => { x with owned := (x.owned ++ (descs.map (padTo 64)).takeWhile descOwned).take 8 }).emit (.dmaRead at_ 64)

/-- The pieces of a record, one per buffer. -/
def pieces : Nat → Nat → Bytes → List Bytes
  | 0, _, _ => []
  | n + 1, size, b => b.take size :: pieces n size (b.drop size)

/-- The host address of a ring's descriptor. -/
def Ring.slotAddr (x : Ring) (i : Nat) : Nat := x.address + 64 * ((x.next + i) % x.count)

/-- RX_RING_DELIVER (R328). -/
def rxRingDeliver (q : Nat) (ecc : Option Nat) (c : Chip) : Chip :=
  let x := c.eth.ring q
  match c.ringOn q && isRx q, (c.qm.queue q).entries with
  | true, e :: _ =>
    let n := max 1 (ceilDiv e.data.length x.bufSize)
    if x.owned.length < n ∧ ecc.all (4294967296 ≤ ·) then c
    else
      let drops := (c.qm.queue q).droppedSince
      match c.takeHead q ecc with
      | (none, c) => c
      | (some e, c) =>
        let outs := (pieces n x.bufSize e.data).zipIdx.flatMap fun (d, i) =>
          let old := x.owned.getD i []
          let ctl := b2n (i == 0) * 2 + b2n (i + 1 == n) * 4 + b2n (i == 0 && drops) * 8
          let desc := slice old 0 10 ++ le 1 ctl ++ slice e.info 11 1 ++ le 2 d.length ++ le 2 e.data.length ++ e.info.drop 16
          Output.dmaWrites (u64 old 0) d ++ [Output.dma (x.slotAddr i) (padTo 64 desc)]
        let c := (c.onQm fun m => m.upd q fun a => { a with droppedSince := false }).emits outs
        (c.onRing q fun x => { x with owned := x.owned.drop n, next := (x.next + n) % x.count }).ringEvent q 30 false
  | _, _ => c

/-- The Internet checksum: the complement of the one's complement sum of 16-bit words. -/
def ipSum (b : Bytes) : Nat :=
  let s := (List.range ((b.length + 1) / 2)).foldl (fun acc i => acc + bAt (b ++ zeros 1) (2 * i) 2) 0
  let s := s % 65536 + s / 65536
  let s := s % 65536 + s / 65536
  65535 - s % 65536

/-- Where the IP and TCP headers of a large send's header stand (R331): offsets of IP, of TCP and of the end of TCP; none when not parseable. -/
def l4Offsets (kind : Nat) (h : Bytes) : Option (Nat × Nat) :=
  let o := if tagged h then 18 else 14
  let tcp := if kind = 1 then o + u8 h o % 16 * 4 else o + 40
  let typ := bAt h (o - 2) 2
  let ok := if kind = 1 then typ == 0x0800 && decide (5 ≤ u8 h o % 16) && bAt h (o + 6) 2 &&& 0x3FFF == 0 else typ == 0x86DD && u8 h (o + 6) == 6
  let least := if kind = 1 then 54 else 74
  if ok && decide (least ≤ h.length ∧ tcp + 20 ≤ h.length ∧ tcp + u8 h (tcp + 12) / 16 * 4 ≤ h.length) then some (o, tcp) else none

/-- Segment k of a large send (R331): the header with its fields rewritten, and the payload piece behind it. -/
def segmentFrame (kind segSize k : Nat) (last : Bool) (h piece : Bytes) : Bytes :=
  if kind = 0 then h ++ piece
  else match l4Offsets kind h with
    | none => h ++ piece
    | some (o, tcp) =>
      let flags := u8 h (tcp + 13)
      let flags := if last then flags else flags &&& 0xF6
      let flags := if k = 0 then flags else flags &&& 0x7F
      let h := splice h (tcp + 4) (be 4 (bAt h (tcp + 4) 4 + k * segSize))
      let h := splice h (tcp + 13) (be 1 flags)
      let h := splice h (tcp + 16) (zeros 2)
      let tcpLen := h.length - tcp + piece.length
      let h := if kind = 1 then
          let h := splice h (o + 2) (be 2 (h.length - o + piece.length))
          let h := splice h (o + 4) (be 2 (bAt h (o + 4) 2 + k))
          let h := splice h (o + 10) (zeros 2)
          splice h (o + 10) (be 2 (ipSum (slice h o (tcp - o))))
        else splice h (o + 4) (be 2 (h.length - o - 40 + piece.length))
      let pseudo := if kind = 1 then slice h (o + 12) 8 ++ be 2 6 ++ be 2 tcpLen else slice h (o + 8) 32 ++ be 4 tcpLen ++ be 4 6
      splice h (tcp + 16) (be 2 (ipSum (pseudo ++ h.drop tcp ++ piece))) ++ piece

/-- Insert a tag unless the frame has one (R315). -/
def insertTag (tci : Nat) (b : Bytes) : Bytes := if tagged b then b else b.take 12 ++ be 2 0x8100 ++ be 2 tci ++ b.drop 12

/-- The chain at the head of a list of descriptors: up to and with the first Last, at most 17, ending before a second First. -/
def takeChain : Nat → Bool → List Bytes → List Bytes
  | 0, _, _ => []
  | _, _, [] => []
  | n + 1, first, d :: ds =>
    if !first && (u8 d 10).testBit 1 then [] else if (u8 d 10).testBit 2 then [d] else d :: takeChain n false ds

/-- The bytes of the shortest frame a chain of `total` bytes sends: its last segment, or all of it. -/
def leastFrame (d : Bytes) (total : Nat) : Nat :=
  let (h, size) := (u8 d 34, u16 d 36)
  if (u8 d 10).testBit 3 ∧ size ≠ 0 then h + (if (total - h) % size = 0 then size else (total - h) % size) else total

/-- R317, R329 and R331: the chain is well formed; a tunnelled frame has at least 14 bytes. (log 54) -/
def chainOk (ch : List Bytes) : Bool :=
  match ch, ch.getLast? with
  | d :: ds, some z =>
    let ctl := u8 d 10
    let kind := u8 d 11
    let seg := ctl.testBit 3
    let total := ch.foldl (fun n x => n + u16 x 8) 0
    let h := u8 d 34
    decide (ch.length ≤ 16) && ctl.testBit 1 && (u8 z 10).testBit 2 && ch.all (fun x => decide (u8 x 10 < 64) && decide (1 ≤ u16 x 8 ∧ u16 x 8 ≤ 16384)) &&
      ds.all (fun x => isZero (slice x 11 29)) && decide (1 ≤ kind ∧ kind ≤ 3) && decide (u8 d 13 ≤ 1) && isZero (slice d 38 2) &&
      (kind != 1 || isZero (slice d 16 16)) && (kind == 3 || u16 d 32 == 0) && (kind != 3 || u8 d 12 == 0) &&
      (kind != 2 || decide (14 ≤ leastFrame d total)) &&
      (!seg || (decide (u8 d 35 ≤ 2) && decide (h ≤ 128 ∧ h ≤ u16 d 8) && decide (h + 1 ≤ total ∧ total ≤ h + 65535)))
  | _, _ => false

/-- The frames or payloads a chain sends, its tags inserted. -/
def chainFrames (d data : Bytes) : List Bytes :=
  let ctl := u8 d 10
  let tag := fun b => if ctl.testBit 4 && u8 d 11 != 3 then insertTag (u16 d 14) b else b
  if ctl.testBit 3 then
    let h := u8 d 34
    let size := u16 d 36
    let n := ceilDiv (data.length - h) size
    ((pieces n size (data.drop h)).zipIdx.map fun (p, k) => tag (segmentFrame (u8 d 35) size k (k + 1 == n) (data.take h) p))
  else [tag data]

/-- A frame of the chain is too long for its destination (R331). (log 54) -/
def Chip.chainLong (c : Chip) (d data : Bytes) : Bool :=
  let ctl := u8 d 10
  let kind := u8 d 11
  let head := if ctl.testBit 3 then u8 d 34 + u16 d 36 else data.length
  let n := head + (if ctl.testBit 4 && kind != 3 && !tagged data then 4 else 0) + (if kind = 3 then 0 else 4)
  let limit := if kind = 1 then u16 (c.vport (u8 d 12)).config 8 else if kind = 2 then 1938 else 1942
  decide (limit < n)

/-- Every frame fits its destination, and no more than 1,024 pieces result (R331). (log 54) -/
def Chip.chainFits (c : Chip) (d data : Bytes) : Bool :=
  !c.chainLong d data && (!(u8 d 10).testBit 3 || decide (u16 d 36 ≠ 0 ∧ ceilDiv (data.length - u8 d 34) (u16 d 36) ≤ 1024))

/-- The destination is valid: its port runs, or its address passes R61. (log 54) -/
def Chip.chainDest (c : Chip) (d : Bytes) : Bool :=
  let p := u8 d 12
  if u8 d 11 = 1 then decide (4 ≤ p ∧ p ≤ 11) && (c.vport p).running
  else
    c.rolling && (u8 d 11 == 3 || decide (4 ≤ p ∧ p ≤ 11) || decide (48 ≤ p ∧ p ≤ 55)) &&
      (firstFail (addrRsv d 16 ++ addrRng d 16 ++ c.addrChecks (Addr.at d 16))).isNone

/-- Place one frame of a chain, or the queue that drops it at admission (R322): the ring's queue, or one of those it leaves by. Where no stream can be had
(R117) it is the ring's queue. (log 54) -/
def Chip.placeFrame (c : Chip) (q : Nat) (d b : Bytes) : Except Nat Chip :=
  if !c.admits q b.length then .error q
  else match u8 d 11 with
    | 1 =>
      let out := egressQueue (u8 d 12) (u8 d 13 == 1)
      if c.admits out (withFcs b).length then .ok (c.enqueue out (withFcs b)).2 else .error out
    | k =>
      let t : Telegram := if k = 2 then (Addr.at d 16).telegram 7 (u8 d 13) (tunnelPayload (u8 d 12) 62 b)
                          else { (Addr.at d 16).telegram 5 (u8 d 13) b with selector := u16 d 32 }
      match (c.originQueues t).find? fun x => !c.admits x t.frameLen with
      | some x => .error x
      | none => match c.post t with | some (_, c) => .ok c | none => .error q

/-- Place the frames of a chain in order; with a token, the first one carries it in every queue that it has entered (R329). (log 54) -/
def Chip.placeAll (c : Chip) (q : Nat) (d : Bytes) (token : Option Nat) (frames : List Bytes) : Except Nat Chip :=
  match frames with
  | [] => .ok c
  | b :: bs =>
    let marked := fun (n : Chip) => match token with
      | none => n
      | some k => (List.range 32).foldl (fun (n : Chip) x =>
          if (c.qm.queue x).entries.length < (n.qm.queue x).entries.length then
            n.onQm fun m => m.upd x fun a => { a with entries := a.entries.dropLast ++ (a.entries.getLast?.map fun e => { e with stamp := some k }).toList }
          else n) n
    match c.placeFrame q d b with
    | .error x => .error x
    | .ok n => bs.foldl (fun o b => match o with | .ok c => c.placeFrame q d b | .error x => .error x) (.ok (marked n))

/-- TX_CHAIN_PROCESS (R317, R329–R331), one chain of a ring at a time: `more` are the chain's descriptors behind those read ahead, `bufs` the contents of its
buffers, `failed` a PCIe read that failed. With Timestamp the write-back waits for the first frame's capture (R329). (log 54) -/
def txChainProcess (q : Nat) (more bufs : List Bytes) (failed : Bool) (c : Chip) : Chip :=
  let x := c.eth.ring q
  let all := x.owned ++ (more.map (padTo 64)).takeWhile descOwned
  let ch := takeChain 17 true all
  match c.ringOn q && !isRx q && !(c.eth.waits.any fun w => w.ring == q), ch with
  | true, d :: _ =>
    let data := (ch.zip (bufs ++ List.replicate ch.length [])).flatMap fun (x, b) => padTo (u16 x 8) b
    let kind := u8 d 11
    let seg := (u8 d 10).testBit 3
    let frames := chainFrames d data
    let status0 :=
      if !chainOk ch then 1
      else if failed then 5
      else if seg && u8 d 35 != 0 && (l4Offsets (u8 d 35) (data.take (u8 d 34))).isNone then 2
      else if !c.chainFits d data then 3
      else if !c.chainDest d then 4
      else 0
    let token := c.eth.nextToken
    let stamp := status0 == 0 && (u8 d 10).testBit 5
    let sent := c.placeAll q d (if stamp then some token else none) frames
    let (status, c) := if status0 ≠ 0 then (status0, c) else match sent with | .ok c' => (0, c') | .error x => (6, c.queueDrop x)
    let c := if status = 3 && kind == 2 && c.chainLong d data then c.macCount (c.tunnelPort 62) macTooLongTunnel else c
    let c := if status = 0 && kind != 3 && (u8 d 10).testBit 4 && tagged data then c.macCountBy (if kind = 1 then u8 d 12 else c.tunnelPort 62) macTagPresent frames.length else c
    let c := c.emits (if status = 1 then [] else ch.flatMap fun x => Output.dmaReads (u64 x 0) (u16 x 8))
    let n := ch.length
    let w : TxWait := { token := token, ring := q, last := x.slotAddr (n - 1) + 40, controls := ch.zipIdx.map fun (dx, i) => (x.slotAddr i + 10, u8 dx 10 / 2 * 2)
                        head := le 1 status ++ zeros 1 ++ le 2 (if status = 0 then frames.length else 0) ++ zeros 4 }
    let c := c.onRing q fun x => { x with owned := (all.drop n).take 8, next := (x.next + n) % x.count }
    if stamp && status == 0 then c.onEth fun e => { e with waits := e.waits ++ [w], nextToken := token + 1 }
    else ((c.emit (.dma w.last (w.head ++ zeros 16))).emits (w.controls.map fun x => Output.dma x.1 (le 1 x.2))).ringEvent q 31 (status != 0)
  | _, _ => c

/-! External memory (R332–R338). -/

def MemSt.code : MemSt → Nat
  | .absent => 0 | .stopped => 1 | .training => 2 | .running => 3 | .failed => 4

/-- A change of the controller's state raises EV119 (R334). -/
def Chip.setMem (c : Chip) (s : MemSt) : Chip := if c.mem.state = s then c else (c.onMem fun m => { m with state := s }).raise 119

def Chip.memBusy (c : Chip) : Bool := c.mem.state == .running || c.mem.state == .training

def memConfigSet : Cmd where
  form _ r :=
    [lenIs r 16, rng ([0, 512, 1024, 2048, 4096].contains (u32 r 0)) 0, rng ([1600, 1866, 2133, 2400].contains (u16 r 4)) 4, rng (u8 r 6 == 8 || u8 r 6 == 16) 6,
     rng (u8 r 7 == 1 || u8 r 7 == 2) 7, rng (decide (u32 r 8 ≤ u32 r 0 / 2)) 8, rng (decide (1 ≤ u8 r 12 ∧ u8 r 12 ≤ 168)) 12, rng (decide (1 ≤ u8 r 13)) 13,
     rng (decide (1 ≤ u16 r 14)) 14]
  state c r := [need (!c.memBusy || staticKept c.mem.config r [(0, 12)]) 0x05]
  act c r :=
    let c := c.onMem fun m => { m with config := r }
    (if c.mem.state = .absent ∧ u32 r 0 ≠ 0 then c.setMem .stopped
     else if c.mem.state = .stopped ∧ u32 r 0 = 0 then c.setMem .absent else c).ok

def memConfigGet : Cmd where
  form := noReq
  act c _ := c.ok c.mem.config

/-- See log 54. -/
def memStart : Cmd where
  form := noReq
  state c _ := [need (!c.memBusy && c.mem.state != .absent) 0x06]
  act c _ := { chip := c.setMem .training, busy := true }

/-- DDR_TRAINING_COMPLETE (R334). -/
def ddrTrainingComplete (passed : Bool) (c : Chip) : Chip :=
  if c.mem.state = .training then
    let c := c.setMem (if passed then .running else .failed)
    c.completeWaiting 0x080D 0 (le 1 c.mem.state.code ++ zeros 3)
  else c

def Chip.memDrained (c : Chip) : Bool := c.qm.queues.all fun q => !q.spilling

/-- MEM_STOP completes: STOPPED, or ABSENT where the configuration has meanwhile been given DeviceSize 0 (R334). (log 54) -/
def Chip.memStopped (c : Chip) : Chip :=
  (c.onMem fun m => { m with stopping := false, uces := [] }).setMem (if u32 c.mem.config 0 = 0 then .absent else .stopped)

def memStop : Cmd where
  form := noReq
  state c _ := [need (c.memBusy || c.mem.state == .failed) 0x06]
  act c _ := if c.memDrained then c.memStopped.ok else { chip := c.onMem fun m => { m with stopping := true }, busy := true }

/-- MEM_STOP_DRAINED (R334). -/
def memStopDrained (c : Chip) : Chip := if c.mem.stopping && c.memDrained then c.memStopped.completeWaiting 0x080E 0 else c

/-- MEM_STOP_TIMEOUT (R334): frames still spilled are dropped and counted as Dropped. -/
def memStopTimeout (c : Chip) : Chip :=
  if c.mem.stopping then
    let c := (List.range 64).foldl (fun c q =>
      let a := c.qm.queue q
      if a.spilling then
        (c.onQm fun m => m.upd q fun a => { a with entries := a.entries.filter fun e => !e.inDdr, droppedSince := true
                                                   dropped := sat32 (a.dropped + (a.entries.filter fun e => e.inDdr).length) }).raiseD 117 2 q 0
      else c) c
    c.memStopped.completeWaiting 0x080E 0
  else c

/-- DDR_SCRUB_PASS (R335, R336): words corrected in the pass, and the addresses with uncorrectable errors. (log 55) -/
def ddrScrubPass (corrected : Nat) (uces : List Nat) (c : Chip) : Chip :=
  if c.mem.state ≠ .running then c
  else
    let c := (c.onMem fun m => { m with scrubPasses := sat32 (m.scrubPasses + 1) }).ddrCorrected corrected
    uces.foldl (fun c a => c.ddrError a 0xFFFF) c

/-- See log 54. -/
def memStatus : Cmd where
  form := noReq
  act c _ :=
    let m := c.mem
    (c.onMem fun m => { m with corrected := 0, uncorrectable := 0, scrubPasses := 0 }).ok
      (le 1 m.state.code ++ zeros 3 ++ le 4 (ceilDiv c.qm.spilledCells 16384) ++ le 4 m.corrected ++ le 4 m.uncorrectable ++ le 4 m.scrubPasses ++ le 8 m.lastUce)

end Sys2Proof.Machine
end

