-- ==== Sys2Proof/Machine/Bridge.lean ====
section
/-! DEFINITION. The window bridge, initiator side: windows, reads, writes, fences, interrupts, semaphore registers (R277–R308). -/
namespace Sys2Proof.Machine

/-! Descriptors (R279). -/

def BrWindow.mode (w : BrWindow) : Nat := u8 w.desc 0
def BrWindow.flag (w : BrWindow) (i : Nat) : Bool := (u8 w.desc 1).testBit i
def BrWindow.writeEnable (w : BrWindow) : Bool := w.flag 0
def BrWindow.invariant (w : BrWindow) : Bool := w.flag 1
def BrWindow.split (w : BrWindow) : Bool := w.flag 3
def BrWindow.memory (w : BrWindow) : Bool := w.flag 4
def BrWindow.fieldTarget (w : BrWindow) : Bool := w.flag 5
def BrWindow.width (w : BrWindow) : Nat := u8 w.desc 2
def BrWindow.lane (w : BrWindow) : Nat := u8 w.desc 3
def BrWindow.exportId (w : BrWindow) : Nat := u8 w.desc 4
def BrWindow.depth (w : BrWindow) : Nat := u8 w.desc 5
def BrWindow.addr (w : BrWindow) : Addr := Addr.at w.desc 8
def BrWindow.farBase (w : BrWindow) : Nat := u64 w.desc 0x18
def BrWindow.size (w : BrWindow) : Nat := u32 w.desc 0x20
def BrWindow.service (w : BrWindow) : Nat := u16 w.desc 0x24
def BrWindow.quota (w : BrWindow) : Nat := u16 w.desc 0x26
/-- LineLifetime in ns. -/
def BrWindow.lifetime (w : BrWindow) : Nat := u32 w.desc 0x28 * 1000
/-- The field target's port and MAC address. -/
def BrWindow.field (w : BrWindow) : Option (Nat × Nat) := if w.fieldTarget then some (u8 w.desc 6, lAt w.desc 0x30 6) else none
/-- A target named by position (R305). -/
def BrWindow.byPosition (w : BrWindow) : Bool := w.isSet && !w.fieldTarget && decide (w.addr.kind ≤ 1)

def Bridge.window (b : Bridge) (n : Nat) : BrWindow := b.windows.getD n {}
def Bridge.sem (b : Bridge) (n : Nat) : SemReg := b.sems.getD n {}
def Chip.onWin (c : Chip) (n : Nat) (f : BrWindow → BrWindow) : Chip := c.onBr fun b => { b with windows := updAt b.windows n f }
def Chip.onSem (c : Chip) (n : Nat) (f : SemReg → SemReg) : Chip := c.onBr fun b => { b with sems := updAt b.sems n f }
def Chip.brCount (c : Chip) (i : Nat) : Chip := c.onBr fun b => { b with counters := bump b.counters i }
def ones (n : Nat) : Bytes := List.replicate n 0xFF

/-- The far identity of a window's target. -/
def BrWindow.farId (w : BrWindow) : Nat := if w.fieldTarget then w.addr.value else w.target.getD 0

/-! Lanes and widths (R285–R287). -/

/-- A run cut at every multiple of `unit`. -/
def cutRun (unit : Nat) : Nat → Nat → Nat → List (Nat × Nat)
  | 0, _, _ => []
  | fuel + 1, off, len =>
    if len = 0 then []
    else
      let n := min len (max 1 (unit - off % unit))
      (off, n) :: cutRun unit fuel (off + n) (len - n)

/-- A run of a data-invariant memory window as runs that stay contiguous at the far side: a part of one lane unit, or whole units (log 25). -/
def laneRuns (lane off len : Nat) : List (Nat × Nat) :=
  if off % lane + len ≤ lane ∨ (off % lane = 0 ∧ len % lane = 0) then [(off, len)]
  else
    let head := if off % lane = 0 then 0 else lane - off % lane
    let mid := (len - head) / lane * lane
    [(off, head), (off + head, mid), (off + head + mid, len - head - mid)].filter fun r => r.2 != 0

/-- The requests an access becomes; none when it is too wide (R285, R286). (log 25) -/
def BrWindow.runs (w : BrWindow) (off len : Nat) : Option (List (Nat × Nat)) :=
  if w.memory then some (if w.invariant then laneRuns w.lane off len else [(off, len)])
  else if off % w.width + len ≤ w.width then some [(off, len)]
  else if w.split then some (cutRun w.width len off len)
  else none

/-- The far offset, before FarBase, of the lowest byte of a run (R287). (log 25) -/
def BrWindow.farStart (w : BrWindow) (off len : Nat) : Nat :=
  if w.invariant && decide (off % w.lane + len ≤ w.lane) then off - off % w.lane + (w.lane - off % w.lane - len) else off

/-- The bytes of a run in the other order, far or host (R287). -/
def BrWindow.swap (w : BrWindow) (off len : Nat) (d : Bytes) : Bytes :=
  if w.invariant then (List.range len).map fun i => d.getD (((off + i) ^^^ (w.lane - 1)) - w.farStart off len) 0 else d

/-- See log 25. -/
def BrWindow.toFar (w : BrWindow) (off len : Nat) (d : Bytes) : Bytes :=
  if w.invariant then (List.range len).map fun i => d.getD (((w.farStart off len + i) ^^^ (w.lane - 1)) - off) 0 else d

/-! Reaching a target (R289, R304, R305). -/

/-- A node identity cannot be reached: absent from the directory, dark or unreachable. -/
def Chip.nodeAbsent (c : Chip) (id : Nat) : Bool :=
  match c.dir.inForce.bind fun s => s.byId id with
  | some n => n.dark || n.unreachable
  | none => true

def Chip.fieldDown (c : Chip) (p : Nat) : Bool := !(c.eth.vport p).running || !(c.eth.vport p).linkUp

/-- The Kind an access to the window fails with at once: TargetAbsent, or Unresolvable for a position (R304, R305). -/
def Chip.brReach (c : Chip) (w : BrWindow) : Option Nat :=
  match w.field with
  | some (p, _) => if c.fieldDown p then some 3 else none
  | none =>
    match w.target with
    | none => some (if w.byPosition then 4 else 3)
    | some id => if c.nodeAbsent id then some 3 else none

/-- Hops to the target and RTT_max in ps (R289). (log 32) -/
def Chip.brRtt (c : Chip) (w : BrWindow) : Option (Nat × Nat) :=
  if w.fieldTarget then some (0, (44 + w.service) * 1000000)
  else match c.dir.inForce, w.target with
    | some s, some id =>
      (s.byId id).map fun n =>
        let (h, d) := s.path c.ownNumber n.number
        (h, 2 * (22000000 * h + d) + w.service * 1000000)
    | _, _ => none

/-- Hold is allowed (R289). -/
def Chip.holdAllowed (c : Chip) (w : BrWindow) : Bool :=
  match c.brRtt w with
  | some (_, rtt) => decide (rtt + 2000000 ≤ u32 c.br.config 0 * 1000000)
  | none => false

/-- Judge a hold window's condition: a change of its demoted flag raises EV092 (R289). -/
def Chip.judgeHold (c : Chip) (n : Nat) : Chip :=
  let w := c.br.window n
  if w.isSet && w.mode == 1 && (c.brRtt w).isSome && w.demoted == c.holdAllowed w then (c.onWin n fun w => { w with demoted := !w.demoted }).raiseD 92 4 n 0
  else c

def Chip.judgeHolds (c : Chip) : Chip := (List.range 64).foldl Chip.judgeHold c

/-! Fault, completion and stranded records (R293, R294, R298). -/

def Bridge.sessionOf (b : Bridge) (id : Nat) : Nat := (b.sessions.lookup id).getD 0

/-- The event argument of a fault's source. -/
def srcKind (src : Nat) : Nat := if src < 64 then 4 else 0
def srcArg (src : Nat) : Nat := if src < 64 then src else 0xFFFF

/-- A fault record (R298), counted for the window's fence (R299). (log 30) -/
def Chip.brFault (c : Chip) (src kind farStatus dir offset length far sequence : Nat) (data : Bytes := []) : Chip :=
  let q := c.br.faultSeq
  let bs := le 4 q ++ le 1 src ++ le 1 kind ++ le 1 farStatus ++ le 1 dir ++ le 4 offset ++ le 2 length ++ le 2 (c.br.sessionOf far) ++ le 4 sequence ++
    zeros 4 ++ le 8 c.trainTime ++ padTo 8 (if dir = 1 then [] else data)
  let c := c.onBr fun b => { b with faultSeq := next32 q }
  let c := if dir = 0 then c.brCount brWriteFaults else if dir = 1 then c.brCount brReadFaults else c
  let c := if dir = 0 ∨ dir = 2 then c.onWin src fun w => { w with faults := min 0xFFFF (w.faults + 1), firstFault := if w.faults = 0 then q else w.firstFault } else c
  let n := (c.qm.queue 62).entries.length
  if 256 ≤ n then ((c.onWin src fun w => { w with queueLost := true }).brCount brFaultsLost).raiseD 94 (srcKind src) (srcArg src) 0
  else
    let c := c.onQm fun m => m.push 62 { data := bs, since := c.clk.now }
    if n = 0 then c.raiseD 88 (srcKind src) (srcArg src) 0 else c

/-- A stranded record (R293). -/
def Chip.strand (c : Chip) (window reason far address sentTrain : Nat) (data : Bytes) : Chip :=
  let bs := le 4 c.br.strandedSeq ++ le 1 window ++ le 1 reason ++ le 2 data.length ++ le 8 far ++ le 8 address ++ le 8 sentTrain ++ data
  let full := decide (32 ≤ c.br.stranded.length)
  let c := (c.onBr fun b => { b with strandedSeq := next32 b.strandedSeq, stranded := (if full then b.stranded.drop 1 else b.stranded) ++ [bs] }).brCount brStranded
  let c := if full then (c.brCount brStrandedLost).raiseD 94 4 window 0 else c
  c.raiseD 90 4 window 0

/-- Discard the lines that a condition picks (R293). -/
def Chip.discardLines (c : Chip) (reason : Nat) (pick : BrLine → Bool) : Chip :=
  let gone := c.br.lines.filter pick
  gone.foldl (fun c l =>
    let c := c.brCount brLinesDiscarded
    if l.read || l.attrKnown then c
    else c.strand l.window reason l.far l.address l.sentTrain (({ desc := l.desc } : BrWindow).toFar (256 * l.index) 256 l.data))
    (c.onBr fun b => { b with lines := b.lines.filter fun l => !pick l })

def BrPart.done (p : BrPart) : Bool := p.data.isSome
def partsDone (ps : List BrPart) : Bool := ps.all BrPart.done
def partsData (ps : List BrPart) : Bytes := ps.flatMap fun p => p.data.getD (ones p.length)

/-- A piece waits for line `k` of its window, read from identity `far`. -/
def BrPart.onLine (p : BrPart) (k far : Nat) : Bool := p.tag.isNone && p.far == far && decide (p.offset / 256 ≤ k ∧ k ≤ (p.offset + p.length - 1) / 256)

/-- The pieces of held reads that wait for a line. -/
def Bridge.onLine (b : Bridge) (n k far : Nat) : List BrPart :=
  (b.held.filter fun h => h.window == n).flatMap fun h => h.parts.filter fun p => !p.done && p.onLine k far

/-- A window's target is resolved to another identity, or to none: the old one's lines are discarded, but for those that reads accepted before still
need (R293, R305). -/
def Chip.retargetTo (c : Chip) (n : Nat) (t : Option Nat) : Chip :=
  if t = (c.br.window n).target then c
  else
    let c := c.onWin n fun w => { w with target := t }
    let c := c.discardLines 5 fun l => l.window == n && some l.far != t && (c.br.onLine n l.index l.far).isEmpty
    if t.isNone then c.raiseD 92 4 n 0 else c.judgeHold n

/-- A target named by vehicle identity is resolved again at each access (R62, R278). (log 32) -/
def Chip.retarget (c : Chip) (n : Nat) : Chip :=
  let w := c.br.window n
  if w.isSet && !w.fieldTarget && w.addr.kind == 3 then c.retargetTo n ((c.resolve w.addr).map (·.identity)) else c

/-- A finished BR_READ goes to its place in Q61 (R294). -/
def Chip.brDeliver (c : Chip) (a : BrAsync) : Chip :=
  let empty := (c.qm.queue 61).entries.isEmpty
  let bs := le 1 a.status ++ le 1 a.farStatus ++ le 1 a.window ++ le 4 a.hostTag ++ le 2 a.length ++ zeros 4 ++ le 8 c.trainTime ++ partsData a.parts
  let c := c.onQm fun m => m.push 61 { data := bs, since := c.clk.now }
  if empty then c.raiseD 89 4 a.window 0 else c

/-- Complete every read whose pieces are all answered; lines of a former identity that only they needed are discarded (R305). -/
def Chip.brFinish (c : Chip) : Chip :=
  let done := c.br.held.filter fun h => partsDone h.parts
  let ended := c.br.asyncs.filter fun a => partsDone a.parts
  let c := c.onBr fun b => { b with held := b.held.filter (fun h => !partsDone h.parts), asyncs := b.asyncs.filter fun a => !partsDone a.parts }
  let c := ended.foldl Chip.brDeliver (done.foldl (fun c h => c.emit (.completion h.hostTag (partsData h.parts))) c)
  c.discardLines 5 fun l => l.far != (c.br.window l.window).farId && (c.br.onLine l.window l.index l.far).isEmpty

/-- Change the open pieces that a condition picks, in every read under way. -/
def Chip.mapParts (c : Chip) (f : Nat → BrPart → BrPart) : Chip :=
  let g := fun (w : Nat) (p : BrPart) => if p.done then p else (f w p)
  c.onBr fun b => { b with held := b.held.map (fun h => { h with parts := h.parts.map (g h.window) }), asyncs := b.asyncs.map fun a => { a with parts := a.parts.map (g a.window) } }

/-- The pieces waiting for a request get its data, or bytes 0xFF with the Kind of the failure. -/
def Chip.answerPart (c : Chip) (tag : Nat) (data : Bytes) : Chip :=
  (c.mapParts fun _ p => if p.tag = some tag then { p with data := some (padTo p.length data) } else p).brFinish

def Chip.failPart (c : Chip) (tag kind farStatus : Nat) : Chip :=
  let hit := fun (a : BrAsync) => a.status == 0 && a.parts.any fun p => p.tag == some tag
  let c := c.onBr fun b => { b with asyncs := b.asyncs.map fun a => if hit a then { a with status := kind, farStatus := farStatus } else a }
  (c.mapParts fun _ p => if p.tag = some tag then { p with data := some (ones p.length) } else p).brFinish

/-- The pieces that wait for a line fail. -/
def Chip.failLine (c : Chip) (n k far : Nat) : Chip :=
  (c.mapParts fun w p => if w = n ∧ p.onLine k far then { p with data := some (ones p.length) } else p).brFinish

/-- The request reads what its window, as described now, holds at that offset (R280, R291). -/
def BrReq.current (q : BrReq) (w : BrWindow) : Bool := q.exportId == w.exportId && q.address == w.farBase + w.farStart q.offset q.length

/-- A line fetch fails: a fault record for each piece of a held read that waits for it, or, where none does, for the line itself (R298). (log 30) -/
def Chip.failFetch (c : Chip) (q : BrReq) (kind farStatus : Nat) : Chip :=
  let k := q.offset / 256
  let mine := q.current (c.br.window q.source)
  let ps := if mine then (c.br.onLine q.source k q.far).map fun p => (p.offset, p.length) else []
  let c := (if ps.isEmpty then [(q.offset, q.length)] else ps).foldl (fun c r => c.brFault q.source kind farStatus 1 r.1 r.2 q.far (q.sequence.getD 0)) c
  if mine then c.failLine q.source k q.far else c

/-! Sending requests (R283, R284). -/

/-- The payload of a bridge telegram (R283). -/
def BrMsg.bytes (m : BrMsg) : Bytes :=
  be 4 m.tag ++ be 1 m.exportId ++ be 1 m.flags ++ be 2 m.length ++ be 8 m.address ++ be 1 m.status ++ zeros 3 ++ be 4 m.ack ++ m.data

/-- A bridge telegram goes out to an identity, or to a field target in an Ethernet frame (R283). One to this node itself comes back by
the commands that name port 62 (log 26). Its Sequence, where the stream table had an entry. -/
def Chip.brEmit (c : Chip) (far : Nat) (field : Option (Nat × Nat)) (op : Nat) (payload : Bytes) : Option Nat × Chip :=
  match c.originate { type := 6, tc := 2, dstKind := 2, dstValue := far, selector := op, payload := payload } with
  | none => (none, c)
  | some (t, c) =>
    match field with
    | some (p, mac) => (some t.sequence, (c.enqueue (egressQueue p false) (t.frame mac (u16 c.br.config 8))).2)
    | none => (some t.sequence, if far = c.fuses.identity then c.emit (.frame 62 (c.frameOf t)) else c.launch t)

/-- The Length field of a request (R283). -/
def BrReq.wireLength (q : BrReq) : Nat := if q.op = 9 then 4 else if q.op = 6 ∨ q.op = 8 then 0 else q.length

/-- Send a request that is on the list. -/
def Chip.brSend (c : Chip) (q : BrReq) : Chip :=
  let m : BrMsg := { op := q.op, source := 0, session := 0, sequence := 0, tag := q.tag, exportId := q.exportId, flags := b2n q.isLine, length := q.wireLength
                     address := q.address, data := if q.op = 3 ∨ q.op = 9 then q.data else [] }
  let (sq, c) := c.brEmit q.far q.field q.op m.bytes
  let c := if q.op = 9 then c.brCount brIrqSent else c
  c.onBr fun b => { b with requests := b.requests.map fun r =>
    if r.tag = q.tag then { r with sequence := sq, sentAt := c.clk.now, sentTrain := c.trainTime, waits := [] } else r }

/-- A new request: it gets the next Tag, and is sent unless it waits for others. -/
def Chip.brRequest (c : Chip) (q : BrReq) : Nat × Chip :=
  let q := { q with tag := c.br.nextTag }
  let c := c.onBr fun b => { b with nextTag := (b.nextTag + 1) % 4294967296, requests := b.requests ++ [q] }
  (q.tag, if q.waits.isEmpty then c.brSend q else c)

def Chip.dropRequest (c : Chip) (tag : Nat) : Chip := c.onBr fun b => { b with requests := b.requests.filter fun r => r.tag != tag }

/-! Fences (R299). -/

/-- A fence result. -/
def BrWindow.fenceResult (w : BrWindow) (complete : Bool) : Nat := w.firstFault + w.faults * 2 ^ 32 + b2n complete * 2 ^ 48 + b2n w.queueLost * 2 ^ 49

/-- The result of a fence of window `n`, its faults counted anew after a completed one, its lost records after any. (log 32) -/
def Chip.fenceAnswer (c : Chip) (n : Nat) (complete : Bool) : Nat × Chip :=
  let v := (c.br.window n).fenceResult complete
  (v, c.onWin n fun w => if complete then { w with faults := 0, firstFault := 0, queueLost := false, lastFence := v } else { w with queueLost := false, lastFence := v })

def Chip.finishFence (c : Chip) (f : BrFence) (complete : Bool) : Chip :=
  let (v, c) := c.fenceAnswer f.window complete
  (c.onBr fun b => { b with fences := b.fences.filter fun g => g.hostTag != f.hostTag }).emit (.completion f.hostTag (le (if f.wide then 8 else 4) v))

/-- A request that is a write, an interrupt or a release. -/
def BrReq.posted (q : BrReq) : Bool := q.op == 3 || q.op == 9 || q.op == 8

/-- The tags of the unsettled writes that a condition picks. -/
def Bridge.writesOf (b : Bridge) (pick : BrReq → Bool) : List Nat := (b.requests.filter fun q => q.op == 3 && pick q).map (·.tag)

/-- Posted requests settle (R297): what waited for them is sent (R300, R302), and fences complete (R299). -/
def Chip.settle (c : Chip) (tags : List Nat) : Chip :=
  let keep := fun (t : Nat) => !tags.contains t
  let ready := c.br.requests.filter fun q => keep q.tag && !q.waits.isEmpty && (q.waits.filter keep).isEmpty
  let c := c.onBr fun b => { b with
    requests := (b.requests.filter fun q => keep q.tag).map fun q => { q with waits := q.waits.filter keep }
    fences := b.fences.map fun f => { f with waits := f.waits.filter keep } }
  let c := ready.foldl Chip.brSend c
  (c.br.fences.filter fun f => f.waits.isEmpty).foldl (fun c f => c.finishFence f true) c

/-! Reads (R288–R294). -/

/-- Non-posted requests held (R290). -/
def Bridge.heldNow (b : Bridge) : Nat := b.held.length + b.fences.length + b.semReads.length

def Chip.lineValid (c : Chip) (l : BrLine) : Bool := decide (c.clk.now < l.sentAt + (c.br.window l.window).lifetime)
/-- The valid line of a window read from an identity (R305). -/
def Chip.line (c : Chip) (n k far : Nat) : Option BrLine := c.br.lines.find? fun l => l.window == n && l.index == k && l.far == far && c.lineValid l
/-- The request of a line fetch that a held read may still wait for. -/
def BrReq.fetches (q : BrReq) (n k far : Nat) : Bool := q.isLine && !q.late && q.source == n && q.offset == 256 * k && q.far == far
/-- A fetch of the line is under way and not older than LineLifetime. -/
def Chip.fetching (c : Chip) (n k far : Nat) : Bool :=
  c.br.requests.any fun q => q.fetches n k far && q.current (c.br.window n) && decide (c.clk.now < q.sentAt + (c.br.window n).lifetime)

/-- A READ_REQ of window `n` for a run (R283, R287). -/
def Chip.brReadReq (c : Chip) (n off len : Nat) (isLine isAsync : Bool) : Nat × Chip :=
  let w := c.br.window n
  c.brRequest { tag := 0, op := 1, far := w.farId, source := n, field := w.field, exportId := w.exportId
                address := w.farBase + w.farStart off len, offset := off, length := len, isLine := isLine, isAsync := isAsync, desc := w.desc }

/-- Fetch a line that the bridge neither holds nor fetches (R291). -/
def Chip.fetchLine (c : Chip) (n k : Nat) : Nat × Chip :=
  let w := c.br.window n
  if w.refused || decide (w.size < 256 * k + 256) || (c.line n k w.farId).isSome || c.fetching n k w.farId then (0, c) else (1, (c.brReadReq n (256 * k) 256 true false).2)

def Chip.fetchLines (c : Chip) (n : Nat) (ks : List Nat) : Nat × Chip :=
  ks.foldl (fun (m, c) k => let (d, c) := c.fetchLine n k; (m + d, c)) (0, c)

def lineSpan (off len : Nat) : List Nat := (List.range ((off + len - 1) / 256 + 1)).drop (off / 256)

/-- The bytes of a run from the lines held of an identity, when all are valid. -/
def Chip.fromLines (c : Chip) (n far off len : Nat) : Option Bytes :=
  ((lineSpan off len).mapM fun k => c.line n k far).map fun ls => slice (ls.flatMap (·.data)) (off % 256) len

def Chip.markRead (c : Chip) (n far off len : Nat) : Chip :=
  c.onBr fun b => { b with lines := b.lines.map fun l => if l.window = n ∧ l.far = far ∧ (lineSpan off len).contains l.index then { l with read := true } else l }

/-- A read that fails at once: every byte 0xFF and a fault record. -/
def Chip.refuseRead (c : Chip) (n kind off len : Nat) : List BrPart × Nat × Chip :=
  let w := c.br.window n
  ([{ offset := off, length := len, data := some (ones len) }], kind,
    c.brFault n kind 0 1 off len w.farId 0)

/-- The requests of a read (R285, R286). -/
def Chip.askFar (c : Chip) (n off len : Nat) (isAsync : Bool) : List BrPart × Nat × Chip :=
  match (c.br.window n).runs off len with
  | none => c.refuseRead n 5 off len
  | some rs =>
    let (ps, c) := rs.foldl (fun (ps, c) r =>
      let (t, c) := c.brReadReq n r.1 r.2 false isAsync
      (ps ++ [({ offset := r.1, length := r.2, tag := some t, far := (c.br.window n).farId } : BrPart)], c)) ([], c)
    (ps, 0, c)

/-- One piece of at most 256 bytes of a BAR2 read, served by ReadMode (R277, R285, R288, R289, R291, R292). -/
def Chip.servePiece (c : Chip) (n off len : Nat) : List BrPart × Chip :=
  let w := c.br.window n
  let drop := fun (r : List BrPart × Nat × Chip) => (r.1, r.2.2)
  if w.size < off + len then drop (c.refuseRead n 11 off len)
  else match c.brReach w with
  | some k => drop (c.refuseRead n k off len)
  | none =>
    if w.mode = 0 ∨ (w.mode = 2 ∧ w.refused) then drop (c.refuseRead n 10 off len)
    else if w.mode = 1 then drop (if w.demoted then c.refuseRead n 12 off len else c.askFar n off len false)
    else if (w.runs off len).isNone then drop (c.refuseRead n 5 off len)
    else match c.fromLines n w.farId off len with
      | some d =>
        let k := (off + len - 1) / 256
        let c := (c.markRead n w.farId off len).brCount brHits
        ([{ offset := off, length := len, data := some d }], (c.fetchLines n ((List.range w.depth).map fun i => k + 1 + i)).2)
      | none =>
        let c := ((c.brCount brMisses).fetchLines n (lineSpan off len)).2
        if c.holdAllowed w then ([{ offset := off, length := len, far := w.farId }], c) else drop (c.refuseRead n 8 off len)

/-- A window answers accesses: enabled, the bridge running (R280). (log 27) -/
def Bridge.open (b : Bridge) (n : Nat) : Bool := b.running && (b.window n).enabled

/-- A BAR2 read taken from the endpoint (R277, R280, R285, R288–R291). -/
def Chip.barRead (c : Chip) (tag off len : Nat) : Chip :=
  let n := off / 0x800000
  let a := off % 0x800000
  let c := c.brCount brBarReads
  if !c.br.open n then (c.brCount brDisabled).emit (.completion tag (ones len))
  else
    let c := c.retarget n
    let rs := if len ≤ 256 then [(a, len)] else cutRun 256 len a len
    let (ps, c) := rs.foldl (fun (ps, c) r => let (q, c) := c.servePiece n r.1 r.2; (ps ++ q, c)) ([], c)
    (c.onBr fun b => { b with held := b.held ++ [{ hostTag := tag, window := n, parts := ps }] }).brFinish

/-- A fence read taken from the endpoint (R299): it waits for the writes it covers that are unsettled yet; over SPI it does not wait (R347). (log 32) -/
def Chip.fenceNow (c : Chip) (n : Nat) : Nat × Chip := c.fenceAnswer n (c.br.writesOf fun q => q.source == n).isEmpty

def Chip.fenceStart (c : Chip) (tag n off len : Nat) (covers : List Nat) : Chip :=
  if off = 4 then c.emit (.completion tag (le 4 ((c.br.window n).lastFence / 2 ^ 32)))
  else
    let f : BrFence := { hostTag := tag, window := n, wide := len == 8, waits := c.br.writesOf fun q => q.source == n && covers.contains q.tag }
    if f.waits.isEmpty then c.finishFence f true else c.onBr fun b => { b with fences := b.fences ++ [f] }

/-! Semaphore registers (R301–R303). -/

def SemSt.busyBits : SemSt → Nat
  | .busy h => h % 4096 * 65536 + 2
  | .failed => 8
  | .pending => 4
  | .acquired => 1
  | .idle => 0

/-- The home of a register cannot be used. -/
def Chip.semUnusable (c : Chip) (r : SemReg) : Bool := r.bound.isNone || (match r.target with | some id => c.nodeAbsent id | none => true)

/-- Send SEM_ACQUIRE, once per attempt. -/
def Chip.semAttempt (c : Chip) (n : Nat) : Chip :=
  let r := c.br.sem n
  let home := r.target.getD 0
  let idx := match r.bound with | some (_, i) => i | none => 0
  let (t, c) := c.brRequest { tag := 0, op := 6, far := home, source := 0x40 + n, exportId := idx }
  c.onSem n fun r => { r with state := .pending, home := home, index := idx, tag := t }

/-- A binding by vehicle identity is resolved again at each attempt (R62). (log 32) -/
def Chip.semRetarget (c : Chip) (n : Nat) : Chip :=
  match (c.br.sem n).bound with
  | some (d, _) => if (Addr.at d 0).kind = 3 then c.onSem n fun r => { r with target := (c.resolve (Addr.at d 0)).map (·.identity) } else c
  | none => c

/-- A read of SEMn (R301): the value it returns at once, or none when it is held. -/
def Chip.semPoll (c : Chip) (n : Nat) : Option Nat × Chip :=
  let r := c.br.sem n
  match r.state with
  | .acquired => (some 1, c)
  | .busy _ | .failed => (some r.state.busyBits, c.onSem n fun r => { r with state := .idle })
  | .pending => (none, c)
  | .idle => let c := c.semRetarget n; if c.semUnusable (c.br.sem n) then (some 8, c) else (none, c.semAttempt n)

def Chip.semStart (c : Chip) (tag n : Nat) : Chip :=
  match c.semPoll n with
  | (some v, c) => c.emit (.completion tag (le 4 v))
  | (none, c) => c.onBr fun b => { b with semReads := b.semReads ++ [(tag, n)] }

/-- Over SPI a read of SEMn never waits (R347). -/
def Chip.semNow (c : Chip) (n : Nat) : Nat × Chip := match c.semPoll n with | (v, c) => (v.getD 4, c)

/-- An answer ends an attempt: the reads held on the register return it (R301). -/
def Chip.semAnswer (c : Chip) (n : Nat) (st : SemSt) : Chip :=
  let c := c.onSem n fun r => { r with state := st }
  let reads := c.br.semReads.filter fun r => r.2 == n
  let c := c.onBr fun b => { b with semReads := b.semReads.filter fun r => r.2 != n }
  let c := reads.foldl (fun c r => c.emit (.completion r.1 (le 4 st.busyBits))) c
  if reads.isEmpty || st == .acquired then c else c.onSem n fun r => { r with state := .idle }

/-! Rows: accesses of the host (R277–R302). -/

/-- Take a non-posted request, or let it wait in the endpoint while eight are held (R290). -/
def Chip.startNonPosted (c : Chip) (w : BrWaiting) : Chip :=
  match w with
  | .read tag off len => c.barRead tag off len
  | .fence tag n off len covers => c.fenceStart tag n off len covers
  | .sem tag n => c.semStart tag n

/-- See log 32. -/
def Chip.nonPosted (c : Chip) (w : BrWaiting) : Chip :=
  if 8 ≤ c.br.heldNow ∨ c.br.waiting ≠ [] then c.onBr fun b => { b with waiting := b.waiting ++ [w] } else c.startNonPosted w

/-- NONPOSTED_REQUEST_ADMITTED. (log 32) -/
def nonPostedAdmitted (c : Chip) : Chip :=
  match c.br.waiting with
  | [] => c
  | w :: ws => if 8 ≤ c.br.heldNow then c else (c.onBr fun b => { b with waiting := ws }).startNonPosted w

/-- WINDOW_READ. -/
def windowRead (tag off len : Nat) (c : Chip) : Chip := if 64 * 0x800000 ≤ off ∨ len = 0 then c else c.nonPosted (.read tag off len)

/-- FENCE_READ: 4 bytes at offset 0 or 4, or all 8; any other access is an access error (R299, R341). -/
def fenceRead (tag n off len : Nat) (c : Chip) : Chip :=
  if 64 ≤ n then c
  else if (off = 0 ∧ (len = 4 ∨ len = 8)) ∨ (off = 4 ∧ len = 4) then c.nonPosted (.fence tag n off len (c.br.writesOf fun q => q.source == n))
  else (c.onHost fun h => { h with counters := bump h.counters cntAccess }).emit (.completion tag (zeros len))

/-- SEM_READ. -/
def semRead (tag n : Nat) (c : Chip) : Chip := if 16 ≤ n then c else c.nonPosted (.sem tag n)

/-- The far range of an accepted write discards the lines that overlap it (R293). -/
def Chip.overwriteLines (c : Chip) (far exportId address len : Nat) : Chip :=
  c.discardLines 2 fun l => l.far == far && l.exportId == exportId && decide (l.address < address + len ∧ address < l.address + 256)

/-- A BAR2 write of at most 256 bytes to an open window (R285, R295, R304, R305). -/
def Chip.barWrite (c : Chip) (n a : Nat) (d : Bytes) : Chip :=
  let c := c.retarget n
  let w := c.br.window n
  let len := d.length
  let fail := fun (c : Chip) (kind st : Nat) => c.brFault n kind st 0 a len w.farId 0 d
  if w.size < a + len then fail c 11 0
  else
    let c := c.brCount brBarWrites
    if !w.writeEnable then fail c 1 3
    else match c.brReach w with
      | some k => fail c k 0
      | none =>
        match w.runs a len with
        | none => fail c 5 0
        | some rs =>
          if w.quota ≤ (c.br.writesOf fun q => q.source == n).length then fail c 6 0
          else rs.foldl (fun c r =>
            let fa := w.farBase + w.farStart r.1 r.2
            let c := c.overwriteLines w.farId w.exportId fa r.2
            (c.brRequest { tag := 0, op := 3, far := w.farId, source := n, field := w.field, exportId := w.exportId, address := fa, offset := r.1, length := r.2
                           data := w.toFar r.1 r.2 (slice d (r.1 - a) r.2), desc := w.desc }).2) c

/-- WINDOW_WRITE. -/
def windowWrite (off : Nat) (d : Bytes) (c : Chip) : Chip :=
  let n := off / 0x800000
  let a := off % 0x800000
  if 64 ≤ n ∨ d = [] then c
  else if !c.br.open n then c.brCount brDisabled
  else (if d.length ≤ 256 then [(a, d.length)] else cutRun 256 d.length a d.length).foldl (fun c r => c.barWrite n r.1 (slice d (r.1 - a) r.2)) c

/-- REMOTE_IRQ_WRITE (R300): `enables` marks the bytes written. A window that is not open sends nothing (log 27). (log 30) -/
def remoteIrqWrite (n : Nat) (value : BitVec 32) (enables : BitVec 4) (c : Chip) : Chip :=
  let opened := c.br.open n
  let c := if n < 64 ∧ enables ≠ 0 ∧ opened then c.retarget n else c
  let w := c.br.window n
  let v := (List.range 4).foldl (fun acc i => if enables.getLsbD i then acc + value.toNat / 256 ^ i % 256 * 256 ^ i else acc) 0
  if 64 ≤ n ∨ enables = 0 ∨ !opened then c
  else match c.brReach w with
    | some k => c.brFault n k 0 2 0 4 w.farId 0 (le 4 v)
    | none => (c.brRequest { tag := 0, op := 9, far := w.farId, source := n, field := w.field, exportId := w.exportId, length := 4, data := be 4 v
                             waits := c.br.writesOf fun q => q.far == w.farId }).2

/-- SEM_RELEASE_WRITE (R302): the value written to SEMn. -/
def semReleaseWrite (n : Nat) (value : BitVec 32) (c : Chip) : Chip :=
  let r := c.br.sem n
  if 16 ≤ n ∨ value.getLsbD 0 = false then c
  else if r.state ≠ .acquired then c.brCount brStray
  else
    let c := c.onSem n fun r => { r with state := .idle }
    (c.brRequest { tag := 0, op := 8, far := r.home, source := 0x40 + n, exportId := r.index, waits := c.br.writesOf fun q => q.far == r.home }).2

/-! Rows: timers of the initiator. -/

/-- The requests that an open piece of window `n` waits for. -/
def Bridge.partRequests (b : Bridge) (n : Nat) (p : BrPart) : List BrReq :=
  match p.tag with
  | some t => b.requests.filter fun q => q.tag == t
  | none => b.requests.filter fun q => q.isLine && !q.late && q.source == n && q.current (b.window n) && p.onLine (q.offset / 256) q.far

/-- HELD_READ_TIMEOUT (R290, R293): the pieces still open read 0xFF, their requests are late, but for line fetches that another held read waits for. (log 32) -/
def heldReadTimeout (tag : Nat) (c : Chip) : Chip :=
  match c.br.held.find? fun h => h.hostTag == tag with
  | none => c
  | some h =>
    let open_ := h.parts.filter fun p => !p.done
    let c := open_.foldl (fun c p =>
      let sq := ((c.br.partRequests h.window p).head?.bind (·.sequence)).getD 0
      c.brFault h.window 7 0 1 p.offset p.length p.far sq) c
    let late := (open_.flatMap (c.br.partRequests h.window)).map (·.tag)
    let c := c.onBr fun b => { b with
      held := b.held.map fun g => if g.hostTag = tag then { g with parts := g.parts.map fun p => if p.done then p else { p with data := some (ones p.length) } } else g }
    let needed := fun (q : BrReq) => q.isLine && !(c.br.onLine q.source (q.offset / 256) q.far).isEmpty
    (c.onBr fun b => { b with requests := b.requests.map fun q => if late.contains q.tag && !needed q then { q with late := true } else q }).brFinish

/-- FENCE_TIMEOUT (R299). -/
def fenceTimeout (tag : Nat) (c : Chip) : Chip := match c.br.fences.find? fun f => f.hostTag == tag with | some f => c.finishFence f false | none => c

/-- SEM_READ_TIMEOUT (R301). -/
def semReadTimeout (tag : Nat) (c : Chip) : Chip :=
  if c.br.semReads.any fun r => r.1 == tag then
    (c.onBr fun b => { b with semReads := b.semReads.filter fun r => r.1 != tag }).emit (.completion tag (le 4 4))
  else c

/-- SEM_ATTEMPT_TIMEOUT (R301). -/
def semAttemptTimeout (n : Nat) (c : Chip) : Chip :=
  if decide (16 ≤ n) || (c.br.sem n).state != .pending then c else (c.dropRequest (c.br.sem n).tag).semAnswer n .failed

/-- ASYNC_READ_TIMEOUT (R294): named by the Tag of one of its requests. -/
def asyncReadTimeout (tag : Nat) (c : Chip) : Chip :=
  match c.br.asyncs.find? fun a => a.parts.any fun p => p.tag == some tag && !p.done with
  | none => c
  | some a =>
    let late := (a.parts.filter fun p => !p.done).filterMap (·.tag)
    let mine := fun (x : BrAsync) => x.parts.any fun p => p.tag == some tag
    (c.onBr fun b => { b with
      asyncs := b.asyncs.map fun x => if mine x then { x with status := if x.status = 0 then 13 else x.status,
                                                              parts := x.parts.map fun p => if p.done then p else { p with data := some (ones p.length) } } else x
      requests := b.requests.map fun q => if late.contains q.tag then { q with late := true } else q }).brFinish

/-- The Dir of a posted request (R298). -/
def BrReq.dir (q : BrReq) : Nat := if q.op = 9 then 2 else if q.op = 8 then 3 else 0
/-- The bytes a fault record shows: as the host wrote them. -/
def BrReq.hostData (q : BrReq) : Bytes := if q.op = 9 then q.data.reverse else ({ desc := q.desc } : BrWindow).swap q.offset q.length q.data

/-- A posted request ends in a fault and is settled. -/
def Chip.faultPosted (c : Chip) (q : BrReq) (kind farStatus : Nat) : Chip :=
  (c.brFault q.source kind farStatus q.dir q.offset q.length q.far (q.sequence.getD 0) q.hostData).settle [q.tag]

/-- WRITE_ACK_TIMEOUT (R297), named by the request's Tag. -/
def writeAckTimeout (tag : Nat) (c : Chip) : Chip :=
  match c.br.requests.find? fun q => q.tag == tag && q.posted && q.waits.isEmpty with
  | some q => c.faultPosted q 2 0
  | none => c

/-- PREFETCH_LINE_EXPIRY (R293). (log 32) -/
def prefetchLineExpiry (n k : Nat) (c : Chip) : Chip := c.discardLines 1 fun l => l.window == n && l.index == k

/-! Settling windows (R280, R306). -/

/-- Everything that disabling a window waits for is over: its writes, its held reads. -/
def Bridge.settled (b : Bridge) (n : Nat) : Bool := (b.writesOf fun q => q.source == n).isEmpty && b.held.all fun h => h.window != n

def Chip.disable (c : Chip) (n : Nat) : Chip := (c.discardLines 3 fun l => l.window == n).onWin n fun w => { w with enabled := false }

/-- Every enabled window has settled. -/
def Bridge.allSettled (b : Bridge) : Bool := (List.range 64).all fun n => !(b.window n).enabled || b.settled n

/-- BR_STOP succeeds (R306): the lines of every enabled window are discarded; the windows keep Enable (log 28). -/
def Chip.bridgeStopped (c : Chip) : Chip :=
  ((c.discardLines 3 fun l => (c.br.window l.window).enabled).onBr fun b => { b with running := false, stopping := false }).raise 95

/-- WINDOW_DISABLE_COMPLETE (R280, R306). -/
def windowDisableComplete (n : Nat) (c : Chip) : Chip :=
  if c.br.disabling = some n ∧ c.br.settled n then (((c.disable n).onBr fun b => { b with disabling := none }).completeWaiting 0x0706 0)
  else if c.br.stopping && c.br.allSettled then c.bridgeStopped.completeWaiting 0x0704 0
  else c

/-! Snapshots (R289, R305). -/

/-- The switch strobe: position targets name other identities (R24, R305). -/
def Chip.bridgeSwitch (c : Chip) : Chip :=
  let c := (List.range 64).foldl (fun c n =>
    let w := c.br.window n
    if w.byPosition then c.retargetTo n ((c.resolve w.addr).map (·.identity)) else c) c
  (List.range 16).foldl (fun c n =>
    match (c.br.sem n).bound with
    | some (d, _) => if (Addr.at d 0).kind ≤ 1 then c.onSem n fun r => { r with target := (c.resolve (Addr.at d 0)).map (·.identity) } else c
    | none => c) c

/-- A home semaphore is freed other than by release (R303, R308). -/
def Chip.freeHome (c : Chip) (i : Nat) : Chip := (c.onBr fun b => { b with homes := b.homes.set i none }).raiseD 93 0 0xFFFF 0

/-- A snapshot is put in force (R289, R303): hold is judged again, and the semaphores of dark holders are freed. -/
def Chip.bridgeSnapshot (c : Chip) : Chip :=
  let c := c.judgeHolds
  (List.range 16).foldl (fun c i =>
    match c.br.homes.getD i none, c.dir.inForce with
    | some (id, _), some s => if (s.byId id).any fun n => n.dark then c.freeHome i else c
    | _, _ => c) c

end Sys2Proof.Machine
end

