-- ==== Sys2Proof/Machine/BridgeFar.lean ====
section
/-! DEFINITION. The window bridge: bridge telegrams received, the exporter and the home semaphores (R281–R284, R300, R303, R304), and the commands of R307. -/
namespace Sys2Proof.Machine

/-! Bridge telegrams received. -/

/-- The body of a bridge telegram (R283). -/
def Telegram.bridgeMsg (t : Telegram) : Option BrMsg :=
  let b := t.payload
  let len := bAt b 6 2
  let m : BrMsg := { op := t.selector, source := t.source, session := t.session, sequence := t.sequence, tag := bAt b 0 4, exportId := u8 b 4, flags := u8 b 5
                     length := len, address := bAt b 8 8, status := u8 b 16, ack := bAt b 20 4, data := b.drop 24 }
  let need := match t.selector with | 2 => if u8 b 16 = 0 then len else 0 | 3 => len | 9 => 4 | _ => 0
  if b.length < 24 ∨ m.data.length < need then none else some m

/-- A bridge telegram of Selector `op` for this node, arriving on a backbone port, on a vehicle port from a field target, or from this node itself
(port 62, log 26): its body, with the checks of R104, R108 and R118. -/
def Chip.bridgeTake (c : Chip) (p op : Nat) (f : Bytes) : Option BrMsg × Chip :=
  let good := fun (t : Telegram) => t.type == 6 && t.selector == op && t.dstKind == 2 && t.dstValue == c.fuses.identity
  let pass := fun (t : Telegram) => if good t then (let (ok, c) := c.dupCheck p t; (if ok then t.bridgeMsg else none, c)) else (none, c)
  if p < 4 then
    if !c.rolling || !c.bb.isUp p || !c.tiles.portSound p then (none, c)
    else match c.parseFrame f with | .ok t => pass t | .error _ => (none, c)
  else if p = 62 then
    match c.parseFrame f with | .ok t => (if good t && t.source == c.fuses.identity then t.bridgeMsg else none, c) | .error _ => (none, c)
  else if p < 12 then
    if c.fieldDown p || f.length < 64 || !fcsGood f then (none, c)
    else match parseAs (u16 c.br.config 8) f with | .ok t => pass t | .error _ => (none, c)
  else (none, c)

/-! Replies (R290–R292, R297, R301, R304). -/

/-- The requests to a target that has restarted fail, and its lines go (R304). -/
def Chip.farFails (c : Chip) (far : Nat) : Chip :=
  let mine := c.br.requests.filter fun q => q.far == far
  let c := mine.foldl (fun c q =>
    if q.op = 3 ∨ q.op = 9 then c.brFault q.source 9 0 q.dir q.offset q.length far (q.sequence.getD 0) q.hostData
    else if q.op = 1 ∧ !q.late then
      if q.isLine then c.failFetch q 9 0 else (c.brFault q.source 9 0 1 q.offset q.length far (q.sequence.getD 0)).failPart q.tag 9 0
    else c) c
  let c := c.settle ((mine.filter fun q => q.op == 3 || q.op == 9 || q.op == 1).map (·.tag))
  c.discardLines 7 fun l => l.far == far

/-- A target has restarted (R304): the semaphores held there are lost too. -/
def Chip.farRestart (c : Chip) (far : Nat) : Chip :=
  (c.farFails far).onBr fun b => { b with sems := b.sems.map fun r => if r.state = .acquired ∧ r.home = far then { r with state := .idle } else r }

/-- The Session of a reply is noted; a change is a restart. -/
def Chip.seeSession (c : Chip) (m : BrMsg) : Chip :=
  let old := c.br.sessions.lookup m.source
  let c := c.onBr fun b => { b with sessions := (m.source, m.session) :: b.sessions.filter fun s => s.1 != m.source }
  match old with
  | some s => if s = m.session then c else c.farRestart m.source
  | none => c

/-- Reads waiting for lines that are all there complete (R291). -/
def Chip.serveLines (c : Chip) (n : Nat) : Chip :=
  let ready := (c.br.held.filter fun h => h.window == n).flatMap fun h => h.parts.filter fun p => !p.done && p.tag.isNone && (c.fromLines n p.far p.offset p.length).isSome
  let c := ready.foldl (fun c p => c.markRead n p.far p.offset p.length) c
  (c.mapParts fun w p => if w = n ∧ p.tag = none then { p with data := c.fromLines n p.far p.offset p.length } else p).brFinish

/-- A line arrives (R291): the line filled longest ago makes room; one older than LineLifetime is discarded at once, and so is one whose window was
disabled, re-described or resolved anew since its request was sent (R293); a read accepted before a new resolution is served from it first (R305). -/
def Chip.fillLine (c : Chip) (q : BrReq) (m : BrMsg) : Chip :=
  let n := q.source
  let k := q.offset / 256
  let w := c.br.window n
  let l : BrLine := { window := n, index := k, desc := q.desc, data := ({ desc := q.desc } : BrWindow).swap q.offset 256 (padTo 256 m.data), far := q.far, exportId := q.exportId, address := q.address
                      sentAt := q.sentAt, sentTrain := q.sentTrain, attrKnown := m.flags.testBit 1 }
  let c := if w.enabled && q.current w then c.discardLines 1 fun x => x.window == n && x.index == k && x.far == q.far else c
  let c := if 64 ≤ c.br.lines.length then
      match c.br.lines with
      | o :: _ => c.discardLines 4 fun x => x.window == o.window && x.index == o.index && x.far == o.far
      | [] => c
    else c
  let c := c.onBr fun b => { b with lines := b.lines ++ [l] }
  let mine := fun (x : BrLine) => x.window == n && x.index == k && x.far == q.far
  if !w.enabled || !q.current w then c.discardLines 3 mine
  else if !c.lineValid l then c.discardLines 1 mine
  else c.serveLines n

/-- The window's prefetch is refused (R292). -/
def Chip.prefetchRefused (c : Chip) (n : Nat) : Chip := (c.onWin n fun w => { w with refused := true }).raiseD 92 4 n 0

/-- READ_REPLY_RX. -/
def readReplyRx (p : Nat) (f : Bytes) (c : Chip) : Chip :=
  match c.bridgeTake p 2 f with
  | (none, c) => c
  | (some m, c) =>
    let c := c.seeSession m
    match c.br.requests.find? fun q => q.op == 1 && q.tag == m.tag && q.far == m.source with
    | none => c
    | some q =>
      let c := c.dropRequest q.tag
      if q.late then
        let c := c.brCount brLateReplies
        let c := if q.isLine && m.status == 4 then c.prefetchRefused q.source else if q.isLine && m.status == 0 then c.brCount brLinesDiscarded else c
        if m.status = 0 ∧ (q.isAsync ∨ !(m.flags.testBit 1 && m.flags.testBit 2)) then c.strand q.source 6 q.far q.address q.sentTrain (m.data.take q.length) else c
      else if q.isLine then
        if m.status = 0 then c.fillLine q m
        else if m.status = 4 then
          (c.prefetchRefused q.source).failFetch q 10 0
        else c.failFetch q 1 m.status
      else if m.status = 0 then c.answerPart q.tag (({ desc := q.desc } : BrWindow).swap q.offset q.length (padTo q.length m.data))
      else (c.brFault q.source 1 m.status 1 q.offset q.length q.far (q.sequence.getD 0)).failPart q.tag 1 m.status

/-- `s` is not newer than `a` (R53). -/
def covered (s a : Nat) : Bool := !newer s a

/-- WRITE_ACK_RX (R284, R297). -/
def writeAckRx (p : Nat) (f : Bytes) (c : Chip) : Chip :=
  match c.bridgeTake p 4 f with
  | (none, c) => c
  | (some m, c) =>
    let c := c.seeSession m
    c.settle ((c.br.requests.filter fun q => q.posted && q.far == m.source && (match q.sequence with | some s => covered s m.ack | none => false)).map (·.tag))

/-- WRITE_FAULT_RX (R297). -/
def writeFaultRx (p : Nat) (f : Bytes) (c : Chip) : Chip :=
  match c.bridgeTake p 5 f with
  | (none, c) => c
  | (some m, c) =>
    let c := c.seeSession m
    match c.br.requests.find? fun q => q.posted && q.far == m.source && q.sequence == some m.ack with
    | some q => c.faultPosted q 1 m.status
    | none => c

/-- SEM_REPLY_RX (R301). -/
def semReplyRx (p : Nat) (f : Bytes) (c : Chip) : Chip :=
  match c.bridgeTake p 7 f with
  | (none, c) => c
  | (some m, c) =>
    let c := c.seeSession m
    match (List.range 16).find? fun n => let r := c.br.sem n; r.state == .pending && r.tag == m.tag && r.home == m.source with
    | none => c
    | some n =>
      let c := c.dropRequest m.tag
      if m.status = 0 then (c.brCount brSemAcquired).semAnswer n .acquired
      else if m.status = 7 then (c.brCount brSemBusy).semAnswer n (.busy (m.ack % 4096))
      else c.semAnswer n .failed

/-! The exporter (R281, R282, R284, R300, R303). -/

def Bridge.exportEntry (b : Bridge) (i : Nat) : Bytes := b.exports.getD i (zeros 32)
/-- The export entry a request is served by: the one its access began under (R20), or the one in force. -/
def BrMsg.entryIn (m : BrMsg) (b : Bridge) : Bytes := m.entry.getD (b.exportEntry m.exportId)

/-- The vehicle identity of a node of the train. -/
def Chip.vehicleOf (c : Chip) (id : Nat) : Option Nat :=
  c.dir.inForce.bind fun s => (s.byId id).bind fun n => (s.vehicle n.position).map (·.identity)

/-- The reply status of R282 for a request: 0 when it passes. (log 30) -/
def Chip.exportCheck (c : Chip) (m : BrMsg) : Nat :=
  let e := c.br.exportEntry m.exportId
  let flag := fun i => (u8 e 1).testBit i
  if !c.br.running || u8 e 0 = 0 then 1
  else if (m.op = 1 ∨ m.op = 3 ∨ m.op = 9) ∧ u64 e 0x10 < m.address + m.length then 2
  else if (u64 e 0x18 ≠ 0 ∧ u64 e 0x18 ≠ m.source) ∨ (flag 3 ∧ c.vehicleOf m.source ≠ some c.vehicleId) ∨ !(flag (if m.op = 1 then 0 else 1)) then 3
  else if m.op = 1 ∧ m.flags.testBit 0 ∧ !flag 2 then 4
  else 0

/-- A reply to a request (R283). -/
def Chip.brReply (c : Chip) (m : BrMsg) (op flags status ack : Nat) (data : Bytes) : Chip :=
  (c.brEmit m.source none op { m with op := op, flags := flags, status := status, ack := ack, data := data }.bytes).2

/-- READ_REPLY; one that failed carries Length open bytes (log 29). -/
def Chip.readReply (c : Chip) (m : BrMsg) (status : Nat) (data : Bytes) : Chip :=
  let flags := 2 + b2n ((u8 (m.entryIn c.br) 1).testBit 2) * 4
  if status = 0 then c.brReply m 2 flags 0 0 data
  else let (d, c) := c.drawBytes m.length; c.brReply m 2 flags status 0 d

def Chip.onStream (c : Chip) (m : BrMsg) (f : BrStream → BrStream) : Chip :=
  c.onBr fun b => { b with streams := b.streams.map fun s => if s.source = m.source ∧ s.session = m.session then f s else s }

/-- WRITE_ACK with the highest Sequence executed (R284). -/
def Chip.sendAck (c : Chip) (s : BrStream) : Chip :=
  match s.last with
  | none => c
  | some m => (c.brReply m 4 0 0 m.sequence []).onStream m fun x => { x with unacked := 0, last := none }

/-- A write, an IRQ or a release executed: acknowledged with others, at once when 16 wait (R284). -/
def Chip.ackLater (c : Chip) (m : BrMsg) : Chip :=
  let c := c.onStream m fun s => { s with unacked := s.unacked + 1, last := some m }
  match c.br.streams.find? fun s => s.source == m.source && s.session == m.session with
  | some s => if 16 ≤ s.unacked then c.sendAck s else c
  | none => c

/-- The end of a request: its reply, or its acknowledgement (R282, R284). -/
def Chip.endRequest (c : Chip) (m : BrMsg) (status : Nat) (data : Bytes) : Chip :=
  let c := if status = 0 then c else c.brCount brRefused
  if m.op = 1 then c.readReply m status data
  else if status = 0 then c.ackLater m
  else c.brReply m 5 0 status m.sequence []

/-- SEM_ACQUIRE at the home (R303). (log 30) -/
def Chip.homeAcquire (c : Chip) (m : BrMsg) : Chip :=
  if !c.br.running || decide (16 ≤ m.exportId) then (c.brCount brRefused).brReply m 7 0 1 0 []
  else match c.br.homes.getD m.exportId none with
    | some (id, s) =>
      if id = m.source ∧ s = m.session then c.brReply m 7 0 0 0 []
      else
        let num := match c.dir.inForce.bind fun s => s.byId id with | some n => n.number | none => 0
        c.brReply m 7 0 7 num (be 8 id)
    | none => (c.onBr fun b => { b with homes := b.homes.set m.exportId (some (m.source, m.session)) }).brReply m 7 0 0 0 []

/-- SEM_RELEASE at the home: only its holder frees a semaphore. (log 30) -/
def Chip.homeRelease (c : Chip) (m : BrMsg) : Chip :=
  if c.br.homes.getD m.exportId none = some (m.source, m.session) then c.onBr fun b => { b with homes := b.homes.set m.exportId none } else c

/-- The DDR4 bridge area holds the range (R333). -/
def Chip.inArea (c : Chip) (a n : Nat) : Bool := c.mem.state == .running && decide (a + n ≤ u32 c.mem.config 8 * 1048576)

/-- Execute one request: whether its access is still under way, and the chip after it. -/
def Chip.brExecute (c : Chip) (m : BrMsg) : Bool × Chip :=
  let c := c.brCount brInbound
  let st := c.exportCheck m
  if m.op = 6 then (false, c.homeAcquire m)
  else if st ≠ 0 then (false, c.endRequest m st [])
  else if m.op = 9 then
    let v := beNat (m.data.take 4)
    (false, (((c.brCount brIrqReceived).onBr fun b => { b with lastIrq := some (m.source, m.exportId, v) }).raiseD 91 5 m.exportId v).endRequest m 0 [])
  else if m.op = 8 then (false, (c.homeRelease m).endRequest m 0 [])
  else
    let e := c.br.exportEntry m.exportId
    let a := u64 e 8 + m.address
    if u8 e 2 = 1 then if c.inArea a m.length then (true, c) else (false, c.endRequest m 5 [])
    else if !c.host.pcieUp then (true, c)
    else (true, c.emits (if m.op = 1 then Output.dmaReads a m.length else Output.dmaWrites a (m.data.take m.length)))

/-- Execute requests in order until one's access is under way (R284). -/
def Chip.brExecuteAll : List BrMsg → Chip → List BrMsg × Bool × Chip
  | [], c => ([], false, c)
  | m :: ms, c =>
    match c.brExecute m with
    | (true, c) => ({ m with entry := some (c.br.exportEntry m.exportId) } :: ms, true, c)
    | (false, c) => Chip.brExecuteAll ms c

/-- Run a stream whose first request is not under way. -/
def Chip.runStream (c : Chip) (s : BrStream) : Chip :=
  let (rest, act, c) := Chip.brExecuteAll s.queue c
  c.onBr fun b => { b with streams := b.streams.map fun x => if x.source = s.source ∧ x.session = s.session then { x with queue := rest, active := act } else x }

/-- A request from a holder's identity with another Session frees what it held (R303). -/
def Chip.checkHolders (c : Chip) (m : BrMsg) : Chip :=
  (List.range 16).foldl (fun c i => match c.br.homes.getD i none with
    | some (id, s) => if id = m.source ∧ s ≠ m.session then c.freeHome i else c
    | none => c) c

/-- A request received: it waits in its stream, and runs when nothing of the stream is under way. (log 30, log 32) -/
def requestRx (op p : Nat) (f : Bytes) (c : Chip) : Chip :=
  if 4 ≤ p ∧ p < 12 then c
  else match c.bridgeTake p op f with
  | (none, c) => c
  | (some m, c) =>
    let c := c.checkHolders m
    let same := fun (s : BrStream) => s.source == m.source && s.session == m.session
    let c := if c.br.streams.any same then c else c.onBr fun b => { b with streams := b.streams ++ [{ source := m.source, session := m.session }] }
    let c := c.onStream m fun s => { s with queue := s.queue ++ [m] }
    match c.br.streams.find? same with
    | some s => if s.active then c else c.runStream s
    | none => c

/-- The access under way of a stream has ended. -/
def Chip.endAccess (c : Chip) (source : Nat) (f : Chip → BrMsg → Chip) : Chip :=
  match c.br.streams.find? fun s => s.source == source && s.active with
  | none => c
  | some s =>
    match s.queue with
    | [] => c
    | m :: ms =>
      let c := f c m
      c.runStream { s with queue := ms, active := false }

/-- An access to the DDR4 bridge area takes effect. (log 32) -/
def Chip.areaWrite (c : Chip) (m : BrMsg) : Chip :=
  let e := m.entryIn c.br
  if m.op = 3 ∧ u8 e 2 = 1 then c.onMem fun x => { x with bridge := x.bridge.write (u64 e 8 + m.address) (m.data.take m.length) } else c

/-- EXPORT_ACCESS_COMPLETE (R282, R335): a failed access ended in Unsupported Request, Completer Abort or an uncorrectable error; errors that the controller
corrected in the bridge area are counted; `data` is what a DMA read of host memory returned. (log 55) -/
def exportAccessComplete (source : Nat) (ends : AccessEnd) (data : Bytes) (c : Chip) : Chip :=
  c.endAccess source fun c m =>
    let e := m.entryIn c.br
    let a := u64 e 8 + m.address
    match ends with
    | .failed => (if u8 e 2 = 1 then c.ddrError a 0xFFFF else c).endRequest m 5 []
    | .corrected n => ((if u8 e 2 = 1 then c.ddrCorrected n else c).areaWrite m).endRequest m 0 (if u8 e 2 = 1 then c.mem.bridge.read a m.length else padTo m.length data)
    | .done => (c.areaWrite m).endRequest m 0 (if u8 e 2 = 1 then c.mem.bridge.read a m.length else padTo m.length data)

/-- EXPORT_TARGET_TIMEOUT (R282): the access may still have taken effect, which a free value decides. -/
def exportTargetTimeout (source : Nat) (c : Chip) : Chip :=
  c.endAccess source fun c m =>
    let (v, c) := c.draw
    (if v % 2 = 1 then c.areaWrite m else c).endRequest m 6 []

/-- WRITE_ACK_TIMER (R284). -/
def writeAckTimer (source : Nat) (c : Chip) : Chip :=
  (c.br.streams.filter fun s => s.source == source && decide (0 < s.unacked)).foldl Chip.sendAck c

/-! Commands (R307). -/

def Bridge.homeMask (b : Bridge) : Nat := b.homes.zipIdx.foldl (fun acc (h, i) => acc + b2n h.isSome * 2 ^ i) 0
/-- Places of Q61 taken, reserved ones included. -/
def Chip.q61 (c : Chip) : Nat := (c.qm.queue 61).entries.length + c.br.asyncs.length

def brStatus : Cmd where
  form := noReq
  act c _ :=
    let b := c.br
    c.ok (le 1 (b2n b.running) ++ le 1 (b.windows.filter fun w => w.split).length ++ le 2 (c.qm.queue 62).entries.length ++ le 2 c.q61 ++ le 1 b.stranded.length ++ le 1 b.heldNow ++
      le 8 (b.windows.zipIdx.foldl (fun acc (w, i) => acc + b2n w.enabled * 2 ^ i) 0) ++ le 2 (b.exports.zipIdx.foldl (fun acc (e, i) => acc + u8 e 0 * 2 ^ i) 0) ++
      le 2 b.homeMask ++ zeros 4)

/-- BR_CONFIG_SET (R13). (log 15) -/
def brConfigSet : Cmd where
  form _ r := [lenIs r 16, rsv r 10 6, rng (decide (20 ≤ u32 r 0 ∧ u32 r 0 ≤ 50000)) 0, rng (decide (1 ≤ u16 r 4 ∧ u16 r 4 ≤ 10000)) 4,
    rng (decide (1 ≤ u16 r 6 ∧ u16 r 6 ≤ 10000)) 6, rng (decide (0x600 ≤ u16 r 8)) 8]
  state c r := [need (!c.br.running || staticKept c.br.config r [(0, 4), (8, 2)]) 0x05]
  act c r := (c.onBr fun b => if b.running then { b with config := r } else { b with config := staticLate b.config r [(0, 4), (8, 2)], written := some r }).ok

def brConfigGet : Cmd where
  form := noReq
  act c _ := c.ok (c.br.written.getD c.br.config)

/-- BR_START (R13, R289, R306): the configuration written before is in force, and every hold window is judged by it. (log 28) (log 15) -/
def brStart : Cmd where
  form := noReq
  state c _ := [need (!c.br.running) 0x06]
  act c _ := (((c.onBr fun b => { b with running := true, config := b.written.getD b.config, written := none }).judgeHolds).raise 95).ok

/-- See log 28. -/
def brStop : Cmd where
  form := noReq
  state c _ := [need c.br.running 0x06]
  act c _ := if c.br.allSettled then c.bridgeStopped.ok else { chip := c.onBr fun b => { b with stopping := true }, busy := true }

/-- Steps 5 and 6 for a descriptor of R279 at offset 4. -/
def windowForm (r : Bytes) : List Check :=
  let w : BrWindow := { desc := r.drop 4, isSet := true }
  let k := u8 r 12
  [rsv r 1 3, enc (decide (w.mode ≤ 2)) 4, enc (decide (u8 r 5 < 64)) 5, rsv r 11 1] ++ addrRsv r 12 ++ [rsv r 0x30 4, rsv r 0x3C 8,
   rng (decide (u8 r 0 < 64)) 0, rng ([1, 2, 4, 8].contains w.width) 6, rng (if w.invariant then [2, 4, 8].contains w.lane else w.lane == 0) 7,
   rng (decide (w.exportId < 16)) 8, rng (if w.mode = 2 then decide (w.depth ≤ 8) else w.depth == 0) 9,
   rng (if w.fieldTarget then decide (4 ≤ u8 r 10 ∧ u8 r 10 ≤ 11) else u8 r 10 == 0) 10,
   rng (if w.fieldTarget then k == 2 else k != 4) 12] ++ addrRng r 12 ++
  [rng (decide (2 ≤ k) || u32 r 16 == 0) 16, rng (w.farBase % 8 == 0) 0x1C,
   rng (decide (0x1000 ≤ w.size ∧ w.size ≤ 0x800000 ∧ w.size % 0x1000 = 0)) 0x24, rng (decide (1 ≤ w.service ∧ w.service ≤ 10000)) 0x28,
   rng (decide (1 ≤ w.quota ∧ w.quota ≤ 256)) 0x2A, rng (decide (10 ≤ u32 r 0x2C ∧ u32 r 0x2C ≤ 1000000)) 0x2C,
   rng (if w.fieldTarget then u16 r 0x3A == 0 else isZero (slice r 0x34 8)) 0x34,
   rng (!(w.mode == 2 && !w.flag 2)) 5, rng (!(w.split && w.memory)) 5, rng (!(w.invariant && decide (w.lane < w.width))) 7]

/-- The window that BR_WINDOW_SET writes, resolved now; its fence goes on counting (R299). (log 32) -/
def Chip.windowOf (c : Chip) (r : Bytes) : BrWindow :=
  let w : BrWindow := { c.br.window (u8 r 0) with desc := r.drop 4, isSet := true, enabled := false, demoted := false }
  { w with target := if w.fieldTarget then some w.addr.value else (c.resolve w.addr).map (·.identity) }

def brWindowSet : Cmd where
  form _ r := lenIs r 68 :: windowForm r
  state c r :=
    let w := c.windowOf r
    let others := c.br.windows.zipIdx.filter fun x => x.1.split && x.2 != u8 r 0
    [need (!(c.br.window (u8 r 0)).enabled) 0x05, need w.target.isSome 0x0B, rng (!(w.mode == 1) || c.holdAllowed w) 4,
     need (!(w.split && decide (8 ≤ others.length))) 0x08]
  act c r := ((c.discardLines 3 fun l => l.window == u8 r 0).onWin (u8 r 0) fun _ => c.windowOf r).ok

/-- See log 32. -/
def brWindowEnable : Cmd where
  form _ r := [lenIs r 4, rsv r 2 2, rng (decide (u8 r 0 < 64)) 0, rng (decide (u8 r 1 ≤ 1)) 1]
  state c r := [need (c.br.running && (u8 r 1 == 0 || (c.br.window (u8 r 0)).isSet)) 0x06]
  act c r :=
    let n := u8 r 0
    let w := c.br.window n
    if u8 r 1 = 1 then (if w.enabled then c else c.onWin n fun w => { w with enabled := true, refused := false }).ok
    else if !w.enabled then c.ok
    else if c.br.settled n then (c.disable n).ok
    else { chip := c.onBr fun b => { b with disabling := some n }, busy := true }

/-- See log 32. -/
def brWindowStatus : Cmd where
  form _ r := [lenIs r 4, rsv r 1 3, rng (decide (u8 r 0 < 64)) 0]
  act c r :=
    let n := u8 r 0
    let c := c.retarget n
    let w := c.br.window n
    let (h, rtt) := (c.brRtt w).getD (0, 0)
    let k := if w.isSet then c.brReach w else none
    c.ok (le 1 (b2n w.enabled) ++ le 1 (b2n w.demoted + b2n w.refused * 2 + b2n (k == some 3) * 4 + b2n (k == some 4) * 8) ++ le 2 h ++ le 4 (ceilDiv rtt 1000000) ++
      le 8 w.farId ++ le 2 (c.br.writesOf fun q => q.source == n).length ++ le 1 (c.br.held.filter fun x => x.window == n).length ++
      le 1 (c.br.lines.filter fun l => l.window == n).length ++ le 2 (c.br.sessionOf w.farId) ++ zeros 2)

def brExport : Cmd where
  form _ r :=
    let e := r.drop 4
    let set := u8 r 1 == 0
    [lenIs r 36, enc (decide (u8 r 1 ≤ 1)) 1, rsv r 2 2, (if set then none else rsv r 4 32), enc (decide (u8 e 1 < 16)) 5, enc (decide (u8 e 2 ≤ 1)) 6, rsv r 7 5,
     rng (decide (u8 r 0 < 16)) 0, rng (decide (u8 e 0 ≤ 1)) 4, rng (!set || u64 e 8 % 0x1000 == 0) 0x0C,
     rng (!set || (decide (0x1000 ≤ u64 e 0x10 ∧ u64 e 0x10 ≤ 0x100000000) && u64 e 0x10 % 0x1000 == 0)) 0x14]
  state c r :=
    let old := c.br.exportEntry (u8 r 0)
    [need (u8 r 1 == 1 || u8 old 0 == 0 || old.drop 1 == r.drop 5) 0x05]
  act c r :=
    let c := if u8 r 1 = 0 then c.onBr fun b => { b with exports := b.exports.set (u8 r 0) (r.drop 4) } else c
    c.ok (c.br.exportEntry (u8 r 0))

def brRead : Cmd where
  form c r := [lenIs r 12, rsv r 1 1, rng (decide (u8 r 0 < 64)) 0, rng (decide (1 ≤ u16 r 2 ∧ u16 r 2 ≤ 256)) 2,
    rng (decide (u32 r 4 + u16 r 2 ≤ (c.br.window (u8 r 0)).size)) 4]
  state c r := [need (c.br.open (u8 r 0)) 0x06, need (decide (c.q61 < 64)) 0x08]
  act c r :=
    let n := u8 r 0
    let len := u16 r 2
    let c := (c.brCount brAsyncReads).retarget n
    let (ps, st, c) := match c.brReach (c.br.window n) with
      | some k => c.refuseRead n k (u32 r 4) len
      | none => c.askFar n (u32 r 4) len true
    ((c.onBr fun b => { b with asyncs := b.asyncs ++ [{ window := n, hostTag := u32 r 8, length := len, parts := ps, status := st }] }).brFinish).ok (slice r 8 4)

/-- Take the head of a queue of records. -/
def Chip.popRecord (c : Chip) (q : Nat) : Option Bytes × Chip :=
  match (c.qm.queue q).entries with
  | [] => (none, c)
  | e :: es => (some e.data, c.onQm fun m => m.upd q fun a => { a with entries := es })

def brCompletionRead : Cmd where
  form := noReq
  act c _ := match (c.mailRead 0x070A 61).popRecord 61 with
    | (none, c) => c.ok (zeros 24)
    | (some d, c) => c.ok (le 1 1 ++ d.take 9 ++ le 2 (c.qm.queue 61).entries.length ++ d.drop 9)

def brFaultRead : Cmd where
  form := noReq
  act c _ := match (c.mailRead 0x070B 62).popRecord 62 with
    | (none, c) => c.ok (zeros 48)
    | (some d, c) => c.ok (le 1 1 ++ zeros 1 ++ le 2 (c.qm.queue 62).entries.length ++ zeros 4 ++ d)

def brStrandedRead : Cmd where
  form := noReq
  act c _ := match c.br.stranded with
    | [] => c.ok (zeros 40)
    | d :: ds => (c.onBr fun b => { b with stranded := ds }).ok (le 1 1 ++ zeros 1 ++ le 2 ds.length ++ zeros 4 ++ d)

def brPrefetch : Cmd where
  form _ r := [lenIs r 12, rsv r 1 3, rng (decide (u8 r 0 < 64)) 0, rng (decide (u32 r 8 ≤ 16384)) 8]
  state c r := let w := c.br.window (u8 r 0); [need (c.br.open (u8 r 0) && w.mode == 2 && !w.refused) 0x06]
  act c r :=
    let n := u8 r 0
    let c := c.retarget n
    let w := c.br.window n
    if u32 r 8 = 0 then c.ok (zeros 4)
    else match c.brReach w with
      | some k => (c.refuseRead n k (u32 r 4) (u32 r 8)).2.2.ok (zeros 4)
      | none =>
        let (m, c) := c.fetchLines n (lineSpan (u32 r 4) (u32 r 8))
        c.ok (le 2 m ++ zeros 2)

def brSemControl : Cmd where
  form _ r :=
    let bind := u8 r 1 == 0
    [lenIs r 24, enc (decide (u8 r 1 ≤ 3)) 1, rsv r 2 2] ++ (if bind then addrRsv r 4 else [rsv r 4 16]) ++ [rsv r 0x15 3, rng (decide (u8 r 0 < 16)) 0] ++
      (if bind then addrRng r 4 else []) ++ [rng (decide (u8 r 0x14 < 16)) 0x14]
  state c r :=
    let a := Addr.at r 4
    let st := (c.br.sem (u8 r 0)).state
    [need (decide (2 ≤ u8 r 1) || !(st == .acquired || st == .pending)) 0x06] ++ (if u8 r 1 = 0 then [c.addrEpoch a, need (c.resolve a).isSome 0x0B] else [])
  act c r :=
    let n := u8 r 0
    let c := match u8 r 1 with
      | 0 => c.onSem n fun _ => { bound := some (slice r 4 16, u8 r 0x14), target := (c.resolve (Addr.at r 4)).map NodeEntry.identity }
      | 1 => c.onSem n fun _ => {}
      | 2 => if (c.br.homes.getD n none).isSome then c.freeHome n else c
      | _ => c
    let named := if u8 r 1 = 2 then n else u8 r 0x14
    c.ok (le 4 (c.br.sem n).state.busyBits ++ le 2 c.br.homeMask ++ zeros 2 ++ le 8 (match c.br.homes.getD named none with | some (id, _) => id | none => 0))

def brCounters : Cmd where
  form := noReq
  act c _ := (c.onBr fun b => { b with counters := List.replicate 20 0 }).ok (cntBytes c.br.counters)

end Sys2Proof.Machine
end

