-- ==== Sys2Proof/Machine/CarBus.lean ====
section
/-! DEFINITION. The car bus and the star guardian (R178–R222). -/
namespace Sys2Proof.Machine

/-! Configuration and image (R179, R189–R193, R218–R220). -/

def CarBus.mode (b : CarBus) : Nat := u8 b.config 0
/-- The channels the star serves (R179). -/
def CarBus.served (b : CarBus) : List Nat := match b.mode with | 1 => [0] | 2 => [1] | _ => [0, 1]
/-- This star as a slot owner or frame source. -/
def CarBus.self (b : CarBus) : Nat := if b.mode = 2 then 0x81 else 0x80
/-- The cross port of a two-star mode. -/
def CarBus.cross (b : CarBus) : Option Nat := match b.mode with | 1 => some 35 | 2 => some 34 | _ => none
def CarBus.cycleNs (b : CarBus) : Nat := 500000 * 2 ^ u8 b.config 1
def CarBus.margin (b : CarBus) : Nat := u16 b.config 12
def CarBus.delayMax (b : CarBus) : Nat := u16 b.config 14
def CarBus.crossDelay (b : CarBus) : Nat := u16 b.config 16

/-- The port of a branch on a channel (R40, R178). -/
def cbPort (branch ch : Nat) : Nat := 12 + 2 * branch + ch
def branchBit (mask branch ch : Nat) : Bool := mask.testBit (branch + 16 * ch)

/-- The frame time FT(P) in ns (R185). -/
def frameNs (p : Nat) : Nat := (121 + 8 * p) * 80

def cbSlots (img : Bytes) : Nat := u8 img 13
/-- Slot entry k, from 1 (R218). -/
def cbSlot (img : Bytes) (k : Nat) : Bytes := slice img (64 + 8 * (k - 1)) 8
def slotOwner (s : Bytes) : Nat := u8 s 0
def slotMax (s : Bytes) : Nat := u8 s 2
/-- S_k in ns (R190). -/
def slotStart (img : Bytes) (k : Nat) : Nat := 28000 + (k - 1) * u16 img 14 * 1000
def eventStartNs (img : Bytes) : Nat := 28000 + cbSlots img * u16 img 14 * 1000

/-- X_max of R203 in ns. -/
def CarBus.exchangeMax (b : CarBus) : Nat := frameNs 0 + 1000 + 2 * b.delayMax + b.margin + frameNs 64 + 800

/-- An owner or granted branch is usable on a channel under the configuration (R219). -/
def CarBus.branchOk (b : CarBus) (branch ch : Nat) : Bool := branchBit (u32 b.config 4) branch ch

def CarBus.slotOk (b : CarBus) (len : Nat) (s : Bytes) : Bool :=
  let o := slotOwner s
  let chans := [0, 1].filter fun ch => (u8 s 1).testBit ch
  (decide (o < 12) || o == 0x80 || o == 0x81) && decide (1 ≤ u8 s 1 ∧ u8 s 1 ≤ 3) && decide (slotMax s ≤ 64) && decide (u8 s 3 ≤ 3) &&
    (u8 s 3 % 2 == 0 || decide (128 ≤ o)) && decide (u8 s 4 ≤ 6) && decide (u8 s 5 < 2 ^ u8 s 4) && u16 s 6 == 0 &&
    decide (frameNs (slotMax s) + 2 * b.delayMax + 2 * b.margin + 800 ≤ len * 1000) &&
    (decide (12 ≤ o) || chans.all fun ch => !b.served.contains ch || b.branchOk o ch) &&
    (if b.mode = 0 then o != 0x81 else o != 11)

/-- A valid image for the configuration (R218, R219). A GrantList branch need be enabled on one served channel only. (log 50) -/
def CarBus.imageOk (b : CarBus) (img : Bytes) : Bool :=
  let n := cbSlots img
  let grants := (List.range 12).map fun i => u8 img (0x24 + i)
  let used := grants.take (u8 img 0x20)
  let window := b.cycleNs - 5000 - eventStartNs img
  u32 img 0 == 0x5A4B4342 && u16 img 4 == 1 && u16 img 6 == 64 && u32 img 8 != 0 && u8 img 12 == u8 b.config 1 && decide (n ≤ 96) &&
    decide (12 ≤ u16 img 14 ∧ u16 img 14 ≤ 2000) && u32 img 16 == 64 + 8 * n && imageCrc 0x14 (img.take (64 + 8 * n)) == u32 img 0x14 &&
    decide (u8 img 0x20 ≤ 12) && decide (u8 img 0x21 ≤ 8) && isZero (slice img 0x22 2) && isZero (slice img 0x30 16) &&
    used.all (fun g => decide (g < 12) && b.served.any fun ch => b.branchOk g ch) && !hasRepeat used && (grants.drop (u8 img 0x20)).all (· == 0xFF) &&
    (b.mode == 0 || !used.contains 11) && ((List.range n).all fun i => b.slotOk (u16 img 14) (cbSlot img (i + 1))) &&
    decide (eventStartNs img ≤ b.cycleNs - 5000) && (u8 img 0x20 == 0 || decide (b.exchangeMax ≤ window)) && (u8 img 0x21 == 0 || decide (frameNs 64 + 1000 ≤ window))

/-- BranchMute as it stood at a local instant (R20): a frame under way at a change ends under the old mask. -/
def CarBus.muteAt (b : CarBus) (t : Nat) : Nat :=
  match (b.mutes.filter fun x => decide (t < x.1)).getLast? with | some x => x.2 | none => u32 b.config 8

/-- The slot's sending branch on a channel (R193, R202): none for this star's own slots. -/
def CarBus.sender (b : CarBus) (s : Bytes) : Option Nat :=
  let o := slotOwner s
  if o < 12 then some o else if o = b.self then none else some 11

/-- Slot `s` is due in cycle `count` (R190). -/
def slotDueIn (s : Bytes) (count : Nat) : Bool := count % 2 ^ u8 s 4 == u8 s 5
def CarBus.dueSlot (b : CarBus) (s : Bytes) : Bool := slotDueIn s b.cycleCount

/-- The branch-channel, as a port, that a slot's owner sends on, also where its frames reach this star through the cross port (R179, R200): a star is
branch 11 of the other. (log 49) -/
def cbOwnerPort (s : Bytes) (ch : Nat) : Nat := cbPort (min 11 (slotOwner s)) ch

/-- The slot entries of the image in force. -/
def CarBus.slot (b : CarBus) (k : Nat) : Option Bytes :=
  b.image.cur.bind fun img => if 1 ≤ k ∧ k ≤ cbSlots img then some (cbSlot img k) else none

def CbSt.code : CbSt → Nat
  | .stopped => 0 | .listen => 1 | .free => 2 | .follow => 3 | .aligned => 4 | .conflict => 5

/-- The star sends beacons. -/
def CarBus.beating (b : CarBus) : Bool :=
  match b.state with
  | .free | .follow | .aligned => true
  | .stopped | .listen | .conflict => false

/-- EV048 at each change of state (R207). -/
def Chip.setCb (c : Chip) (s : CbSt) : Chip := if c.cb.state = s then c else (c.onCb fun b => { b with state := s }).raise 48

def Chip.cbCountBy (c : Chip) (p i n : Nat) : Chip :=
  c.onCb fun b => { b with ports := updAt b.ports (p - 12) fun q => { q with counters := bumpBy q.counters i n } }
def Chip.cbCount (c : Chip) (p i : Nat) : Chip := c.cbCountBy p i 1
def Chip.starCount (c : Chip) (i : Nat) : Chip := c.onCb fun b => { b with counters := bump b.counters i }
def CarBus.port (b : CarBus) (p : Nat) : CbPort := b.ports.getD (p - 12) {}
def Chip.onCbPort (c : Chip) (p : Nat) (f : CbPort → CbPort) : Chip := c.onCb fun b => { b with ports := updAt b.ports (p - 12) f }

def CarBus.cell (b : CarBus) (k ch : Nat) : CbCell := (b.cells.lookup (k, ch)).getD {}
def Chip.onCell (c : Chip) (k ch : Nat) (f : CbCell → CbCell) : Chip :=
  c.onCb fun b => { b with cells := ((k, ch), f (b.cell k ch)) :: b.cells.filter fun x => x.1 != (k, ch) }

/-- A branch-channel the star drives, as BranchMute stood at `t`: enabled, unmuted, its tile sound (R20, R192, R197). -/
def Chip.cbLive (c : Chip) (branch ch t : Nat) : Bool :=
  branchBit (u32 c.cb.config 4) branch ch && !branchBit (c.cb.muteAt t) branch ch && !c.tiles.carBus.getLsbD (2 * branch + ch)

/-- The star drives a port over a span of local time (R180). -/
def Chip.cbDrive (c : Chip) (p since until_ : Nat) : Chip := c.onCbPort p fun q => { q with drivenFrom := since, drivenTo := until_ }

/-! Frames (R185–R188). -/

/-- Header, payload and CRC of a frame; preamble, delimiter and end bit belong to the line. -/
def cbFrame (type ch slot source dest seq cycle : Nat) (payload : Bytes) : Bytes :=
  let b := be 1 (type * 16 + ch) ++ be 1 slot ++ be 1 source ++ be 1 dest ++ be 1 payload.length ++ be 1 seq ++ be 2 cycle ++ payload
  b ++ be 4 (crc32c b)

/-- A frame on the line: preamble, start delimiter, then header, payload and CRC, or what a cut left of them (R185). (log 50) -/
def cbLine (f : Bytes) : Bytes := be 2 0x5555 ++ be 1 0x5D ++ f

/-- Send a frame of this star on one port now (R185, R192). -/
def Chip.cbSendOn (c : Chip) (p : Nat) (f : Bytes) : Chip :=
  (c.emit (.frame p (cbLine f))).cbDrive p c.clk.now (c.clk.now + frameNs (u8 f 4))

/-- Send a frame on every live branch of a channel. -/
def Chip.cbSendAll (c : Chip) (ch : Nat) (f : Bytes) : Chip :=
  (List.range 12).foldl (fun c b => if c.cbLive b ch c.clk.now then c.cbSendOn (cbPort b ch) f else c) c

/-- The frame check of R187 and the length. -/
def cbCrcOk (f : Bytes) : Bool := decide (12 ≤ f.length) && f.length == 12 + u8 f 4 && crc32c (f.take (f.length - 4)) == bAt f (f.length - 4) 4

/-! References and cycle starts (R189, R208–R212). -/

/-- The reference R209 gives now. -/
def Chip.cbReference (c : Chip) : CbSt :=
  let o := c.cb.other
  let heard := o.heard && decide (o.missed < 3)
  if c.timeValid then .aligned
  else if c.cb.mode ≠ 0 ∧ heard ∧ o.aligned ∧ o.alignedAge < 3 then .follow
  else if c.cb.mode = 2 ∧ heard then .follow
  else .free

/-- The reference's clock at local instant `t`, as ns since the reference's cycle 0 (R189, R208): train time in ALIGNED, and in FOLLOW the followed
star's cycle starts extended over its CycleCount. -/
def Chip.cbRefClock (c : Chip) (s : CbSt) (t : Nat) : Int :=
  if s = .aligned then (((c.time.captured t).1 / 4294967296 : Nat) : Int)
  else (c.cb.other.cycle : Int) * c.cb.cycleNs + ((t : Int) - ((c.cb.other.frameStart : Int) - c.cb.crossDelay))

/-- The reference's nearest cycle start at local instant `t`: its CycleCount and how far `t` lies behind it, in ns (R210). -/
def Chip.cbRefAt (c : Chip) (s : CbSt) (t : Nat) : Nat × Int :=
  let L : Int := c.cb.cycleNs
  if s = .free then ((c.cb.cycleCount + 1) % 4294967296, 0)
  else
    let r := c.cbRefClock s t
    let k := (r + L / 2) / L
    (k.toNat % 4294967296, r - k * L)

def Chip.cbRefNow (c : Chip) (s : CbSt) : Nat × Int := c.cbRefAt s c.clk.now

/-- The reference's first cycle start at or after local instant `t`: that instant, and its CycleCount. -/
def Chip.cbRefFrom (c : Chip) (s : CbSt) (t : Nat) : Nat × Nat :=
  let L : Int := c.cb.cycleNs
  let r := c.cbRefClock s t
  let k := (r + L - 1) / L
  (((t : Int) + (k * L - r)).toNat, k.toNat % 4294967296)

/-- How far a cycle start now moves from L after the last one, ns, by the clock of reference `s` (R210). -/
def Chip.cbMove (c : Chip) (s : CbSt) : Nat :=
  ((if s = .aligned then ((c.time.elapsed c.cb.cycleStart c.clk.now / 4294967296 : Nat) : Int) else (c.clk.now : Int) - c.cb.cycleStart) - c.cb.cycleNs).natAbs

/-- The star's next cycle start has the reference's CycleCount and lies within 2 µs of its (R210). -/
def Chip.cbInStep (c : Chip) (s : CbSt) (t : Nat) : Bool :=
  let (k, d) := c.cbRefAt s t
  k == (c.cb.cycleCount + 1) % 4294967296 && decide (d.natAbs ≤ 2000)

/-- The star's own next cycle start is in step with reference `s`, and has not been let pass (R210). -/
def Chip.cbKeepsStep (c : Chip) (s : CbSt) : Bool :=
  let due := c.cb.cycleStart + c.cb.cycleNs
  c.cbInStep s due && decide (c.clk.now ≤ due + 2000)

/-- The state of the first beacon (R208): the one that CB_START, LISTEN or the other star's beacon set, but for ALIGNED whose train time is lost before it. -/
def Chip.cbFirstState (c : Chip) : CbSt := if c.cb.state = .aligned ∧ !c.timeValid then c.cbReference else c.cb.state

/-- The star's next beacon: its local instant and its CycleCount (R189, R208, R210). -/
def Chip.cbNext (c : Chip) : Nat × Nat :=
  let b := c.cb
  let due := b.cycleStart + b.cycleNs
  let want := c.cbReference
  if !b.begun then
    if b.state = .aligned then (c.clk.now + (b.first - c.trainTime), if c.timeValid then b.first / b.cycleNs % 4294967296 else b.cycleCount) else (b.first, b.cycleCount)
  else if want = .free ∨ (b.state = .aligned ∧ want ≠ .aligned) ∨ (b.coasting ∧ want = b.state) ∨ c.cbKeepsStep want then (due, (b.cycleCount + 1) % 4294967296)
  else c.cbRefFrom want (max c.clk.now due)

/-- The chip at the star's next cycle start, as the cycle after it is judged (R210, R211). -/
def Chip.cbThen (c : Chip) : Chip :=
  let n := c.cbNext
  let first := !c.cb.begun
  let want := c.cbReference
  { c with
    clk := { c.clk with now := n.1 }
    cb := { c.cb with begun := true, cycleStart := n.1, cycleCount := n.2
                      state := if first then c.cbFirstState else if want = .free ∨ !c.cbKeepsStep want ∨ c.cb.state = .aligned then want else c.cb.state } }

/-- The beacon of the cycle (R188). (log 50) -/
def Chip.sendBeacon (c : Chip) (realigned : Bool) : Chip :=
  match c.cb.image.cur with
  | none => c
  | some img =>
    let b := c.cb
    let al := b.state == .aligned
    let flags := b2n al + b2n realigned * 2 + b2n (b.mode == 2) * 4 + b2n (b.mode != 0) * 8 + b2n (b.state == .follow) * 16
    let pay := be 4 b.cycleCount ++ be 4 (u32 img 8) ++ be 8 (if al then (c.trainTime + b.cycleNs / 2) / b.cycleNs * b.cycleNs else 0) ++ be 1 (u8 img 12) ++
      be 1 (cbSlots img) ++ be 1 flags ++ zeros 1 ++ be 2 (u16 img 14) ++ be 2 (eventStartNs img / 1000)
    b.served.foldl (fun c ch => (c.cbSendAll ch (cbFrame 1 ch 0 b.self 0xFF 0 (b.cycleCount % 65536) pay)).starCount starBeacons) c

/-- `d` cut to `n` bytes, or followed by zeros up to them. -/
def fitTo (n : Nat) (d : Bytes) : Bytes := (d ++ zeros n).take n

/-- A new image in force (R198, R203, R213, R214): what its slots no longer share is cleared, EV057. A buffer
that a slot keeps has the slot's new MaxLength (log 49). -/
def Chip.cbNewImage (c : Chip) (old new : Option Bytes) : Chip :=
  let at_ := fun (img : Option Bytes) (k : Nat) => img.bind fun i => if 1 ≤ k ∧ k ≤ cbSlots i then some (cbSlot i k) else none
  let owner := fun img k => (at_ img k).map slotOwner
  let chans := fun img k => (at_ img k).map fun s => u8 s 1
  (c.onCb fun b => { b with
    cells := b.cells.filter fun x => owner old x.1.1 == owner new x.1.1 && chans old x.1.1 == chans new x.1.1
    rx := b.rx.filter fun x => owner old x.slot == owner new x.slot
    tx := (b.tx.filter fun x => owner new x.slot == some b.self && owner old x.slot == some b.self).map fun x =>
      let n := ((at_ new x.slot).map slotMax).getD 0
      { x with staging := fitTo n x.staging, pubs := x.pubs.map fun q => (q.1, fitTo n q.2) }
    grantPos := 0, grant := none, unanswered := [] }).raise 57

/-- A cycle boundary for the Shadowed (cycle) values (R15, R215). -/
def Chip.cbBoundary (c : Chip) : Chip :=
  let old := c.cb.image.cur
  let waited := c.cb.image.due c.cb.cycleIndex
  let c := c.onCb fun b => { b with image := b.image.tick b.cycleIndex, points := b.points.map fun p => p.tick b.cycleIndex }
  if waited then c.cbNewImage old c.cb.image.cur else c

/-- The end of a cycle on every branch-channel (R195): a clean cycle ends a run of disturbed ones. -/
def Chip.cbEndCycle (c : Chip) : Chip :=
  (List.range 24).foldl (fun c i =>
    let q := c.cb.port (12 + i)
    if q.disturbed then c.onCbPort (12 + i) fun q => { q with disturbed := false, cleanRun := 0 }
    else
      let clean := q.cleanRun + 1
      let ends := q.babbling && decide (16 ≤ clean)
      let c := c.onCbPort (12 + i) fun q => { q with disturbedRun := 0, cleanRun := clean, babbling := q.babbling && !ends }
      if ends then c.raisePort 54 (12 + i) else c) c

/-- The cycle begins: counts, boundaries, slot results, beacon. -/
def Chip.cbBegin (c : Chip) (count : Nat) (s : CbSt) (realigned : Bool) : Chip :=
  let c := (if c.cb.begun then c.cbEndCycle else c).onCb fun b =>
    { b with cycleCount := count, cycleIndex := b.cycleIndex + 1, cycleStart := c.clk.now, begun := true, grant := none, unanswered := []
             eventsSent := 0, other := { b.other with missed := b.other.missed + b2n b.other.heard, alignedAge := b.other.alignedAge + b2n b.other.heard } }
  let c := (c.setCb s).cbBoundary
  let c := match c.cb.image.cur with
    | some img => (List.range (cbSlots img)).foldl (fun (c : Chip) i =>
        let s := cbSlot img (i + 1)
        let due := c.cb.dueSlot s
        ([0, 1].filter fun ch => (u8 s 1).testBit ch).foldl (fun (c : Chip) ch => c.onCell (i + 1) ch fun x => { x with settled := !due, result := if due then x.result else 9 }) c) c
    | none => c
  let c := if realigned then (c.starCount starRealigns).raise 49 else c
  c.sendBeacon realigned

/-- CB_STOP takes effect (R18, R207). -/
def Chip.cbStopped (c : Chip) : Chip :=
  let old := c.cb.image.cur
  let had := !c.cb.image.pending.isEmpty
  let c := c.setCb .stopped
  let c := c.onCb fun b => { b with image := b.image.settle, points := b.points.map CycleShadow.settle, stopping := false, begun := false, pulling := false, coasting := false, grant := none, unanswered := [], other := {} }
  if had then c.cbNewImage old c.cb.image.cur else c

/-- CB_CYCLE_START (R190, R208–R211): the star's next cycle start. A pull moves it by at most 20 ns; a realign beacon is sent at a cycle start of the
reference at least L after the last beacon; the loss of train time calls for none. (log 50) -/
def cbCycleStart (c : Chip) : Chip :=
  if c.cb.stopping then (c.cbStopped).completeWaiting 0x0404 0
  else if !c.cb.beating then c
  else
    let b := c.cb
    let want := c.cbReference
    let (count, d) := c.cbRefNow want
    let next := (b.cycleCount + 1) % 4294967296
    let near := decide (d.natAbs ≤ 5)
    let steer := fun (p k : Bool) (c : Chip) => c.onCb fun b => { b with pulling := p, coasting := k }
    let inStep := c.cbKeepsStep want
    if !b.begun then c.cbBegin (if b.state = .aligned ∧ want = .aligned then count else b.cycleCount) c.cbFirstState false
    else if want = .free then (steer false false c).cbBegin next .free false
    else if b.state = .aligned ∧ want ≠ .aligned then
      if inStep then (steer (!near) false c).cbBegin next want false else (steer false true c).cbBegin next want false
    else if inStep ∧ (c.cbMove want ≤ 20 ∨ (want = b.state ∧ near)) then
      (steer (!near && (b.pulling || want != b.state)) false c).cbBegin next (if near then want else b.state) false
    else if b.coasting ∧ want = b.state then c.cbBegin next want false
    else if near ∧ b.cycleStart + b.cycleNs ≤ c.clk.now ∧ !inStep then (steer false false c).cbBegin count want true
    else c

/-- CONFLICT (R212). (log 50) -/
def Chip.cbConflict (c : Chip) : Chip := (c.setCb .conflict).onCb fun b => { b with begun := false, grant := none }

def cbIdOf (i : Option Bytes) : Nat := match i with | some b => u32 b 8 | none => 0

/-- Whether this star is integrated as an end node after a beacon of the other star (R202, R216): with its own ScheduleId and without Realign, after the
beacon of the cycle before at a spacing of L ± 2 µs, or, once integrated, after one missing beacon. -/
def OtherStar.integrates (o : OtherStar) (start count L own : Nat) (realign : Bool) (sid : Nat) : Bool :=
  o.heard && sid == own && o.scheduleId == own && !realign &&
    ((count == (o.cycle + 1) % 4294967296 && (o.integrated || decide (start ≤ o.frameStart + L + 2000 ∧ o.frameStart + L ≤ start + 2000))) ||
      (o.integrated && count == (o.cycle + 2) % 4294967296))

/-- The due slot, its outcome still open, into whose window at this branch-channel an activity from `start` to `stop` falls: its number and entry.
`any` leaves the branch out of account (cross port). A further activity in the window of a slot whose outcome is settled finds none, and is foreign. (log 50) -/
def Chip.cbSlotAt (c : Chip) (branch ch start stop : Nat) (any : Bool) : Option (Nat × Bytes) :=
  match c.cb.image.cur with
  | none => none
  | some img =>
    let b := c.cb
    ((List.range (cbSlots img)).map fun i => (i + 1, cbSlot img (i + 1))).find? fun (k, s) =>
      let s0 := b.cycleStart + slotStart img k
      b.dueSlot s && (u8 s 1).testBit ch && !(b.cell k ch).settled && (if any then true else b.sender s == some branch) &&
        decide (s0 ≤ stop + b.margin ∧ start ≤ s0 + 2 * b.delayMax + b.margin + frameNs (slotMax s))

/-- The grant still open for a branch-channel. (log 49) -/
def CarBus.openGrant (b : CarBus) (branch ch : Nat) : Option CbGrant :=
  match b.grant with
  | some g => if g.branch = branch ∧ g.channels.contains ch then some g else none
  | none => none

/-- The frame start of the grant that a port answers (R204): its response interval is open, or has ended unanswered and the port is still watched. -/
def CarBus.answers (b : CarBus) (p : Nat) : Option Nat :=
  match b.openGrant ((p - 12) / 2) ((p - 12) % 2) with
  | some g => if g.early.contains ((p - 12) % 2) then none else some g.start
  | none => b.unanswered.lookup p

/-- The instant up to which the guardian of port `p` relays an activity that began at `start` and that it accepted (R192–R194, R204); none when it did not. -/
def Chip.cbAccepted (c : Chip) (p start : Nat) (idle : Bool) : Option Nat :=
  let b := c.cb
  let ch := (p - 12) % 2
  if p < 12 ∨ 35 < p ∨ !b.beating ∨ !b.begun ∨ b.cross = some p ∨ !b.served.contains ch ∨ !c.cbLive ((p - 12) / 2) ch start then none
  else match (b.port p).judged.lookup start, c.cbSlotAt ((p - 12) / 2) ch start start false, b.answers p, b.image.cur with
    | some cut, _, _, _ => cut
    | none, some (k, s), _, some img =>
      let s0 := b.cycleStart + slotStart img k
      let closes := s0 + 2 * b.delayMax + b.margin
      if s0 ≤ start + b.margin ∧ idle ∧ start ≤ closes then some (closes + frameNs (slotMax s)) else none
    | none, none, some g0, _ =>
      let opens := g0 + frameNs 0 + 1000
      let closes := opens + 2 * b.delayMax + b.margin
      if opens ≤ start + b.margin ∧ idle ∧ start ≤ closes then some (closes + frameNs 64) else none
    | none, _, _, _ => none

/-- The spans of local time in which the star drives a port, as far as they bear on what RXD shows now (R180): the last one, and the relay that drives it at
this instant. -/
def Chip.cbSpans (c : Chip) (p : Nat) (x : CbSeen) : List (Nat × Nat) :=
  let q := c.cb.port p
  let relay := x.other.bind fun (p2, start, idle) =>
    if p2 % 2 = p % 2 ∧ p2 ≠ p ∧ c.cbLive ((p - 12) / 2) ((p - 12) % 2) start then
      (c.cbAccepted p2 start idle).map fun close => (start + 400, if c.clk.now ≤ close then c.clk.now + 400 else close + 160)
    else none
  (q.drivenFrom, q.drivenTo) :: relay.toList

/-- The instant from which the star sees an activity at a port, whose RXD it ignores while it drives the port (R180): none when it sees nothing of it. (log 50) -/
def Chip.cbShown (c : Chip) (p : Nat) (x : CbSeen) : Option Nat :=
  let t := (c.cbSpans p x).foldl (fun t s => if s.1 ≤ t ∧ t < s.2 then s.2 else t) x.start
  if t = x.start ∨ t < c.clk.now then some t else none

/-- CB_BEACON_RX (R180, R208, R209, R212, R221): a beacon heard on a port, its frame start in local ns. (log 50) -/
def cbBeaconRx (p : Nat) (x : CbSeen) (f : Bytes) (c : Chip) : Chip :=
  let b := c.cb
  let start := x.start
  let flags := u8 f 0x1A
  let index := bits flags 2 2
  let valid := cbCrcOk f && u8 f 0 / 16 == 1 && u8 f 0 % 2 == (p - 12) % 2 && u8 f 1 == 0 && (u8 f 2 == 0x80 || u8 f 2 == 0x81) && u8 f 3 == 0xFF &&
    u8 f 4 == 24 && u8 f 5 == 0
  if b.state = .stopped ∨ b.state = .conflict ∨ !valid ∨ c.tiles.carBus.getLsbD (p - 12) ∨ c.cbShown p x ≠ some start then c
  else if b.mode = 0 ∨ b.cross ≠ some p ∨ index + 1 = b.mode then c.cbConflict
  else
    let count := bAt f 8 4
    let sid := bAt f 12 4
    let was := b.other
    let own := cbIdOf b.image.cur
    let o : OtherStar :=
      { heard := true, missed := 0, frameStart := start, cycle := count, scheduleId := sid, aligned := flags.testBit 0 || (was.heard && was.aligned)
        alignedAge := if flags.testBit 0 then 0 else was.alignedAge, integrated := was.integrates start count b.cycleNs own (flags.testBit 1) sid
        sent := [], phase := some ((start : Int) - b.cycleStart - b.crossDelay), differs := sid != own || (b.begun && count != b.cycleCount) }
    let c := c.onCb fun b => { b with other := o }
    let c := if was.heard then c else c.raise 58
    let c := if o.differs && !was.differs then c.raise 57 else c
    if b.state = .listen then
      (c.onCb fun b => { b with cycleStart := start - b.crossDelay, cycleCount := (count + 1) % 4294967296
                                first := if c.timeValid then roundUp c.trainTime b.cycleNs else start - b.crossDelay + b.cycleNs }).setCb c.cbReference
    else c

/-- CB_LISTEN_TIMEOUT (R208). -/
def cbListenTimeout (c : Chip) : Chip := if c.cb.state = .listen then (c.onCb fun b => { b with cycleCount := 0, begun := false, first := c.clk.now }).setCb .free else c

/-- CB_OTHER_STAR_LOST (R209). -/
def cbOtherStarLost (c : Chip) : Chip :=
  if c.cb.other.heard then (c.onCb fun b => { b with other := { b.other with heard := false, phase := none, aligned := false, integrated := false } }).raise 58 else c

/-! The guardian (R193–R201). -/

/-- A disturbed cycle of a port (R195): EV054 when BabbleLimit consecutive cycles have been disturbed. -/
def Chip.cbDisturb (c : Chip) (p : Nat) : Chip :=
  let q := c.cb.port p
  if q.disturbed then c
  else
    let run := q.disturbedRun + 1
    let starts := !q.babbling && decide (u8 c.cb.config 20 ≤ run)
    let c := c.onCbPort p fun q => { q with disturbed := true, disturbedRun := run, babbling := q.babbling || starts }
    if starts then c.raisePort 54 p else c

/-- A due own slot without a valid frame on a branch-channel (R200). -/
def Chip.cbEmpty (c : Chip) (p : Nat) : Chip :=
  let q := c.cb.port p
  let n := q.empties + 1
  let gone := q.present && decide (16 ≤ n)
  let c := c.onCbPort p fun q => { q with empties := n, present := q.present && !gone }
  if gone then c.raisePort 50 p else c

/-- The owner on branch-channel `p` of channel `ch` is present; when it becomes so its references start afresh (R198, R200). (log 49) -/
def Chip.cbPresent (c : Chip) (p ch : Nat) : Chip :=
  let q := c.cb.port p
  let c := c.onCbPort p fun q => { q with present := true, empties := 0 }
  if q.present then c
  else
    let mine := fun (k : Nat) => match c.cb.slot k with | some s => cbOwnerPort s ch == p | none => false
    (c.onCb fun b => { b with cells := b.cells.map fun x => if x.1.2 = ch && mine x.1.1 then (x.1, { x.2 with refSum := 0, refCount := 0, beyond := 0, within := 0 }) else x }).raisePort 50 p

/-- The arrival offset of a valid frame and the creep warning (R198). -/
def Chip.cbOffset (c : Chip) (p k ch : Nat) (a : Int) : Chip :=
  let x := c.cb.cell k ch
  if x.refCount < 16 then c.onCell k ch fun x => { x with offset := a, refSum := x.refSum + a, refCount := x.refCount + 1 }
  else
    let d := (a - x.refSum / 16).natAbs
    let lim := u16 c.cb.config 18
    let beyond := if lim < d then x.beyond + 1 else 0
    let within := if d ≤ lim / 2 then x.within + 1 else 0
    let sets := !x.creeping && decide (4 ≤ beyond)
    let clears := x.creeping && decide (16 ≤ within)
    let c := c.onCell k ch fun x => { x with offset := a, beyond := beyond, within := within, creeping := (x.creeping || sets) && !clears }
    let c := if sets then c.cbCount p cbCreep else c
    if sets || clears then c.raisePort 51 p else c

/-- A slot's outcome at a port (R194, R196): the result code, its counter, and the owner's empty slot. (log 49) -/
def Chip.cbSettle (c : Chip) (p k ch result : Nat) : Chip :=
  let c := (c.onCell k ch fun x => { x with result := result, settled := true }).cbCount p result
  if result = 0 then (if (c.cb.slot k).any fun s => decide (slotOwner s < 12) then c.onCb fun b => { b with nodeFrames := b.nodeFrames + 1 } else c)
  else match c.cb.slot k with
    | some s => c.cbEmpty (cbOwnerPort s ch)
    | none => c

/-- The events of a blocked or truncated frame, at most one per port per 100 ms (R222). -/
def Chip.cbBlocked (c : Chip) (p e : Nat) : Chip := c.raiseKeyed e p 1 p 0 100000000

/-- A valid frame of a slot (R201, R213): the receive buffer, the second copy, and the router. (log 49) -/
def Chip.cbTakeSlot (c : Chip) (p k ch start : Nat) (s payload : Bytes) : Chip :=
  if slotOwner s = c.cb.self then c
  else
    let old := c.cb.rx.find? fun x => x.slot == k
    let second := match old with | some x => x.cycle == c.cb.cycleCount && x.channel != ch | none => false
    if second then
      match old with
      | some x =>
        if x.payload = payload then c
        else ((c.onCb fun b => { b with rx := b.rx.map fun x => if x.slot = k then { x with differed := true } else x }).starCount starMismatches).raise 56
      | none => c
    else
      let new : CbRx := { slot := k, payload := payload, cycle := c.cb.cycleCount, frameStart := (c.captureAt start).1, inTrain := (c.captureAt start).2, channel := ch }
      let c := c.onCb fun b => { b with rx := new :: b.rx.filter fun x => x.slot != k }
      if (u8 s 3).testBit 1 then
        (c.fieldTake { kind := 2, port := p, key := k, payload := payload, trainTime := (c.captureAt start).1, timeValid := (c.captureAt start).2 }).2
      else c

/-- The result of R196 for a frame of slot k. -/
def CarBus.checkSlot (b : CarBus) (k ch : Nat) (s f : Bytes) (decodes : Bool) : Nat :=
  if !decodes then 5
  else if !cbCrcOk f then 6
  else if u8 f 0 / 16 = 2 ∧ u8 f 0 % 2 = ch ∧ u8 f 1 = k ∧ u8 f 2 = slotOwner s ∧ bAt f 6 2 = b.cycleCount % 65536 ∧ u8 f 4 ≤ slotMax s then 0
  else 7

/-- What a frame relayed from its start + 400 ns carries when it is cut at `close` (R192, R194): its whole bytes sent by then, preamble and delimiter
apart. (log 50) -/
def cbCut (f : Bytes) (start close : Nat) : Bytes := f.take ((close - (start + 400 + 24 * 80)) / 640)

/-! Event frames (R203–R206). -/

/-- What goes with an event frame held in Q46 or Q47: channel, cycle, frame start, port. -/
def eventInfo (ch cycle start p : Nat) : Bytes := le 1 ch ++ le 4 cycle ++ le 8 start ++ le 1 p

/-- An event frame for CB_EVENT_READ (R205): EV059 when Q47 was empty, or full. -/
def Chip.toQ47 (c : Chip) (data info : Bytes) : Chip :=
  let empty := (c.qm.queue 47).entries.isEmpty
  let (ok, c) := c.enqueue 47 data info
  if !ok then (c.starCount starDropped).raise 59 else if empty then c.raise 59 else c

/-- A received event frame for this star (R205, R206). `data` is header and payload. (log 49) -/
def Chip.cbTakeEvent (c : Chip) (p ch start : Nat) (data : Bytes) : Chip :=
  let src := u8 data 2
  let seq := u8 data 5
  let pay := data.drop 8
  let idx := c.cb.cycleIndex
  let c := if src < 12 then c.onCb fun b => { b with nodeFrames := b.nodeFrames + 1 } else c
  let taken := c.cb.taken.filter fun x => decide (idx < x.2.2.1 + 64)
  match taken.find? fun x => x.1 == src && x.2.1 == seq with
  | some x =>
    if x.2.2.2 ≠ pay then (c.starCount starMismatches).raise 56 else c
  | none =>
    let c := c.onCb fun b => { b with taken := (src, seq, idx, pay) :: taken }
    if u8 data 3 ≠ 0xFF ∧ u8 data 3 ≠ c.cb.self then c
    else
      let info := eventInfo ch c.cb.cycleCount (c.captureAt start).1 p
      let f : FieldFrame := { kind := 3, port := p, key := src + (if pay = [] then 0 else u8 pay 0) * 256, payload := pay, trainTime := (c.captureAt start).1, timeValid := (c.captureAt start).2 }
      if !c.rt.running then (c.fieldTake f).2.toQ47 data info
      else if 256 ≤ c.rt.waiting.length then (c.fieldTake f).2.toQ47 data info
      else match c.enqueue 46 data info with
        | (true, c) => (c.fieldTake f).2
        | (false, c) => c

/-- A valid event frame on a channel: its header, apart from the CRC. -/
def CarBus.eventOk (b : CarBus) (ch : Nat) (f : Bytes) : Bool :=
  cbCrcOk f && u8 f 0 / 16 == 4 && u8 f 0 % 2 == ch && u8 f 1 == 0xFF && decide (u8 f 4 ≤ 64) && bAt f 6 2 == b.cycleCount % 65536 &&
    (decide (u8 f 3 < 12) || u8 f 3 == 0x80 || u8 f 3 == 0x81 || u8 f 3 == 0xFF)

/-- The exchange at a port has its outcome. -/
def Chip.cbCloseGrant (c : Chip) (p : Nat) : Chip :=
  c.onCb fun b => { b with grant := b.grant.map fun g => { g with channels := g.channels.filter (· != (p - 12) % 2) }, unanswered := b.unanswered.filter (·.1 != p) }

/-- An early activity is blocked: a response interval still open goes on unanswered. -/
def Chip.cbEarlyGrant (c : Chip) (p : Nat) : Chip :=
  c.onCb fun b => { b with grant := b.grant.map fun g => { g with early := (p - 12) % 2 :: g.early }, unanswered := b.unanswered.filter (·.1 != p) }

/-- Activity outside every open interval of a port (R195), from `start`: counted once, and it disturbs each cycle in which it is seen. Between CB_STOP and the
first cycle there is no cycle that it could disturb. (log 50) -/
def Chip.cbForeignAt (c : Chip) (p start : Nat) : Chip :=
  let c := if (c.cb.port p).stray = some start then c else (c.cbCount p Machine.cbForeign).onCbPort p fun q => { q with stray := some start }
  if c.cb.begun then c.cbDisturb p else c

/-- An accepted frame is relayed to the other branches of its channel, from its start + 400 ns to its end + 400 ns (R192). -/
def Chip.cbRelay (c : Chip) (branch ch start : Nat) (f : Bytes) : Chip :=
  (List.range 12).foldl (fun c b =>
    if c.cbLive b ch start && b != branch then (c.emit (.frame (cbPort b ch) (cbLine f))).cbDrive (cbPort b ch) (start + 400) (c.clk.now + 400) else c) c

/-- A relay cut at `close` (R194): the frame up to there, then the line low for 160 ns. (log 50) -/
def Chip.cbRelayCut (c : Chip) (branch ch start close : Nat) (f : Bytes) : Chip :=
  (List.range 12).foldl (fun c b =>
    if c.cbLive b ch start && b != branch then
      ((c.emit (.frame (cbPort b ch) (cbLine (cbCut f start close)))).emit (.low (cbPort b ch) 160)).cbDrive (cbPort b ch) (start + 400) (close + 160)
    else c) c

/-- A frame of a slot judged under R196 (R194, R198, R200, R201). -/
def Chip.cbJudge (c : Chip) (p k start : Nat) (s0 : Nat) (s f : Bytes) (decodes : Bool) : Chip :=
  let ch := (p - 12) % 2
  let r := c.cb.checkSlot k ch s f decodes
  let c := c.cbSettle p k ch r
  if r ≠ 0 then c
  else (((c.cbPresent (cbOwnerPort s ch) ch).cbOffset p k ch ((start : Int) - s0)).cbTakeSlot p k ch start s (slice f 8 (u8 f 4)))

/-- A frame at the cross port, where the star is an end node of the other (R179): every frame of the other channel arrives there. -/
def Chip.cbCrossRx (c : Chip) (p start : Nat) (decodes : Bool) (f : Bytes) : Chip :=
  let ch := (p - 12) % 2
  let c := if decodes ∧ c.cb.eventOk ch f then (c.cbCount p cbEvents).cbTakeEvent p ch start (f.take (f.length - 4)) else c
  match c.cbSlotAt 0 ch start start true with
  | none => c
  | some (k, s) =>
    if slotOwner s = c.cb.self then c
    else c.cbJudge p k start (c.cb.cycleStart + (match c.cb.image.cur with | some img => slotStart img k | none => 0)) s f decodes

/-- The answer to a grant, or another activity, at the granted port (R204); a valid answer counts EventFrames only. (log 49) -/
def Chip.cbAnswerRx (c : Chip) (p start g0 : Nat) (idle decodes : Bool) (f : Bytes) : Chip :=
  let b := c.cb
  let branch := (p - 12) / 2
  let ch := (p - 12) % 2
  let opens := g0 + frameNs 0 + 1000
  let closes := opens + 2 * b.delayMax + b.margin
  if c.clk.now + b.margin < opens ∨ closes + frameNs 64 < start then c.cbForeignAt p start
  else if start + b.margin < opens ∨ !idle then (((c.cbCount p cbEarly).cbBlocked p 52).cbDisturb p).cbEarlyGrant p
  else if closes < start then ((c.cbCount p cbLateBlocked).cbBlocked p 52).cbCloseGrant p
  else if closes + frameNs 64 < c.clk.now then ((((c.cbCount p cbTruncated).cbBlocked p 53).cbRelayCut branch ch start (closes + frameNs 64) f)).cbCloseGrant p
  else
    let c := (c.cbRelay branch ch start f).cbCloseGrant p
    if !decodes then c.cbCount p cbDecode
    else if !cbCrcOk f then c.cbCount p cbCrc
    else if b.eventOk ch f && u8 f 2 == branch then (c.cbCount p cbEvents).cbTakeEvent p ch start (f.take (f.length - 4))
    else c.cbCount p cbMismatch

/-- An activity judged at one window's close that has run on into the next interval of its port finds it not idle (R194, R204): early blocked. -/
def Chip.cbRunsOn (c : Chip) (p start : Nat) : Chip :=
  let ch := (p - 12) % 2
  match c.cbSlotAt ((p - 12) / 2) ch start c.clk.now false, c.cb.answers p with
  | some (k, _), _ => ((c.cbSettle p k ch 2).cbBlocked p 52).cbDisturb p
  | none, some g0 => if c.clk.now + c.cb.margin < g0 + frameNs 0 + 1000 then c else (((c.cbCount p cbEarly).cbBlocked p 52).cbDisturb p).cbEarlyGrant p
  | none, none => c

/-- CB_FRAME_RX (R180, R193–R196, R204): activity with its frame start (local ns) on a port, ending at the command's instant. `idle`: RXD was idle when
the interval opened. `decodes`: delimiter found, which at least the last 8 preamble bits suffice for, no code violation, end under R184. -/
def cbFrameRx (p : Nat) (x : CbSeen) (idle decodes : Bool) (f : Bytes) (c : Chip) : Chip :=
  let b := c.cb
  let branch := (p - 12) / 2
  let ch := (p - 12) % 2
  match c.cbShown p x with
  | none => c
  | some start =>
    let decodes := decodes && start == x.start
    if p < 12 ∨ 35 < p ∨ c.tiles.carBus.getLsbD (p - 12) then c
    else if !b.beating ∨ !b.begun then if b.cross = some p then c else c.cbForeignAt p start
    else if b.cross = some p then c.cbCrossRx p start decodes f
    else if !b.served.contains ch ∨ !branchBit (u32 b.config 4) branch ch ∨ branchBit (b.muteAt start) branch ch then c.cbForeignAt p start
    else
      match (b.port p).judged.lookup x.start with
      | some cut => ((match cut with | some close => c.cbRelayCut branch ch start close f | none => c).onCbPort p fun q =>
          { q with judged := q.judged.filter fun y => y.1 != x.start }).cbRunsOn p start
      | none =>
        match c.cbSlotAt branch ch start c.clk.now false with
        | some (k, s) =>
          let s0 := b.cycleStart + (match b.image.cur with | some img => slotStart img k | none => 0)
          let closes := s0 + 2 * b.delayMax + b.margin
          if start + b.margin < s0 ∨ !idle then ((c.cbSettle p k ch 2).cbBlocked p 52).cbDisturb p
          else if closes < start then (c.cbSettle p k ch 3).cbBlocked p 52
          else if closes + frameNs (slotMax s) < c.clk.now then ((c.cbSettle p k ch 4).cbBlocked p 53).cbRelayCut branch ch start (closes + frameNs (slotMax s)) f
          else (c.cbRelay branch ch start f).cbJudge p k start s0 s f decodes
        | none =>
          match b.answers p with
          | none => c.cbForeignAt p start
          | some g0 => c.cbAnswerRx p start g0 idle decodes f

/-- CB_WINDOW_CLOSE (R194): the outcome of slot k at a port at its window close; `running`: the frame start of the activity still running there, and
whether RXD was idle when the interval opened. (log 50) -/
def cbWindowClose (p k : Nat) (running : Option (Nat × Bool)) (c : Chip) : Chip :=
  let ch := (p - 12) % 2
  match c.cb.slot k with
  | none => c
  | some s =>
    if p < 12 ∨ 35 < p ∨ !c.cb.beating ∨ !c.cb.begun ∨ !c.cb.dueSlot s ∨ !(u8 s 1).testBit ch ∨ (c.cb.cell k ch).settled ∨ slotOwner s = c.cb.self then c
    else if c.cb.cross = some p then c.cbSettle p k ch 1
    else if c.cb.sender s ≠ some ((p - 12) / 2) then c
    else match running with
      | none => c.cbSettle p k ch 1
      | some (start, idle) =>
        let s0 := c.cb.cycleStart + (match c.cb.image.cur with | some img => slotStart img k | none => 0)
        let closes := s0 + 2 * c.cb.delayMax + c.cb.margin
        let judged := fun (cut : Option Nat) (c : Chip) => c.onCbPort p fun q =>
          { q with judged := if (q.judged.lookup start).isSome then q.judged else (start, cut) :: q.judged }
        if !c.cbLive ((p - 12) / 2) ch start then c.cbSettle p k ch 1
        else if start + c.cb.margin < s0 ∨ !idle then judged none (((c.cbSettle p k ch 2).cbBlocked p 52).cbDisturb p)
        else if closes < start then judged none ((c.cbSettle p k ch 3).cbBlocked p 52)
        else judged (some (closes + frameNs (slotMax s))) ((c.cbSettle p k ch 4).cbBlocked p 53)

/-- CB_FOREIGN_ACTIVITY (R180, R195, R197). (log 50) -/
def cbForeignActivity (x : CbStray) (c : Chip) : Chip :=
  if x.port < 12 ∨ 35 < x.port ∨ c.tiles.carBus.getLsbD (x.port - 12) then c
  else match c.cbShown x.port x.seen with | some t => c.cbForeignAt x.port t | none => c

/-- The publish that a send at `now` takes: the newest that was made at least 2 µs before (R214). -/
def CbTx.latched (x : CbTx) (now : Nat) : Option (Nat × Bytes) := x.pubs.find? fun q => decide (q.1 + 2000 ≤ now)

/-- The cross-port copy of slot `k` goes out now (R202, R216): the cross port's tile is sound, the star is integrated on the other star's bus, that bus's cycle
in progress has brought its beacon with the own ScheduleId, the slot is due in it, and this instant is within 50 ns of the slot's start after that beacon. (log 49) -/
def Chip.cbCrossReady (c : Chip) (k : Nat) (s : Bytes) (p : Nat) : Bool :=
  let o := c.cb.other
  let at_ := o.frameStart + (match c.cb.image.cur with | some img => slotStart img k | none => 0)
  !c.tiles.carBus.getLsbD (p - 12) && o.heard && o.integrated && o.scheduleId == cbIdOf c.cb.image.cur && decide (o.frameStart ≤ c.clk.now) &&
    decide (c.clk.now < o.frameStart + c.cb.cycleNs) && slotDueIn s o.cycle && !o.sent.contains k && decide (at_ ≤ c.clk.now + 50 ∧ c.clk.now ≤ at_ + 50)

/-- The payload that the copies of own slot `k` in cycle `count` carry (R199, R202, R214): what the first of them took, else the newest publish latched now,
which a Fresh slot sends once only. (log 49) -/
def Chip.cbPick (c : Chip) (k : Nat) (s : Bytes) (count : Nat) : Option Bytes × Chip :=
  let x := (c.cb.tx.find? fun x => x.slot == k).getD { slot := k, staging := zeros (slotMax s) }
  let fresh := (u8 s 3).testBit 0
  let ready := match x.latched c.clk.now with | some (at_, pay) => if fresh ∧ x.lastSent = some at_ then none else some (at_, pay) | none => none
  match x.taken.filter fun t => t.1 == count && decide (c.clk.now < t.2.1 + c.cb.cycleNs) with
  | some t => (t.2.2, c)
  | none =>
    let pay := ready.map (·.2)
    let new := { x with taken := some (count, c.clk.now, pay), lastSent := (ready.map (·.1)).orElse fun _ => x.lastSent }
    let c := c.onCb fun b => { b with tx := new :: b.tx.filter fun y => y.slot != k }
    (pay, if fresh && pay.isNone then (c.starCount starNotReady).raiseKeyed 60 (1000 + k) 0 0xFFFF 0 100000000 else c)

/-- The copy of own slot `k` on the star's own channel (R199, R202), and the outcome of the other channel's until its copy goes out. -/
def Chip.cbSendOwn (c : Chip) (k : Nat) (s : Bytes) : Chip :=
  let b := c.cb
  let chans := [0, 1].filter fun ch => (u8 s 1).testBit ch
  let mark := fun (c : Chip) (ch r : Nat) => c.onCell k ch fun y => { y with result := r, settled := true }
  let (pay, c) := c.cbPick k s b.cycleCount
  chans.foldl (fun c ch =>
    if !b.served.contains ch then (if b.other.sent.contains k then c else mark c ch (if pay.isSome then 1 else 8))
    else match pay with
      | some d => (mark c ch 0).cbSendAll ch (cbFrame 2 ch k b.self 0xFF 0 (b.cycleCount % 65536) d)
      | none => mark c ch 8) c

/-- The copy of own slot `k` through the cross port, with the other bus's Cycle (R202). (log 49) -/
def Chip.cbSendCross (c : Chip) (k : Nat) (s : Bytes) (p : Nat) : Chip :=
  let b := c.cb
  let ch := (p - 12) % 2
  let mark := fun (c : Chip) (r : Nat) => (c.onCell k ch fun y => { y with result := r, settled := true }).onCb fun b => { b with other := { b.other with sent := k :: b.other.sent } }
  match c.cbPick k s b.other.cycle with
  | (some d, c) => (mark c 0).cbSendOn p (cbFrame 2 ch k b.self 0xFF 0 (b.other.cycle % 65536) d)
  | (none, c) => mark c 8

/-- CB_OWN_SLOT_SEND (R199, R202): a star-owned slot at its instant, S_k of the star's own cycle or of the other star's as its beacon was received. (log 49) -/
def cbOwnSlotSend (k : Nat) (c : Chip) : Chip :=
  let b := c.cb
  match b.slot k, b.image.cur with
  | some s, some img =>
    if !b.beating ∨ !b.begun ∨ slotOwner s ≠ b.self then c
    else
      let own := b.dueSlot s && decide (b.cycleStart + slotStart img k ≤ c.clk.now) && b.served.any fun ch => (u8 s 1).testBit ch && !(b.cell k ch).settled
      let c := if own then c.cbSendOwn k s else c
      match b.cross with
      | some p => if (u8 s 1).testBit ((p - 12) % 2) && c.cbCrossReady k s p then c.cbSendCross k s p else c
      | none => c
  | _, _ => c

/-- The next grant of GrantList. (log 49) -/
def Chip.cbGrant (c : Chip) (img : Bytes) (now ends : Nat) : Chip :=
  let b := c.cb
  if u8 img 0x20 = 0 ∨ ends < now + b.exchangeMax then c
  else
    let pos := b.grantPos % u8 img 0x20
    let g := u8 img (0x24 + pos)
    let chans := b.served.filter fun ch => c.cbLive g ch c.clk.now
    let c := b.served.foldl (fun c ch => c.cbSendAll ch (cbFrame 3 ch 0xFF b.self g 0 (b.cycleCount % 65536) [])) c
    (c.onCb fun b => { b with grantPos := pos + 1, grant := some { branch := g, channels := chans, start := now } }).starCount starGrants

/-- The queue whose head is the next own event frame (R203, R205). -/
def Chip.cbEventQueue (c : Chip) : Nat := if (c.qm.queue 44).entries.isEmpty then 45 else 44

/-- The own event frame that this item of the event window may send is read (R203, R325). (log 55) -/
def Chip.cbEventHead (c : Chip) (img : Bytes) (ecc : Option Nat) : Chip :=
  if c.cb.eventsSent < u8 img 0x21 ∧ c.cb.grant = none then c.headRead c.cbEventQueue ecc else c

/-- CB_EVENT_WINDOW (R203, R204): the next item of the event window at its instant, an own event frame or a grant. (log 49) -/
def cbEventWindow (ecc : Option Nat) (c : Chip) : Chip :=
  match c.cb.image.cur with
  | none => c
  | some img =>
    let now := c.clk.now
    let b := c.cb
    let ends := b.cycleStart + b.cycleNs - 5000
    if !b.beating ∨ !b.begun ∨ now < b.cycleStart + eventStartNs img then c
    else
      let c := c.cbEventHead img ecc
      let q := c.cbEventQueue
      match (c.qm.queue q).entries with
      | e :: _ =>
        if b.eventsSent < u8 img 0x21 ∧ b.grant = none then
          if now + frameNs (u8 e.data 4) + 1000 ≤ ends then
            let c := (c.dropHead q).onCb fun b => { b with eventsSent := b.eventsSent + 1 }
            b.served.foldl (fun c ch => c.cbSendAll ch (cbFrame 4 ch 0xFF b.self (u8 e.data 3) (u8 e.data 5) (b.cycleCount % 65536) (e.data.drop 8))) c
          else c
        else c.cbGrant img now ends
      | [] => c.cbGrant img now ends
/-- CB_GRANT_RESPONSE_TIMEOUT (R204): no frame start fell in the response interval; unless an early activity was its outcome, a later start still counts as
late blocked until the port closes. -/
def cbGrantResponseTimeout (p : Nat) (c : Chip) : Chip :=
  match c.cb.openGrant ((p - 12) / 2) ((p - 12) % 2) with
  | some g =>
    let c := (c.cbCount p cbUnanswered).cbCloseGrant p
    if g.early.contains ((p - 12) % 2) then c else c.onCb fun b => { b with unanswered := (p, g.start) :: b.unanswered }
  | none => c

/-- CB_POINT_FIRE (R215). -/
def cbPointFire (n : Nat) (c : Chip) : Chip :=
  let p := (c.cb.points.getD n { cur := [] }).cur
  if 8 ≤ n ∨ !c.cb.beating ∨ !c.cb.begun ∨ u8 p 1 = 0 then c
  else (c.onCb fun b => { b with hits := b.hits ||| (1#8 <<< n) }).raise 55

/-! Commands (R221). -/

/-- A mask over the branch-channels in the layout of BranchEnable. -/
def portMask (f : Nat → Bool) : Nat :=
  (List.range 12).foldl (fun acc b => acc + b2n (f (cbPort b 0)) * 2 ^ b + b2n (f (cbPort b 1)) * 2 ^ (16 + b)) 0

def cbStatus : Cmd where
  form := noReq
  act c _ :=
    let b := c.cb
    let creeping := fun p => b.cells.any fun x => x.2.creeping && match b.slot x.1.1 with
      | some s => if b.served.contains x.1.2 then (b.sender s).any fun br => cbPort br x.1.2 == p else b.cross == some p
      | none => false
    let flags := b2n b.other.heard + b2n b.other.differs * 2 + b2n b.pulling * 4 + b2n c.timeValid * 8
    (c.onCb fun b => { b with hits := 0 }).ok
      (le 1 b.state.code ++ le 1 b.mode ++ le 1 flags ++ le 1 b.hits.toNat ++ le 4 b.cycleCount ++ le 4 (cbIdOf b.image.cur) ++
        le 4 (cbIdOf (b.image.latest.getD none)) ++ le 4 (portMask fun p => (b.port p).present) ++ le 4 (portMask creeping) ++
        le 4 (portMask fun p => (b.port p).babbling) ++ le 2 (match b.other.phase with | some v => if b.other.heard then ofInt 16 v else 0x8000 | none => 0x8000) ++ zeros 2)

def maskOk (m : Nat) : Bool := decide (m < 268435456) && bits m 15 12 == 0

def cbConfigSet : Cmd where
  form _ r :=
    let m := u8 r 0
    [lenIs r 32, rsv r 2 2, enc (maskOk (u32 r 4)) 4, enc (maskOk (u32 r 8)) 8, rsv r 0x15 11, rng (decide (m ≤ 2)) 0, rng (decide (u8 r 1 ≤ 5)) 1,
     rng (m == 0 || branchBit (u32 r 4) 11 (m - 1)) 4, rng (decide (400 ≤ u16 r 12 ∧ u16 r 12 ≤ 2000)) 12, rng (decide (100 ≤ u16 r 14 ∧ u16 r 14 ≤ 600)) 14,
     rng (decide (u16 r 16 ≤ 600)) 16, rng (decide (40 ≤ u16 r 18 ∧ u16 r 18 ≤ 1000)) 18, rng (decide (1 ≤ u8 r 20)) 20]
  state c r := [need (c.cb.state == .stopped || staticKept c.cb.config r [(0, 2), (4, 4), (12, 6)]) 0x05]
  act c r := (c.onCb fun b =>
    { b with config := r, mutes := (if u32 b.config 8 = u32 r 8 then [] else [(c.clk.now, u32 b.config 8)]) ++ b.mutes.filter fun x => decide (c.clk.now < x.1 + 1000000) }).ok

def cbConfigGet : Cmd where
  form := noReq
  act c _ := c.ok c.cb.config

def cbStart : Cmd where
  form := noReq
  state c _ := [need (c.cb.state == .stopped) 0x06, need c.cb.image.cur.isSome 0x06, need (match c.cb.image.cur with | some i => c.cb.imageOk i | none => true) 0x0C]
  act c _ :=
    let c := { c with tiles := { c.tiles with carBus := 0 } }
    let L := c.cb.cycleNs
    let c := c.onCb fun b => { b with
      cycleCount := 0, begun := false, pulling := false, coasting := false, stopping := false, grant := none, unanswered := [], other := {}, taken := []
      first := if c.timeValid then roundUp (c.trainTime + 5000) L else c.clk.now + match b.mode with | 0 => 100000 | 1 => L + 100000 | _ => 3 * L }
    let c := c.setCb (if c.timeValid then .aligned else if c.cb.mode = 0 then .free else .listen)
    c.ok (le 1 c.cb.state.code ++ zeros 3)

def cbStop : Cmd where
  form := noReq
  state c _ := [need (c.cb.state != .stopped) 0x06]
  act c _ := if c.cb.beating && c.cb.begun then { chip := c.onCb fun b => { b with stopping := true }, busy := true } else c.cbStopped.ok

def cbSchedStage : Cmd where
  form _ r := stageForm 832 r
  act c r := (c.onCb fun b => { b with stage := b.stage.write (u32 r 0) (r.drop 8) }).ok

/-- Cycle starts from now to the first boundary at least 5 µs after the response (R15). -/
def Chip.cbAhead (c : Chip) : Nat := if c.clk.now + 5000 ≤ c.cbNext.1 then 1 else 2

/-- The CycleCount of that boundary (R15, R210). (log 38) -/
def Chip.cbEffective (c : Chip) : Nat := if c.cbAhead = 1 then c.cbNext.2 else c.cbThen.cbNext.2

/-- See log 38. -/
def cbSchedCommit : Cmd where
  form := noReq
  state c _ := [need (c.cb.imageOk (c.cb.stage.read 0 832)) 0x0C]
  act c _ :=
    let img := c.cb.stage.read 0 (64 + 8 * u8 (c.cb.stage.read 13 1) 0)
    if c.cb.state = .stopped then
      let old := c.cb.image.cur
      ((c.onCb fun b => { b with image := { cur := some img } }).cbNewImage old (some img)).ok (le 4 (u32 img 8) ++ le 4 0 ++ le 1 1 ++ zeros 3)
    else
      (c.onCb fun b => { b with image := b.image.write (b.cycleIndex + c.cbAhead) (some img) }).ok
        (le 4 (u32 img 8) ++ le 4 c.cbEffective ++ le 1 0 ++ zeros 3)

/-- Write into the staging copy of a star-owned slot; with `complete` it is published whole (R214). (log 49) -/
def Chip.cbStage (c : Chip) (k len off : Nat) (d : Bytes) (complete : Bool) : Chip :=
  let old : CbTx := (c.cb.tx.find? fun x => x.slot == k).getD { slot := k, staging := zeros len }
  let st := splice (fitTo len old.staging) off d
  let now := c.clk.now
  let keep := old.pubs.filter fun q => q.1 != now
  let recent := keep.takeWhile fun q => decide (now < q.1 + 2000)
  let pubs := (now, st) :: (recent ++ (keep.drop recent.length).take 1)
  let new := { old with staging := st, pubs := if complete then pubs else old.pubs }
  c.onCb fun b => { b with tx := new :: b.tx.filter fun x => x.slot != k }

/-- A slot owned by this star in the image in force. -/
def CarBus.ownSlot (b : CarBus) (k : Nat) : Option Bytes := (b.slot k).bind fun s => if slotOwner s = b.self then some s else none

def cbTxWrite : Cmd where
  form c r :=
    [lenData r 8 (u8 r 2), enc (decide (u8 r 3 ≤ 1)) 3, rsv r 4 4, rng (c.cb.ownSlot (u8 r 0)).isSome 0,
     rng (match c.cb.ownSlot (u8 r 0) with | some s => decide (u8 r 1 + u8 r 2 ≤ slotMax s) | none => false) 1]
  act c r :=
    match c.cb.ownSlot (u8 r 0) with
    | some s => (c.cbStage (u8 r 0) (slotMax s) (u8 r 1) (r.drop 8) (u8 r 3 == 1)).ok
    | none => c.refuse 0x04

def cbRxRead : Cmd where
  form c r := [lenIs r 4, rsv r 1 3, rng ((c.cb.slot (u8 r 0)).isSome && (c.cb.ownSlot (u8 r 0)).isNone) 0]
  act c r :=
    match c.cb.rx.find? fun x => x.slot == u8 r 0 with
    | none => c.ok (le 1 (u8 r 0) ++ zeros 15)
    | some x =>
      (c.onCb fun b => { b with rx := b.rx.map fun y => if y.slot = x.slot then { y with fresh := false } else y }).ok
        (le 1 x.slot ++ le 1 (1 + b2n x.fresh * 2 + x.channel * 4 + b2n x.differed * 8 + b2n x.inTrain * 16) ++ le 1 x.payload.length ++ zeros 1 ++ le 4 x.cycle ++
          le 8 x.frameStart ++ x.payload)

/-- An event frame of this star placed in Q44 or Q45 with the next Seq (R205, R206); none when the queue is full. -/
def Chip.cbPlaceEvent (c : Chip) (dest : Nat) (low : Bool) (payload : Bytes) : Option (Nat × Chip) :=
  let q := if low then 45 else 44
  let seq := c.cb.eventSeq
  let data := be 1 0x40 ++ be 1 0xFF ++ be 1 c.cb.self ++ be 1 dest ++ be 1 payload.length ++ be 1 seq ++ zeros 2 ++ payload
  if c.admits q data.length then some (seq, ((c.onCb fun b => { b with eventSeq := (b.eventSeq + 1) % 256 }).enqueue q data).2) else none

def eventDestOk (d : Nat) : Bool := decide (d < 12) || d == 0x80 || d == 0x81 || d == 0xFF

def cbEventSend : Cmd where
  form _ r := [lenData r 4 (u8 r 2), rsv r 3 1, rng (eventDestOk (u8 r 0)) 0, enc (decide (u8 r 1 ≤ 1)) 1, rng (decide (u8 r 2 ≤ 64)) 2]
  act c r :=
    match c.cbPlaceEvent (u8 r 0) (u8 r 1 == 1) (r.drop 4) with
    | some (seq, c) => c.ok (le 1 seq ++ zeros 3)
    | none => c.refuse 0x08

def cbEventRead : Cmd where
  form := noReq
  act c _ :=
    let c := c.mailRead 0x040A 47
    match (c.qm.queue 47).entries with
    | [] => c.ok (zeros 24)
    | e :: _ =>
      let c := c.dropHead 47
      c.ok (le 2 (c.qm.queue 47).entries.length ++ le 1 (e.data.length - 8) ++ le 1 (u8 e.data 2) ++ le 1 (u8 e.data 3) ++ le 1 (u8 e.data 5) ++ le 1 (u8 e.info 0) ++ le 1 1 ++
        slice e.info 1 4 ++ zeros 4 ++ slice e.info 5 8 ++ e.data.drop 8)

def cbSlotStatus : Cmd where
  form c r := [lenIs r 4, rsv r 1 3, rng (c.cb.slot (u8 r 0)).isSome 0]
  act c r :=
    match c.cb.slot (u8 r 0) with
    | none => c.refuse 0x04
    | some s =>
      let a := c.cb.cell (u8 r 0) 0
      let b := c.cb.cell (u8 r 0) 1
      let mean := fun (x : CbCell) => if x.refCount = 0 then (0 : Int) else x.refSum / x.refCount
      c.ok (le 1 (slotOwner s) ++ le 1 (u8 s 1) ++ le 1 a.result ++ le 1 b.result ++ le 2 (ofInt 16 a.offset) ++ le 2 (ofInt 16 b.offset) ++ le 2 (ofInt 16 (mean a)) ++
        le 2 (ofInt 16 (mean b)) ++ zeros 4)

/-- See log 38. -/
def cbPointSet : Cmd where
  form c r := [lenIs r 8, rsv r 2 2, rng (decide (u8 r 0 ≤ 7)) 0, rng (decide (u8 r 1 ≤ 1)) 1, rng (decide (u32 r 4 < c.cb.cycleNs / 1000)) 4]
  act c r :=
    let stopped := c.cb.state == .stopped
    let c := c.onCb fun b => { b with points := updAt b.points (u8 r 0) fun p => if stopped then { cur := r } else p.write (b.cycleIndex + c.cbAhead) r }
    c.ok (le 4 (if stopped then 0 else c.cbEffective))

def cbCounters : Cmd where
  form _ r := [lenIs r 4, rsv r 1 3, rng (decide (12 ≤ u8 r 0 ∧ u8 r 0 ≤ 35) || u8 r 0 == 0xFF) 0]
  act c r :=
    if u8 r 0 = 0xFF then (c.onCb fun b => { b with counters := List.replicate 6 0 }).ok (cntBytes c.cb.counters)
    else (c.onCbPort (u8 r 0) fun q => { q with counters := List.replicate 12 0 }).ok (cntBytes (c.cb.port (u8 r 0)).counters)

end Sys2Proof.Machine
end

