-- ==== Sys2Proof/Machine/Can.lean ====
section
/-! DEFINITION. The CAN FD channels and the schedule matrix (R223–R253). -/
namespace Sys2Proof.Machine

/-! Frames, buffers, bit timing (R225, R231, R244). -/

/-- Bytes of a DLC (R231). -/
def dlcLen (d : Nat) : Nat := [0, 1, 2, 3, 4, 5, 6, 7, 8, 12, 16, 20, 24, 32, 48, 64].getD d 64
/-- The least DLC for a length. -/
def dlcFor (n : Nat) : Nat := ((List.range 16).find? fun d => decide (n ≤ dlcLen d)).getD 15

/-- A CAN frame as its FIFO and the outputs record it: identifier, flags, DLC, data. -/
def CanFrame.bytes (f : CanFrame) : Bytes :=
  le 4 f.ident ++ le 1 (b2n f.ext + b2n f.fd * 2 + b2n f.brs * 4 + b2n f.esi * 8 + b2n f.remote * 16) ++ le 1 f.dlc ++ zeros 2 ++ f.data

def CanFrame.ofBytes (b : Bytes) : CanFrame :=
  let g := fun i => (u8 b 4).testBit i
  { ident := u32 b 0, ext := g 0, fd := g 1, brs := g 2, esi := g 3, remote := g 4, dlc := u8 b 5, data := b.drop 8 }

/-- The router key of R255. -/
def CanFrame.key (f : CanFrame) : Nat := f.ident + b2n f.ext * 2 ^ 29

def CanBuf.kind (b : CanBuf) : Nat := u8 b.config 0
def CanBuf.flag (b : CanBuf) (i : Nat) : Bool := (u8 b.config 1).testBit i
def CanBuf.ext (b : CanBuf) : Bool := b.flag 0
def CanBuf.fd (b : CanBuf) : Bool := b.flag 1
def CanBuf.dlc (b : CanBuf) : Nat := u8 b.config 2
def CanBuf.ident (b : CanBuf) : Nat := u32 b.config 4
def CanBuf.isTx (b : CanBuf) : Bool := b.kind == 2 || b.kind == 3

/-- The frame a transmit buffer sends with a payload. -/
def CanBuf.frame (b : CanBuf) (pay : Bytes) : CanFrame :=
  { ident := b.ident, ext := b.ext, fd := b.fd, brs := b.flag 2, remote := b.flag 6, dlc := b.dlc, data := if b.flag 6 then [] else pay.take (dlcLen b.dlc) }

/-- Nominal and data bit times in ns of a configuration (R225). -/
def nomBit (cfg : Bytes) : Nat := (1 + u16 cfg 6 + u8 cfg 8) * u16 cfg 4 * 25
def dataBit (cfg : Bytes) : Nat := (1 + u8 cfg 11 + u8 cfg 12) * u8 cfg 10 * 25

/-- W in ns: the worst-case frame time (R244). -/
def worstFrame (cfg : Bytes) (ext fd brs : Bool) (n : Nat) : Nat :=
  if !fd then (if ext then 80 + 10 * n else 55 + 10 * n) * nomBit cfg
  else
    let nom := if ext then 58 else 34
    let dat := if n ≤ 16 then 10 * n + 33 else 10 * n + 38
    if brs then nom * nomBit cfg + dat * dataBit cfg else (nom + dat) * nomBit cfg

def CanFrame.worst (f : CanFrame) (cfg : Bytes) : Nat := worstFrame cfg f.ext f.fd f.brs (if f.remote then 0 else dlcLen f.dlc)
def CanBuf.worst (b : CanBuf) (cfg : Bytes) : Nat := worstFrame cfg b.ext b.fd (b.flag 2) (if b.flag 6 then 0 else dlcLen b.dlc)

def CanChan.buf (x : CanChan) (i : Nat) : CanBuf := x.bufs.getD i {}
def Chip.onCanBuf (c : Chip) (n i : Nat) (f : CanBuf → CanBuf) : Chip := c.onCan n fun x => { x with bufs := updAt x.bufs i f }
def Chip.canCountBy (c : Chip) (n i k : Nat) : Chip := c.onCan n fun x => { x with counters := bumpBy x.counters i k }
def Chip.canCount (c : Chip) (n i : Nat) : Chip := c.canCountBy n i 1
/-- An event of a channel names it by its port index (R253). -/
def Chip.canRaise (c : Chip) (n e : Nat) : Chip := c.raisePort e (36 + n)
def Chip.canRaiseLimited (c : Chip) (n e : Nat) : Chip := c.raiseLimited e 1 (36 + n) 0 100000000

def CanSt.code : CanSt → Nat
  | .stopped => 0 | .integrating => 1 | .errorActive => 2 | .errorPassive => 3 | .busOff => 4 | .recovering => 5 | .ignoring => 6

/-- EV064 at each change of state (R227). -/
def Chip.setCan (c : Chip) (n : Nat) (s : CanSt) : Chip := if (c.canCh n).state = s then c else (c.onCan n fun x => { x with state := s }).canRaise n 64

def CanChan.listenOnly (x : CanChan) : Bool := u8 x.config 0 == 1
/-- The channel takes part in traffic. -/
def CanChan.onBus (x : CanChan) : Bool := x.state == .errorActive || x.state == .errorPassive
/-- It may send (R227, R230). -/
def CanChan.maySend (x : CanChan) : Bool := x.onBus && !x.listenOnly
/-- A frame of its own is in progress, the error frame that ends it included. -/
def CanChan.inFrame (x : CanChan) : Bool := x.sending.isSome || x.errFrame == some true
def CanChan.fifoQ (n : Nat) : Nat := 32 + n

/-- The level of STB while the main die is awake (R224, R250); `wakeStb` is what the power chapter decides in IGNORING. -/
def CanChan.stb (x : CanChan) (isolated wakeStb : Bool) : Bool :=
  if isolated then true
  else match x.state with
    | .stopped => u8 x.config 22 == 1
    | .ignoring => wakeStb
    | .integrating | .errorActive | .errorPassive | .busOff | .recovering => false

/-! Error counts and states (R227–R230). -/

/-- BUS_OFF (R229). (log 13) -/
def Chip.canBusOff (c : Chip) (n : Nat) : Chip := (((c.onCan n fun x => { x with sending := none }).canCount n canBusOffs).setCan n .busOff).canRaise n 66

/-- What follows the counts at the end of a frame or error frame (R228): error passive or active, error warning. (log 13) -/
def Chip.canJudge (c : Chip) (n : Nat) : Chip :=
  let x := c.canCh n
  if !x.onBus then c
  else
    let c := c.setCan n (if 128 ≤ x.tec ∨ 128 ≤ x.rxErrs then .errorPassive else .errorActive)
    let warn := decide (96 ≤ x.tec ∨ 96 ≤ x.rxErrs)
    if warn = x.warning then c else (c.onCan n fun x => { x with warning := warn }).canRaise n 65

/-- The channel is no longer alone (R245): a frame was received or an own one acknowledged. -/
def Chip.canHeard (c : Chip) (n : Nat) : Chip :=
  let was := (c.canCh n).alone
  let c := c.onCan n fun x => { x with ackRun := 0, alone := false }
  if was then c.canRaise n 68 else c

/-! Transmit FIFO and event buffers (R234–R236). -/

/-- Discard FIFO heads older than TxResidence (R235). -/
def Chip.canAge (c : Chip) (n : Nat) : Chip :=
  let res := u16 (c.canCh n).config 20 * 1000000
  let es := (c.qm.queue (32 + n)).entries
  let old := (es.takeWhile fun e => decide (e.since + res < c.clk.now)).length
  if old = 0 then c
  else ((c.onQm fun m => m.upd (32 + n) fun q => { q with entries := q.entries.drop old }).onCan n fun x => { x with fifoClash := 0, fifoTried := false }).canCountBy n
    canResidence old

/-- The FIFO head is sent, and the next frame becomes head (R235). -/
def Chip.canNextHead (c : Chip) (n : Nat) : Chip := ((c.dropHead (32 + n)).onCan n fun x => { x with fifoClash := 0, fifoTried := false }).canAge n

/-- Priority as in bus arbitration (R236): smaller goes first; the source ranks last. -/
def canRank (f : CanFrame) (src : Nat) : Nat :=
  let base := if f.ext then f.ident / 262144 else f.ident
  ((base * 2 + b2n f.ext) * 262144 + (if f.ext then f.ident % 262144 else 0)) * 128 + src

/-- The candidates among pending event buffers and the FIFO head: buffer or none, and the frame. -/
def Chip.canCandidates (c : Chip) (n : Nat) : List (Option Nat × CanFrame) :=
  let x := c.canCh n
  let bufs := x.bufs.zipIdx.filterMap fun (b, i) => if b.kind == 2 && b.pending && !b.suspended then some (some i, b.frame ((b.pubs.head?.map (·.2)).getD [])) else none
  let head := match (c.qm.queue (32 + n)).entries with
    | e :: _ => if x.fifoSuspended then [] else [((none : Option Nat), CanFrame.ofBytes e.data)]
    | [] => []
  bufs ++ head

/-- The candidate with the highest priority (R236). -/
def Chip.canBest (c : Chip) (n : Nat) : Option (Option Nat × CanFrame) :=
  (c.canCandidates n).foldl (fun acc k =>
    let rank := fun (k : Option Nat × CanFrame) => canRank k.2 (match k.1 with | some i => i | none => 64)
    match acc with
    | some a => if rank k < rank a then some k else acc
    | none => some k) none

/-- Begin a transmission: the frame leaves with the error state the channel is in (R223). -/
def Chip.canBegin (c : Chip) (n : Nat) (buffer : Option Nat) (cell : Bool) (f : CanFrame) : Chip :=
  let f := { f with esi := f.fd && (c.canCh n).state == .errorPassive }
  let c := match buffer with | some i => c.onCanBuf n i fun b => { b with again := false } | none => c
  (c.onCan n fun x => { x with
    sending := some { buffer := buffer, cell := cell, frame := f }, cellWait := none, fifoTried := x.fifoTried || buffer.isNone }).emit (.can n f.bytes)

/-! The matrix (R237–R244). -/

/-- The cell code at basic cycle `b`, column `col`. -/
def cellCode (img : Bytes) (b col : Nat) : Nat := u16 img (128 + 2 * (16 * b + col))
def basicNs (img : Bytes) : Nat := 250000 * 2 ^ u8 img 12
def colStartNs (img : Bytes) (col : Nat) : Nat := u32 img (64 + 4 * col) * 1000
def colEndNs (img : Bytes) (col : Nat) : Nat := if col + 1 < u8 img 13 then colStartNs img (col + 1) else basicNs img

/-- The cell in progress: none without an image in force and while the matrix resumes (R239). -/
def CanChan.cell (x : CanChan) : Option Nat :=
  match x.image.cur with
  | some img => if x.resuming then none else some (cellCode img x.basicIndex x.column)
  | none => none

/-- The local instant at which the current column ends. -/
def CanChan.columnEnd (x : CanChan) : Nat :=
  match x.image.cur with
  | some img => x.columnStart + (colEndNs img x.column - colStartNs img x.column)
  | none => 0

/-- Event traffic of worst-case time `w` may start now (R239, R240). -/
def Chip.canAllows (c : Chip) (n w : Nat) : Bool :=
  match (c.canCh n).cell with
  | some code => (code / 4096 == 1 || code / 4096 == 3) && decide (c.clk.now + w ≤ (c.canCh n).columnEnd)
  | none => true

/-- An exclusive cell that was late, failed or not ready (R238). -/
def Chip.canCellEvent (c : Chip) (n i : Nat) : Chip := (c.canCount n i).canRaiseLimited n 72

/-- A matrix image fits the buffers and the bit timing in force (R243, R244). -/
def CanChan.imageOk (x : CanChan) (img : Bytes) : Bool :=
  let L := basicNs img
  let cols := u8 img 13
  let startsOk := (List.range 16).all fun i =>
    if i < cols then (i != 0 || colStartNs img 0 == 0) && decide (colStartNs img i < L) && (i == 0 || decide (colStartNs img (i - 1) < colStartNs img i))
    else u32 img (64 + 4 * i) == max32
  let cellOk := fun b i =>
    let v := cellCode img b i
    let buf := x.buf (v % 64)
    bits v 11 6 == 0 && (match v / 4096 with
      | 0 | 1 => v % 64 == 0
      | 2 => buf.kind == 3 && decide (buf.worst x.config ≤ colEndNs img i - colStartNs img i)
      | 3 => buf.kind == 1
      | _ => false) && (decide (i < cols) || v == 0)
  u32 img 0 == 0x5A4B4D58 && u16 img 4 == 1 && u16 img 6 == 64 && u32 img 8 != 0 && decide (u8 img 12 ≤ 6) && decide (1 ≤ cols ∧ cols ≤ 16) && u16 img 14 == 0 &&
    u32 img 16 == 2176 && imageCrc 0x14 (img.take 2176) == u32 img 0x14 && isZero (slice img 0x20 32) && startsOk && (List.range 64).all fun b => (List.range 16).all fun i => cellOk b i

/-- A matrix cycle boundary (R15): an image whose boundary it is comes into force, EV075. -/
def Chip.canBoundary (c : Chip) (n : Nat) : Chip :=
  let c := c.onCan n fun x => { x with cycleIndex := x.cycleIndex + 1 }
  let x := c.canCh n
  if x.image.due x.cycleIndex then (c.onCan n fun x => { x with image := x.image.tick x.cycleIndex }).canRaise n 75 else c

/-- The matrix of a channel that starts or takes an image while it runs without one (R241, R242): FREE on the local clock, or waiting for the first
train-time boundary. (log 51) -/
def Chip.canMatrixStart (c : Chip) (n : Nat) : Chip :=
  if (c.canCh n).image.cur.isNone then c.setMatrix n 0
  else (c.onCan n fun x => { x with resuming := c.timeValid, basicStart := c.clk.now, columnStart := c.clk.now, column := 15, basicIndex := 63, cellWait := none }).setMatrix n 2

/-- CAN_MATRIX_RESUME (R242): the matrix resumes at a train-time boundary. A matrix cycle boundary that the free run would have reached by then, or that
the resumed index is, falls due there. -/
def canMatrixResume (n : Nat) (c : Chip) : Chip :=
  let x := c.canCh n
  match x.image.cur with
  | none => c
  | some img =>
    let L := basicNs img
    if x.state = .stopped ∨ x.matrix ≠ 2 ∨ !c.timeValid ∨ (!x.resuming ∧ c.clk.now < x.basicStart + L) then c
    else
      let c := if 64 ≤ x.basicIndex + (c.clk.now - x.basicStart) / L ∨ (c.trainTime + L / 2) / L % 64 = 0 then c.canBoundary n else c
      let L := match (c.canCh n).image.cur with | some i => basicNs i | none => L
      let k := (c.trainTime + L / 2) / L
      (c.onCan n fun x => { x with resuming := false, basicIndex := k % 64, matrixCycle := k / 64 % 4294967296, basicStart := c.clk.now, columnStart := c.clk.now, column := 0 }).setMatrix n 1

/-- Where the matrix stands at a column start: basic index, matrix cycle, column, and the start of the basic cycle (local). A clock difference below 1 µs
is rounding. None while it waits for a train-time boundary (R242). -/
def Chip.canPlace (c : Chip) (n : Nat) (img : Bytes) : Option (Nat × Nat × Nat × Nat) :=
  let x := c.canCh n
  let L := basicNs img
  let now := c.clk.now
  let colOf := fun (off : Nat) => ((List.range (u8 img 13)).filter fun i => decide (colStartNs img i ≤ off + 1000)).length - 1
  if x.matrix = 1 then
    let k := (c.trainTime + 1000) / L
    let off := c.trainTime - k * L
    some (k % 64, k / 64 % 4294967296, colOf off, now - off)
  else
    let off := now - x.basicStart
    let m := (off + 1000) / L
    if m = 0 then some (x.basicIndex, x.matrixCycle, colOf off, x.basicStart)
    else if c.timeValid then none
    else some ((x.basicIndex + m) % 64, (x.matrixCycle + (x.basicIndex + m) / 64) % 4294967296, colOf (off - m * L), x.basicStart + m * L)

/-- Discard the FIFO and every pending event frame (R235). -/
def Chip.canDiscard (c : Chip) (n : Nat) : Chip :=
  let k := (c.qm.queue (32 + n)).entries.length + ((c.canCh n).bufs.filter fun b => b.kind == 2 && b.pending).length
  let c := c.onQm fun m => m.upd (32 + n) fun q => { q with entries := [] }
  (c.onCan n fun x => { x with bufs := x.bufs.map (fun b => if b.kind = 2 then { b with pending := false } else b), fifoClash := 0, fifoTried := false }).canCountBy n
    canResidence k

/-- The channel stops (R227, R229, R235); one already stopped keeps the note of bus-off that its next start reads. -/
def Chip.canStopped (c : Chip) (n : Nat) : Chip :=
  let x := c.canCh n
  let c := (c.canDiscard n).onCan n fun x => { x with
    stoppedBusOff := if x.state = .stopped then x.stoppedBusOff else x.state == .busOff || x.state == .recovering
    sending := none, stopping := false, ignoring := false, cellWait := none, errFrame := none, checkWait := none, resuming := false, image := x.image.settle }
  let c := if !x.image.pending.isEmpty then c.canRaise n 75 else c
  let c := if x.state = .ignoring then c.canRaise n 111 else c
  (c.setMatrix n 0).setCan n .stopped

/-- The channel enters IGNORING (R249, R413). -/
def Chip.canIgnore (c : Chip) (n : Nat) : Chip :=
  ((c.onCan n fun x => { x with ignoring := false, sending := none, cellWait := none, errFrame := none, checkWait := none }).setCan n .ignoring).canRaise n 111

/-- No frame is in progress any more (R249, R252): CAN_STOP or PWR_PN_MODE waiting for that takes effect. (log 13) -/
def Chip.canLeave (c : Chip) (n : Nat) : Chip :=
  if (c.canCh n).stopping then
    let c := if (c.canCh n).ignoring then c.completeWaiting 0x0A07 0x06 else c
    (c.canStopped n).completeWaiting 0x0504 0
  else if (c.canCh n).ignoring then (c.canIgnore n).completeWaiting 0x0A07 0 (le 1 6 ++ zeros 3)
  else c

/-- The end of an attempt (R245), and of the frame in progress. -/
def Chip.canEnded (c : Chip) (n : Nat) : Chip := (c.onCan n fun x => { x with sending := none, lastEnd := c.clk.now }).canLeave n

/-- The end of an error frame (R228): the states follow the counts, and the attempt it ended is over. (log 13) -/
def Chip.canErrorEnd (c : Chip) (n : Nat) : Chip :=
  match (c.canCh n).errFrame with
  | none => c
  | some own =>
    let c := (c.onCan n fun x => { x with errFrame := none }).canJudge n
    if own then c.canEnded n else c.canLeave n

/-- The matrix stands at a place. -/
def Chip.canAt (c : Chip) (n : Nat) (p : Nat × Nat × Nat × Nat) : Chip :=
  c.onCan n fun x => { x with basicIndex := p.1, matrixCycle := p.2.1, column := p.2.2.1, basicStart := p.2.2.2, columnStart := c.clk.now }

/-- After a boundary the place in ALIGNED follows from the image then in force (R237). -/
def Chip.canReplace (c : Chip) (n : Nat) : Chip :=
  match (c.canCh n).image.cur with
  | none => c
  | some img =>
    if (c.canCh n).matrix ≠ 1 then c
    else match c.canPlace n img with
      | some p => c.canAt n p
      | none => c

/-- The bus is idle: an error frame has ended, and a frame that the channel received (R228, R252). (log 13) -/
def Chip.canIdle (c : Chip) (n : Nat) : Chip :=
  let c := c.canErrorEnd n
  if (c.canCh n).sending.isSome then c else c.canLeave n

/-- CAN_CELL_START (R237, R238, R242): a column begins; `idle`: the bus is idle. -/
def canCellStart (n : Nat) (idle : Bool) (c : Chip) : Chip :=
  let c := if idle then c.canIdle n else c
  let x := c.canCh n
  match x.image.cur with
  | none => c
  | some img =>
    if x.state = .stopped ∨ x.matrix = 0 ∨ x.resuming then c
    else
      let c := if x.cellWait.isSome then (c.onCan n fun x => { x with cellWait := none }).canCellEvent n canCellLate else c
      match c.canPlace n img with
      | none => c.onCan n fun x => { x with resuming := true }
      | some place =>
        let c := c.canAt n place
        let c := if place.2.1 ≠ x.matrixCycle then (c.canBoundary n).canReplace n else c
        let x := c.canCh n
        let code := match x.image.cur with | some i => cellCode i x.basicIndex x.column | none => 0
        if code / 4096 ≠ 2 then c
        else
          let i := code % 64
          let buf := x.buf i
          let pick := buf.pubs.find? fun q => decide (q.1 + 2000 ≤ c.clk.now)
          if !x.maySend ∨ buf.suspended then c.canCellEvent n canCellFailed
          else match pick with
            | none => if buf.flag 5 then c.canCellEvent n canCellNotReady else c
            | some (at_, pay) =>
              if buf.flag 5 ∧ buf.lastSent = some at_ then c.canCellEvent n canCellNotReady
              else
                if idle ∧ !x.inFrame then (c.onCanBuf n i fun b => { b with lastSent := some at_ }).canBegin n (some i) true (buf.frame pay)
                else c.onCan n fun x => { x with cellWait := some (i, at_), cellPay := pay }

/-- The outcome of a receive-check cell of buffer `i` (R240). -/
def Chip.canChecked (c : Chip) (n i : Nat) (took : Bool) : Chip :=
  if took then c.onCan n fun x => { x with checkMask := x.checkMask &&& ~~~(1#64 <<< i) }
  else ((c.onCan n fun x => { x with checkMask := x.checkMask ||| (1#64 <<< i) }).canCount n canCheckMissed).canRaiseLimited n 73

/-- Buffer `i` has taken a frame whose start of frame lies in a span. -/
def CanChan.tookIn (x : CanChan) (i since until_ : Nat) : Bool := match (x.buf i).tookAt with | some t => decide (since ≤ t ∧ t < until_) | none => false

/-- The frame that still ran at the end of a receive-check cell has ended (R240). -/
def Chip.canCheckDone (c : Chip) (n : Nat) : Chip :=
  match (c.canCh n).checkWait with
  | some (i, since, until_) => (c.onCan n fun x => { x with checkWait := none }).canChecked n i ((c.canCh n).tookIn i since until_)
  | none => c

/-- CAN_CHECK_CELL_END (R240): the receive-check cell in progress ends; where a frame begun in it still runs, that frame's end decides. -/
def canCheckCellEnd (e : CheckEnd) (c : Chip) : Chip :=
  let n := e.channel
  let x := c.canCh n
  match x.cell with
  | none => c
  | some code =>
    if code / 4096 ≠ 3 ∨ x.state = .stopped then c
    else
      let i := code % 64
      let c := c.canCheckDone n
      if e.running && !x.tookIn i x.columnStart x.columnEnd then c.onCan n fun y => { y with checkWait := some (i, x.columnStart, x.columnEnd) }
      else c.canChecked n i (x.tookIn i x.columnStart x.columnEnd)

/-! Sending (R236, R239, R245, R246). -/

/-- Start the event candidate of highest priority where the rules allow it; a FIFO head chosen for a retry has its age checked first (R235). -/
def Chip.canSendEvent (c : Chip) (n : Nat) : Chip :=
  let retry := match c.canBest n with | some (none, f) => (c.canCh n).fifoTried && c.canAllows n (f.worst (c.canCh n).config) | _ => false
  let c := if retry then c.canAge n else c
  match c.canBest n with
  | none => c
  | some (src, f) => if c.canAllows n (f.worst (c.canCh n).config) then c.canBegin n src false f else c

/-- The head of the FIFO, where it is a candidate, is read as the frames to send are compared (R235, R325). (log 55) -/
def Chip.canHeadRead (c : Chip) (n : Nat) (ecc : Option Nat) : Chip :=
  if !(c.canCandidates n).any (·.1.isNone) then c
  else
    let d := c.headRead (32 + n) ecc
    if (d.qm.queue (32 + n)).entries.length < (c.qm.queue (32 + n)).entries.length then (d.onCan n fun x => { x with fifoClash := 0, fifoTried := false }).canAge n else d

/-- CAN_TX_START (R236): the bus allows a frame to start. -/
def canTxStart (n : Nat) (ecc : Option Nat) (c : Chip) : Chip :=
  let c := c.canIdle n
  let x := c.canCh n
  if !x.maySend ∨ x.sending.isSome then c
  else match x.cellWait with
    | some (i, at_) =>
      let buf := x.buf i
      if c.clk.now + buf.worst x.config ≤ x.columnEnd then (c.onCanBuf n i fun b => { b with lastSent := some at_ }).canBegin n (some i) true (buf.frame x.cellPay)
      else (c.onCan n fun x => { x with cellWait := none }).canCellEvent n canCellLate
    | none => if x.alone then c else (c.canHeadRead n ecc).canSendEvent n

/-- CAN_ALONE_RETRY (R245). -/
def canAloneRetry (n : Nat) (c : Chip) : Chip :=
  let x := c.canCh n
  if !x.maySend ∨ !x.alone ∨ x.sending.isSome ∨ x.errFrame.isSome ∨ x.stopping ∨ x.ignoring ∨ c.clk.now < x.lastEnd + u16 x.config 18 * 1000000 then c else c.canSendEvent n

/-- A loop delay measured in the attempt in progress (R226): recorded for an FD frame sent with BRS under TdcMode 1. (log 13) -/
def CanChan.measures (x : CanChan) : Bool := u8 x.config 3 == 1 && x.sending.any fun s => s.frame.fd && s.frame.brs
def Chip.canLoopDelay (c : Chip) (n : Nat) (tdc : Option Nat) : Chip :=
  match tdc with
  | some d => if (c.canCh n).measures then c.onCan n fun x => { x with tdcMeasured := true, tdcValue := d } else c
  | none => c

/-- The kinds of CAN_ERROR (R223, R226, R228, R252): the errors detected, and the end of the error frame. (log 13) -/
inductive CanErr where
  | bit | stuff | form | crc | ack | exception | arbitration | tdc | frameEnd
  deriving DecidableEq, Repr

def CanErr.parse : Nat → Option CanErr
  | 0 => some .bit | 1 => some .stuff | 2 => some .form | 3 => some .crc | 4 => some .ack | 5 => some .exception | 6 => some .arbitration | 7 => some .tdc | 8 => some .frameEnd | _ => none

/-- A clash run of the attempt's source (R246). -/
def Chip.canClash (c : Chip) (n : Nat) (buffer : Option Nat) (clash : Bool) : Chip :=
  let lim := u8 (c.canCh n).config 17
  match buffer with
  | some i =>
    let run := if clash then ((c.canCh n).buf i).clashRun + 1 else 0
    let hit := decide (lim ≤ run)
    let c := c.onCanBuf n i fun b => { b with clashRun := if hit then 0 else run, suspended := b.suspended || hit }
    if hit then (c.canCount n Machine.canClash).canRaise n 69 else c
  | none =>
    let run := if clash then (c.canCh n).fifoClash + 1 else 0
    let hit := decide (lim ≤ run)
    let c := c.onCan n fun x => { x with fifoClash := if hit then 0 else run, fifoSuspended := x.fifoSuspended || hit }
    if hit then (c.canCount n Machine.canClash).canRaise n 69 else c

/-- One more ACK error (R245). (log 13) -/
def Chip.canAckError (c : Chip) (n : Nat) : Chip :=
  let run := (c.canCh n).ackRun + 1
  let c := (c.onCan n fun x => { x with ackRun := run }).canCount n canAckErrors
  if u8 (c.canCh n).config 16 ≤ run ∧ !(c.canCh n).alone then ((c.onCan n fun x => { x with alone := true }).canCount n Machine.canAlone).canRaise n 68 else c

/-- What a detected error is (R223, R226): a protocol exception without ProtocolException is a form error, and a bit error is a failure of the transmitter
delay compensation exactly where a delay above 127 data tq was measured. (log 13) -/
def CanChan.errorKind (x : CanChan) (k : CanErr) (tdc : Option Nat) : CanErr :=
  match k with
  | .exception => if u8 x.config 2 = 0 then .form else .exception
  | .tdc => if x.measures then .tdc else .bit
  | .bit => if x.measures && tdc.any fun d => decide (127 < d) then .tdc else .bit
  | k => k

/-- The counter of a detected error (R252). -/
def Chip.canErrorCount (c : Chip) (n : Nat) (k : CanErr) : Chip :=
  match k with
  | .bit => c.canCount n canBitErrors
  | .stuff => c.canCount n canStuffErrors
  | .form => c.canCount n canFormErrors
  | .crc => c.canCount n canCrcErrors
  | .ack | .frameEnd => c
  | .exception => c.canCount n canExceptions
  | .arbitration => if (c.canCh n).sending.isSome then c.canCount n canArbLost else c
  | .tdc => ((c.canCount n canBitErrors).canCount n canTdcFailures).canRaise n 76

/-- The exceptions under which ISO 11898-1 leaves TEC unchanged (R228): an ACK error of an error-passive transmitter, and a stuff error in the arbitration
field. (log 13) -/
def CanChan.exempts (x : CanChan) (k : CanErr) : Bool :=
  match k with
  | .ack => x.state == .errorPassive
  | .stuff => true
  | .bit | .form | .crc | .exception | .arbitration | .tdc | .frameEnd => false

/-- An attempt of this channel ends in an error or in lost arbitration (R228, R229, R238, R245, R246). -/
def Chip.canTxError (c : Chip) (n : Nat) (s : CanTx) (k : CanErr) (clash exempt : Bool) (extra : Nat) : Chip :=
  let c := if s.cell then c.canCellEvent n canCellFailed else c
  if k = .arbitration then c.onCan n fun x => { x with sending := none, lastEnd := c.clk.now }
  else
    let c := c.canCheckDone n
    let c := if exempt && (c.canCh n).exempts k then c else c.onCan n fun x => { x with tec := x.tec + 8 + 8 * extra }
    let c := if k = .ack then c.canAckError n else c
    let c := (c.canClash n s.buffer (clash && (k == .bit || k == .tdc))).onCan n fun x => { x with sending := none, errFrame := some true }
    if 255 < (c.canCh n).tec then ((c.onCan n fun x => { x with errFrame := none }).canBusOff n).canEnded n else c

/-- A further error of the transmitter, in its own error frame or in an overload flag (R228, R229). (log 13) -/
def Chip.canFlagError (c : Chip) (n up : Nat) : Chip :=
  let own := (c.canCh n).errFrame
  let c := c.onCan n fun x => { x with tec := x.tec + up, errFrame := some (x.errFrame.getD false) }
  if 255 < (c.canCh n).tec then
    let c := (c.onCan n fun x => { x with errFrame := none }).canBusOff n
    if own = some true then c.canEnded n else c.canLeave n
  else c

/-- CAN_ERROR (R226, R228): `clash` is the symptom of R246, `exempt` an exception under which ISO 11898-1 leaves TEC unchanged. The counts change at once, the states at the end of the
error frame. (log 13) -/
def canError (n kind : Nat) (clash exempt : Bool) (extra : CanExtra) (c : Chip) : Chip :=
  match (c.canCh n).onBus, CanErr.parse kind with
  | true, some k0 =>
    if k0 = .frameEnd then c.canErrorEnd n
    else
      let k := (c.canCh n).errorKind k0 extra.tdc
      let c := (c.canLoopDelay n extra.tdc).canErrorCount n k
      match (c.canCh n).sending with
      | some s => if k = .exception then c else c.canTxError n s k clash exempt extra.steps
      | none =>
        let c := c.canCheckDone n
        if k = .exception then c.canLeave n
        else if k = .arbitration ∨ k = .ack then c
        else if (c.canCh n).errFrame = some true ∨ extra.inFlag = some true then c.canFlagError n (8 + 8 * extra.steps)
        else c.onCan n fun x => { x with rxErrs := sat 16 (x.rxErrs + (if extra.inFlag = some false then 8 else 1) + 8 * extra.steps), errFrame := some (x.errFrame.getD false) }
  | _, _ => c

/-- CAN_TX_COMPLETE (R226, R228, R245, R246): the own frame in transmission is acknowledged; `tdc` is a loop delay measured in it, in data tq. With a delay
above 127 the data phase has failed instead (R226). (log 13) -/
def canTxComplete (n : Nat) (tdc : Option Nat) (c : Chip) : Chip :=
  match (c.canCh n).sending with
  | none => c
  | some s =>
    if (c.canCh n).measures && tdc.any fun d => decide (127 < d) then canError n 7 false false { tdc := tdc } c
    else
      let c := (c.canLoopDelay n tdc).canCheckDone n
      let c := ((c.onCan n fun x => { x with tec := x.tec - 1 }).canCount n canSent).canHeard n
      let c := match s.buffer with
        | some i => c.onCanBuf n i fun b => { b with clashRun := 0, pending := if s.cell then b.pending else b.again, again := false }
        | none => c.canNextHead n
      (c.canJudge n).canEnded n

/-! Receiving (R232, R233, R240, R247). -/

/-- A frame into the first receive buffer that takes it (R232, R233): the chip, and whether the router gets it too. -/
def Chip.canToBuffers (c : Chip) (n sof : Nat) (f : CanFrame) : Chip × Bool :=
  let x := c.canCh n
  match x.bufs.findIdx? fun b => b.kind == 1 && b.ext == f.ext && (f.ident ^^^ b.ident) &&& u32 b.config 8 == 0 with
  | none => (c, true)
  | some i =>
    let b := x.buf i
    let c := c.onCanBuf n i fun b => { b with front := some (f, c.captureAt sof), fresh := true, overwritten := b.overwritten || b.fresh, tookAt := some sof }
    let c := if b.fresh then (c.canCount n canOverwritten).canRaiseLimited n 71 else c
    let c := if b.flag 4 then c.canRaise n 79 else c
    (c, b.flag 3)

/-- A valid frame received while the channel takes part in traffic. (log 13) -/
def Chip.canReceive (c : Chip) (n sof : Nat) (f : CanFrame) : Chip :=
  let c := c.canErrorEnd n
  let x := c.canCh n
  let (back, c) := if 127 < x.rxErrs then c.draw else (0, c)
  let c := (c.onCan n fun x => { x with rxErrs := if 127 < x.rxErrs then 119 + back % 9 else x.rxErrs - 1 }).canCount n canReceived
  let c := (c.canHeard n).canJudge n
  let c := match x.bufs.findIdx? fun b => b.isTx && b.ident == f.ident && b.ext == f.ext with
    | some i => (c.canCount n canOwnId).raiseKeyed 70 (64 * n + i) 1 (36 + n) 0 100000000
    | none => c
  let (c, route) := c.canToBuffers n sof f
  let c := c.canCheckDone n
  (if route then (c.fieldTake { kind := 1, port := 36 + n, key := f.key, payload := f.data, trainTime := (c.captureAt sof).1, timeValid := (c.captureAt sof).2 }).2 else c).canLeave n

/-- A frame on the bus of a channel that takes part in traffic: with FdMode 0 the recessive FDF bit of an FD frame ends it as a protocol exception or a
form error (R223). -/
def Chip.canHear (c : Chip) (n sof : Nat) (f : CanFrame) : Chip :=
  if f.fd && u8 (c.canCh n).config 1 == 0 then canError n 5 false false {} c else c.canReceive n sof f

/-- CAN_INTEGRATED (R227). -/
def canIntegrated (n : Nat) (c : Chip) : Chip :=
  let x := c.canCh n
  if x.state = .integrating then c.setCan n (if 128 ≤ x.tec ∨ 128 ≤ x.rxErrs then .errorPassive else .errorActive) else c

/-- CAN_RECOVERY_COMPLETE (R229). -/
def canRecoveryComplete (n : Nat) (c : Chip) : Chip :=
  let x := c.canCh n
  if x.state = .recovering then
    let c := ((c.onCan n fun x => { x with tec := 0, rxErrs := 0, warning := false }).setCan n .errorActive)
    (if x.warning then c.canRaise n 65 else c).canRaise n 67
  else c

/-- A channel stops for another reason while CAN_STOP or PWR_PN_MODE waits for the end of a frame: the first succeeds, the second is refused. -/
def Chip.canAnswer (c : Chip) (x : CanChan) : Chip :=
  let c := if x.stopping then c.completeWaiting 0x0504 0 else c
  if x.ignoring then c.completeWaiting 0x0A07 0x06 else c

/-- PREPARE stops a channel (R412). -/
def Chip.canHalt (c : Chip) (n : Nat) : Chip := (c.canStopped n).canAnswer (c.canCh n)

/-- The tile of a channel is isolated (R250). (log 41) -/
def Chip.canIsolate (c : Chip) (n : Nat) : Chip :=
  let x := c.canCh n
  let c := (c.canStopped n).canRaise n 78
  c.canAnswer x

/-! Staging, FIFO (R234, R235). -/

/-- Write into a transmit buffer's staging copy; with `complete` it is published and, for an event buffer, pending (R234, R238). (log 51) -/
def Chip.canStage (c : Chip) (n i off : Nat) (d : Bytes) (complete : Bool) : Chip :=
  let now := c.clk.now
  let b := (c.canCh n).buf i
  let st := splice b.staging off d
  let keep := b.pubs.filter fun q => q.1 != now
  let recent := keep.takeWhile fun q => decide (now < q.1 + 2000)
  let pubs := (now, st) :: (recent ++ (keep.drop recent.length).take 2)
  let replaced := complete && b.kind == 2 && b.pending
  let c := c.onCanBuf n i fun b => { b with staging := st, pubs := if complete then pubs else b.pubs, again := b.again || complete, pending := b.pending || (complete && b.kind == 2) }
  if replaced then c.canCount n canReplaced else c

/-- A frame offered to the transmit FIFO: none when it is full (R235). -/
def Chip.canPush (c : Chip) (n : Nat) (f : CanFrame) : Option Chip :=
  if c.admits (32 + n) f.bytes.length then some (c.enqueue (32 + n) f.bytes).2 else none

/-! Commands (R251, R252). -/

/-- The channel number, with three further bytes of 0. -/
def canForm (len : Nat) (r : Bytes) : List Check := [lenIs r len, rsv r 1 3, rng (decide (u8 r 0 ≤ 11)) 0]

def canStatus : Cmd where
  form _ r := canForm 4 r
  act c r :=
    let n := u8 r 0
    let x := c.canCh n
    let flags := b2n x.listenOnly + b2n x.alone * 2 + b2n x.warning * 4 + b2n x.tdcMeasured * 8 + b2n (c.tiles.can.getLsbD n) * 16 + b2n x.fifoSuspended * 32
    let clash := x.bufs.zipIdx.foldl (fun acc (b, i) => acc + b2n b.suspended * 2 ^ i) 0
    c.ok (le 1 n ++ le 1 x.state.code ++ le 1 flags ++ le 1 x.matrix ++ le 2 x.tec ++ le 2 x.rxErrs ++ le 4 (cbIdOf x.image.cur) ++
      le 4 (cbIdOf (x.image.latest.getD none)) ++ le 4 x.matrixCycle ++ le 1 x.basicIndex ++ le 1 x.tdcValue ++ zeros 2 ++ le 8 clash ++
      le 8 x.checkMask.toNat)

/-- The bit timing limits of R225 over a configuration. -/
def timingOk (g : Bytes) : Bool :=
  decide (1000 ≤ nomBit g ∧ 8 ≤ 1 + u16 g 6 + u8 g 8 ∧ 125 ≤ dataBit g ∧ 5 ≤ 1 + u8 g 11 + u8 g 12 ∧ dataBit g ≤ nomBit g)

/-- The nominal bit of R225 alone, judged when its own fields are in their ranges. -/
def nomTimingOk (g : Bytes) : Bool :=
  decide ((1 ≤ u16 g 4 ∧ u16 g 4 ≤ 32) ∧ (2 ≤ u16 g 6 ∧ u16 g 6 ≤ 256) ∧ (2 ≤ u8 g 8 ∧ u8 g 8 ≤ 128) → 1000 ≤ nomBit g ∧ 8 ≤ 1 + u16 g 6 + u8 g 8)

/-- The data bit of R225, named as the fault when the nominal bit is right and the fields of both are in their ranges (log 14). -/
def dataTimingOk (g : Bytes) : Bool :=
  decide ((1 ≤ u16 g 4 ∧ u16 g 4 ≤ 32) ∧ (2 ≤ u16 g 6 ∧ u16 g 6 ≤ 256) ∧ (2 ≤ u8 g 8 ∧ u8 g 8 ≤ 128) ∧ (1 ≤ u8 g 10 ∧ u8 g 10 ≤ 32) ∧ (1 ≤ u8 g 11 ∧ u8 g 11 ≤ 32) ∧
    (1 ≤ u8 g 12 ∧ u8 g 12 ≤ 16) → timingOk g = true ∨ nomTimingOk g = false)

def canConfigSet : Cmd where
  form _ r :=
    let g := r.drop 4
    canForm 36 r ++ [rsv r 19 1, rsv r 27 9, enc (decide (u8 g 0 ≤ 1)) 4, rng (decide (u8 g 1 ≤ 1)) 5, rng (decide (u8 g 2 ≤ 1)) 6, enc (decide (u8 g 3 ≤ 1)) 7,
      rng (decide (1 ≤ u16 g 4 ∧ u16 g 4 ≤ 32)) 8, rng (decide (2 ≤ u16 g 6 ∧ u16 g 6 ≤ 256)) 10, rng (decide (2 ≤ u8 g 8 ∧ u8 g 8 ≤ 128)) 12,
      rng (decide (1 ≤ u8 g 9 ∧ u8 g 9 ≤ 128 ∧ u8 g 9 ≤ u8 g 8)) 13, rng (decide (1 ≤ u8 g 10 ∧ u8 g 10 ≤ 32)) 14, rng (decide (1 ≤ u8 g 11 ∧ u8 g 11 ≤ 32)) 15,
      rng (decide (1 ≤ u8 g 12 ∧ u8 g 12 ≤ 16)) 16, rng (decide (1 ≤ u8 g 13 ∧ u8 g 13 ≤ 16 ∧ u8 g 13 ≤ u8 g 12)) 17, rng (decide (u8 g 14 ≤ 127)) 18,
      rng (nomTimingOk g) 8, rng (dataTimingOk g) 14, rng (decide (2 ≤ u8 g 16)) 20, rng (decide (1 ≤ u8 g 17 ∧ u8 g 17 ≤ 16)) 21, rng (decide (1 ≤ u16 g 18 ∧ u16 g 18 ≤ 1000)) 22,
      rng (decide (1 ≤ u16 g 20 ∧ u16 g 20 ≤ 10000)) 24, enc (decide (u8 g 22 ≤ 1)) 26]
  state c r := [need ((c.canCh (u8 r 0)).state == .stopped || staticKept (c.canCh (u8 r 0)).config (r.drop 4) [(0, 16)]) 0x05]
  act c r := (c.onCan (u8 r 0) fun x => { x with config := r.drop 4 }).ok

def canConfigGet : Cmd where
  form _ r := canForm 4 r
  act c r := c.ok (c.canCh (u8 r 0)).config

def CanChan.fdOk (x : CanChan) : Bool := u8 x.config 1 == 1 || x.bufs.all fun b => b.kind == 0 || !b.fd

/-- See log 41. -/
def canStart : Cmd where
  form _ r := canForm 4 r
  state c r :=
    let x := c.canCh (u8 r 0)
    [need (x.state == .stopped) 0x06, need x.fdOk 0x04, need (match x.image.cur with | some i => x.imageOk i | none => true) 0x0C]
  act c r :=
    let n := u8 r 0
    let isolated := c.tiles.can.getLsbD n
    let (fails, c) := if isolated then c.draw else (0, c)
    if isolated ∧ fails % 2 = 1 then c.refuse 0x02
    else
      let c := { c with tiles := { c.tiles with can := c.tiles.can &&& ~~~(1#12 <<< n) } }
      let wasWarn := (c.canCh n).warning
      let busOff := (c.canCh n).stoppedBusOff
      let c := c.onCan n fun x => { x with tec := if busOff then x.tec else 0, rxErrs := if busOff then x.rxErrs else 0, ackRun := 0, alone := false, warning := busOff && x.warning,
                                           sending := none, stopping := false, cellWait := none, errFrame := none, checkWait := none, bufs := x.bufs.map fun b => { b with clashRun := 0 }, fifoClash := 0 }
      let c := if wasWarn ∧ !busOff then c.canRaise n 65 else c
      let c := (c.canMatrixStart n).setCan n (if busOff then .recovering else .integrating)
      c.ok (le 1 (c.canCh n).state.code ++ zeros 3)

/-- A frame is in progress on the channel (R252): its own, or one that it receives. A frame received is a row only at its end, so whether one is under way before is
a free value. (log 13) -/
def Chip.canBusy (c : Chip) (n : Nat) : Bool × Chip :=
  if (c.canCh n).inFrame then (true, c)
  else if (c.canCh n).onBus then (decide (c.draw.1 % 2 = 1), c.draw.2)
  else (false, c)

def canStop : Cmd where
  form _ r := canForm 4 r
  state c r := [need ((c.canCh (u8 r 0)).state != .stopped) 0x06]
  act c r :=
    let n := u8 r 0
    match c.canBusy n with
    | (true, c) => { chip := c.onCan n fun x => { x with stopping := true }, busy := true }
    | (false, c) => (c.canStopped n).ok

def canRecover : Cmd where
  form _ r := canForm 4 r
  state c r := [need ((c.canCh (u8 r 0)).state == .busOff) 0x06]
  act c r := (c.setCan (u8 r 0) .recovering).ok

/-- Identifier bits that must be 0 (R231). -/
def identRsv (ext : Bool) (v off : Nat) : Check := if v < (if ext then 2 ^ 29 else 2048) then none else some (0x03, off)

/-- A buffer configuration of R231 at offset 4 of a request. -/
def bufForm (x : CanChan) (r : Bytes) : List Check :=
  let g := r.drop 4
  let k := u8 g 0
  let fl := fun i => (u8 g 1).testBit i
  let d := u8 g 2
  [enc (decide (u8 g 1 < 128)) 5, rsv r 7 1, (if k = 2 ∨ k = 3 then none else rsv r 6 1), identRsv (fl 0) (u32 g 4) 8,
   (if k = 2 ∨ k = 3 then rsv r 12 4 else identRsv (fl 0) (u32 g 8) 12), rsv r 16 4,
   enc (decide (k ≤ 3)) 4, rng (!fl 2 || fl 1) 5, rng (!fl 4 || k == 1) 5, rng (!fl 5 || k == 3) 5, rng (!fl 6 || (k == 2 && !fl 1)) 5, rng (!fl 1 || u8 x.config 1 == 1) 5,
   rng (decide (d ≤ 15) && (decide (d ≤ 8) || fl 1)) 6]

def canBufSet : Cmd where
  form c r := [lenIs r 20, rsv r 2 2] ++ (bufForm (c.canCh (u8 r 0)) r) ++ [rng (decide (u8 r 0 ≤ 11)) 0, rng (decide (u8 r 1 ≤ 63)) 1]
  state c r := [need ((c.canCh (u8 r 0)).state == .stopped) 0x05]
  act c r := (c.onCanBuf (u8 r 0) (u8 r 1) fun _ => { config := r.drop 4 }).ok

/-- Channel, buffer and two bytes of 0. -/
def bufNumForm (r : Bytes) : List Check := [lenIs r 4, rsv r 2 2, rng (decide (u8 r 0 ≤ 11)) 0, rng (decide (u8 r 1 ≤ 63)) 1]

def canBufGet : Cmd where
  form _ r := bufNumForm r
  act c r := c.ok ((c.canCh (u8 r 0)).buf (u8 r 1)).config

/-- See log 51. -/
def canTxWrite : Cmd where
  form c r :=
    let b := (c.canCh (u8 r 0)).buf (u8 r 1)
    [lenData r 8 (u8 r 3), enc (decide (u8 r 4 ≤ 1)) 4, rsv r 5 3, rng (decide (u8 r 0 ≤ 11)) 0, rng (decide (u8 r 1 ≤ 63) && b.isTx) 1,
     rng (decide (u8 r 2 + u8 r 3 ≤ dlcLen b.dlc)) 2]
  act c r := (c.canStage (u8 r 0) (u8 r 1) (u8 r 2) (r.drop 8) (u8 r 4 == 1)).ok

def canRxRead : Cmd where
  form c r := bufNumForm r ++ [rng (((c.canCh (u8 r 0)).buf (u8 r 1)).kind == 1) 1]
  act c r :=
    let b := (c.canCh (u8 r 0)).buf (u8 r 1)
    match b.front with
    | none => c.ok (le 1 (u8 r 1) ++ zeros 79)
    | some (f, tt, valid) =>
      (c.onCanBuf (u8 r 0) (u8 r 1) fun b => { b with fresh := false, overwritten := false }).ok
        (le 1 (u8 r 1) ++ le 1 (1 + b2n b.fresh * 2 + b2n b.overwritten * 4 + b2n f.ext * 8 + b2n f.fd * 16 + b2n f.brs * 32 + b2n f.esi * 64 + b2n f.remote * 128) ++ le 1 f.dlc ++
          le 1 (b2n valid) ++ le 4 f.ident ++ le 8 tt ++ padTo 64 f.data)

def canSend : Cmd where
  form c r :=
    let fl := fun i => (u8 r 1).testBit i
    let d := u8 r 2
    [(if r.length < 8 then some (0x01, 0xFFFF) else if d ≤ 15 then lenIs r (8 + dlcLen d) else if 512 < r.length then some (0x01, 0xFFFF) else none), enc (decide (u8 r 1 < 8)) 1, rsv r 3 1, identRsv (fl 0) (u32 r 4) 4,
     rng (decide (u8 r 0 ≤ 11)) 0, rng (!fl 2 || fl 1) 1, rng (!fl 1 || u8 (c.canCh (u8 r 0)).config 1 == 1) 1, rng (decide (d ≤ 15) && (decide (d ≤ 8) || fl 1)) 2]
  state c r := [need ((c.canCh (u8 r 0)).state != .stopped && !(c.canCh (u8 r 0)).listenOnly) 0x06]
  act c r :=
    let n := u8 r 0
    let fl := fun i => (u8 r 1).testBit i
    match c.canPush n { ident := u32 r 4, ext := fl 0, fd := fl 1, brs := fl 2, dlc := u8 r 2, data := r.drop 8 } with
    | some c => c.ok (le 2 (c.qm.queue (32 + n)).entries.length ++ zeros 2)
    | none => (c.canRaiseLimited n 77).refuse 0x08

def canMatrixStage : Cmd where
  form _ r := [lenData r 12 (u16 r 8), rsv r 1 3, rsv r 10 2, rng (decide (u8 r 0 ≤ 11)) 0, rng (decide (u32 r 4 + u16 r 8 ≤ 2176)) 4, rng (decide (u16 r 8 ≤ 480)) 8]
  act c r := (c.onCan (u8 r 0) fun x => { x with stage := x.stage.write (u32 r 4) (r.drop 12) }).ok

/-- The next matrix cycle boundary of a channel with an image in force, and the one after it: local instant and matrix cycle number (R237, R242). While train time
is valid and the matrix is not aligned, it resumes first, and a boundary falls due there only as CAN_MATRIX_RESUME has it. (log 51) -/
def Chip.canBoundaries (c : Chip) (n L : Nat) : (Nat × Nat) × (Nat × Nat) :=
  let x := c.canCh n
  if x.matrix = 2 ∧ c.timeValid then
    let since := max c.clk.now (if x.resuming then 0 else x.basicStart + L)
    let tt := (c.time.captured since).1 / 4294967296
    let k := (tt + L - 1) / L
    let r := since + (k * L - tt)
    let after := r + (64 - k % 64) * L
    if 64 ≤ x.basicIndex + (r - x.basicStart) / L ∨ k % 64 = 0 then ((r, k / 64), (after, k / 64 + 1)) else ((after, k / 64 + 1), (after + 64 * L, k / 64 + 2))
  else
    let r := x.basicStart + (64 - x.basicIndex) * L
    ((r, x.matrixCycle + 1), (r + 64 * L, x.matrixCycle + 2))

/-- See log 51. -/
def canMatrixCommit : Cmd where
  form _ r := canForm 4 r
  state c r := [need ((c.canCh (u8 r 0)).imageOk ((c.canCh (u8 r 0)).stage.read 0 2176)) 0x0C]
  act c r :=
    let n := u8 r 0
    let x := c.canCh n
    let img := x.stage.read 0 2176
    let imm := x.state == .stopped || x.image.cur.isNone
    if imm then
      let c := (c.onCan n fun x => { x with image := { cur := some img } }).canRaise n 75
      (if x.state = .stopped then c else c.canMatrixStart n).ok (le 4 (u32 img 8) ++ le 4 0 ++ le 1 1 ++ zeros 3)
    else
      let L := match x.image.cur with | some i => basicNs i | none => 0
      let (first, second) := c.canBoundaries n L
      let soon := decide (c.clk.now + 5000 ≤ first.1)
      (c.onCan n fun x => { x with image := x.image.write (x.cycleIndex + if soon then 1 else 2) (some img) }).ok
        (le 4 (u32 img 8) ++ le 4 ((if soon then first.2 else second.2) % 4294967296) ++ le 1 0 ++ zeros 3)

def canBufResume : Cmd where
  form _ r := [lenIs r 4, rsv r 2 2, rng (decide (u8 r 0 ≤ 11)) 0, rng (decide (u8 r 1 ≤ 63) || u8 r 1 == 0xFF) 1]
  state c r := [need (if u8 r 1 = 0xFF then (c.canCh (u8 r 0)).fifoSuspended else ((c.canCh (u8 r 0)).buf (u8 r 1)).suspended) 0x06]
  act c r :=
    if u8 r 1 = 0xFF then (c.onCan (u8 r 0) fun x => { x with fifoSuspended := false, fifoClash := 0 }).ok
    else (c.onCanBuf (u8 r 0) (u8 r 1) fun b => { b with suspended := false, clashRun := 0 }).ok

def canCounters : Cmd where
  form _ r := canForm 4 r
  act c r := (c.onCan (u8 r 0) fun x => { x with counters := List.replicate 22 0 }).ok (cntBytes (c.canCh (u8 r 0)).counters)

end Sys2Proof.Machine
end

