-- ==== Sys2Proof/Machine/Recorder.lean ====
section
/-! DEFINITION. The event recorder: storage of records from Q60, reading, erasing (R423–R441). -/
namespace Sys2Proof.Machine

/-! Records (R423, R424, R430). -/

def recSeq (b : Bytes) : Nat := u32 b 0
def recSeverity (b : Bytes) : Nat := u8 b 4 % 8
def recOpTime (b : Bytes) : Nat := lAt b 8 6

/-- One record is older than another (R430). -/
def olderRec (a b : Bytes) : Bool := decide (recOpTime a < recOpTime b) || (recOpTime a == recOpTime b && newer (recSeq b) (recSeq a))

/-- The oldest of the held slots that a condition picks. -/
def oldestSlot (slots : List (Nat × Bytes)) (pick : Bytes → Bool) : Option (Nat × Bytes) :=
  slots.foldl (fun acc s => if pick s.2 then (match acc with | some o => if olderRec s.2 o.2 then some s else acc | none => some s) else acc) none

/-- The lowest index from `i` on that is not used. -/
def lowestFree (used : List Nat) : Nat → Nat → Nat
  | 0, i => i
  | f + 1, i => if used.contains i then lowestFree used f (i + 1) else i

/-- The free slot of lowest index (R430). -/
def Recorder.freeSlot (r : Recorder) : Option Nat :=
  let used := r.slots.map (·.1) ++ r.retired
  let i := lowestFree used used.length 0
  if i < 65536 then some i else none

/-- A record with its number and its check (R423, R424). -/
def sealRecord (seq : Nat) (b : Bytes) : Bytes := let b := le 4 seq ++ slice b 4 56; b ++ le 4 (crc32c b)

/-- The slot a record goes to (R430). (log 72) -/
def Recorder.choose (r : Recorder) (b : Bytes) : Option Nat :=
  match r.freeSlot with
  | some i => some i
  | none => (oldestSlot r.slots fun o => decide (recSeverity o ≤ recSeverity b)).map (·.1)

/-- A record written into a slot. -/
def Recorder.put (r : Recorder) (i : Nat) (b : Bytes) : Recorder :=
  { r with slots := (i, sealRecord r.nextSeq b) :: r.slots.filter (fun s => s.1 != i), worn := r.worn.filter (fun w => w.1 != i), newestSeq := r.nextSeq, nextSeq := next32 r.nextSeq }

def Recorder.slot (r : Recorder) (i : Nat) : Bytes := (r.slots.lookup i).getD (zeros 64)

/-- A reset or a loss of power cuts off the write of a slot: it holds RecordSeq 0 and is free (R431). (log 72) -/
def Recorder.cutOff (r : Recorder) (now : Nat) : Recorder :=
  match r.writing with
  | some (i, until_) => { r with writing := none, slots := if now < until_ then r.slots.filter fun s => s.1 != i else r.slots }
  | none => r

/-- Store a record (R430, R441); `alert` is AlertSeverity as it was when the record entered Q60 (R439). Its write takes a free time of at most the 20 µs of
R428. (log 72) (log 4) -/
def Chip.storeRecord (c : Chip) (b : Bytes) (alert : Nat) : Chip :=
  match c.log.choose b with
  | none => ((c.logCount recDroppedFull).noteDrop (some (recSeverity b))).1
  | some i =>
    let had := c.log.slots.any fun s => s.1 == i
    let seq := c.log.nextSeq
    let (v, c) := c.draw
    let c := (c.onLog fun r => { r.put i b with writing := some (i, c.clk.now + v % 20000) }).logCount recStored
    let c := if had then c.logCount recOverwritten else c
    if alert ≤ recSeverity b then (c.logCount recAlerts).raiseD 113 7 i seq else c

/-- A read of words of a slot meets an uncorrectable error, if one stands there (R432). (log 72) -/
def Chip.readWords (c : Chip) (ws : List Nat) (i : Nat) : Chip :=
  if c.log.worn.any fun w => w.1 == i && ws.contains w.2 then
    ((c.onLog fun r => { r with worn := r.worn.filter (fun w => w.1 != i), retired := i :: r.retired, slots := r.slots.filter fun s => s.1 != i }).logCount recRetired).raiseD 114 7 i 0
  else c

/-- A read of a whole slot. (log 72) -/
def Chip.readSlot (c : Chip) (i : Nat) : Chip := c.readWords (List.range 8) i

/-- The scan of B07 (R433). A record that fails its check or shows invalid reserved bytes is made free. -/
def recordValid (b : Bytes) : Bool :=
  crc32c (b.take 60) == u32 b 60 && decide (u8 b 4 < 8 ∧ u8 b 7 ≤ 28) && isZero (slice b 14 2) && isZero (slice b 0x17 1) && isZero (slice b 0x1A 2)

/-- See log 72. -/
def Chip.recorderScan (c : Chip) : Chip :=
  let c := (c.log.worn.map (·.1)).foldl (Chip.readWords · [0, 7]) (c.onLog fun r => { r with savedPower := r.powerCycles })
  let bad := (c.log.slots.filter fun s => !recordValid s.2).length
  let c := (c.onLog fun r => { r with slots := r.slots.filter fun s => recordValid s.2 }).logCountBy recDamaged bad
  (c.onLog fun r => { r with state := .running }).raiseD 115 0 0xFFFF 1

/-- The recorder enters FAILED (R432, R436): which slots an erase under way has freed by then is open. (log 33) -/
def Chip.recorderFail (c : Chip) : Chip :=
  if c.log.state = .failed then c
  else
    let erasing := c.log.state == .erasing
    let c := (c.onLog fun r => { r with state := .failed }).raiseD 114 7 0xFFFF 0
    if erasing then
      let (bs, c) := c.drawBytes c.log.slots.length
      let kept := (c.log.slots.zip bs).filter fun x => x.2.getLsbD 0
      let n := c.log.slots.length - kept.length
      (c.onLog fun r => { r with slots := kept.map (·.1) }).completeWaiting 0x0B07 0x0E (le 4 n)
    else c

/-- The end of an erase (R436): the erase record, then RUNNING. (log 33) -/
def Chip.eraseEnd (c : Chip) : Chip :=
  let r := c.log
  let before := r.newestSeq
  let n := r.slots.length
  let c := c.onLog fun r => { r with slots := [], retired := [], worn := [] }
  let c := c.storeRecord (c.makeRecord 7 2 0 3 0 0 0 (le 4 n ++ le 4 before)) (u8 c.log.config 0)
  ((c.onLog fun r => { r with state := .running }).raiseD 115 0 0xFFFF 1).completeWaiting 0x0B07 0 (le 4 n)

/-- RECORD_STORE (R430, R432, R436). `arisen`: words in which an uncorrectable error has arisen since the last store, as slot and word. In ERASING the erase
completes first (log 33); in SCANNING intake waits. (log 72) -/
def recordStore (arisen : List (Nat × Nat)) (ecc : Option Nat) (c : Chip) : Chip :=
  let c := c.onLog fun r => { r with worn := (arisen.filter fun w => !r.retired.contains w.1) ++ r.worn }
  match c.log.state with
  | .scanning => c
  | .erasing => c.eraseEnd
  | .running | .failed =>
    match c.takeHead 60 ecc with
    | (none, c) => c
    | (some e, c) => if c.log.state = .failed then c.logCount recDroppedFull else c.storeRecord e.data (u8 e.info 0)

/-- OPTIME_SAVE (R426): Clove saves OperatingTime and AwakeTime while the main die is powered; not when the MRAM has failed (R432). (log 74) -/
def Chip.saveTimes (c : Chip) : Chip :=
  if c.log.state = .failed then c
  else c.onLog fun r => { r with savedOp := r.opTime c.clk.now, savedAwake := r.awakeTime c.clk.now }

def optimeSave (c : Chip) : Chip := if c.clove.powered ∧ c.clove.state ≠ .sleep then c.saveTimes else c

/-! Commands (R440). -/

def Chip.recServed (c : Chip) : Bool := c.log.state != .failed

def recStatus : Cmd where
  form := noReq
  act c _ :=
    let r := c.log
    let now := c.clk.now
    let oldest := match oldestSlot r.slots fun _ => true with | some s => recSeq s.2 | none => 0
    let code := match r.state with | .scanning => 0 | .running => 1 | .erasing => 2 | .failed => 3
    c.ok (le 1 code ++ le 1 (u8 r.config 0) ++ le 2 r.retired.length ++ le 4 r.slots.length ++ le 4 (65536 - r.slots.length - r.retired.length) ++ le 4 r.newestSeq ++
      le 4 oldest ++ zeros 4 ++ le 8 (r.opTime now) ++ le 8 (r.awakeTime now) ++ le 4 r.powerCycles ++ zeros 4 ++
      (List.range 8).flatMap fun s => le 4 (r.slots.filter fun x => recSeverity x.2 == s).length)

def recConfigSet : Cmd where
  form _ r := [lenIs r 132, rsv r 1 3, rng (decide (u8 r 0 ≤ 7)) 0, rng ((r.drop 4).all fun b => decide (b.toNat ≤ 7) || b == 0xFF) 4,
    rng (u8 r 116 == 0xFF && u8 r 117 == 0xFF) 116]
  act c r := (c.onLog fun x => { x with config := r }).ok

def recConfigGet : Cmd where
  form := noReq
  act c _ := c.ok c.log.config

/-- The slots a request names. (log 73) -/
def slotRange (first count : Nat) : List Nat := (List.range count).map (first + ·)

/-- See log 72, log 73. -/
def recRead : Cmd where
  form _ r := [lenIs r 4, rsv r 3 1, rng (decide (u8 r 2 ≤ 7 → u16 r 0 + u8 r 2 ≤ 65536)) 0, rng (decide (1 ≤ u8 r 2 ∧ u8 r 2 ≤ 7)) 2]
  act c r :=
    let ss := slotRange (u16 r 0) (u8 r 2)
    let c := ss.foldl Chip.readSlot c
    c.ok (le 1 (u8 r 2) ++ zeros 3 ++ ss.flatMap fun i => c.log.slot i ++ le 4 (recSeq (c.log.slot i)))

/-- See log 73. -/
def recCopy : Cmd where
  form _ r := [lenIs r 20, rsv r 10 2, rng (decide (u32 r 12 ≤ 65536 → u16 r 8 + u32 r 12 ≤ 65536)) 8, rng (decide (1 ≤ u32 r 12 ∧ u32 r 12 ≤ 65536)) 12, rng (decide (64 * u32 r 12 ≤ u32 r 16)) 16]
  state c _ := [need c.host.pcieUp 0x09]
  act c r :=
    let ss := slotRange (u16 r 8) (u32 r 12)
    let c := ss.foldl Chip.readSlot c
    c.copyOut 0x0B04 10000000 (u64 r 0) (ss.flatMap c.log.slot) (le 4 (u32 r 12))

/-- See log 73. -/
def recSeqRead : Cmd where
  form _ r := [lenIs r 4, rsv r 3 1, rng (decide (u8 r 2 ≤ 120 → u16 r 0 + u8 r 2 ≤ 65536)) 0, rng (decide (1 ≤ u8 r 2 ∧ u8 r 2 ≤ 120)) 2]
  act c r :=
    let ss := slotRange (u16 r 0) (u8 r 2)
    let c := ss.foldl (Chip.readWords · [0]) c
    c.ok (le 1 (u8 r 2) ++ zeros 3 ++ ss.flatMap fun i => le 4 (recSeq (c.log.slot i)))

def recWrite : Cmd where
  form _ r := [lenData r 8 (u8 r 4), rsv r 1 1, rsv r 5 3, rng (decide (u8 r 0 ≤ 7)) 0, rng (decide (u8 r 4 ≤ 28)) 4]
  state c _ := [need c.recServed 0x06]
  act c r :=
    let (c, d) := c.intake (c.makeRecord (u8 r 0) 1 0 (u16 r 2) 0 0 0 (r.drop 8))
    match d with
    | some (s, true) => (c.noteDrop (some s)).1.refuse 0x08
    | some (s, false) => ((c.noteDrop (some s)).1.logCount recHost).ok
    | none => (c.logCount recHost).ok

/-- See log 33. -/
def recErase : Cmd where
  form c r := [lenIs r 4, rng (u32 r 0 == c.log.newestSeq) 0]
  state c _ := [need (c.log.state == .running) 0x06]
  act c _ := { chip := (c.onLog fun r => { r with state := .erasing }).raiseD 115 0 0xFFFF 2, busy := true }

def recCounters : Cmd where
  form := noReq
  act c _ := (c.onLog fun r => { r with counters := List.replicate 8 0 }).ok (cntBytes c.log.counters)

end Sys2Proof.Machine
end

