-- ==== Sys2Proof/Machine/Router.lean ====
section
/-! DEFINITION. The message router and the check-value units (R254–R276). -/
namespace Sys2Proof.Machine

/-! The router image (R258–R262). -/

def rtEntries (img : Bytes) : Nat := u16 img 12
def rtEntry (img : Bytes) (i : Nat) : Bytes := slice img (1856 + 64 * i) 64
def rtUnit (img : Bytes) (u : Nat) : Bytes := slice img (0x40 + 48 * u) 48
def rtAddr (img : Bytes) (a : Nat) : Bytes := slice img (0x340 + 16 * a) 16
def rtDest (e : Bytes) (j : Nat) : Bytes := slice e (16 + 12 * j) 12

def entEnabled (e : Bytes) : Bool := (u8 e 0).testBit 0
def entVerify (e : Bytes) : Bool := (u8 e 0).testBit 1
/-- The key bits of a source kind (R256). -/
def keyBits (kind : Nat) : Nat := match kind with | 1 => 0x3FFFFFFF | 2 => 0xFF | 3 => 0xFFFF | _ => 0x7FFF
def entExact (e : Bytes) : Bool := u32 e 8 &&& keyBits (u8 e 1) == keyBits (u8 e 1)

/-- CRC widths by polynomial code (R269). -/
def polyWidth (p : Nat) : Nat := match p with | 0 => 8 | 1 => 16 | 2 => 32 | 3 => 32 | _ => 64
def polyValue (p : Nat) : Nat := match p with | 0 => 0x2F | 1 => 0x1021 | 2 => 0x04C11DB7 | 3 => 0x1EDC6F41 | _ => 0x42F0E1EBA9EA3693
/-- Bytes of the check value and of the alive field (R270). -/
def checkLen (u : Bytes) : Nat := polyWidth (u8 u 0) / 8
def aliveLen (u : Bytes) : Nat := match u8 u 2 with | 0 => 0 | 16 => 2 | _ => 1
def blockLen (u : Bytes) : Nat := checkLen u + aliveLen u

def unitOk (u : Bytes) : Bool :=
  let w := polyWidth (u8 u 0)
  let a := u8 u 2
  decide (u8 u 0 ≤ 4 ∧ u8 u 1 ≤ 3) && [0, 4, 8, 16].contains a && decide (1 ≤ u8 u 3 ∧ u8 u 3 ≤ (if a = 0 then 1 else 2 ^ a - 1)) && decide (1 ≤ u8 u 5 ∧ 1 ≤ u8 u 6) &&
    u8 u 7 == 0 && decide (u64 u 8 < 2 ^ w ∧ u64 u 16 < 2 ^ w) && decide (u16 u 32 ≤ 60000) && isZero (slice u 34 14)

def rtAddrOk (a : Bytes) : Bool :=
  let k := u8 a 0
  decide (k ≤ 4) && (if k = 1 ∨ k = 3 then decide (u8 a 1 ≤ 2) else u8 a 1 == 0) && isZero (slice a 2 6) && (k != 4 || isZero (slice a 8 8)) &&
    (decide (2 ≤ k) || isZero (slice a 10 6))

def unitOn (img : Bytes) (u : Nat) : Bool := (u16 img 0x20).testBit u && decide (u < 16)

/-- A destination descriptor is in range (R260, R262); an unused one too, though it names no unit. (log 78) -/
def destOk (img d : Bytes) : Bool :=
  let k := u8 d 0
  let p := u8 d 1
  let g := u8 d 2
  let key := u32 d 4
  let fl := fun i => (u8 d 3).testBit i
  if k = 0 then key == 0 && decide (u8 d 3 < 32) && (g == 0xFF || decide (g < 16)) && (p == 0 || decide (12 ≤ p ∧ p ≤ 55))
  else
    decide (k ≤ 7) && (if k ≤ 2 then decide (36 ≤ p ∧ p ≤ 47) else if k ≤ 4 then decide (12 ≤ p ∧ p ≤ 35) else if k = 7 then decide (48 ≤ p ∧ p ≤ 55) else p == 0) &&
    (g == 0xFF || unitOn img g) && decide (u8 d 3 < 32) &&
    (match k with
     | 1 => decide (key < 2 ^ 30) && (key.testBit 29 == fl 0) && (fl 0 || decide (key < 2048)) && (!fl 2 || fl 1)
     | 2 => decide (key < 64)
     | 3 => decide (1 ≤ key ∧ key ≤ 96)
     | 4 => decide (key < 512) && eventDestOk (key % 256)
     | 5 => decide (key < 32768)
     | 6 => decide (key < 2 ^ 22) && decide (bits key 21 16 < u8 img 14)
     | _ => decide (key < 65536)) &&
    (g == 0xFF || !(k == 2 || k == 3 || k == 5) || fl 3)

def entryOk (img e : Bytes) : Bool :=
  let k := u8 e 1
  let p := u8 e 2
  decide (u8 e 0 ≤ 3) && decide (1 ≤ k ∧ k ≤ 4) &&
    ((p == 0xFF && !entExact e) || (match k with | 1 => decide (36 ≤ p ∧ p ≤ 47) | 4 => p == 0xFE | _ => decide (12 ≤ p ∧ p ≤ 35))) &&
    (if entVerify e then unitOn img (u8 e 3) else u8 e 3 == 0xFF) && u32 e 4 ||| keyBits k == keyBits k && u32 e 8 ||| keyBits k == keyBits k && u8 e 15 == 0 &&
    (List.range 4).all fun j => destOk img (rtDest e j)

/-- The source fields that make two exact entries equal (R262). -/
def entSource (e : Bytes) : Nat × Nat × Nat := (u8 e 1, u8 e 2, u32 e 4)

/-- No two equal entries in a list. -/
def noRepeat : List (Nat × Nat × Nat) → Bool
  | [] => true
  | x :: xs => !xs.contains x && noRepeat xs

def routerOk (img : Bytes) : Bool :=
  let n := rtEntries img
  let es := (List.range n).map (rtEntry img)
  let exact := (es.filter fun e => entEnabled e && entExact e).map entSource
  let dests := es.flatMap fun e => (List.range 4).map (rtDest e)
  let guards := (es.filter entVerify).length + (dests.filter fun d => u8 d 0 != 0 && u8 d 2 != 0xFF).length
  u32 img 0 == 0x5A4B5254 && u16 img 4 == 1 && u16 img 6 == 64 && u32 img 8 != 0 && decide (n ≤ 4096) && decide (u8 img 14 ≤ 64) && u8 img 15 == 0 &&
    u32 img 16 == 1856 + 64 * n && img.length == 1856 + 64 * n && imageCrc 0x14 img == u32 img 0x14 && isZero (slice img 0x22 30) &&
    ((List.range 16).all fun u => if unitOn img u then unitOk (rtUnit img u) else isZero (rtUnit img u)) &&
    ((List.range 64).all fun a => if a < u8 img 14 then rtAddrOk (rtAddr img a) else isZero (rtAddr img a)) &&
    es.all (entryOk img) && noRepeat exact && decide ((es.filter fun e => !entExact e).length ≤ 256) && decide (guards ≤ 1024) &&
    decide ((dests.filter fun d => u8 d 0 == 6).length ≤ 256)

/-! Guards (R269–R273). -/

/-- The check value of a unit over bytes. -/
def unitCrc (u data : Bytes) : Nat :=
  let w := polyWidth (u8 u 0)
  crc w (polyValue (u8 u 0)) (u64 u 8) ((u8 u 1).testBit 0) ((u8 u 1).testBit 1) (u64 u 16) data

/-- The check value over a payload whose guard block stands at `off` (R270). -/
def guardValue (u : Bytes) (guardId off : Nat) (pay : Bytes) : Nat :=
  let c := checkLen u
  unitCrc u ((slice u 0x18 8).reverse ++ be 2 guardId ++ slice pay (off + c) (aliveLen u) ++ pay.take off ++ pay.drop (off + blockLen u))

/-- The alive value found in a guard block. -/
def aliveOf (u : Bytes) (off : Nat) (pay : Bytes) : Nat :=
  let v := bAt pay (off + checkLen u) (aliveLen u)
  if u8 u 2 = 4 then v % 16 else v

def Router.guard (r : Router) (e w : Nat) : Guard := (r.guards.lookup (e, w)).getD {}
def Chip.onGuard (c : Chip) (e w : Nat) (f : Guard → Guard) : Chip :=
  c.onRt fun r => { r with guards := ((e, w), f (r.guard e w)) :: r.guards.filter fun x => x.1 != (e, w) }

/-- What a check makes of a frame (R271, R272): the error code or none, whether it is valid, whether it is forwarded, and the state after it. -/
structure Judged where
  error : Nat := 0
  valid : Bool := false
  forward : Bool := false
  result : Nat := 0
  guard : Guard

/-- An error in a check's state (R272). -/
def Guard.fail (g : Guard) (u : Bytes) (code : Nat) : Guard :=
  let g := { g with lastError := code, errors := sat32 (g.errors + 1) }
  match g.state with
  | .initial => g
  | .ok =>
    let n := g.errorRun + 1
    if u8 u 5 ≤ n then { g with state := .failed, errorRun := n, validRun := 0 } else { g with errorRun := n }
  | .failed => { g with validRun := 0 }

/-- A valid frame in a check's state. -/
def Guard.pass (g : Guard) (u : Bytes) (alive skip now : Nat) : Judged :=
  let g := { g with alive := alive, repeats := 0, skipped := sat32 (g.skipped + skip), lastValid := now }
  match g.state with
  | .initial => { valid := true, forward := true, result := 2, guard := { g with state := .ok, errorRun := 0 } }
  | .ok => { valid := true, forward := true, result := 1, guard := { g with errorRun := 0 } }
  | .failed =>
    let n := g.validRun + 1
    if u8 u 6 ≤ n then { valid := true, forward := true, result := 1, guard := { g with state := .ok, errorRun := 0, validRun := 0 } }
    else { valid := true, guard := { g with validRun := n } }

/-- R271 for one frame. -/
def Guard.judge (g : Guard) (u : Bytes) (guardId off now : Nat) (pay : Bytes) : Judged :=
  if pay.length < off + blockLen u then { error := 1, guard := g.fail u 1 }
  else if guardValue u guardId off pay ≠ bAt pay off (checkLen u) then { error := 2, guard := g.fail u 2 }
  else
    let a := aliveOf u off pay
    let m := 2 ^ u8 u 2
    let d := (a + m - g.alive) % m
    if g.state = .initial then g.pass u a 0 now
    else if u8 u 2 = 0 then g.pass u 0 0 now
    else if d = 0 then
      if g.repeats < u8 u 4 then { guard := { g with repeats := g.repeats + 1 } } else { error := 3, guard := g.fail u 3 }
    else if d ≤ u8 u 3 then g.pass u a (d - 1) now
    else { error := 4, guard := { (g.fail u 4) with alive := a, repeats := 0 } }

/-- Enter a check's verdict: counters, EV082 for an error, EV083 on FAILED entered or left (R272, R275). -/
def Chip.judged (c : Chip) (e port : Nat) (j : Judged) : Chip :=
  let was := (c.rt.guard e 0).state
  let c := c.onGuard e 0 fun _ => j.guard
  let c := if j.error ≠ 0 then (c.rtCount rtErrors).raiseKeyed 82 (8 * e) 3 e port 100000000 else c
  let c := if j.valid then c.rtCount rtPassed else c
  if (was == .failed) != (j.guard.state == .failed) then c.raiseD 83 3 e port else c

/-! Destinations (R264–R268, R273). -/

/-- The outcome of one destination. -/
inductive Written where
  | yes (c : Chip)
  | short | oversize | invalid | full | unresolvable | unitDown

/-- The payload with a guard written (R273): none when the block does not fit. -/
def guardInto (u : Bytes) (alive guardId off : Nat) (pay : Bytes) : Option Bytes :=
  if pay.length < off + blockLen u then none
  else
    let c := checkLen u
    let v := if u8 u 2 = 4 then u8 pay (off + c) / 16 * 16 + alive % 16 else alive
    let p := splice pay (off + c) (be (aliveLen u) v)
    some (splice p off (be c (guardValue u guardId off p)))

/-- The branch-channel that DestPort names for a car-bus destination takes part in the bus (R260): it is the cross port, or an enabled branch of a served channel. (log 47) -/
def CarBus.destHere (b : CarBus) (port : Nat) : Bool := b.cross == some port || (b.served.contains ((port - 12) % 2) && b.branchOk ((port - 12) / 2) ((port - 12) % 2))

/-- Write destination `j` of entry `i` (R260, R264–R266, R268, R273). Kinds 3 and 4 take the branch and channel from DestPort: the destination exists where they
take part in the bus and, for a slot, where the slot uses that channel. (log 47) -/
def Chip.writeDest (c : Chip) (img e : Bytes) (i j result : Nat) (f : FieldFrame) : Written :=
  let d := rtDest e j
  let kind := u8 d 0
  let port := u8 d 1
  let key := u32 d 4
  let fl := fun b => (u8 d 3).testBit b
  let so := u8 d 8
  let n := if u8 d 9 = 0 then f.payload.length - so else u8 d 9
  let bytes := slice f.payload so n
  let off := u8 d 10
  let unit := if u8 d 2 = 0xFF then none else some (rtUnit img (u8 d 2))
  let down := decide (u8 d 2 < 16) && c.tiles.check.getLsbD (u8 d 2)
  let g := c.rt.guard i (j + 1)
  let alive := match unit with | some u => if g.state = .initial then 0 else (g.alive + 1) % 2 ^ u8 u 2 | none => 0
  let guarded := fun (p : Bytes) => match unit with | some u => guardInto u alive (key % 65536) (u8 d 11) p | none => some p
  let done := fun (c : Chip) =>
    Written.yes (if unit.isSome then (c.onGuard i (j + 1) fun g => { g with state := .ok, alive := alive, lastValid := c.trainTime }).rtCount rtGuards else c)
  -- a new frame or record, or a staged destination of a capacity with its present staging
  let fresh := fun (cap : Nat) (len : Nat → Nat) (put : Bytes → Option Chip) =>
    if cap < off + n then Written.oversize
    else match guarded (padTo (len (off + n)) (zeros off ++ bytes)) with
      | none => .oversize
      | some p => match put p with | some c => done c | none => .full
  let staged := fun (cap : Nat) (old : Bytes) (put : Bytes → Chip) =>
    if cap < off + n then Written.oversize
    else match guarded (splice (padTo cap old) off bytes) with
      | none => .oversize
      | some p => done (put p)
  let msg := fun (t : Telegram) =>
    fresh 1942 id fun p =>
      let t := { t with payload := p }
      if c.roomFor t then (c.post t).map (·.2) else none
  if down then .unitDown
  else if f.payload.length < so ∨ f.payload.length < so + n then .short
  else match kind with
  | 1 =>
    let ch := port - 36
    if (c.canCh ch).state = .stopped then .invalid
    else fresh (if fl 1 then 64 else 8) (fun l => dlcLen (dlcFor l)) fun p =>
      c.canPush ch { ident := key % 2 ^ 29, ext := fl 0, fd := fl 1, brs := fl 2, dlc := dlcFor p.length, data := p }
  | 2 =>
    let ch := port - 36
    let b := (c.canCh ch).buf key
    if (c.canCh ch).state = .stopped ∨ !b.isTx then .invalid
    else staged (dlcLen b.dlc) b.staging fun p => c.canStage ch key 0 p (fl 3)
  | 3 =>
    match c.cb.ownSlot key with
    | some s => if c.cb.state = .stopped ∨ !c.cb.destHere port ∨ !(u8 s 1).testBit ((port - 12) % 2) then .invalid
                else staged (slotMax s) ((c.cb.tx.find? fun x => x.slot == key).map (·.staging) |>.getD []) fun p => c.cbStage key (slotMax s) 0 p (fl 3)
    | none => .invalid
  | 4 =>
    if c.cb.state = .stopped ∨ !c.cb.destHere port then .invalid
    else fresh 64 id fun p => (c.cbPlaceEvent (key % 256) (key.testBit 8) p).map (·.2)
  | 5 =>
    match c.slotOf key with
    | some s => if c.ownSlot s then staged (u16 s 6) ((c.bb.pub key).map (·.staging) |>.getD []) fun p => c.pdStage key (u16 s 6) 0 p (fl 3) else .invalid
    | none => .invalid
  | 6 =>
    let a := Addr.at (rtAddr img (bits key 21 16)) 0
    if !c.rolling then .invalid
    else if a.kind ≤ 1 ∧ !a.isAll ∧ (c.resolve a).isNone then .unresolvable
    else msg { (a.telegram 5 (b2n (fl 4)) []) with selector := key % 65536 }
  | 7 =>
    fresh 1024 id fun p =>
      let head := le 2 i ++ le 1 f.kind ++ le 1 f.port ++ le 4 f.key ++ le 2 key ++ le 2 p.length ++ le 1 result ++ le 1 c.epochTag ++ le 1 (b2n f.timeValid) ++ zeros 1 ++
        le 8 f.trainTime ++ le 8 f.source
      let info := (({ kind := 2, trainTime := f.trainTime, timeValid := f.timeValid, tag := c.epochTag, port := if f.kind = 4 then f.arrival else f.port } : RxInfo)).bytes
      let data := head ++ p
      if c.admits port data.length then some (c.enqueue port data (splice info 28 f.header)).2 else none
  | _ => .invalid

/-- Every destination of the matched entry, in order (R264, R266, R274). -/
def Chip.writeAll (c : Chip) (img e : Bytes) (i result : Nat) (f : FieldFrame) : Chip :=
  (List.range 4).foldl (fun c j =>
    if u8 (rtDest e j) 0 = 0 then c
    else match c.writeDest img e i j result f with
      | .yes c => c.rtCount rtWritten
      | .short => c.rtCount rtShort
      | .oversize => c.rtCount rtOversize
      | .invalid => (c.rtCount rtInvalid).raiseKeyed 84 i 3 i f.port 100000000
      | .full => (c.rtCount rtFull).raiseKeyed 85 i 3 i f.port 100000000
      | .unresolvable => c.rtCount rtUnresolvable
      | .unitDown => (c.onGuard i (j + 1) fun g => { g with lastError := 6 }).rtCount rtUnitDown) c

/-! Lookup (R256). -/

def Router.enabled (r : Router) (img : Bytes) (i : Nat) : Bool := entEnabled (rtEntry img i) != r.toggled.contains i

/-- The entry that a frame matches: its index and whether the pass was exact. -/
def Router.lookup (r : Router) (f : FieldFrame) : Option (Nat × Bool) :=
  match r.image.cur with
  | none => none
  | some img =>
    let is := (List.range (rtEntries img)).filter fun i => r.enabled img i && u8 (rtEntry img i) 1 == f.kind
    match is.find? fun i => let e := rtEntry img i; entExact e && u8 e 2 == f.port && u32 e 4 == f.key with
    | some i => some (i, true)
    | none =>
      (is.find? fun i => let e := rtEntry img i; !entExact e && (u8 e 2 == f.port || u8 e 2 == 0xFF) && (f.key ^^^ u32 e 4) &&& u32 e 8 == 0).map fun i => (i, false)

/-- A car-bus event frame leaves Q46, where it is known by its port and payload: to CB_EVENT_READ when the router has not taken it (R205). -/
def Chip.leaveQ46 (c : Chip) (f : FieldFrame) (taken : Bool) : Chip :=
  let es := (c.qm.queue 46).entries
  match es.findIdx? fun q => u8 q.info 13 == f.port && q.data.drop 8 == f.payload with
  | none => c
  | some i =>
    let c := c.onQm fun m => m.upd 46 fun a => { a with entries := es.eraseIdx i }
    if taken then c else match es[i]? with | some q => c.toQ47 q.data q.info | none => c

/-- Look up the oldest waiting frame and write its destinations (R256, R264–R274). -/
def Chip.lookupOne (c : Chip) : Chip :=
  match c.rt.waiting, c.rt.image.cur with
  | [], _ => c
  | f :: rest, img =>
    let c := (c.onRt fun r => { r with waiting := rest }).rtCount rtLookups
    match c.rt.lookup f, img with
    | some (i, exact), some img =>
      let e := rtEntry img i
      let c := c.rtCount (if exact then rtExact else rtMasked)
      let c := if f.kind = 3 then c.leaveQ46 f true else c
      if !entVerify e then c.writeAll img e i 0 f
      else if c.tiles.check.getLsbD (u8 e 3) then (c.onGuard i 0 fun g => { g with lastError := 6 }).rtCount rtUnitDown
      else
        let j := (c.rt.guard i 0).judge (rtUnit img (u8 e 3)) (u16 e 12) (u8 e 14) c.trainTime f.payload
        let c := c.judged i f.port j
        if j.forward then c.writeAll img e i j.result f else c
    | _, _ =>
      let c := c.rtCount rtNoRoute
      if f.kind = 3 then c.leaveQ46 f false else c

/-- ROUTER_LOOKUP (R254–R257). (log 78) -/
def routerLookup (c : Chip) : Chip := if c.rt.running then c.lookupOne else c

/-- GUARD_TIMEOUT (R271): no passing frame of an entry's check for Timeout ms. -/
def guardTimeout (i : Nat) (c : Chip) : Chip :=
  match c.rt.image.cur with
  | none => c
  | some img =>
    let e := rtEntry img i
    let u := rtUnit img (u8 e 3)
    if !c.rt.running ∨ rtEntries img ≤ i ∨ !c.rt.enabled img i ∨ !entVerify e ∨ u16 u 32 = 0 ∨ c.tiles.check.getLsbD (u8 e 3) then c
    else c.judged i (u8 e 2) { error := 5, guard := (c.rt.guard i 0).fail u 5 }

/-! A new image (R263). -/

/-- The entry of index `i` names the same source in both images. -/
def sameSource (o n : Bytes) (i : Nat) : Bool :=
  decide (i < rtEntries o ∧ i < rtEntries n) && slice (rtEntry o i) 1 2 == slice (rtEntry n i) 1 2 && slice (rtEntry o i) 4 8 == slice (rtEntry n i) 4 8

/-- Descriptor `j` of entry `i` is unchanged, with its source and the configuration of its unit. -/
def sameDest (o n : Bytes) (i j : Nat) : Bool :=
  let d := rtDest (rtEntry n i) j
  sameSource o n i && rtDest (rtEntry o i) j == d && (u8 d 2 == 0xFF || rtUnit o (u8 d 2) == rtUnit n (u8 d 2))

/-- The guard states that a new image carries over. (log 78) -/
def Router.carry (r : Router) (old new : Option Bytes) : List ((Nat × Nat) × Guard) :=
  match old, new with
  | some o, some n =>
    r.guards.filter fun x =>
      let i := x.1.1
      let a := rtEntry o i
      let b := rtEntry n i
      if x.1.2 = 0 then sameSource o n i && entVerify b && u8 a 3 == u8 b 3 && slice a 12 3 == slice b 12 3 && rtUnit o (u8 a 3) == rtUnit n (u8 b 3)
      else sameDest o n i (x.1.2 - 1) && u8 (rtDest b (x.1.2 - 1)) 2 != 0xFF
  | _, _ => []

/-- A stream as R117 names it: destination kind, index and value, and traffic class. -/
abbrev StreamKey := Nat × Nat × Nat × Nat

/-- The streams of an image's MESSAGE descriptors (R117), with their places in it. -/
def rtStreams (img : Bytes) : List ((Nat × Nat) × StreamKey) :=
  (List.range (rtEntries img)).flatMap fun i => (List.range 4).filterMap fun j =>
    let d := rtDest (rtEntry img i) j
    let t := (Addr.at (rtAddr img (bits (u32 d 4) 21 16)) 0).telegram 5 (b2n ((u8 d 3).testBit 4)) []
    if u8 d 0 = 6 then some ((i, j), (t.dstKind, t.dstIndex, t.dstValue, t.tc)) else none

/-- A new image lets go of the streams of its descriptors and of the old one's, but for those of unchanged descriptors (R263). (log 78) (log 43) -/
def Chip.rtFreshStreams (c : Chip) (old new : Option Bytes) : Chip :=
  let all := fun (x : Option Bytes) => match x with | some img => (rtStreams img).map Prod.snd | none => []
  let kept : List StreamKey := match old, new with
    | some o, some n => ((rtStreams n).filter fun x => sameDest o n x.1.1 x.1.2).map (·.2)
    | _, _ => []
  let gone := (all old ++ all new).filter fun k => !kept.contains k
  c.onBb fun b => { b with streams := b.streams.map fun s => if gone.contains (s.dstKind, s.dstIndex, s.dstValue, s.tc) then { s with retired := true } else s }

/-- A router image comes into force: EV081. (log 78) -/
def Chip.rtNewImage (c : Chip) (f : EpochShadow (Option Bytes) → EpochShadow (Option Bytes)) : Chip :=
  let new := f c.rt.image
  ((c.rtFreshStreams c.rt.image.cur new.cur).onRt fun r => { r with image := new, toggled := [], guards := r.carry r.image.cur new.cur }).raiseD 81 0 0xFFFF 0

/-- The switch strobe (R24, R263). -/
def Chip.rtSwitch (c : Chip) : Chip := if c.rt.image.joined.isSome then c.rtNewImage EpochShadow.switch else c

/-! Commands (R275). -/

def routeStatus : Cmd where
  form := noReq
  act c _ :=
    let r := c.rt
    let img := r.image.cur
    let count := fun (p : Guard → Bool) => match img with
      | some i => (List.range (rtEntries i)).foldl (fun n k =>
          let e := rtEntry i k
          n + b2n (entVerify e && p (r.guard k 0)) + ((List.range 4).filter fun j => u8 (rtDest e j) 0 != 0 && u8 (rtDest e j) 2 != 0xFF && p (r.guard k (j + 1))).length) 0
      | none => 0
    c.ok (le 1 (b2n r.running) ++ le 1 (b2n img.isSome + b2n r.image.pending.isSome * 2) ++ le 2 (match img with | some i => rtEntries i | none => 0) ++
      le 4 (cbIdOf img) ++ le 4 (cbIdOf (r.image.pending.getD none)) ++ le 2 (count fun _ => true) ++ le 2 (count fun g => g.state == .failed) ++ le 2 c.tiles.check.toNat ++ zeros 2)

def routeStart : Cmd where
  form := noReq
  state c _ := [need (!c.rt.running) 0x06]
  act c _ := (({ c with tiles := { c.tiles with check := 0 } }.onRt fun r => { r with running := true }).raiseD 80 0 0xFFFF 0).ok

/-- The frames waiting are looked up, then the router stops and a pending image is in force (R18, R275). (log 78) -/
def Chip.routerStop (c : Chip) : Chip :=
  let c := (List.range c.rt.waiting.length).foldl (fun c _ => c.lookupOne) c
  let c := (c.onRt fun r => { r with running := false }).raiseD 80 0 0xFFFF 0
  if c.rt.image.pending.isSome then c.rtNewImage EpochShadow.settle else c

/-- See log 78. -/
def routeStop : Cmd where
  form := noReq
  state c _ := [need c.rt.running 0x06]
  act c _ := c.routerStop.ok

def routeStage : Cmd where
  form _ r := stageForm 264000 r
  act c r := (c.onRt fun x => { x with stage := x.stage.write (u32 r 0) (r.drop 8) }).ok

/-- The staged bytes, as long as their TotalSize says within the limits. -/
def Chip.stagedRouter (c : Chip) : Bytes := c.rt.stage.read 0 (max 1856 (min 264000 (leNat (c.rt.stage.read 0x10 4))))

def routeCommit : Cmd where
  form := noReq
  state c _ := [need (routerOk c.stagedRouter) 0x0C]
  act c _ :=
    let b := c.stagedRouter
    if c.rt.running then (c.onRt fun r => { r with image := r.image.write true (some b) }).ok (le 4 (u32 b 8) ++ le 4 c.epoch ++ le 1 0 ++ zeros 3)
    else (c.rtNewImage fun _ => { cur := some b }).ok (le 4 (u32 b 8) ++ le 4 0 ++ le 1 1 ++ zeros 3)

/-- The image that a read of the table returns: the pending one if there is one (R17). -/
def Router.loaded (r : Router) : Option Bytes := r.image.pending.getD r.image.cur

/-- The entry number is below EntryCount. -/
def Chip.hasEntry (c : Chip) (i : Nat) : Bool := match c.rt.image.cur with | some img => decide (i < rtEntries img) | none => false

/-- See log 38. -/
def routeEntryGet : Cmd where
  form c r := [lenIs r 4, rsv r 2 2, rng (c.rt.loaded.any fun img => decide (u16 r 0 < rtEntries img)) 0]
  act c r :=
    match c.rt.loaded with
    | some img => c.ok (le 2 (u16 r 0) ++ le 1 (b2n (c.rt.image.cur.any fun cur => decide (u16 r 0 < rtEntries cur) && c.rt.enabled cur (u16 r 0))) ++ zeros 1 ++ rtEntry img (u16 r 0))
    | none => c.refuse 0x04

def routeEntryEnable : Cmd where
  form c r := [lenIs r 4, rsv r 3 1, rng (c.hasEntry (u16 r 0)) 0, rng (decide (u8 r 2 ≤ 1)) 2]
  act c r :=
    match c.rt.image.cur with
    | some img =>
      let i := u16 r 0
      let others := c.rt.toggled.filter (· != i)
      (c.onRt fun x => { x with toggled := if entEnabled (rtEntry img i) = (u8 r 2 == 1) then others else i :: others }).ok
    | none => c.refuse 0x04

/-- A guard state exists there (R275). -/
def Chip.hasGuard (c : Chip) (i w : Nat) : Bool :=
  match c.rt.image.cur with
  | some img =>
    let e := rtEntry img i
    decide (i < rtEntries img) && (if w = 0 then entVerify e else decide (w ≤ 4) && u8 (rtDest e (w - 1)) 0 != 0 && u8 (rtDest e (w - 1)) 2 != 0xFF)
  | none => false

def guardForm (c : Chip) (r : Bytes) : List Check := [lenIs r 4, rsv r 3 1, rng (c.hasGuard (u16 r 0) (u8 r 2)) 0]

def guardStatus : Cmd where
  form := guardForm
  act c r :=
    let g := c.rt.guard (u16 r 0) (u8 r 2)
    (c.onGuard (u16 r 0) (u8 r 2) fun g => { g with errors := 0, skipped := 0 }).ok
      (le 1 (match g.state with | .initial => 0 | .ok => 1 | .failed => 2) ++ le 1 g.lastError ++ le 2 g.alive ++ le 1 (min 255 g.errorRun) ++
        le 1 (if g.state = .failed then g.validRun else 0) ++ le 1 (min 255 g.repeats) ++ zeros 1 ++ le 4 g.errors ++ le 4 g.skipped ++ le 8 g.lastValid)

def guardReset : Cmd where
  form := guardForm
  act c r := (c.onGuard (u16 r 0) (u8 r 2) fun g => { g with state := .initial, alive := 0, errorRun := 0, validRun := 0, repeats := 0 }).ok

def routeCounters : Cmd where
  form := noReq
  act c _ := (c.onRt fun r => { r with counters := List.replicate 15 0 }).ok (cntBytes c.rt.counters)

/-- See log 78. -/
def guardCompute : Cmd where
  form c r :=
    let u := match c.rt.image.cur with | some img => if unitOn img (u8 r 0) then some (rtUnit img (u8 r 0)) else none | none => none
    [lenData r 8 (u16 r 6), rng u.isSome 0, enc (decide (u8 r 1 ≤ 1)) 1,
     rng (u8 r 1 == 1 || match u with | some u => decide (u16 r 4 + blockLen u ≤ u16 r 6) | none => false) 4, rng (decide (u16 r 6 ≤ 472)) 6]
  act c r :=
    match c.rt.image.cur with
    | none => c.refuse 0x04
    | some img =>
      let u := rtUnit img (u8 r 0)
      let d := r.drop 8
      if u8 r 1 = 1 then c.ok (le 8 (unitCrc u d) ++ le 2 0)
      else c.ok (le 8 (guardValue u (u16 r 2) (u16 r 4) d) ++ le 2 (aliveOf u (u16 r 4) d))

end Sys2Proof.Machine
end

