-- ==== Sys2Proof/Machine/Safe.lean ====
section
/-! DEFINITION. The safety island: the parameter set, what each channel evaluates, the cross-channel link, the island states (R371–R398). -/
namespace Sys2Proof.Machine

/-! The parameter set (R395, R396). -/

def sIn (b : Bytes) (i : Nat) : Bytes := slice b (0x40 + 16 * i) 16
def sOut (b : Bytes) (o : Nat) : Bytes := slice b (0xC0 + 16 * o) 16
def inKind (b : Bytes) (i : Nat) : Nat := u8 (sIn b i) 0
def inRole (b : Bytes) (i : Nat) : Nat := u8 (sIn b i) 1
/-- Filter and DiscrepancyTime in µs. -/
def inFilter (b : Bytes) (i : Nat) : Nat := u8 (sIn b i) 2 * 1000
def inDiscrepancy (b : Bytes) (i : Nat) : Nat := u16 (sIn b i) 4 * 1000
def inDark (b : Bytes) (i : Nat) : Nat := u16 (sIn b i) 6
def outFn (b : Bytes) (o : Nat) : Nat := u8 (sOut b o) 0
def outOffPulse (b : Bytes) (o : Nat) : Bool := (u8 (sOut b o) 1).testBit 0
def outManual (b : Bytes) (o : Nat) : Bool := (u8 (sOut b o) 1).testBit 1
def outRequest (b : Bytes) (o : Nat) : Nat := u8 (sOut b o) 2
def outFeedback (b : Bytes) (o : Nat) : Nat := u8 (sOut b o) 3
def outDoors (b : Bytes) (o : Nat) : Nat := u8 (sOut b o) 4
def outLinked (b : Bytes) (o : Nat) : Nat := u8 (sOut b o) 5
def setSleepActive (b : Bytes) : Bool := u8 b 0x28 == 1
def setId (b : Bytes) : Nat := u32 b 8
def setCheck (b : Bytes) : Nat := u32 b 0x10
/-- The input that carries a role, if one does. -/
def roleInput (b : Bytes) (r : Nat) : Option Nat := (List.range 8).find? fun i => inRole b i == r && inKind b i != 0
/-- The largest Filter of the inputs in use, µs. -/
def largestFilter (b : Bytes) : Nat := (List.range 8).foldl (fun m i => if inKind b i = 0 then m else max m (inFilter b i)) 0

/-- An input named by an output. -/
def namedInputs (b : Bytes) : List Nat :=
  (List.range 4).flatMap fun o => [outRequest b o, outFeedback b o] ++ (List.range 8).filter fun i => (outDoors b o).testBit i

def inputOk (b : Bytes) (i : Nat) : Bool :=
  let e := sIn b i
  decide (u8 e 0 ≤ 3 ∧ u8 e 1 ≤ 6 ∧ 1 ≤ u8 e 2 ∧ u8 e 2 ≤ 20 ∧ u8 e 3 = 0 ∧ 10 ≤ u16 e 4 ∧ u16 e 4 ≤ 500) &&
    decide (u16 e 6 ≤ if u8 e 0 = 3 then 1000 else 0) && isZero (slice e 8 8) && (u8 e 0 != 0 || (u8 e 1 == 0 && !(namedInputs b).contains i))

def outputOk (b : Bytes) (o : Nat) : Bool :=
  let e := sOut b o
  let f := u8 e 0
  let isRole := fun i r => decide (i < 8) && inRole b i == r
  let time := fun v => decide (if f = 3 then 10 ≤ v ∧ v ≤ 2000 else v = 0)
  decide (f ≤ 3 ∧ u8 e 1 < 4) && (if f = 2 then isRole (u8 e 2) 3 else u8 e 2 == 0xFF) && (if f = 3 then isRole (u8 e 3) 5 else u8 e 3 == 0xFF) &&
    (if f = 1 ∨ f = 3 then (List.range 8).all (fun i => !(u8 e 4).testBit i || inRole b i == 1) && (f == 3 || u8 e 4 != 0) else u8 e 4 == 0) &&
    (if f = 3 then decide (u8 e 5 < 4) && outFn b (u8 e 5) == 2 else u8 e 5 == 0xFF) && time (u16 e 6) && time (u16 e 8) && isZero (slice e 10 6)

/-- The checks of R396. -/
def paramsOk (b : Bytes) : Bool :=
  let z := splice b 0x10 (zeros 8)
  let count := fun r => ((List.range 8).filter fun i => inRole b i == r).length
  let brakes := (List.range 4).filter fun o => outFn b o == 3
  b.length == 256 && u32 b 0 == 0x5A4B5346 && u16 b 4 == 1 && u16 b 6 == 64 && u32 b 12 == 256 && u32 b 0x10 == crc32c z && u32 b 0x14 == fcs z &&
    decide (1 ≤ setId b ∧ 200 ≤ u16 b 0x20 ∧ u16 b 0x20 ≤ 1000 ∧ 20 ≤ u16 b 0x22 ∧ u16 b 0x22 ≤ 500 ∧ 200 ≤ u16 b 0x24 ∧ u16 b 0x24 ≤ 800 ∧
      50 ≤ u16 b 0x26 ∧ u16 b 0x26 ≤ 500 ∧ u8 b 0x28 ≤ 1) &&
    isZero (slice b 0x29 23) && (List.range 8).all (inputOk b) && (List.range 4).all (outputOk b) &&
    decide (u16 b 0x20 + 200 ≤ u16 b 0x22 / 16 * 1000 ∧ count 2 ≤ 1 ∧ count 4 ≤ 1 ∧ count 6 ≤ 1) &&
    ((List.range 4).all fun o => (outFn b o != 2 || count 2 == 1) && (!outManual b o || count 4 == 1)) &&
    decide (brakes.map (outFeedback b)).Nodup

/-! Wires and inputs (R382). -/

/-- One sample of a wire at instant `t` of the channel's clock. -/
def SafeWire.sample (w : SafeWire) (external : Bool) (dark t : Nat) (r : Bool) : SafeWire :=
  if t < w.holdUntil then w
  else if w.fresh then { level := r, since := t, filtered := r, holdUntil := w.holdUntil }
  else if r = w.level then { w with dip := none }
  else if external && !r then
    let start := w.dip.getD t
    if dark < t - start then { w with level := false, since := start, dip := none } else { w with dip := some start }
  else { w with level := r, since := t, dip := none }

/-- The filtered state once the level has held for Filter. (log 12) -/
def SafeWire.settle (w : SafeWire) (filter t : Nat) : SafeWire :=
  if w.holdUntil ≤ t ∧ w.since + filter ≤ t then { w with filtered := w.level } else w

/-- A wire at the moment its set comes into force: the next sample shows its level then (log 12). -/
def SafeWire.start (w : SafeWire) (t : Nat) (r : Bool) : SafeWire := { level := r, since := t, filtered := r, holdUntil := w.holdUntil, fresh := true }

def activeA (_ : Nat) (f : Bool) : Bool := f
def activeB (kind : Nat) (f : Bool) : Bool := if kind = 2 then !f else f

/-- The wires of a kind give different answers. -/
def SafeIn.disagree (x : SafeIn) (kind : Nat) : Bool := kind != 0 && activeA kind x.a.filtered != activeB kind x.b.filtered

/-- v from the wires alone. -/
def SafeIn.wiresTrue (x : SafeIn) (kind : Nat) : Bool := kind != 0 && activeA kind x.a.filtered && activeB kind x.b.filtered

/-- The logical value v: false while a fault is latched. -/
def SafeIn.value (x : SafeIn) (kind : Nat) : Bool := x.fault == 0 && x.wiresTrue kind

/-- Bring an input up to instant `t` after its samples (R382, R384, R388). A contact that has just been filtered open has been open for its Filter (log 12).
`was` is v of the wires at the evaluation before, `began` the entry into STARTING: open time counts from there. -/
def SafeIn.step (x : SafeIn) (kind role filter discrepancy t began : Nat) (was judged : Bool) : SafeIn :=
  let x := { x with a := x.a.settle filter t, b := x.b.settle filter t }
  let x := { x with differ := if x.disagree kind then some (x.differ.getD t) else none }
  let x := if x.disagree kind || x.bad != 0 then { x with causeAt := t } else x
  let x := if (role = 4 ∨ role = 6) ∧ x.fault ≠ 0 ∧ x.causeAt + discrepancy ≤ t then { x with fault := 0 } else x
  let opened := judged && role == 1 && x.fault == 0 && !x.wiresTrue kind
  let start := if was then min t (min (if activeA kind x.a.filtered then t else x.a.since) (if activeB kind x.b.filtered then t else x.b.since)) else t
  let x := { x with openSince := if opened then some (max began (x.openSince.getD start)) else none }
  match x.openSince with
  | some s => if s + filter ≤ t then { x with trusted := true } else x
  | none => x

/-! A channel. -/

def SafeChan.inp (x : SafeChan) (i : Nat) : SafeIn := x.ins.getD i {}
def SafeChan.outp (x : SafeChan) (o : Nat) : SafeOut := x.outs.getD o {}
def SafeChan.params (x : SafeChan) : Bytes := x.set.getD (zeros 256)
def SafeChan.wiresV (x : SafeChan) (i : Nat) : Bool := (x.inp i).wiresTrue (inKind x.params i)
/-- v of an input. -/
def SafeChan.v (x : SafeChan) (i : Nat) : Bool := (x.inp i).value (inKind x.params i)
/-- v of the input that carries a role. -/
def SafeChan.roleV (x : SafeChan) (r : Nat) : Bool := match roleInput x.params r with | some i => x.v i | none => false

/-- Set a demand (R392): a de-energisation asks for an acknowledge, except one that only the request's end caused. -/
def SafeOut.drive (y : SafeOut) (on : Bool) (t : Nat) (manual excused : Bool) : SafeOut :=
  if y.demand = on then y
  else { y with demand := on, changedAt := t, settled := false, manual := y.manual || (manual && !on && !excused) }

/-- Every demand off. -/
def SafeChan.allOff (x : SafeChan) : SafeChan := { x with outs := x.outs.mapIdx fun o y => y.drive false x.clk (outManual x.params o) false }

/-- Every input of a mask is closed and trusted. -/
def SafeChan.doorsClosed (x : SafeChan) (mask : Nat) : Bool := (List.range 8).all fun i => !mask.testBit i || (x.v i && (x.inp i).trusted)

/-- The condition of an output (R389–R391); `outs` already holds the outputs evaluated before it. -/
def SafeChan.condition (x : SafeChan) (o : Nat) : Bool :=
  let b := x.params
  let y := x.outp o
  let ofFn := fun f => (List.range 4).filter fun k => outFn b k == f
  match outFn b o with
  | 1 => x.doorsClosed (outDoors b o) && (ofFn 2).all (fun k => !(x.outp k).demand) && (ofFn 3).all fun k => !(x.outp k).demand && (x.outp k).fault == 0
  | 2 => x.roleV 2 && x.v (outRequest b o) && y.seen
  | 3 => (x.outp (outLinked b o)).demand || !x.doorsClosed (outDoors b o)
  | _ => false

/-- Evaluate one output in RUNNING. -/
def SafeChan.evalOut (x : SafeChan) (o : Nat) : SafeChan :=
  let b := x.params
  let req := outRequest b o
  let x := if outFn b o = 2 ∧ !x.v req then { x with outs := updAt x.outs o fun y => { y with seen := true } } else x
  let y := x.outp o
  let on := x.condition o && y.fault == 0 && !y.restart && !y.manual
  let excused := outFn b o == 2 && x.roleV 2 && !x.v req && (x.inp req).fault == 0 && y.fault == 0
  { x with outs := updAt x.outs o fun y => y.drive on x.clk (outManual b o) excused }

/-- Releases first, then brakes, then traction (R389, R391). (log 60) -/
def SafeChan.evalOuts (x : SafeChan) : SafeChan :=
  let b := x.params
  ([2, 3, 1, 0].flatMap fun f => (List.range 4).filter fun o => outFn b o == f).foldl SafeChan.evalOut x

/-- An output fault: latched once, both drives off. -/
def SafeOut.fail (y : SafeOut) (code t : Nat) (manual : Bool) : SafeOut :=
  { (y.drive false t manual false) with fault := if y.fault = 0 then code else y.fault, causeAt := t }

/-- The readback checks of R386 on an output, both sides sensed; `n` and `m` conduct. (log 60) -/
def SafeOut.check (y : SafeOut) (n m : Bool) (t : Nat) (manual : Bool) : SafeOut :=
  if t < y.quietUntil ∨ t ≤ y.changedAt + 10000 then y
  else if !y.demand && (n || m) then (if y.fault = 0 then y.fail 0x10 t manual else { y with causeAt := t })
  else if y.demand && !(n && m) then y.fail 0x11 t manual
  else y

/-- The value of an input that the functions of R388 to R392 take: false in STARTING (R377). -/
def SafeChan.fnV (x : SafeChan) (i : Nat) : Bool := x.state != .starting && x.v i

/-- The feedback of a brake that has settled must keep its state (R391); while it shows the other state, the cause of a brake fault is present (R393). -/
def SafeChan.checkBrakes (x : SafeChan) : SafeChan :=
  { x with outs := x.outs.mapIdx fun o y =>
      if outFn x.params o ≠ 3 ∨ x.fnV (outFeedback x.params o) = y.demand then y
      else if y.fault = 0 then (if y.settled then y.fail 0x15 x.clk (outManual x.params o) else y)
      else if y.fault = 0x13 ∨ y.fault = 0x14 ∨ y.fault = 0x15 then { y with causeAt := x.clk } else y }

/-! Island states (R376–R381). -/

/-- Enter a state: in all but RUNNING every output is off. -/
def SafeChan.enter (x : SafeChan) (st : IslSt) : SafeChan :=
  let x := if st = .running then { x with outs := x.outs.map fun y => { y with seen := false } } else x.allOff
  { x with state := st, diffs := [], vote := none, applied := false }

/-- STARTING (R377, R393): an acknowledge pressed now counts as pressed beyond 3 s; the flag reports it. -/
def SafeChan.toStarting (x : SafeChan) (restart : Bool) : SafeChan × Bool :=
  let x := x.enter .starting
  let stuck := match roleInput x.params 4 with | some i => x.wiresV i | none => false
  ({ x with pulsed := 0, activeAt := x.clk, ack := if stuck then .stuck else .idle, outs := x.outs.map fun y => { y with restart := y.restart || restart } }, stuck)

/-- A set comes into force in a channel (R382). (log 12) -/
def SafeChan.take (x : SafeChan) (b : Bytes) : SafeChan :=
  { x with set := some b, pos := none, posAt := x.clk, heard := x.clk, due := 0
           ins := x.ins.mapIdx fun i y => { y with a := y.a.start x.clk (x.raw.getLsbD (2 * i)), b := y.b.start x.clk (x.raw.getLsbD (2 * i + 1)), differ := none } }

/-- Every set, trust bit and latched fault dropped, as at power-up. -/
def SafeChan.drop (x : SafeChan) : SafeChan := { on := x.on, clk := x.clk, raw := x.raw, readback := x.readback, seen := x.seen }

def SafeChan.stop (x : SafeChan) (reason : Nat) : SafeChan :=
  if x.state = .safeStop then x else { (x.enter .safeStop) with stopReason := reason }

/-- A configuration state (R376). -/
def SafeChan.configuring (x : SafeChan) : Bool := x.state == .unconfigured || x.state == .configuration

def SafeIsland.chan (s : SafeIsland) (n : Bool) : SafeChan := if n then s.nutmeg else s.mace
def SafeIsland.onChan (s : SafeIsland) (n : Bool) (f : SafeChan → SafeChan) : SafeIsland := if n then { s with nutmeg := f s.nutmeg } else { s with mace := f s.mace }
def SafeIsland.count (s : SafeIsland) (i : Nat) : SafeIsland := { s with counters := bump s.counters i }
/-- An acknowledge accepted or stuck (R393). -/
def SafeIsland.countAck (s : SafeIsland) (i : Nat) : SafeIsland := { (s.count i) with ackEvents := s.ackEvents + 1 }

/-- A channel enters STARTING; a stuck acknowledge is counted once, on Nutmeg's side. (log 62) -/
def SafeIsland.starting (s : SafeIsland) (n restart : Bool) : SafeIsland :=
  let (x, stuck) := (s.chan n).toStarting restart
  let s := s.onChan n fun _ => x
  if n && stuck then s.countAck sfAckStuck else s

/-- A channel enters HOLD on the loss of the link; the candidate is discarded. -/
def SafeIsland.holdOn (s : SafeIsland) (n : Bool) : SafeIsland :=
  let st := (s.chan n).state
  if st = .configuration ∨ st = .starting ∨ st = .running then
    let s := if (s.chan !n).state = .hold then s else s.count sfHolds
    let planned := if n then s.plannedHold else match s.mace.seen with | some f => f.plannedSleep | none => false
    { (s.onChan n fun x => x.enter .hold) with candidate := none, authorised := false, plannedHold := planned, holdFrom := if n then s.nextNumber else s.holdFrom }
  else s

/-! Evaluation every 250 µs (R382, R388–R393). -/

/-- The press of the acknowledge button (R393). (log 31) -/
def SafeIsland.evalAck (s : SafeIsland) (n : Bool) : SafeIsland :=
  let x := s.chan n
  match roleInput x.params 4 with
  | none => s
  | some i =>
    let set := fun (s : SafeIsland) (st : AckSt) => s.onChan n fun x => { x with ack := st }
    let now := x.clk
    match x.ack with
    | .stuck => if x.wiresV i then s else set s .idle
    | .idle => if x.state = .running ∧ x.v i then set s (.pressed now) else s
    | .pressed t =>
      if (x.inp i).fault ≠ 0 then set s .idle
      else if x.wiresV i then s
      else
        let d := now - t
        let s := set s .idle
        if d < 100000 then (if n then s.count sfAckShort else s)
        else if d ≤ 3000000 then s.onChan n fun x => { x with vote := some now, applied := false }
        else s

/-- A vote that the other channel has not matched lapses after 20 ms (log 31). -/
def SafeChan.lapse (x : SafeChan) : SafeChan :=
  match x.vote with
  | some t => if t + 20000 < x.clk ∧ !x.applied then { x with vote := none } else x
  | none => x

/-- What the other channel's frame shows, item by item, compared with the own values (R375). (log 62) -/
def SafeChan.differences (x : SafeChan) (f : SafeFrame) : List Nat :=
  ((List.range 8).filter fun i =>
    let g := f.ins.getD i (false, false, false, false, 0)
    x.v i != g.1 || (x.inp i).trusted != g.2.2.2.1 || (x.inp i).fault != g.2.2.2.2) ++
  ((List.range 4).filter fun o =>
    let g := f.outs.getD o (false, false, false, false, 0)
    (x.outp o).demand != g.1 || (x.outp o).fault != g.2.2.2.2).map (· + 8)

/-- The inputs an output's condition rests on (R389–R391). -/
def outInputs (b : Bytes) (o : Nat) : List Nat :=
  let doors := (List.range 8).filter fun i => (outDoors b o).testBit i
  let release := fun k => outRequest b k :: (roleInput b 2).toList
  match outFn b o with
  | 1 => doors ++ ((List.range 4).filter fun k => outFn b k == 2 || outFn b k == 3).flatMap fun k =>
      outRequest b k :: outFeedback b k :: (roleInput b 2).toList ++ (List.range 8).filter fun i => (outDoors b k).testBit i
  | 2 => release o
  | 3 => outFeedback b o :: doors ++ release (outLinked b o)
  | _ => []

/-- The larger Filter of the inputs that an item of `differences` concerns, µs (R375). (log 62) -/
def itemFilter (b : Bytes) (k : Nat) : Nat :=
  if k < 8 then inFilter b k else (outInputs b (k - 8)).foldl (fun m i => if i < 8 then max m (inFilter b i) else m) 0

/-- An island state in which a channel evaluates with valid frames (R375). -/
def IslSt.compared (st : IslSt) : Bool := st == .starting || st == .running || st == .configuration

/-- Cross-comparison: a difference that lasts longer than the larger Filter of the inputs concerned plus 3 ms is a disagreement. (log 62) -/
def SafeChan.compare (x : SafeChan) : SafeChan :=
  match x.seen with
  | none => x
  | some f =>
    if x.state.compared && f.state.compared then
      let d := (x.differences f).map fun k => (k, (x.diffs.lookup k).getD x.clk)
      let x := { x with diffs := d }
      if d.any fun p => decide (p.2 + itemFilter x.params p.1 + 3000 < x.clk) then x.stop 2 else x
    else { x with diffs := [] }

/-! The input round (R383). -/

/-- The input round position goes on by one (R383): the source whose pulse starts there is due. -/
def SafeChan.stepPos (x : SafeChan) : SafeChan :=
  let period := u16 x.params 0x22
  let p := match x.pos with | some p => (p + 1) % period | none => 0
  let unit := period / 16
  { x with pos := some p, posAt := x.clk, due := if p % unit = 0 ∧ p / unit < 16 then x.due ||| (1#16 <<< (p / unit)) else x.due }

/-- `n` positions on: every pulse on the way is due. -/
def SafeChan.stepBy (x : SafeChan) : Nat → SafeChan
  | 0 => x
  | n + 1 => x.stepPos.stepBy n

/-- A valid frame carries the position (R383): Mace goes on to it, past those of the frames it has missed. A frame of a Nutmeg without a set carries none. (log 59) -/
def SafeChan.followPos (x : SafeChan) (f : SafeFrame) : SafeChan :=
  let period := u16 x.params 0x22
  if x.set.isNone ∨ f.setId = 0 ∨ period ≤ f.inPos then x
  else
    let x := { x with heard := x.clk }
    match x.pos with
    | none => { x with pos := some ((f.inPos + period - 1) % period) }.stepPos
    | some p =>
      let n := (f.inPos + period - p % period) % period
      if 2 * n ≤ period then x.stepBy n else { x with pos := some ((f.inPos + period - 1) % period) }.stepPos

/-- Without valid frames Mace advances the position on its own clock every 1 ms (R383). (log 59) -/
def SafeChan.ownPos (x : SafeChan) : SafeChan :=
  if x.heard + 3000 ≤ x.clk then { (x.stepBy ((x.clk - x.posAt) / 1000)) with posAt := x.posAt + (x.clk - x.posAt) / 1000 * 1000 } else x

/-- CONFIGURATION is entered and left by the ConfigEnable key (R376, R398). (log 59) -/
def SafeIsland.evalKey (s : SafeIsland) (n : Bool) : SafeIsland :=
  let x := s.chan n
  match roleInput x.params 6 with
  | none => s
  | some i =>
    if x.state = .running ∧ x.v i ∧ ((roleInput x.params 2).isNone ∨ x.roleV 2) then s.onChan n fun x => x.enter .configuration
    else if x.state == .configuration && !x.v i && (match x.seen with | some f => !(f.ins.getD i (false, false, false, false, 0)).1 | none => false) then
      { (s.starting n true) with candidate := none, authorised := false }
    else s

/-- The acknowledge input's wires await their first sample under the set in force. (log 12) -/
def SafeChan.ackFresh (x : SafeChan) : Bool := match roleInput x.params 4 with | some i => (x.inp i).a.fresh || (x.inp i).b.fresh | none => false

/-- Pressed when the island enters STARTING, as the first sample shows (R393). (log 12) -/
def SafeIsland.ackHeld (s : SafeIsland) (n was : Bool) : SafeIsland :=
  let x := s.chan n
  if was && !x.ackFresh && x.state == .starting && x.ack == .idle && (match roleInput x.params 4 with | some i => x.wiresV i | none => false) then
    let s := s.onChan n fun x => { x with ack := .stuck }
    if n then s.countAck sfAckStuck else s
  else s

/-- SAFE_FUNCTION_EVAL in one channel: `samples` are the sixteen wires (SInA at bit 2n, SInB at 2n + 1) every 50 µs of the channel's clock since its
last evaluation; `rb` the readbacks now (SOnFN at bit 2n, SOnFM at 2n + 1). (log 59) -/
def SafeIsland.eval (s : SafeIsland) (n : Bool) (samples : List (BitVec 16)) (rb : BitVec 8) : SafeIsland :=
  if !(s.chan n).on then s
  else
    let x := s.chan n
    let b := x.params
    let was := x.ackFresh
    let wires := x.ins.mapIdx fun i y => y.wiresTrue (inKind b i)
    let x := samples.foldl (fun (x : SafeChan) r =>
      let t := x.clk + 50
      { x with
        clk := t, raw := r
        ins := x.ins.mapIdx fun i y =>
          let ext := inKind b i == 3
          { y with a := (y.a.sample ext (inDark b i) t (r.getLsbD (2 * i))).settle (inFilter b i) t
                   b := (y.b.sample ext (inDark b i) t (r.getLsbD (2 * i + 1))).settle (inFilter b i) t } }) x
    let x := { x with readback := rb }
    if x.set.isNone then s.onChan n fun _ => x
    else
      let x := if n then x else x.ownPos
      let t := x.clk
      let judged := x.state == .starting || x.state == .running
      let x := { x with
        ins := x.ins.mapIdx fun i y => y.step (inKind b i) (inRole b i) (inFilter b i) (inDiscrepancy b i) t x.activeAt (wires.getD i false) judged
        outs := x.outs.mapIdx fun o y => y.check (rb.getLsbD (2 * o)) (rb.getLsbD (2 * o + 1)) t (outManual b o) }
      let s := ((s.onChan n fun _ => x).ackHeld n was)
      let s := (s.evalKey n).evalAck n
      s.onChan n fun x => (if x.state = .running then x.checkBrakes.evalOuts else x.checkBrakes).lapse.compare

/-! The acknowledge takes effect (R392, R393). -/

/-- See log 31. -/
def SafeChan.acknowledge (x : SafeChan) : SafeChan :=
  let b := x.params
  let x := { x with
    ins := x.ins.mapIdx fun i (y : SafeIn) => if y.fault ≠ 0 ∧ y.causeAt + inFilter b i ≤ x.clk ∧ y.differ = none ∧ y.bad = 0 then { y with fault := 0 } else y
    outs := x.outs.map fun (y : SafeOut) => { y with fault := if y.fault ≠ 0 ∧ y.causeAt + 10000 ≤ x.clk then 0 else y.fault, restart := false } }
  { x with outs := x.outs.mapIdx fun o y => if x.condition o then { y with manual := false } else y }

/-! The link (R373–R375). -/

/-- The frame a channel sends. (log 58) -/
def SafeIsland.frame (s : SafeIsland) (n : Bool) (number : Nat) (slot : Option Nat) : SafeFrame :=
  let x := s.chan n
  { number := number, state := x.state, inPos := if n then s.inPos else x.pos.getD 0, outPos := s.outPos, slot := slot, ack := x.vote.isSome, ackState := x.ack, manuals := x.outs.map (·.manual), safeStop := x.state == .safeStop
    plannedSleep := n && s.plannedSleep, setId := (x.set.map setId).getD 0, check := (x.set.map setCheck).getD 0
    ins := (List.range 8).map fun i => let y := x.inp i; (x.v i, y.a.filtered, y.b.filtered, y.trusted, y.fault)
    outs := (List.range 4).map fun o => let y := x.outp o; (y.demand, x.readback.getLsbD (2 * o), x.readback.getLsbD (2 * o + 1), y.restart, y.fault) }

/-- Latched faults of the other channel are adopted (R375). -/
def SafeChan.adopt (x : SafeChan) (f : SafeFrame) : SafeChan :=
  { x with
    ins := x.ins.mapIdx fun i y =>
      let k := (f.ins.getD i (false, false, false, false, 0)).2.2.2.2
      let r := inRole x.params i
      if y.fault = 0 ∧ k ≠ 0 ∧ r ≠ 4 ∧ r ≠ 6 then { y with fault := k, causeAt := x.clk } else y
    outs := x.outs.mapIdx fun o y =>
      let k := (f.outs.getD o (false, false, false, false, 0)).2.2.2.2
      if y.fault = 0 ∧ k ≠ 0 then { (y.fail k x.clk (outManual x.params o)) with causeAt := 0 } else y }

/-- Trust bits, latched faults and restart latches of Mace taken over (R378). (log 62) -/
def SafeChan.takeOver (x : SafeChan) (f : SafeFrame) : SafeChan :=
  { x with
    ins := x.ins.mapIdx fun i y => let g := f.ins.getD i (false, false, false, false, 0); { y with trusted := g.2.2.2.1, fault := g.2.2.2.2 }
    outs := x.outs.mapIdx fun o y => let g := f.outs.getD o (false, false, false, false, 0); { y with restart := g.2.2.2.1, fault := g.2.2.2.2, manual := f.manuals.getD o false } }

/-- NUTMEG_FRAME_TIMER: the frame goes out, the round positions advance with it (R373, R383, R387). (log 58) -/
def SafeIsland.nutmegSend (s : SafeIsland) (now : Nat) : SafeIsland :=
  if !s.nutmeg.on || s.farewell == some 0 then s
  else
    let b := s.nutmeg.params
    let held := s.nutmeg.set.isSome
    let unit := u16 b 0x26 / 8
    let slot := if held ∧ s.outPos % unit = 0 ∧ s.outPos / unit < 8 then some (s.outPos / unit) else none
    let f := s.frame true s.nextNumber slot
    { s with
      toMace := some f, slot := slot, nextNumber := (s.nextNumber + 1) % 65536, sent := (s.nextNumber, now) :: s.sent.filter (fun p => decide (now ≤ p.2 + 2000000))
      inPos := if held then (s.inPos + 1) % u16 b 0x22 else 0, outPos := if held then (s.outPos + 1) % u16 b 0x26 else 0
      plannedSent := if s.plannedSleep then s.plannedSent + 1 else 0
      farewell := s.farewell.map (· - 1), nutmeg := if s.farewell == some 1 then { s.nutmeg with on := false } else s.nutmeg }

/-- A valid frame of Nutmeg in Mace (R375, R378–R380). -/
def SafeIsland.maceTake (s : SafeIsland) (f : SafeFrame) : SafeIsland :=
  let s := s.onChan false fun x => { x with seen := some f }.followPos f
  let x := s.mace
  if f.safeStop then s.onChan false fun x => x.stop 6
  else if x.set.isNone then s
  else if x.state = .hold then
    if f.setId = 0 then s else s.starting false !s.plannedHold
  else if f.state = .hold ∧ (x.state = .running ∨ x.state = .configuration) then s.starting false true
  else
    let s := s.onChan false fun x => x.adopt f
    if f.ack && s.mace.vote.isSome && !s.mace.applied then s.onChan false fun x => { x.acknowledge with applied := true }
    else if !f.ack && s.mace.applied then s.onChan false fun x => { x with vote := none, applied := false }
    else s

/-- MACE_FRAME_RX (R373, R374): `good` says that the frame's CRC passes. Mace answers every such frame. -/
def SafeIsland.maceRx (s : SafeIsland) (good : Bool) : SafeIsland :=
  match s.toMace with
  | none => s
  | some f =>
    let s := { s with toMace := none }
    if !s.mace.on then s
    else if !good then { s.count sfLinkErrors with missed := true }
    else
      let step := match s.last with | some l => (f.number + 65536 - l) % 65536 | none => 0
      let skipped := step == 2
      let valid := step == 1 || skipped
      let s := if !valid || (skipped && !s.missed) then s.count sfLinkErrors else s
      let s := { s with last := some f.number, missed := false }
      let s := if valid then s.maceTake f else s
      { s with toNutmeg := some (s.frame false f.number none) }

/-- A valid answer in Nutmeg (R375, R378–R380). -/
def SafeIsland.nutmegTake (s : SafeIsland) (f : SafeFrame) : SafeIsland :=
  let s := s.onChan true fun x => { x with seen := some f }
  let x := s.nutmeg
  if f.state = .unconfigured ∧ (x.set.isSome ∨ x.state = .hold ∨ x.state = .safeStop) then
    { (s.onChan true fun x => x.drop) with redeliver := true, candidate := none, authorised := false }
  else if f.safeStop then s.onChan true fun x => x.stop 6
  else if x.set.isNone then (if f.state = .hold ∧ x.state ≠ .hold then (s.onChan true fun x => { x with state := .hold }).count sfHolds else s)
  else if x.state = .hold then
    if f.state = .starting ∧ (f.number + 65536 - s.holdFrom) % 65536 < 32768 then (s.onChan true fun x => x.takeOver f).starting true false else s
  else if f.state = .hold ∧ (x.state = .running ∨ x.state = .configuration) then s.starting true true
  else
    let s := s.onChan true fun x => x.adopt f
    if f.ack && s.nutmeg.vote.isSome then (s.onChan true fun x => { x.acknowledge with vote := none, applied := false }).countAck sfAcks else s

/-- NUTMEG_ANSWER_RX (R374). -/
def SafeIsland.nutmegRx (s : SafeIsland) (good : Bool) (now : Nat) : SafeIsland :=
  match s.toNutmeg with
  | none => s
  | some f =>
    let s := { s with toNutmeg := none }
    if !s.nutmeg.on then s
    else if good && s.sent.any (fun p => p.1 == f.number && decide (now ≤ p.2 + 2000000)) then s.nutmegTake f
    else s.count sfLinkErrors

/-- LOCKSTEP_MISMATCH (R375): the N sides off, SafeStop in three further frames, then Nutmeg stops. -/
def SafeIsland.lockstep (s : SafeIsland) : SafeIsland :=
  if s.nutmeg.on ∧ s.nutmeg.state ≠ .safeStop then { (s.onChan true fun x => x.stop 1) with farewell := some 3 } else s

/-- MACE_CLOCK_MEASURE (R375): 8,000 of Mace's cycles measured, in ns. -/
def SafeIsland.clockMeasure (s : SafeIsland) (interval : Nat) : SafeIsland :=
  if !s.nutmeg.on then s
  else if 850000 ≤ interval ∧ interval ≤ 1150000 then { s with clockBad := 0 }
  else
    let s := { s with clockBad := s.clockBad + 1 }
    if 2 ≤ s.clockBad then s.onChan true fun x => x.stop 4 else s

/-! Faults by test and by time (R382, R383, R386, R387, R391). -/

def SafeIn.fail (y : SafeIn) (code t : Nat) : SafeIn := { y with fault := if y.fault = 0 then code else y.fault, causeAt := t }

/-- DISCREPANCY_TIMEOUT in one channel. -/
def SafeChan.discrepancy (x : SafeChan) (i : Nat) : SafeChan :=
  { x with ins := updAt x.ins i fun y => if x.set.isSome ∧ y.differ.isSome then y.fail 0x01 x.clk else y }

/-- What one channel's samples show of a pulse of source `j`: `low` the wires that read low, the own one in its window, the others at any time. (log 61) -/
def SafeChan.judgePulse (x : SafeChan) (j : Nat) (low : BitVec 16) : SafeChan :=
  let b := x.params
  let t := x.clk
  let own := j / 2
  let wire := fun (i w : Nat) => let y := x.inp i; if w % 2 = 0 then y.a else y.b
  let closed := (wire own j).filtered
  let notSeen := closed && !low.getLsbD j
  let crossed := (List.range 16).filter fun w => w != j && inKind b (w / 2) != 0 && x.raw.getLsbD w && low.getLsbD w
  let judge := fun (i : Nat) (y : SafeIn) =>
    let cross := crossed.any (fun w => w / 2 == i) || (i == own && !crossed.isEmpty)
    let failed := cross || (i == own && notSeen)
    let y := { y with bad := if failed then y.bad ||| (1#16 <<< j) else if i = own ∧ !closed then y.bad else y.bad &&& ~~~(1#16 <<< j) }
    if failed then y.fail (if cross then 0x03 else 0x02) t else y
  let x := { x with pulsed := x.pulsed ||| (1#16 <<< j), ins := x.ins.mapIdx judge }
  let until_ := t + u16 b 0x20 + 200
  { x with ins := updAt x.ins own fun y => if j % 2 = 0 then { y with a := { y.a with holdUntil := until_ } } else { y with b := { y.b with holdUntil := until_ } } }

/-- The level of test source `j` outside its pulses (R383): none while the companion supply is absent. -/
def SafeIsland.sourceLevel (s : SafeIsland) (j : Nat) : Option Bool :=
  let k := inKind s.mace.params (j / 2)
  if !s.mace.on then none else some (s.mace.set.isSome && (k == 1 || k == 2))

/-- Test source `j` is one that Mace pulses now: its input is of kind 1 or 2, and its place in the round has come (R383). (log 59) -/
def SafeIsland.pulsesSource (s : SafeIsland) (j : Nat) : Bool := decide (j < 16) && s.sourceLevel j == some true && s.mace.due.getLsbD j

/-- INPUT_TEST_PULSE (R383): Mace pulses source `j`; what Nutmeg's and Mace's samples show of the pulse. (log 61) -/
def SafeIsland.testPulse (s : SafeIsland) (j : Nat) (lowN lowM : BitVec 16) : SafeIsland :=
  if !s.pulsesSource j then s
  else
    let s := (s.onChan false fun x => { x with due := x.due &&& ~~~(1#16 <<< j) }.judgePulse j lowM).count sfInputPulses
    if s.nutmeg.on && s.nutmeg.set.isSome then s.onChan true fun x => x.judgePulse j lowN else s

/-- The slot `k` pulses its output: its channel runs, its frame names the slot, the output is tested and energised. (log 59) -/
def SafeIsland.pulses (s : SafeIsland) (k : Nat) : Bool :=
  let o := k / 2
  let owner := s.chan (k % 2 == 0)
  let named := if k % 2 = 0 then s.slot else s.mace.seen.bind fun f => f.slot
  decide (k < 8) && owner.on && owner.state == .running && named == some k && outOffPulse owner.params o && (s.nutmeg.outp o).demand && (s.mace.outp o).demand

/-- OFF_PULSE_SLOT (R386, R387): slot `k` pulses the N side (even) or the M side of its output. `opened` says that the pulsed side was seen open in its
window, `other` that the other side went on conducting, `back` that the pulsed side conducted again within 1 ms,
each as the readbacks show it to either channel, which judges by its own; the other one adopts a fault from the next frame (R375). (log 59) -/
def SafeIsland.offPulse (s : SafeIsland) (k : Nat) (opened other back : BothSee) : SafeIsland :=
  let o := k / 2
  if !s.pulses k then s
  else
    let code := fun (see : BothSee → Bool) => if !see opened || !see other then 0x12 else if !see back then 0x11 else 0
    let quiet := fun (x : SafeChan) (y : SafeOut) => { y with quietUntil := x.clk + u16 x.params 0x24 + 10000 }
    let hit := fun (code : Nat) (x : SafeChan) (y : SafeOut) => if code = 0 then quiet x y else (quiet x y).fail code x.clk (outManual x.params o)
    let judge := fun (code : Nat) (x : SafeChan) => { x with outs := updAt x.outs o (hit code x) }
    ((s.onChan true (judge (code BothSee.nutmeg))).onChan false (judge (code BothSee.mace))).count sfOffPulses

/-- BRAKE_FEEDBACK_DEADLINE in one channel (R391). -/
def SafeChan.brakeDeadline (x : SafeChan) (o : Nat) : SafeChan :=
  let b := x.params
  if x.set.isSome ∧ outFn b o = 3 then
    { x with outs := updAt x.outs o fun y =>
        if y.settled ∨ y.fault ≠ 0 then y
        else if x.fnV (outFeedback b o) = y.demand then { y with settled := true }
        else y.fail (if y.demand then 0x14 else 0x13) x.clk (outManual b o) }
  else x

/-- ACK_STUCK_TIMEOUT in one channel (R393). -/
def SafeIsland.ackStuck (s : SafeIsland) (n : Bool) : SafeIsland :=
  match (s.chan n).ack with
  | .pressed _ => let s := s.onChan n fun x => { x with ack := .stuck }; if n then s.countAck sfAckStuck else s
  | .idle | .stuck => s

/-- STARTING_COMPLETE in one channel (R377): the check value, the comparison of the sets, a full round of test pulses, every switch open. -/
def SafeIsland.startingComplete (s : SafeIsland) (n checkOk : Bool) : SafeIsland :=
  let x := s.chan n
  let b := x.params
  let round := (List.range 16).all fun j => !(inKind b (j / 2) == 1 || inKind b (j / 2) == 2) || x.pulsed.getLsbD j
  if x.state ≠ .starting then s
  else if !checkOk then s.onChan n fun x => x.stop 5
  else if s.nutmeg.set ≠ s.mace.set then s.onChan n fun x => x.stop 3
  else if !round then s
  else s.onChan n fun x =>
    let outs := x.outs.mapIdx fun o y => if x.readback.getLsbD (2 * o) || x.readback.getLsbD (2 * o + 1) then y.fail 0x10 x.clk (outManual b o) else y
    SafeChan.enter { x with outs := outs } .running

/-! Power and delivery (R376, R378, R379, R394, R397). -/

/-- COMPANION_POWER_UP. (log 62) -/
def SafeIsland.companionUp (s : SafeIsland) : SafeIsland :=
  if s.mace.on then s else { s with mace := { on := true }, last := none, missed := false, toNutmeg := none }

/-- COMPANION_SUPPLY_LOW: the M sides are off at once. -/
def SafeIsland.companionDown (s : SafeIsland) : SafeIsland := { s with mace := {}, toNutmeg := none }

/-- A start of the main die: Nutmeg comes up without a set. (log 62) (log 63) -/
def SafeIsland.nutmegUp (s : SafeIsland) : SafeIsland :=
  { s with nutmeg := { on := true }, nextNumber := 0, sent := [], inPos := 0, outPos := 0, toMace := none, plannedSleep := false, plannedSent := 0, farewell := none, clockBad := 0
           redeliver := false, candidate := none, stage := [], authorised := false, counters := List.replicate 10 0 }

/-- The main die loses power or is reset: the N sides are off. -/
def SafeIsland.nutmegDown (s : SafeIsland) : SafeIsland := { s with nutmeg := {}, toMace := none, candidate := none, authorised := false }

/-- A set goes into both channels, which enter STARTING (R397, R398). -/
def SafeIsland.load (s : SafeIsland) (b : Bytes) (restart : Bool) : SafeIsland :=
  let s := (s.onChan false fun x => x.take b).onChan true fun x => x.take b
  { ((s.starting false restart).starting true restart) with toNutmeg := none }

/-- The delivery of B09 (R379, R397). -/
def SafeIsland.deliver (s : SafeIsland) : SafeIsland :=
  if !s.mace.on || !s.nutmeg.on then { s with withhold := false }
  else if s.withhold then
    let s := { s with withhold := false }
    if s.mace.state = .hold then (s.onChan false fun x => x.drop).onChan true fun x => x.drop else s
  else match s.stored with
    | none => s
    | some b =>
      if s.mace.state = .hold then
        if s.mace.set = some b then
          let f := s.frame false 0 none
          let planned := s.plannedHold
          let s := s.onChan true fun x => (x.take b).takeOver f
          (s.starting false !planned).starting true !planned
        else (s.onChan false fun x => x.stop 3).onChan true fun x => x.stop 3
      else if s.mace.state = .unconfigured ∧ s.nutmeg.state = .unconfigured ∧ paramsOk b then s.load b false
      else s

end Sys2Proof.Machine
end

