-- ==== Sys2Proof/Machine/SafeCmd.lean ====
section
/-! DEFINITION. The safety island in the block: its events and counters, its rows, and the commands of R401. -/
namespace Sys2Proof.Machine

/-! Events (R402) and the change log (R400). -/

/-- The fault code of an input or an output of the island: the first channel's that holds one. -/
def SafeIsland.inFault (s : SafeIsland) (i : Nat) : Nat := if (s.nutmeg.inp i).fault ≠ 0 then (s.nutmeg.inp i).fault else (s.mace.inp i).fault
def SafeIsland.outFault (s : SafeIsland) (o : Nat) : Nat := if (s.nutmeg.outp o).fault ≠ 0 then (s.nutmeg.outp o).fault else (s.mace.outp o).fault
/-- Both channels demand the output on. -/
def SafeIsland.energised (s : SafeIsland) (o : Nat) : Bool := (s.nutmeg.outp o).demand && (s.mace.outp o).demand
/-- In a configuration state (R376). -/
def SafeIsland.configuring (s : SafeIsland) : Bool := s.nutmeg.on && s.mace.on && s.nutmeg.configuring && s.mace.configuring

/-- The states that firmware observes: Nutmeg's own, and Mace's as Mace's last valid frame shows it (R376). -/
def SafeIsland.observed (s : SafeIsland) : IslSt × IslSt := (s.nutmeg.state, match s.nutmeg.seen with | some f => f.state | none => .unconfigured)

/-- An event of R402: firmware raises it, so none is raised while firmware does not run. -/
def Chip.fwRaise (c : Chip) (e kind arg detail : Nat) : Chip := if c.firmware then c.raiseD e kind arg detail else c

def Chip.safeSet (c : Chip) (s : SafeIsland) : Chip := { c with safe := s }

/-- A change-log record (R400). (log 63) -/
def Chip.safeLog (c : Chip) (kind result setId check prev : Nat) : Chip :=
  let s := c.safe
  let bs := le 4 s.logSeq ++ le 1 kind ++ le 1 result ++ zeros 2 ++ le 6 (c.log.opTime c.clk.now) ++ zeros 2 ++ le 4 c.log.powerCycles ++ le 4 setId ++ le 4 check ++ le 4 prev
  let held := s.log ++ [bs]
  (c.safeSet { s with log := held.drop (held.length - 256), logSeq := next32 s.logSeq }).fwRaise 103 0 0xFFFF 0

/-- A fault appears, changes or clears: its event and, when set, its count. -/
def Chip.faultEvent (c : Chip) (ev port counter old new : Nat) : Chip :=
  if old = new then c
  else if new = 0 then c.fwRaise ev 1 port old
  else (c.safeSet (c.safe.count counter)).fwRaise ev 1 port new

/-- A drive of an output changes. -/
def Chip.driveEvent (c : Chip) (o : Nat) (nSide old new : Bool) : Chip := if old = new then c else c.emit (.safeOut o nSide new)

/-- The level of a test source changes (R383). -/
def Chip.sourceEvent (c : Chip) (j : Nat) (old new : Option Bool) : Chip := if old = new then c else c.emit (.testSource j new)

/-- What one action of the island shows: test sources, drives, states, outputs, faults, trust, acknowledges (R402). (log 62) -/
def Chip.safeEvents (c : Chip) (s : SafeIsland) : Chip :=
  let n := c.safe
  let c := (List.range 16).foldl (fun c j => c.sourceEvent j (s.sourceLevel j) (n.sourceLevel j)) c
  let c := (List.range 4).foldl (fun c o =>
    (c.driveEvent o true (s.nutmeg.outp o).demand (n.nutmeg.outp o).demand).driveEvent o false (s.mace.outp o).demand (n.mace.outp o).demand) c
  let c := if s.observed.1 = n.observed.1 then c else c.fwRaise 96 0 0xFFFF 0
  let c := if s.observed.2 = n.observed.2 then c else c.fwRaise 96 0 0xFFFF 0
  let stopped := fun (x : SafeIsland) => x.nutmeg.state == .safeStop || x.mace.state == .safeStop
  let c := if stopped n && !stopped s then c.fwRaise 100 0 0xFFFF (if n.nutmeg.state = .safeStop then n.nutmeg.stopReason else n.mace.stopReason) else c
  let c := (List.range 4).foldl (fun c o =>
    let c := if s.energised o = n.energised o then c else c.fwRaise 97 1 (56 + o) (b2n (n.energised o))
    c.faultEvent 99 (56 + o) sfOutputFaults (s.outFault o) (n.outFault o)) c
  let c := (List.range 8).foldl (fun c i =>
    let c := c.faultEvent 98 (48 + i) sfInputFaults (s.inFault i) (n.inFault i)
    if (n.mace.inp i).trusted && !(s.mace.inp i).trusted then c.fwRaise 102 1 (48 + i) 0 else c) c
  if s.ackEvents < n.ackEvents then c.fwRaise 101 0 0xFFFF 0 else c

/-- One action of the island, with its events; a candidate it discards is logged, and a candidate and authorisation end with the configuration state (R26, R398, R399). -/
def Chip.onSafe (c : Chip) (f : SafeIsland → SafeIsland) : Chip :=
  let s := c.safe
  let n := f s
  let n := if n.configuring then n else { n with candidate := none }
  let c := (c.safeSet { n with authorised := n.authorised && n.configuring }).safeEvents s
  match s.candidate, n.candidate with
  | some b, none => c.safeLog 6 0 (setId b) (setCheck b) (match n.mace.set with | some x => setCheck x | none => 0)
  | _, _ => c

/-! Rows. -/

def nutmegFrameTimer (c : Chip) : Chip := c.onSafe fun s => s.nutmegSend c.clk.now
/-- See log 58. -/
def maceFrameRx (good : Bool) (c : Chip) : Chip := c.onSafe fun s => s.maceRx good

/-- NUTMEG_ANSWER_RX; a companion die that came up alone gets the stored set at once while firmware runs (R378). (log 58) -/
def nutmegAnswerRx (good : Bool) (c : Chip) : Chip :=
  let c := c.onSafe fun s => s.nutmegRx good c.clk.now
  if c.safe.redeliver && c.firmware then c.onSafe fun s => { s with redeliver := false }.deliver else c

/-- MACE_LINK_TIMEOUT, NUTMEG_LINK_TIMEOUT (R33, R373). -/
def linkTimeout (nutmeg : Bool) (c : Chip) : Chip := if (c.safe.chan nutmeg).on then c.onSafe fun s => s.holdOn nutmeg else c
def lockstepMismatch (c : Chip) : Chip := c.onSafe SafeIsland.lockstep
def maceClockMeasure (interval : Nat) (c : Chip) : Chip := c.onSafe fun s => s.clockMeasure interval
/-- See log 59. -/
def safeFunctionEval (nutmeg : Bool) (samples : List (BitVec 16)) (rb : BitVec 8) (c : Chip) : Chip := c.onSafe fun s => s.eval nutmeg samples rb
def discrepancyTimeout (nutmeg : Bool) (i : Nat) (c : Chip) : Chip := c.onSafe fun s => s.onChan nutmeg fun x => x.discrepancy i
/-- See log 59. -/
def inputTestPulse (j : Nat) (lowN lowM : BitVec 16) (c : Chip) : Chip :=
  let c := if c.safe.pulsesSource j then c.emits [.testSource j (some false), .testSource j (some true)] else c
  c.onSafe fun s => s.testPulse j lowN lowM
/-- OFF_PULSE_SLOT; the drive goes off and on again. (log 59) -/
def offPulseSlot (k : Nat) (opened other back : BothSee) (c : Chip) : Chip :=
  let n := c.safe.offPulse k opened other back
  let c := if !c.safe.pulses k then c else (c.emit (.safeOut (k / 2) (k % 2 == 0) false)).emit (.safeOut (k / 2) (k % 2 == 0) true)
  c.onSafe fun _ => n
def brakeFeedbackDeadline (nutmeg : Bool) (o : Nat) (c : Chip) : Chip := c.onSafe fun s => s.onChan nutmeg fun x => x.brakeDeadline o
def ackStuckTimeout (nutmeg : Bool) (c : Chip) : Chip := c.onSafe fun s => s.ackStuck nutmeg
def startingComplete (nutmeg checkOk : Bool) (c : Chip) : Chip := c.onSafe fun s => s.startingComplete nutmeg checkOk
/-- COMPANION_POWER_UP: not while Clove asserts the power-down input (R408). -/
def companionPowerUp (c : Chip) : Chip := if c.clove.companionOff then c else c.onSafe SafeIsland.companionUp
def companionSupplyLow (c : Chip) : Chip := c.onSafe SafeIsland.companionDown
def passwordLockoutExpiry (c : Chip) : Chip := c.onSafe fun s => { s with lockout := false }
def authorisationExpiry (c : Chip) : Chip := c.onSafe fun s => { s with authorised := false }

/-! Passwords (R399). -/

/-- Form of a password field at an offset: length, reserved bytes, characters, and zeros behind them. (log 14, log 64) -/
def passwordForm (r : Bytes) (o : Nat) : List Check :=
  let n := u8 r o
  [rsv r (o + 1) 3, (if isZero (slice r (o + 4 + min n 16) (16 - min n 16)) then none else some (0x03, o + 4 + min n 16)), rng (decide (8 ≤ n ∧ n ≤ 16)) o,
   rng ((slice r (o + 4) (min n 16)).all fun b => decide (0x21 ≤ b.toNat ∧ b.toNat ≤ 0x7E)) (o + 4)]

def passwordAt (r : Bytes) (o : Nat) : Bytes := slice r (o + 4) (u8 r o)

/-- The password given is the one set. -/
def SafeIsland.passwordIs (s : SafeIsland) (pw : Bytes) : Bool :=
  match s.password with
  | some (salt, digest) => (Config.pbkdf2 salt pw).toNat == digest
  | none => false

/-- Judge a password: none when it is right; otherwise the chip after the refusal, five wrong ones in a row leading to lockout. (log 63) -/
def Chip.judgePassword (c : Chip) (pw : Bytes) : Bool × Chip :=
  let s := c.safe
  if s.lockout || s.password.isNone then (false, c)
  else if s.passwordIs pw then (true, c.safeSet { s with wrong := 0 })
  else
    let s : SafeIsland := { (s.count sfAuthFailures) with wrong := s.wrong + 1 }
    if 5 ≤ s.wrong then (false, (c.safeSet { s with wrong := 0, lockout := true }).safeLog 7 0x0D 0 0 ((s.mace.set.map setCheck).getD 0))
    else (false, c.safeSet s)

/-! Commands (R401). -/

def SafeIsland.shown (s : SafeIsland) : Option SafeFrame := s.nutmeg.seen
def stateCode (st : IslSt) : Nat :=
  match st with | .unconfigured => 0 | .configuration => 1 | .starting => 2 | .running => 3 | .hold => 4 | .safeStop => 5
def ackCode (a : AckSt) : Nat := match a with | .idle => 0 | .pressed _ => 1 | .stuck => 2
def maskOf (n : Nat) (f : Nat → Bool) : Nat := (List.range n).foldl (fun acc i => acc + b2n (f i) * 2 ^ i) 0

def safeStatus : Cmd where
  form := noReq
  act c _ :=
    let s := c.safe
    let set := match s.nutmeg.set with | some b => some b | none => s.mace.set
    let flags := maskOf 6 fun i => [set.any setSleepActive, s.password.isSome, s.lockout, s.candidate.isSome, s.authorised, s.withhold].getD i false
    c.ok (le 1 (stateCode s.nutmeg.state) ++ le 1 (match s.shown with | some f => stateCode f.state | none => 0) ++ le 1 flags ++ le 1 s.nutmeg.stopReason ++
      le 4 ((set.map setId).getD 0) ++ le 4 ((set.map setCheck).getD 0) ++ le 4 ((s.candidate.map setId).getD 0) ++ le 1 (maskOf 8 fun i => (s.nutmeg.inp i).trusted) ++
      le 1 (ackCode s.nutmeg.ack) ++ le 2 (match s.shown with | some f => f.number | none => 0))

/-- The input word of R401. -/
def SafeIsland.inputWord (s : SafeIsland) (i : Nat) : Nat :=
  let x := s.nutmeg
  let y := x.inp i
  let r := inRole x.params i
  let code := if y.fault ≠ 0 then y.fault else if roleInput x.params 4 = some i ∧ x.ack = .stuck then 0x20 else 0
  let vM := match s.shown with | some f => (f.ins.getD i (false, false, false, false, 0)).1 | none => false
  code * 2 ^ 24 + b2n (y.fault != 0 && r != 4 && r != 6) * 32 + b2n y.trusted * 16 + b2n y.b.filtered * 8 + b2n y.a.filtered * 4 + b2n vM * 2 + b2n (x.v i)

/-- The output word of R401. -/
def SafeIsland.outputWord (s : SafeIsland) (o : Nat) : Nat :=
  let x := s.nutmeg
  let y := x.outp o
  let dM := match s.shown with | some f => (f.outs.getD o (false, false, false, false, 0)).1 | none => false
  y.fault * 2 ^ 24 + b2n (y.fault != 0) * 32 + b2n (y.restart || y.manual) * 16 + b2n (x.readback.getLsbD (2 * o + 1)) * 8 + b2n (x.readback.getLsbD (2 * o)) * 4 +
    b2n dM * 2 + b2n y.demand

def safeIoStatus : Cmd where
  form := noReq
  act c _ := c.ok ((List.range 8).flatMap (fun i => le 4 (c.safe.inputWord i)) ++ (List.range 4).flatMap fun o => le 4 (c.safe.outputWord o))

def safeParamStage : Cmd where
  form _ r := [lenData r 4 (u16 r 2), rng (decide (u16 r 2 ≤ 256)) 2, rng (decide (u16 r 0 + u16 r 2 ≤ 256)) 0]
  state c _ := [need c.safe.authorised 0x0D]
  act c r := (c.safeSet { c.safe with stage := c.safe.stage.write (u16 r 0) (r.drop 4) }).ok

/-- See log 64. -/
def safeParamCommit : Cmd where
  form := noReq
  state c _ := [need c.safe.configuring 0x05, need (paramsOk (c.safe.stage.read 0 256)) 0x0C, need c.safe.authorised 0x0D]
  act c _ :=
    let b := c.safe.stage.read 0 256
    let prev := (c.safe.mace.set.map setCheck).getD 0
    ((c.safeSet { c.safe with candidate := some b }).safeLog 4 0 (setId b) (setCheck b) prev).ok (le 4 (setId b) ++ le 4 (setCheck b))

def safeParamRead : Cmd where
  form _ r := [lenIs r 4, enc (decide (u8 r 0 ≤ 1)) 0, rsv r 1 3]
  state c r := [need (if u8 r 0 = 0 then c.safe.mace.set.isSome else c.safe.candidate.isSome) 0x06]
  act c r := c.ok ((if u8 r 0 = 0 then c.safe.mace.set else c.safe.candidate).getD [])

/-- See log 63. -/
def safeConfigEnter : Cmd where
  form _ r := [lenIs r 24, enc (decide (u8 r 0 ≤ 1)) 0, rsv r 1 3] ++ passwordForm r 4
  state c r := [need (u8 r 0 == 1 || c.safe.configuring) 0x06]
  act c r :=
    match c.judgePassword (passwordAt r 4) with
    | (false, c) => c.refuse 0x0D
    | (true, c) =>
      if u8 r 0 = 1 then (c.safeSet { c.safe with withhold := true }).ok
      else ((c.safeSet { c.safe with authorised := true }).safeLog 3 0 0 0 ((c.safe.mace.set.map setCheck).getD 0)).ok

/-- See log 64. -/
def safeParamConfirm : Cmd where
  form _ r := [lenIs r 28] ++ passwordForm r 8
  state c r := [need (c.safe.candidate.isSome && c.safe.configuring) 0x06, (match c.safe.candidate with
    | some b => if setId b ≠ u32 r 0 then some (0x04, 0) else if setCheck b ≠ u32 r 4 then some (0x04, 4) else none
    | none => none)]
  act c r :=
    match c.safe.candidate, c.judgePassword (passwordAt r 8) with
    | some b, (true, c) =>
      let s := c.safe
      let prev := (s.mace.set.map setCheck).getD 0
      let n := { s with stored := some b, candidate := none }
      let n := if s.nutmeg.state = .unconfigured then n.load b true else (n.onChan false fun x => x.take b).onChan true fun x => x.take b
      let seq := s.logSeq
      (((c.safeSet { n with authorised := n.authorised && n.configuring }).safeEvents s).safeLog 5 0 (setId b) (setCheck b) prev).ok (le 4 seq)
    | _, (_, c) => c.refuse 0x0D

def safeConfigLeave : Cmd where
  form := noReq
  state c _ := [need c.safe.candidate.isSome 0x06]
  act c _ := (c.onSafe fun s => { s with candidate := none }).ok

def safePasswordSet : Cmd where
  form c r :=
    [lenIs r 40] ++ (if c.safe.password.isNone && isZero (r.take 20) then [] else passwordForm r 0) ++ passwordForm r 20
  act c r :=
    let old := c.safe.password.isSome
    let (ok, c) := if old then c.judgePassword (passwordAt r 0) else (isZero (r.take 20) && !c.safe.lockout, c)
    if !ok then c.refuse 0x0D
    else
      let (salt, c) := c.drawBytes 16
      let seq := c.safe.logSeq
      ((c.safeSet { c.safe with password := some (salt, (Config.pbkdf2 salt (passwordAt r 20)).toNat) }).safeLog (if old then 2 else 1) 0 0 0
        ((c.safe.mace.set.map setCheck).getD 0)).ok (le 4 seq)

def safeLogRead : Cmd where
  form _ r := [lenIs r 8, rsv r 5 3, rng (decide (1 ≤ u8 r 4 ∧ u8 r 4 ≤ 15)) 4]
  act c r :=
    let from_ := u32 r 0
    let held := if from_ = 0 then c.safe.log else c.safe.log.filter fun b => decide (from_ ≤ u32 b 0)
    let got := held.take (u8 r 4)
    let next := match got.getLast? with | some b => next32 (u32 b 0) | none => c.safe.logSeq
    c.ok (le 1 got.length ++ zeros 3 ++ le 4 next ++ got.flatten)

def safeCounters : Cmd where
  form := noReq
  act c _ := (c.safeSet { c.safe with counters := List.replicate 10 0 }).ok (cntBytes c.safe.counters)

end Sys2Proof.Machine
end

