-- ==== Sys2Proof/Machine/Saffron.lean ====
section
/-! DEFINITION. Saffron (R148–R177): the hop measurement, the time tree, the external reference, cycle event points and the time commands. -/
namespace Sys2Proof.Machine

def Saffron.tile (s : Saffron) (p : Nat) : HopTile := s.tiles.getD p {}
def Chip.onTile (c : Chip) (p : Nat) (f : HopTile → HopTile) : Chip := c.onTime fun s => { s with tiles := updAt s.tiles p f }
def Chip.tmCountBy (c : Chip) (i n : Nat) : Chip := c.onTime fun s => { s with counters := bumpBy s.counters i n }
def Chip.tmCount (c : Chip) (i : Nat) : Chip := c.tmCountBy i 1

/-- A TIME telegram on one port (R161). -/
def Chip.sendTime (c : Chip) (p kind : Nat) (body : Bytes) : Chip :=
  match c.draw.2.originate { type := 2, tc := 3, selector := kind } with
  | some (t, c) => c.sendOn p { t with payload := body }
  | none => c

/-- Saffron serves the port: the engine runs, the port's link is at least provisional, its hop tile and its backbone tile work (R23, R152, R174). -/
def Chip.hopRuns (c : Chip) (p : Nat) : Bool :=
  c.rolling && decide (p < 4) && (c.bb.port p).link != .down && !c.tiles.saffron.getLsbD p && c.tiles.portSound p

/-! Link delay (R151, R152). -/

/-- LATENCY_TEMP_CORRECTION (R151): every 10 ms, what the tile's temperature adds to the fused latencies of a port, in ps. -/
def latencyTempCorrection (p : Nat) (tx rx : Int) (c : Chip) : Chip := c.onTile p fun h => { h with txCorrection := tx, rxCorrection := rx }

/-- How long a protect window holds a frame of this node on the port, ns (R127, R154). -/
def Chip.heldFor (c : Chip) (p : Nat) : Nat := if c.bb.isUp p then c.windowWait p else 0

/-- The departure timing point of a frame sent now, and the arrival timing point of one measured `ps` picoseconds after now, on the local clock in ps (R151). -/
def Chip.departure (c : Chip) (p : Nat) : Int := (c.clk.now + c.heldFor p) * 1000 - c.txLatency p
def Chip.arrival (c : Chip) (p ps : Nat) : Int := c.clk.now * 1000 + ps - c.rxLatency p

/-- Send one TDREQ on a port. -/
def Chip.sendTdreq (c : Chip) (p : Nat) : Chip :=
  let id := (c.time.tile p).nextReq
  let c := c.onTile p fun h => { h with
    nextReq := (h.nextReq + 1) % 4294967296, outstanding := some (id, c.departure p), burstCount := if h.inBurst then h.burstCount + 1 else h.burstCount }
  c.sendTime p 2 (be 4 id ++ zeros 12)

/-- DELAY_REQUEST_TIMER (R152): the next TDREQ of a burst, the 16 ms TDREQ of a port with a valid delay, or the first of a new burst: after a failed one, and,
on a link that R47 keeps provisional, 1,000 ms after the last. -/
def delayRequestTimer (p : Nat) (c : Chip) : Chip :=
  if !c.hopRuns p then c
  else
    let h := c.time.tile p
    if h.inBurst then (if h.burstCount < 8 then c.sendTdreq p else c)
    else if h.valid ∧ ((c.bb.port p).link = .up ∨ c.clk.now < h.burstAt + 1000000000) then c.sendTdreq p
    else (c.startBurst p).sendTdreq p

/-- Report a port's delay to the roll-call engine (R47, R152): the first within 600 ns declares a provisional link up; a change of more than 1 ns on a link that is up is a NOTICE of kind 4. -/
def Chip.reportDelay (c : Chip) (p : Nat) : Chip :=
  let h := c.time.tile p
  let d := h.delay
  if !h.valid then c
  else match (c.bb.port p).link with
  | .down => c
  | .provisional => if d ≤ 600000 then (c.onTile p fun h => { h with reported := some d }).linkUp p else c
  | .up =>
    let old := h.reported.getD d
    if old + 1000 < d ∨ d + 1000 < old then
      ((c.onTile p fun h => { h with reported := some d }).raise 37).notice 4 (p / 2) (c.peerOf (p / 2))
    else c

/-- DELAY_BURST_END (R152): fewer than 4 accepted samples leave the delay invalid and raise EV037. -/
def delayBurstEnd (p : Nat) (c : Chip) : Chip :=
  let h := c.time.tile p
  if !c.hopRuns p || !h.inBurst then c
  else if h.burstAccepted < 4 then (c.onTile p fun h => { h with inBurst := false, valid := false }).raise 37
  else (c.onTile p fun h => { h with inBurst := false, valid := true }).reportDelay p

/-- TDREQ_RX (R161): answered by a TDRESP within 20 µs. -/
def tdreqRx (p : Nat) (raw : Bytes) (c : Chip) : Chip :=
  if !c.hopRuns p then c
  else if raw.length ≠ 16 ∨ !isZero (raw.drop 4) then c.tmCount tmSyncDiscarded
  else c.sendTime p 3 (raw.take 4 ++ zeros 4 ++ be 8 (c.stay 20000000 + c.heldFor p * 1000))

/-- TDRESP_RX (R152): a sample (t4 − t1 − R) ÷ 2, an outlier when more than 1 ns from the mean; four outliers in a row start a new burst. (log 23) -/
def tdrespRx (p ps : Nat) (raw : Bytes) (c : Chip) : Chip :=
  if !c.hopRuns p then c
  else if raw.length ≠ 16 ∨ !isZero (slice raw 4 4) then c.tmCount tmSyncDiscarded
  else
    let h := c.time.tile p
    match h.outstanding with
    | none => c
    | some (id, t1) =>
      let t4 := c.arrival p ps
      if bAt raw 0 4 ≠ id ∨ t4 > t1 + 100000000 then c
      else
        let s := ((t4 - t1 - bAt raw 8 8) / 2).toNat
        let far := h.samples ≠ [] ∧ (h.delay + 1000 < s ∨ s + 1000 < h.delay)
        if far then
          let c := (c.onTile p fun h => { h with outstanding := none, outliers := h.outliers + 1 }).tmCount tmDelayOutliers
          if h.outliers + 1 < 4 then c else (c.onTile p fun h => { h with samples := [], valid := false }).startBurst p
        else
          let c := (c.onTile p fun h => { h with outstanding := none, outliers := 0, samples := (s :: h.samples).take 8
                                                 burstAccepted := if h.inBurst then h.burstAccepted + 1 else h.burstAccepted }).tmCount tmDelaySamples
          if h.inBurst then c else c.reportDelay p

/-- DELAY_SAMPLE_TIMEOUT (R152). -/
def delaySampleTimeout (p : Nat) (c : Chip) : Chip :=
  if (c.time.tile p).outstanding.isSome then (c.onTile p fun h => { h with outstanding := none }).tmCount tmDelayMissing else c

/-! The time tree (R153–R161). -/

structure Tsync where
  origin : Nat
  ps : Nat
  steps : Nat
  hops : Nat
  flags : Nat
  oscillator : Nat
  domain : Nat
  errorBase : Nat
  utc : Nat
  tai : Int
  deriving DecidableEq, Repr

def Tsync.parse (b : Bytes) : Option Tsync :=
  if b.length = 48 ∧ u8 b 14 < 16 ∧ isZero (slice b 0x1E 2) ∧ isZero (slice b 0x28 8) then
    some { origin := bAt b 0 8, ps := bAt b 8 2, steps := bAt b 10 2, hops := bAt b 12 2, flags := u8 b 14, oscillator := u8 b 15, domain := bAt b 16 8
           errorBase := bAt b 24 4, utc := bAt b 28 2, tai := sInt 64 (bAt b 32 8) }
  else none

/-- The TSYNC this node sends, its OriginTime at a departure `stay` ns from now (R154, R155, R161). -/
def Chip.tsyncBody (c : Chip) (stay : Nat) : Bytes :=
  let s := c.time
  let at_ := s.frac (c.clk.now + stay)
  let base := match s.state with
    | .holdover => c.errorBound
    | .grandmaster => 0
    | .free | .acquiring | .locked => sat32 (s.errorBase + s.slewLeft c.clk.now)
  let hops := match s.state with | .holdover | .grandmaster => 0 | .free | .acquiring | .locked => s.hops
  be 8 (at_ / 4294967296) ++ be 2 (at_ * 1000 / 4294967296 % 1000) ++ be 2 s.stepsRemoved ++ be 2 hops ++
    be 1 (b2n c.timeValid + b2n (s.state == .holdover) * 2 + b2n s.taiValid * 4 + b2n s.gmRefLocked * 8) ++ be 1 s.gmOscillator ++ be 8 s.domain ++
    be 4 base ++ be 2 s.utcOffset ++ zeros 2 ++ be 8 (ofInt 64 s.taiOffset) ++ zeros 8

/-- Send TSYNC on both lines of an end (R154): a protect window delays the departure, and with it the instant that the TSYNC gives. (log 45) -/
def Chip.sendTsync (c : Chip) (e : Nat) : Chip := (c.upPorts e).foldl (fun c p => c.sendTime p 1 (c.tsyncBody (c.stay 10000 + c.heldFor p))) c

/-- The end that leads towards the leader (R153). -/
def Chip.parentEnd (c : Chip) : Nat := c.endTowards (match c.dir.inForce with | some s => s.leaderNode | none => 0)

/-- The acceptance rule of R153. (log 11) -/
def Chip.takesTsync (c : Chip) (p : Nat) (m : Tsync) : Bool :=
  c.rc.state != .uninaugurated && c.dir.inForce.isSome && !c.recordedLeader && p / 2 == c.parentEnd && c.leaderHolder != 0 && m.domain == c.leaderHolder &&
  (m.flags.testBit 0 || c.time.state == .free || c.time.state == .acquiring)

/-- The copy that Saffron uses (R156): the named line's, or the other's while the named line's link is down or its copy has not come for 1.5 ms (log 11). (log 23) -/
def Chip.usesCopy (c : Chip) (p : Nat) : Bool :=
  let named := 2 * (p / 2) + c.namedLine
  p == named || !c.bb.isUp named || match (c.time.tile named).lastAccept with | some t => decide (t + 1500000 < c.clk.now) | none => true

/-- The rate over the accepted TSYNCs held (R157): the ratio of OriginTime to arrival differences, less 1, within ±200 × 10^-6. (log 23) -/
def rateOf (history : List (Nat × Nat)) : Option Int :=
  match history.head?, history.getLast? with
  | some (o1, l1), some (o0, l0) =>
    let dl : Int := (l1 : Int) - l0
    if dl ≤ 0 then none else some (max (-200000000) (min 200000000 ((((o1 : Int) - o0) - dl) * 1000000000000 / dl)))
  | _, _ => none

/-- The cycle event points whose instants a step over (t0, t1] skips (R172). (log 24) -/
def Saffron.skippedBy (s : Saffron) (t0 t1 : Nat) : Nat :=
  s.ceps.foldl (fun acc p =>
    let P := 250000 * 2 ^ u8 p.config.cur 1
    let off := u32 p.config.cur 4
    if u8 p.config.cur 0 = 1 then acc + ((t1 + P - off) / P - (t0 + P - off) / P) else acc) 0

/-- A step by θ ps (R158, R172). (log 24) -/
def Chip.stepTime (c : Chip) (theta : Int) : Chip :=
  let before := c.trainTime
  let c := c.onTime fun s =>
    let a := s.anchor c.clk.now
    { a with anchorFrac := ((a.anchorFrac : Int) + theta * 4294967296 / 1000).toNat, slewAdd := 0, slewUntil := 0, goodRun := 0
             lastStep := max (-2147483648) (min 2147483647 (theta / 1000)) }
  let c := c.setTm .acquiring
  let c := (c.tmCount tmSteps).raise 35
  let n := if before < c.trainTime then c.time.skippedBy before c.trainTime else 0
  if n = 0 then c else (c.onTime fun s => { s with skipped := sat32 (s.skipped + n) }).raise 40

/-- Remove θ by a slew over the following 8 ms, at most ±100 × 10^-6 (R157). -/
def Chip.slew (c : Chip) (theta : Int) : Chip :=
  c.onTime fun s =>
    let a := s.anchor c.clk.now
    let add := theta * 125
    if add.natAbs ≤ 100000000 then { a with slewAdd := add, slewUntil := c.clk.now + 8000000 }
    else { a with slewAdd := if add < 0 then -100000000 else 100000000, slewUntil := c.clk.now + 10 * theta.natAbs }

/-- The lock criterion and the loss of a bound beyond HoldoverLimit (R150, R157, R159, R163). -/
def Chip.judgeLock (c : Chip) (theta : Int) (valid : Bool) : Chip :=
  match c.time.state with
  | .free => (c.onTime fun s => { s with goodRun := if theta.natAbs ≤ 100000 then 1 else 0 }).setTm .acquiring
  | .acquiring =>
    let n := if theta.natAbs ≤ 100000 then c.time.goodRun + 1 else 0
    let c := c.onTime fun s => { s with goodRun := n }
    if 100 ≤ n ∧ valid then c.setTm .locked else c
  | .locked | .holdover =>
    let c := c.setTm .locked
    if c.time.limitPs < c.errorBound then (c.onTime fun s => { s with goodRun := 0 }).setTm .acquiring else c
  | .grandmaster => c

/-- What the used copy does (R156–R161). After a change of line no difference is stepped away until a slew has removed it. (log 23) -/
def Chip.followTsync (c : Chip) (p : Nat) (theta : Int) (arrival : Nat) (m : Tsync) : Chip :=
  let changed := c.time.domain ≠ m.domain
  let hist := ((m.origin * 1000 + m.ps, arrival) :: (if changed then [] else c.time.history)).take 16
  let slews := !changed && (p % 2 != c.time.parentLine || c.time.lineSlew)
  let c := c.onTime fun s => { s.anchor c.clk.now with
    lineSlew := slews && decide (1000000 < theta.natAbs)
    domain := m.domain, stepsRemoved := min 0xFFFF (m.steps + 1), hops := m.hops + 1, errorBase := m.errorBase, lastOffset := theta
    lastAccept := c.clk.now, parentLine := p % 2, gmOscillator := m.oscillator, taiOffset := m.tai, utcOffset := m.utc
    taiValid := m.flags.testBit 2, gmRefLocked := m.flags.testBit 3, history := hist, rate := (rateOf hist).getD s.rate }
  let c := if changed then c.raise 36 else c
  if 1000000 < theta.natAbs ∧ !slews then c.stepTime theta else (c.slew theta).judgeLock theta (m.flags.testBit 0)

/-- TSYNC_RX (R153, R156–R161), its arrival measured `ps` picoseconds after the command's instant. (log 23) -/
def tsyncRx (p ps : Nat) (raw : Bytes) (c : Chip) : Chip :=
  if !c.rolling || !c.bb.isUp p || c.tiles.saffron.getLsbD p then c
  else match Tsync.parse raw with
  | none => c.tmCount tmSyncDiscarded
  | some m =>
    if !c.takesTsync p m then c.tmCount tmSyncDiscarded
    else
      let h := c.time.tile p
      let T : Int := c.trainPs + ps - c.rxLatency p
      let theta : Int := m.origin * 1000 + m.ps + h.delay - T
      let use := c.usesCopy p
      let c := ((c.tmCount tmSyncAccepted).onTile p fun h => { h with lastOffset := theta, lastAccept := some c.clk.now }).onTime fun s => { s with lastOffset := theta, heard := c.clk.now }
      if use then (c.followTsync p theta (c.arrival p ps).toNat m).sendTsync (1 - p / 2) else c

/-- TSYNC_GM_TIMER (R154). -/
def tsyncGmTimer (c : Chip) : Chip := if c.rolling ∧ c.time.state = .grandmaster then (c.sendTsync 0).sendTsync 1 else c

/-- HOLDOVER_TSYNC_TIMER (R154). -/
def holdoverTsyncTimer (c : Chip) : Chip := if c.rolling ∧ c.time.state = .holdover then c.sendTsync (1 - c.parentEnd) else c

/-- TSYNC_LOSS_TIMEOUT (R163): 3 ms without an accepted TSYNC. -/
def tsyncLossTimeout (c : Chip) : Chip := if c.time.state = .locked then c.toHoldover c.errorBound else c

/-- HOLDOVER_LIMIT_EXCEEDED (R163). (log 51) -/
def holdoverLimitExceeded (c : Chip) : Chip := if c.time.state = .holdover ∧ c.time.limitPs < c.errorBound then c.setTm .free else c

/-! External reference (R166–R169). -/

/-- The state of TREF_IN after a good or a bad second (R166): locked after 3 accepted in a row, unlocked after 3 rejected or missing; EV038 at each change. (log 23) -/
def Chip.refJudge (c : Chip) (good : Bool) : Chip :=
  let s := c.time
  let g := if good then s.refGood + 1 else 0
  let b := if good then 0 else s.refBad + 1
  let locked := if 3 ≤ g then true else if 3 ≤ b then false else s.refLocked
  let c := c.onTime fun s => { s with
    refGood := g, refBad := b, refLocked := locked, refLast := if 3 ≤ b then none else s.refLast
    gmRefLocked := if s.state = .grandmaster then locked else s.gmRefLocked }
  if locked ≠ s.refLocked then c.raise 38 else c

/-- Steer the grandmaster's rate so that the last second counts 10^9 ns, by at most 10^-6 (R167). -/
def Saffron.steer (s : Saffron) (now : Nat) (span : Nat) : Saffron :=
  if span = 0 then s
  else
    let want : Int := (1000000000 * 1000000000000 : Int) / span - 1000000000000
    let a := s.anchor now
    { a with rate := max (-200000000) (min 200000000 (max (s.rate - 1000000) (min (s.rate + 1000000) want))) }

/-- TREF_IN_PULSE (R166–R168), measured `ps` picoseconds after the command's instant. (log 23) -/
def trefInPulse (ps : Nat) (c : Chip) : Chip :=
  if u8 c.time.config 1 = 0 then c
  else
    let now := c.clk.now
    let ok := match c.time.refLast with | some l => decide (l + 999900000 ≤ now ∧ now ≤ l + 1000100000) | none => true
    if !ok then (c.refJudge false).tmCount tmPpsRejected
    else
      let span := match c.time.refLast with | some l => now - l | none => 0
      let c := ((c.onTime fun s => { s with refLast := some now }).refJudge true).tmCount tmPpsAccepted
      let (due, utc) : Option Nat × Nat := match c.time.todWaiting with
        | some (s, u, since) => if since + 10000000 ≤ now then (some s, u) else (none, 0)
        | none => (none, 0)
      let secs := match due with | some s => some s | none => c.time.taiSeconds.map (· + 1)
      let c := c.onTime fun s => { s with taiSeconds := secs, todWaiting := if due.isSome then none else s.todWaiting }
      let delay := sInt 32 (u32 c.time.config 0x10)
      let tt : Int := (c.trainPs + ps : Nat) / 1000 - delay
      if c.time.state = .grandmaster ∧ c.time.refLocked then
        let c := c.onTime fun s => s.steer now span
        match secs with
        | some s => c.onTime fun t => { t with taiOffset := (s : Int) * 1000000000 - tt, taiValid := true, utcOffset := if due.isSome then utc else t.utcOffset }
        | none => c
      else if c.time.refLocked ∧ c.time.taiValid ∧ c.time.state ≠ .grandmaster then
        let d := (tt + c.time.taiOffset) % 1000000000
        if min d (1000000000 - d) > u32 c.time.config 0x14 then c.raise 41 else c
      else c

/-- TREF_IN_MISSING (R166). -/
def trefInMissing (c : Chip) : Chip := if u8 c.time.config 1 = 0 then c else c.refJudge false

/-- TREF_OUT_PULSE (R169): 1 ms high on GPIO15; the pin stays low while train time is not valid. -/
def trefOutPulse (c : Chip) : Chip := if u8 c.time.config 2 = 1 ∧ c.timeValid then c.emit (.pulse 15 1000000) else c

/-! Cycle event points (R171–R173). -/

/-- A GPIO that TREF_IN, TREF_OUT or nHIRQ claims (R166, R363, R479). (log 24) -/
def Chip.pinTaken (c : Chip) (pin : Nat) : Bool :=
  (pin == 14 && u8 c.time.config 1 != 0) || (pin == 15 && u8 c.time.config 2 != 0) || (pin == 12 && c.host.nhirq)

/-- CEP_FIRE (R171, R172): the point's instant has come. (log 24) -/
def cepFire (n : Nat) (c : Chip) : Chip :=
  let p := c.time.ceps.getD n {}
  let g := p.config.cur
  let again : Bool := (match p.lastFired with | some t => decide (c.trainTime ≤ t) | none => false) ||
    c.time.ceps.any fun q => match q.lastFired with | some t => decide (c.trainTime < t) | none => false
  if 16 ≤ n ∨ u8 g 0 ≠ 1 ∨ again then c
  else
    let c := c.onTime fun s => { s with ceps := updAt s.ceps n fun p => { p with lastFired := some c.trainTime } }
    let c := if (u8 g 2).testBit 0 then (c.onTime fun s => { s with hitMask := s.hitMask ||| (1#16 <<< n) }).raise 39 else c
    if (u8 g 2).testBit 1 && !c.pinTaken (u8 g 3) then c.emit (.pulse (u8 g 3) (u32 g 8)) else c

/-- SAFFRON_INTERNAL_TICK (R173): at a 1 ms multiple pending configurations take effect; a 1 ms interval without an accepted TSYNC counts and restarts the lock count (R159, R176). -/
def saffronInternalTick (c : Chip) : Chip :=
  if (c.trainTime + 125000) / 250000 % 4 ≠ 0 then c
  else
    let c := c.onTime fun s => { s with ceps := s.ceps.map fun p => { p with config := p.config.tick c.trainTime } }
    let c := if c.time.state ≠ .grandmaster ∧ c.time.lastAccept + 1000000 ≤ c.clk.now then c.onTime fun s => { s with goodRun := 0 } else c
    if c.time.state ≠ .grandmaster ∧ c.time.heard + 1000000 ≤ c.clk.now then c.tmCount tmSyncMissing
    else c

/-! Commands (R175, R176). -/

def Saffron.rateNow (s : Saffron) (t : Nat) : Int := max (-200000000) (min 200000000 (if t < s.slewUntil then s.rate + s.slewAdd else s.rate))

/-- See log 23. -/
def timeStatus : Cmd where
  form := noReq
  act c _ :=
    let s := c.time
    let st := match s.state with | .free => 0 | .acquiring => 1 | .locked => 2 | .grandmaster => 3 | .holdover => 4
    c.ok (le 1 st ++
      le 1 (b2n c.timeValid + b2n (s.state == .grandmaster) * 2 + b2n s.taiValid * 4 + b2n s.refLocked * 8 +
            b2n (decide (c.clk.now < s.slewUntil ∧ s.slewAdd ≠ 0)) * 16 + s.parentLine % 2 * 32) ++
      le 2 (if s.stepsRemoved = 0 then 0xFFFF else s.stepsRemoved) ++ le 4 c.errorBound ++ le 8 s.domain ++ le 8 c.trainTime ++ le 8 (ofInt 64 s.taiOffset) ++ le 4 (ofInt 32 (s.rateNow c.clk.now)) ++
      le 4 (ofInt 32 s.lastOffset) ++ le 4 (if s.state = .holdover then sat32 ((c.clk.now - s.holdSince) / 1000000) else 0) ++ le 4 (ofInt 32 s.lastStep) ++
      le 2 s.utcOffset ++ zeros 2)

/-- See log 23. -/
def timeConfigSet : Cmd where
  form _ r :=
    [lenIs r 48, rsv r 3 1, rsv r 0x28 8, enc (decide (u8 r 0 ≤ 2)) 0, enc (decide (u8 r 1 ≤ 2)) 1, enc (decide (u8 r 2 ≤ 1)) 2,
     rng (decide (100 ≤ u32 r 4 ∧ u32 r 4 ≤ 100000)) 4, rng (decide (1 ≤ u32 r 8 ∧ u32 r 8 ≤ 1000000)) 8, rng (decide (1 ≤ u32 r 12 ∧ u32 r 12 ≤ 1000000)) 12,
     rng (decide ((sInt 32 (u32 r 0x10)).natAbs ≤ 100000)) 0x10, rng (decide (10 ≤ u32 r 0x14 ∧ u32 r 0x14 ≤ 1000000)) 0x14] ++
    (List.range 8).map fun i => rng (decide (u16 r (0x18 + 2 * i) ≤ 10000)) (0x18 + 2 * i)
  state c r := [need (!c.rolling || staticKept c.time.config r [(0, 2), (8, 8), (0x18, 16)]) 0x05]
  act c r := (c.onTime fun s =>
    if c.rolling then { s with config := r } else { s with config := staticLate s.config r [(0, 2), (8, 8), (0x18, 16)], written := some r }).ok

def timeConfigGet : Cmd where
  form := noReq
  act c _ := c.ok (c.time.written.getD c.time.config)

def timeNow : Cmd where
  form := noReq
  act c _ := c.ok (match c.host.busyWith 0x0303 with | some n => (c.host.mb n).capture | none => [])

def timeRefTod : Cmd where
  form _ r := [lenIs r 16, rsv r 10 6]
  state c _ := [need (c.time.state == .grandmaster && c.time.refLocked) 0x06]
  act c r := (c.onTime fun s => { s with todWaiting := some (u64 r 0, u16 r 8, c.clk.now) }).ok

/-- Another point pulses the pin, in force or pending (R173). -/
def Saffron.pinUsed (s : Saffron) (n pin : Nat) : Bool :=
  (List.range 16).any fun i =>
    let p := s.ceps.getD i {}
    i != n && (p.config.cur :: p.config.pending.map (·.2)).any fun g => (u8 g 2).testBit 1 && u8 g 3 == pin

/-- CEP_SET (R173, R176). While the engine is stopped the value takes effect at once, and EffectiveCycle answers the present train time: DESIGN CHOICE, R176
names only the boundary's. (log 38) -/
def cepSet : Cmd where
  form c r :=
    let P := 250000 * 2 ^ u8 r 5
    let pulse := (u8 r 6).testBit 1
    [lenIs r 20, rsv r 1 3, enc (decide (u8 r 6 < 4)) 6, rsv r 16 4, rng (decide (u8 r 0 ≤ 15)) 0, rng (decide (u8 r 4 ≤ 1)) 4, rng (decide (u8 r 5 ≤ 12)) 5,
     rng (!pulse || (decide (u8 r 7 ≤ 15) && !c.pinTaken (u8 r 7) && !c.time.pinUsed (u8 r 0) (u8 r 7))) 7, rng (decide (u32 r 8 < P)) 8,
     rng (decide (10 ≤ u32 r 12 ∧ u32 r 12 ≤ 1000000 ∧ u32 r 12 < P)) 12]
  act c r :=
    let g := r.drop 4
    let b := if c.rolling then roundUp (c.trainTime + 5000) 1000000 else c.trainTime
    (c.onTime fun s => { s with ceps := updAt s.ceps (u8 r 0) fun p =>
      { p with config := if c.rolling then p.config.write b g else { cur := g } } }).ok (le 8 b)

def cepGet : Cmd where
  form _ r := [lenIs r 4, rsv r 1 3, rng (decide (u8 r 0 ≤ 15)) 0]
  act c r := c.ok (c.time.ceps.getD (u8 r 0) {}).config.read

def cepStatus : Cmd where
  form := noReq
  act c _ :=
    (c.onTime fun s => { s with hitMask := 0, skipped := 0 }).ok (le 2 c.time.hitMask.toNat ++ le 1 (b2n c.timeValid) ++ zeros 1 ++ le 4 c.time.skipped)

/-- See log 23. -/
def timePort : Cmd where
  form _ r := [lenIs r 4, rsv r 1 3, rng (decide (u8 r 0 ≤ 3)) 0]
  act c r :=
    let p := u8 r 0
    let h := c.time.tile p
    let parent := c.dir.inForce.isSome && !c.recordedLeader && p / 2 == c.parentEnd
    let spread := match h.samples with | [] => 0 | x :: xs => xs.foldl max x - xs.foldl min x
    c.ok (le 1 p ++ le 1 (b2n h.valid + b2n parent * 2 + b2n (parent && c.time.parentLine == p % 2 && p % 2 == c.namedLine && h.lastAccept.isSome) * 4) ++ zeros 2 ++
      le 4 h.delay ++ le 4 spread ++ le 4 (ofInt 32 h.lastOffset) ++ le 8 (if c.bb.isUp p then c.peerOf (p / 2) else 0))

def timeCounters : Cmd where
  form := noReq
  act c _ := (c.onTime fun s => { s with counters := List.replicate 11 0 }).ok (cntBytes c.time.counters)

end Sys2Proof.Machine
end

