-- ==== Sys2Proof/Machine/Reset.lean ====
section
/-! DEFINITION. The resets of R442 and what they leave: the values MRAM keeps (R18, R446), a reset of the main die, a firmware restart (R444), the
retry counts of R451. -/
namespace Sys2Proof.Machine

/-! What MRAM keeps. -/

/-- See log 68. -/
def CanChan.store (x : CanChan) : StoredCan := { config := x.config, bufs := x.bufs.map (·.config), image := x.image.settle.cur }

/-- The configurations and images in force, every pending one included (R18). (log 68) -/
def Chip.collect (c : Chip) : Stored :=
  { vehicle := c.dir.vehicle.settle.cur, rollcall := c.rc.written.getD c.rc.config, backbone := c.bb.config, schedule := c.bb.image.settle.cur, time := c.time.written.getD c.time.config
    ceps := c.time.ceps.map fun p => p.config.settle.cur, carBus := c.cb.config, cbImage := c.cb.image.settle.cur, cbPoints := c.cb.points.map fun p => p.settle.cur
    can := c.can.map CanChan.store, router := c.rt.image.settle.cur, bridge := c.br.written.getD c.br.config, vports := c.eth.vports.map fun v => (v.config, v.addrs)
    queues := c.qm.queues.map fun q => (q.reserve, q.spill, q.limit, q.maxEntries), memory := c.mem.config, recorder := c.log.config, power := c.pwr.config, filters := c.pwr.filters }

/-- See log 68. -/
def CanChan.load (x : CanChan) (s : StoredCan) : CanChan := { x with config := s.config, bufs := s.bufs.map fun g => { config := g }, image := { cur := s.image } }

/-- B08: the stored values come into force (R18, R446). (log 68) -/
def Chip.load (c : Chip) (s : Stored) : Chip :=
  let c := (c.onDir fun d => { d with vehicle := { cur := s.vehicle } }).onRc fun r => { r with config := s.rollcall }
  let c := c.onBb fun b => { b with config := s.backbone, image := { cur := s.schedule } }
  let c := c.onTime fun t => { t with config := s.time, ceps := s.ceps.map fun g => { config := { cur := g } } }
  let c := c.onCb fun b => { b with config := s.carBus, image := { cur := s.cbImage }, points := s.cbPoints.map fun g => { cur := g } }
  let c := { c with can := c.can.zipWith CanChan.load s.can }
  let c := (c.onRt fun r => { r with image := { cur := s.router } }).onBr fun b => { b with config := s.bridge }
  let c := c.onEth fun e => { e with vports := e.vports.zipWith (fun v x => { v with config := x.1, addrs := x.2 }) s.vports }
  let c := c.onQm fun m => { m with queues := m.queues.zipWith (fun q x => { q with reserve := x.1, spill := x.2.1, limit := x.2.2.1, maxEntries := x.2.2.2 }) s.queues }
  let c := (c.onMem fun m => { m with config := s.memory }).setMem (if u32 s.memory 0 = 0 then .absent else .stopped)
  (c.onLog fun r => { r with config := s.recorder }).onPwr fun p => { p with config := s.power, filters := s.filters }

/-! Retry counts (R451). -/

/-- The Retry steps, in the order of `Clove.retries`. -/
def retrySteps : List Nat := [1, 2, 3, 14]

/-- A reset that is not a loss of the always-on supply ends a start: each Retry step it left begun counts, once. -/
def Chip.countRetries (c : Chip) : Chip :=
  match c.boot.journal.entries.getLast? with
  | none => c
  | some e => if c.clove.counted then c else c.onClove fun k => { k with
      counted := true, retries := k.retries.zipWith (fun n s => if e.steps.getD (s - 1) 0 = 1 then n + 1 else n) retrySteps }

/-- Clove waits 10 s before the next start where a Retry step has failed at three starts (R451). -/
def Clove.await (k : Clove) : Clove :=
  let due := (retrySteps.zip k.retries).filterMap fun p => if 3 ≤ p.2 then some p.1 else none
  { k with waiting := !due.isEmpty, waited := k.waited ++ due.filter fun n => !k.waited.contains n }

/-! Resets. -/

/-- The main die loses its state: what is left is in MRAM, in the flash, in the always-on domain or in the companion die (R18, R406, R442). (log 35) (log 74) -/
def Chip.mainDown (c : Chip) : Chip :=
  let awake := c.log.awakeBase + (if c.clove.powered ∧ c.clove.state ≠ .sleep then c.clk.now - c.log.awakeMark else 0)
  let off := (List.range 4).foldl (fun c o => c.driveEvent o true (c.safe.nutmeg.outp o).demand false) c
  { clk := c.clk, out := off.out, fuses := c.fuses
    boot := { journal := c.boot.journal, slotA := c.boot.slotA, slotB := c.boot.slotB }
    rc := { couplers := c.rc.couplers }
    safe := c.safe.nutmegDown
    mem := { bridge := c.mem.bridge }
    log := { c.log.cutOff c.clk.now with state := .scanning, config := ({} : Recorder).config, awakeBase := awake, awakeMark := c.clk.now, counters := List.replicate 8 0 }
    pwr := { config := c.pwr.config, lastPrepare := c.pwr.lastPrepare, sleepCount := c.pwr.sleepCount, filters := c.pwr.filters, savedCan := c.pwr.savedCan
             counters := c.pwr.counters }
    clove := c.clove
    stored := if c.boot.loaded then c.collect else c.stored }

/-- A reset of the main die (R442): Clove goes on, waits 10 s for a Retry step that has failed at three starts (R451). (log 35) -/
def Chip.mainReset (c : Chip) (cause : Nat) : Chip :=
  c.countRetries.mainDown.onClove fun k =>
    { k.await with resetCause := cause, state := if k.state = .waking then .waking else .awake, countdown := none, switching := false, latched := false, challenged := false }

/-- The window bridge of a restarting firmware: its requests fail as under R304, and it stops (R444); SEMn keep their values (R358). -/
def Chip.bridgeHalt (c : Chip) : Chip :=
  let fars := c.br.requests.foldl (fun acc q => if acc.contains q.far then acc else acc ++ [q.far]) []
  let c := fars.foldl Chip.farFails c
  if c.br.running then (c.onBr fun b => { b with streams := [] }).bridgeStopped else c

/-- The mailbox processor complex goes into reset (R350, R352, R358, R444). (log 71) -/
def Chip.fwDown (c : Chip) (cause : Nat) : Chip :=
  let c := c.countRetries.mailboxesOffline
  let c := c.onBoot fun b => { b with state := .reset, down := true, restart := none, begun := none, onTrial := false }
  let c := (c.bridgeHalt.onEth fun e => { e with rings := e.rings.map fun r => { r with enabled := false, owned := [] } }).haltEngine
  let c := c.onHost fun h => { h with heartbeat := 0, records := [], recordSeq := 1, lost := 0 }
  (c.onPwr fun p => { p with hostVote := none, votes := none, grant := none, held := [], checking := false }).onClove fun k => { k with resetCause := cause }

end Sys2Proof.Machine
end

