-- ==== Sys2Proof/Machine/Power.lean ====
section
/-! DEFINITION. Power states, wake and sleep (R405–R422): Clove, the train sleep agreement, partial networking, and opcodes 0x0A00–0x0A08. -/
namespace Sys2Proof.Machine
open Host (Outcome)

def ClSt.code : ClSt → Nat
  | .awake => 0 | .armed => 1 | .prepare => 2 | .sleep => 3 | .waking => 4

def Chip.pwCount (c : Chip) (i : Nat) : Chip := c.onPwr fun p => { p with counters := bump p.counters i }

/-! The power configuration (R420). -/

def Power.trainWake (p : Power) (rear : Bool) : Bool := (u8 p.config 0).testBit (b2n rear)
def Power.autoVote (p : Power) : Bool := u8 p.config 1 == 1
def Power.canWake (p : Power) (n : Nat) : Bool := (u16 p.config 2).testBit n && decide (n < 12)
/-- CarBusWake names the branch-channel of a port 12 to 35. -/
def Power.carBusWake (p : Power) (port : Nat) : Bool := decide (12 ≤ port ∧ port ≤ 35) && branchBit (u32 p.config 4) ((port - 12) / 2) ((port - 12) % 2)
def Power.stbSleep (p : Power) (n : Nat) : Bool := (u16 p.config 8).testBit n
def Power.settle (p : Power) : Nat := u16 p.config 12 * 1000000
def Power.wakeAfter (p : Power) : Nat := u32 p.config 16

/-- The level of a channel's STB pin (R224, R250, R411): Clove drives it while the main die sleeps, is in reset or starts, and once PREPARE has handed it over. -/
def Chip.stbPin (c : Chip) (n : Nat) : Bool :=
  if !c.mainDie || c.clove.state == .sleep || c.clove.state == .waking || c.clove.switching then c.pwr.stbSleep n
  else (c.canCh n).stb (c.tiles.can.getLsbD n) false

/-! Clove's states (R405). -/

/-- Clove changes state; EV104 on entry to PREPARE and on return to AWAKE, while firmware runs. -/
def Chip.setClove (c : Chip) (s : ClSt) : Chip :=
  if c.clove.state = s then c
  else
    let c := c.onClove fun k => { k with state := s, countdown := if s = .armed then k.countdown else none }
    if !c.firmware then c
    else match s with
      | .prepare => c.raiseD 104 7 0xFFFF 0
      | .awake => c.raiseD 104 7 c.clove.wakeCause 0
      | .armed | .sleep | .waking => c

/-- A wake pulse of 20 ms on both pins, and the refractory time of R410. -/
def Chip.wakePulse (c : Chip) : Chip :=
  (((c.onClove fun k => { k with driving := true, refractory := c.clk.now + 120000000 }).pwCount pwPulsesSent).emit (.wake 60)).emit (.wake 61)

/-- The 32.768 kHz period that an instant falls in. (log 66) -/
def slowPeriod (ns : Nat) : Nat := ns * 32768 / 1000000000

/-- A second event within the period of the wake: the lower WakeCause is recorded (R409). (log 66) -/
def Chip.tieWake (c : Chip) (cause port : Nat) : Chip :=
  if c.clove.state = .waking ∧ c.clove.wokenAt.any (slowPeriod · == slowPeriod c.clk.now) ∧ cause < c.clove.wakeCause then
    c.onClove fun k => { k with wakeCause := cause, wakePort := port }
  else c

/-- A wake of R409, in SLEEP: the domains come on and the start-up path runs; the times are saved (R426). (log 66) (log 6) -/
def Chip.wakeUp (c : Chip) (cause port reset : Nat) : Chip :=
  if c.clove.state = .sleep then
    let c := c.onClove fun k => { k with state := .waking, wakeCause := cause, wakePort := port, wokenAt := some c.clk.now, resetCause := reset, latched := false, challenged := false, companionOff := false }
    let c := c.countRetries.onClove Clove.await
    ((c.onLog fun r => { r with awakeMark := c.clk.now }).saveTimes).pwCount pwWakes
  else c.tieWake cause port

/-- What firmware does on entering PREPARE (R412, R418): nothing is sent any more, the star stops, the island is told. (log 65) -/
def Chip.quiesce (c : Chip) : Chip :=
  if !c.firmware then c
  else
    let c := if c.rolling then c.haltEngine else c
    let c := c.onEth fun e => { e with vports := e.vports.map fun v => { v with running := false } }
    let c := (List.range 12).foldl (fun c n => match (c.canCh n).state with | .stopped | .ignoring => c | _ => c.canHalt n) c
    let c := if c.cb.state = .stopped then c else if c.cb.stopping then c.cbStopped.completeWaiting 0x0404 0 else c.cbStopped
    { c with safe := { c.safe with plannedSleep := true } }

/-- Clove enters PREPARE (R405, R412, R419). (log 65) -/
def Chip.enterPrepare (c : Chip) : Chip :=
  if c.clove.state = .prepare then c else
  ((c.setClove .prepare).onClove fun k => { k with prepareAt := c.clk.now, switching := false }).quiesce

/-- PREPARE ends: the domains are switched off from here on (R406); the sleep record of R425 is due at the next start. -/
def Chip.switchOff (c : Chip) (failSafe : Bool) : Chip :=
  let ts := match c.pwr.grant with | some g => g.sleep | none => 0
  let c := c.onPwr fun p => { p with lastPrepare := sat 16 ((c.clk.now - c.clove.prepareAt) / 1000000) }
  (c.onLog fun r => { r with sleepNote := some (ts, failSafe) }).onClove fun k => { k with switching := true, failSafe := failSafe, failSafeDue := failSafe }

/-- The fail-safe path of R412; the records still in Q60 are lost (R429). -/
def Chip.failSafePath (c : Chip) : Chip :=
  let c := if c.clove.state = .prepare then c else c.onClove fun k => { k with state := .prepare, countdown := none, prepareAt := c.clk.now }
  (c.onQm fun m => m.upd 60 fun a => { a with entries := [] }).switchOff true

/-! LEASE telegrams of Role 3 (R415). -/

/-- Twice, 20 µs apart. (log 67) -/
def Chip.sendTwice (c : Chip) (ends : List Nat) (m : LeaseMsg) : Chip := (ends ++ ends).foldl (fun c e => c.sendLease e m) c

/-- The end towards the leader. -/
def Chip.leaderEnd (c : Chip) : Nat := c.endTowards (match c.dir.inForce with | some s => s.leaderNode | none => 0)

/-- Leave the grant (R417, R418): awake, counted, EV106. (log 67) -/
def Chip.cancelGrant (c : Chip) : Chip :=
  match c.pwr.grant with
  | none => c
  | some g =>
    let c := (c.onPwr fun p => { p with grant := none, cancelled := g.commit }).pwCount pwAborts
    (if c.clove.state = .armed then c.setClove .awake else c).raise 106

/-- The leader floods an abort of its grant. -/
def Chip.floodAbort (c : Chip) (g : SleepGrant) : Chip :=
  ((c.sendTwice [0, 1] { c.leaseMsg 3 3 with holder := 0, start := g.commit, expiry := g.sleep }).onPwr fun p => { p with lastAbort := some c.clk.now }).cancelGrant

/-- A wake request of train time `at_`, before the commit instant (R417). -/
def Chip.askAbort (c : Chip) (g : SleepGrant) (at_ : Nat) : Chip :=
  if c.recordedLeader then c.floodAbort g
  else
    let c := c.sendTwice [c.leaderEnd] { c.leaseMsg 3 6 with start := at_, expiry := g.sleep, grantor := 0 }
    (c.onPwr fun p => { p with grant := some { g with asked := true } }).setClove .awake

/-- A wake latched (R417). (log 66) -/
def Chip.latchWake (c : Chip) : Chip :=
  if c.clove.latched then c
  else
    let c := (c.onClove fun k => { k with latched := true }).pwCount pwLatched
    if c.firmware then c.raise 107 else c

/-- A wake request of train time `at_` (R417): the chip and the Effect of PWR_WAKE_REQUEST. -/
def Chip.wakeRequest (c : Chip) (at_ : Nat := c.trainTime) : Nat × Chip :=
  match c.clove.state, c.pwr.grant with
  | .armed, some g => if at_ < g.commit then (1, c.askAbort g at_) else (2, c.latchWake)
  | .armed, none | .prepare, _ => (2, c.latchWake)
  | .awake, some _ => (1, c)
  | .awake, none | .sleep, _ | .waking, _ => (0, c)

/-! Votes (R416). -/

/-- A door release output (R390: Function 2) is energised. -/
def Chip.doorsReleased (c : Chip) (o : Nat) : Bool := outFn c.safe.nutmeg.params o == 2 && c.safe.energised o
def Chip.anyDoor (c : Chip) : Bool := (List.range 4).any c.doorsReleased

/-- The conditions under which a node votes. -/
def Chip.mayVote (c : Chip) : Bool :=
  c.firmware && (match c.pwr.hostVote with | some v => v | none => c.pwr.autoVote) && c.timeValid && !c.anyDoor && !c.pwr.checking

/-- A vote of the snapshot's node is current, and has been for `settle`. -/
def Chip.voteHeld (c : Chip) (settle id : Nat) : Bool :=
  if id = c.fuses.identity then (match c.pwr.votes with | some t => decide (t + settle ≤ c.clk.now) | none => false)
  else c.pwr.held.any fun v => v.node == id && decide (c.clk.now ≤ v.last + 300000000 ∧ v.since + settle ≤ c.clk.now)

/-- The nodes whose vote the leader needs. -/
def Chip.votersNeeded (c : Chip) : List Nat :=
  match c.dir.inForce with
  | some s => (s.nodes.filter fun n => !n.dark && !n.unreachable).map (·.identity)
  | none => []

/-! Rows: wake lines and detectors (R409, R410). -/

/-- TRAIN_WAKE_PULSE_DETECT: a pin that Clove does not drive has been active for 2 ms. In the refractory time it counts only as the other
event of the wake's own period (R409). (log 66) -/
def trainWakePulseDetect (rear : Bool) (c : Chip) : Chip :=
  let k := c.clove
  if !k.powered ∨ !c.pwr.trainWake rear then c
  else if k.driving ∨ c.clk.now < k.refractory then c.tieWake (1 + b2n rear) (60 + b2n rear)
  else
    let c := c.wakePulse.pwCount pwPulsesDetected
    if k.state = .sleep then c.wakeUp (1 + b2n rear) (60 + b2n rear) 1
    else ((if c.firmware then c.raisePort 110 (60 + b2n rear) else c).wakeRequest.2).tieWake (1 + b2n rear) (60 + b2n rear)

/-- WAKE_PULSE_END. -/
def wakePulseEnd (c : Chip) : Chip := if c.clove.driving then c.onClove fun k => { k with driving := false, refractory := c.clk.now + 100000000 } else c

/-- CAN_WAKE_DETECT. (log 66) -/
def canWakeDetect (n : Nat) (c : Chip) : Chip := if c.pwr.canWake n then c.wakeUp 3 (36 + n) 1 else c

/-- CARBUS_WAKE_DETECT: outside SLEEP it is a wake request (R417). (log 66) -/
def carbusWakeDetect (port : Nat) (c : Chip) : Chip :=
  if c.pwr.carBusWake port then (if c.clove.state = .sleep then c.wakeUp 4 port 1 else c.wakeRequest.2.tieWake 4 port) else c

/-- WAKE_AFTER_EXPIRY. -/
def wakeAfterExpiry (c : Chip) : Chip := if c.pwr.wakeAfter = 0 then c else c.wakeUp 5 0xFF 1

/-! Rows: the false-wake check (R414). -/

/-- The first confirmation. -/
def Chip.confirmWake (c : Chip) : Chip := if c.pwr.checking then (c.onPwr fun p => { p with checking := false }).raiseD 108 0 0xFFFF 1 else c

/-- FALSE_WAKE_TIMEOUT. -/
def falseWakeTimeout (c : Chip) : Chip :=
  if c.pwr.checking then (((c.onPwr fun p => { p with checking := false }).raiseD 108 0 0xFFFF 0).pwCount pwFalseWakes).enterPrepare else c

/-- PHY_ENERGY_DETECT. -/
def phyEnergyDetect (p : Nat) (c : Chip) : Chip := if p < 4 then c.confirmWake else c

/-! Rows: the agreement (R415–R419). -/

/-- A received LEASE telegram of Role 3. -/
def Chip.sleepRx (c : Chip) (p : Nat) (raw : Sourced) (k : Chip → LeaseMsg → Chip) : Chip :=
  if !c.rolling || !c.bb.isUp p then c
  else match LeaseMsg.parse raw.bytes with
  | none => c.bbCount p bbHeaderInvalid
  | some m => if m.role = 3 then k c m else c

/-- SLEEP_VOTE_TIMER: a voting node sends its vote towards the leader every 100 ms. -/
def sleepVoteTimer (c : Chip) : Chip :=
  if c.rolling && c.pwr.votes.isSome && !c.recordedLeader then c.sendLease c.leaderEnd { c.leaseMsg 3 4 with grantor := 0 } else c

/-- SLEEP_VOTE_RX: a vote, or (Release) a vote withdrawn; another node passes it on. (log 67) -/
def sleepVoteRx (p : Nat) (raw : Sourced) (c : Chip) : Chip :=
  c.sleepRx p raw fun c m =>
    if !m.request ∨ m.expiry ≠ 0 then c
    else c.hearLease p raw m (!c.recordedLeader) (c.recordedLeader && m.epoch == c.epoch) fun c =>
      let live := c.pwr.held.filter fun v => decide (c.clk.now ≤ v.last + 300000000)
      let since := match live.find? fun v => v.node == m.holder with | some v => v.since | none => c.clk.now
      let rest := live.filter fun v => v.node != m.holder
      c.onPwr fun q => { q with held := if m.release then rest else rest ++ [{ node := m.holder, since := since, last := c.clk.now }] }

/-- SLEEP_VOTE_EXPIRY: votes not renewed within 300 ms. -/
def sleepVoteExpiry (c : Chip) : Chip := c.onPwr fun p => { p with held := p.held.filter fun v => decide (c.clk.now ≤ v.last + 300000000) }

/-- The node holds a grant: ARMED, the countdown at T_s + 10 ms. (log 65) -/
def Chip.armSleep (c : Chip) (g : SleepGrant) : Chip :=
  (((c.onPwr fun p => { p with grant := some g }).setClove .armed)).onClove fun k => { k with countdown := some (c.clk.now + (g.sleep - c.trainTime) + 10000000) }

/-- SLEEP_GRANT_ISSUE. (log 65) -/
def sleepGrantIssue (c : Chip) : Chip :=
  let n := c.nodeCount
  let recent : Bool := match c.pwr.lastAbort with | some t => decide (c.clk.now < t + c.pwr.settle) | none => false
  let run := !(c.rc.state == .settled || c.rc.state == .held)
  if !c.rolling ∨ !c.actsAsLeader ∨ !c.timeValid ∨ run ∨ recent ∨ c.pwr.grant.isSome ∨ c.clove.state ≠ .awake ∨ n = 0 ∨
      !(c.votersNeeded.all (c.voteHeld c.pwr.settle)) then c
  else
    let tc := c.trainTime + 10000000 + 50000 * n
    let g : SleepGrant := { commit := tc, sleep := tc + 2000000 + 40000 * n, epoch := c.epoch }
    ((c.sendTwice [0, 1] { c.leaseMsg 3 1 with holder := 0, start := g.commit, expiry := g.sleep }).armSleep g).pwCount pwGrants

/-- The telegram comes from the leader in the records, in the epoch in force (R134, R415). -/
def Chip.fromLeader (c : Chip) (p : Nat) (m : LeaseMsg) : Bool := c.fromHolder m.grantor (c.linkDelay p + m.age) && m.epoch == c.epoch

/-- SLEEP_GRANT_RX: EV105 with T_c − issue in µs, from the grant's own rule. -/
def sleepGrantRx (p : Nat) (raw : Sourced) (c : Chip) : Chip :=
  c.sleepRx p raw fun c m =>
    if m.request ∨ m.release then c
    else
      c.hearLease p raw m true true fun c =>
      let c := c.heardSchedule m
      if !c.fromLeader p m ∨ !c.timeValid ∨ c.recordedLeader ∨ c.pwr.grant.isSome ∨ c.clove.state ≠ .awake ∨ m.start = c.pwr.cancelled ∨ m.expiry ≤ c.trainTime then c
      else (c.armSleep { commit := m.start, sleep := m.expiry, epoch := m.epoch }).raiseD 105 0 0xFFFF (10000 + 50 * c.nodeCount)

/-- ABORT_REQUEST_RX: the leader floods an abort for a request made before T_c; another node passes it on. -/
def abortRequestRx (p : Nat) (raw : Sourced) (c : Chip) : Chip :=
  c.sleepRx p raw fun c m =>
    if !m.request ∨ !m.release ∨ m.expiry = 0 then c
    else c.hearLease p raw m (!c.recordedLeader) c.recordedLeader fun c => match c.pwr.grant with
      | some g => if m.epoch = c.epoch ∧ m.expiry = g.sleep ∧ m.start < g.commit then c.floodAbort g else c
      | none => c

/-- SLEEP_ABORT_RX. (log 67) -/
def sleepAbortRx (p : Nat) (raw : Sourced) (c : Chip) : Chip :=
  c.sleepRx p raw fun c m =>
    if m.request ∨ !m.release then c
    else
      c.hearLease p raw m true true fun c =>
      let c := c.heardSchedule m
      match c.pwr.grant with
      | some g => if c.fromLeader p m ∧ m.expiry = g.sleep ∧ c.trainTime < g.sleep then c.cancelGrant else c
      | none => if c.fromLeader p m then c.onPwr fun q => { q with cancelled := m.start } else c

/-- SLEEP_INSTANT: T_s. A node whose abort was not seen stays awake and raises a wake pulse (R418). (log 67) -/
def sleepInstant (c : Chip) : Chip :=
  match c.pwr.grant, c.clove.state with
  | some g, .awake => if g.asked then ((c.onPwr fun p => { p with grant := none, cancelled := g.commit }).pwCount pwAborts).wakePulse else c
  | some _, .armed => c.enterPrepare
  | _, _ => c

/-- CLOVE_COUNTDOWN_EXPIRY. -/
def cloveCountdownExpiry (c : Chip) : Chip := if c.clove.state = .armed ∧ c.clove.countdown.isSome then c.enterPrepare else c

/-! Rows: sleep entry (R406, R408, R412, R417, R429). -/

/-- The recorder stores what entered Q60 before PREPARE began. -/
def Chip.drainRecorder (c : Chip) : Chip :=
  let n := ((c.qm.queue 60).entries.filter fun e => decide (e.since ≤ c.clove.prepareAt)).length
  (List.range (n + if c.log.state = .erasing then 1 else 0)).foldl (fun c _ => recordStore [] none c) c

/-- SLEEP_READY: the island has been told in three link frames, where Nutmeg still sends; firmware has stored the CanWake channels and the records, handed over the STB pins, and reports. (log 65) -/
def sleepReady (c : Chip) : Chip :=
  if c.clove.state = .prepare ∧ !c.clove.switching ∧ c.firmware ∧ (3 ≤ c.safe.plannedSent ∨ !c.safe.nutmeg.on) then
    let c := (c.onPwr fun p => { p with savedCan := (List.range 12).filterMap fun n => if p.canWake n then some (n, (c.canCh n).bufs) else none }).drainRecorder
    c.saveTimes.switchOff false
  else c

/-- PREPARE_FAILSAFE_TIMEOUT: 500 ms in PREPARE. -/
def prepareFailsafeTimeout (c : Chip) : Chip := if c.clove.state = .prepare ∧ !c.clove.switching then c.failSafePath else c

/-- SLEEP_ENTRY_COMPLETE: the domains are off; a latched wake makes a pulse and WAKING with cause 7. -/
def sleepEntryComplete (c : Chip) : Chip :=
  if c.clove.state = .prepare ∧ c.clove.switching then
    let latched := c.clove.latched
    let active := match c.safe.mace.set with | some b => setSleepActive b | none => false
    let c := c.mainDown.onMem fun m => { m with bridge := [] }
    let c := if active then c else (c.onSafe SafeIsland.companionDown).onClove fun k => { k with companionOff := true }
    let c := (c.onPwr fun p => { p with sleepCount := sat32 (p.sleepCount + 1) }).pwCount pwSleeps
    let c := c.onClove fun k => { k with state := .sleep, switching := false, countdown := none, latched := false, sleptAt := c.clk.now }
    if latched then c.wakePulse.wakeUp 7 0xFF 1 else c
  else c

/-! Partial networking (R413). -/

/-- A valid frame matches a wake filter entry. -/
def filterMatches (g : Bytes) (f : CanFrame) : Bool :=
  let fl := fun i => (u8 g 0).testBit i
  fl 0 && f.ext == fl 1 && (f.ident ^^^ u32 g 4) &&& u32 g 8 == 0 &&
    (!fl 2 || (decide (u8 g 1 < f.data.length) && u8 f.data (u8 g 1) &&& u8 g 2 == u8 g 3))

def Power.filter (p : Power) (n i : Nat) : Bytes := p.filters.getD (4 * n + i) (zeros 16)

/-- A valid frame in IGNORING, with its start of frame: the wake request bears its timestamp (R417). -/
def Chip.canIgnoredFrame (c : Chip) (n sof : Nat) (f : CanFrame) : Chip :=
  let c := c.canCount n canIgnored
  let hits := (List.range 4).filter fun i => filterMatches (c.pwr.filter n i) f
  if hits = [] then c
  else
    let c := (c.confirmWake.wakeRequest (c.captureAt sof).1).2
    if hits.any fun i => (u8 (c.pwr.filter n i) 0).testBit 3 then (c.setCan n .integrating).canRaise n 111 else c

/-- CAN_FRAME_RX (R223, R232, R240, R413): a valid frame with its start of frame. -/
def canFrameRx (n sof : Nat) (raw : Bytes) (c : Chip) : Chip :=
  let f := CanFrame.ofBytes raw
  if 12 ≤ n then c
  else match (c.canCh n).state with
  | .ignoring => if f.fd && u8 (c.canCh n).config 1 == 0 then c else c.canIgnoredFrame n sof f
  | .errorActive | .errorPassive => c.canHear n sof f
  | .stopped | .integrating | .busOff | .recovering => c

/-! What every command leaves for firmware to notice. -/

/-- The lease records lose the leader (R418). (log 67) -/
def Chip.leaderGone (c old : Chip) : Bool :=
  match c.bb.leaderLease with
  | none => true
  | some l => c.leaderHolder != old.leaderHolder || decide (l.expiry + c.margin l.timed < c.leaseNow l)

/-- A grant ends with train time, the leader or the epoch (R418). -/
def Chip.followGrant (c old : Chip) : Chip :=
  match c.pwr.grant with
  | none => c
  | some g =>
    if c.clove.state = .prepare ∨ c.clove.state = .sleep then c
    else if g.epoch ≠ c.epoch then c.cancelGrant
    else if !c.timeValid || c.leaderGone old then c.cancelGrant.wakePulse
    else c

/-- Triggers of R66 and the energising of a door release output are wake requests (R417). (log 67) -/
def Chip.followRequests (c old : Chip) : Chip :=
  let c := if old.rc.triggers < c.rc.triggers then c.wakeRequest.2 else c
  if (List.range 4).any fun o => c.doorsReleased o && !old.doorsReleased o then c.wakeRequest.2 else c

/-- A valid backbone telegram or a valid car-bus frame of an end node confirms a wake (R414). -/
def Chip.followWake (c old : Chip) : Chip :=
  if !c.pwr.checking then c
  else
    let bb := (List.range 4).any fun p => decide ((old.bb.port p).counters.getD bbReceived 0 < (c.bb.port p).counters.getD bbReceived 0)
    if bb || decide (old.cb.nodeFrames < c.cb.nodeFrames) then c.confirmWake else c

/-- A vote begins or ends; its end is told once (R415, R416). -/
def Chip.followVote (c : Chip) : Chip :=
  match c.pwr.votes, c.mayVote with
  | none, true => c.onPwr fun p => { p with votes := some c.clk.now }
  | some _, false =>
    let c := c.onPwr fun p => { p with votes := none }
    if c.rolling && !c.recordedLeader then c.sendLease c.leaderEnd { c.leaseMsg 3 6 with grantor := 0 } else c
  | none, false | some _, true => c

/-- What follows in firmware from any command. (log 39) -/
def Chip.follow (old c : Chip) : Chip :=
  if c.firmware then (((c.followGrant old).followRequests old).followWake old).followVote else c

/-! Commands (R421). -/

def pwrStatus : Cmd where
  form := noReq
  act c _ :=
    let p := c.pwr
    let k := c.clove
    let lead := c.recordedLeader
    let need := if lead then c.votersNeeded else []
    let have_ := (need.filter (c.voteHeld 0)).length
    let agr := match p.grant with
      | some g => if g.asked then 4 else if c.trainTime < g.commit then 2 else 3
      | none => b2n p.votes.isSome
    let g := p.grant.getD { commit := 0, sleep := 0, epoch := 0 }
    c.ok (le 1 k.state.code ++ le 1 agr ++ le 1 k.wakeCause ++ le 1 k.wakePort ++
      le 1 (b2n p.votes.isSome + b2n k.latched * 2 + b2n p.checking * 4 + b2n k.failSafe * 8 + b2n (lead && have_ == need.length) * 16) ++ zeros 3 ++
      le 8 g.commit ++ le 8 g.sleep ++ le 2 have_ ++ le 2 need.length ++ le 2 p.lastPrepare ++ zeros 2 ++ le 4 p.sleepCount)

def pwrConfigSet : Cmd where
  form _ r :=
    [lenIs r 32, enc (decide (u8 r 0 < 4)) 0, enc (decide (u16 r 2 < 4096)) 2, enc (maskOk (u32 r 4)) 4, enc (decide (u16 r 8 < 4096)) 8, rsv r 14 2, rsv r 20 12,
     rng (decide (u8 r 1 ≤ 1)) 1, rng (decide (500 ≤ u16 r 10 ∧ u16 r 10 ≤ 60000)) 10, rng (decide (100 ≤ u16 r 12 ∧ u16 r 12 ≤ 60000)) 12,
     rng (decide (u32 r 16 ≤ 604800)) 16]
  act c r := (c.onPwr fun p => { p with config := r }).ok

def pwrConfigGet : Cmd where
  form := noReq
  act c _ := c.ok c.pwr.config

/-- The train time of the doorbell of a command under way (R417). -/
def Chip.rungTrain (c : Chip) (op : Nat) : Nat := match c.host.busyWith op with | some n => lAt (c.host.mb n).capture 0 8 | none => c.trainTime

def pwrVote : Cmd where
  form _ r := [lenIs r 4, enc (decide (u8 r 0 ≤ 1)) 0, rsv r 1 3]
  act c r :=
    let allowed := u8 r 0 == 1
    let c := c.onPwr fun p => { p with hostVote := some allowed }
    (if allowed then c else (c.confirmWake.wakeRequest (c.rungTrain 0x0A03)).2).ok

def pwrWakeRequest : Cmd where
  form := noReq
  act c _ :=
    let (effect, c) := c.confirmWake.wakeRequest (c.rungTrain 0x0A04)
    c.ok (le 1 effect ++ zeros 3)

def pwrSleepLocal : Cmd where
  form := noReq
  state c _ := [need (!c.rolling || c.nodeCount == 1) 0x06]
  act c _ := ((c.onPwr fun p => { p with grant := none }).enterPrepare).ok

def pwrPnSet : Cmd where
  form _ r :=
    let get := u8 r 2 == 1
    let ext := (u8 r 4).testBit 1
    [lenIs r 20, enc (decide (u8 r 2 ≤ 1)) 2, rsv r 3 1] ++
    (if get then [rsv r 4 16] else [enc (decide (u8 r 4 < 16)) 4, identRsv ext (u32 r 8) 8, identRsv ext (u32 r 12) 12, rsv r 16 4]) ++
    [rng (decide (u8 r 0 ≤ 11)) 0, rng (decide (u8 r 1 ≤ 3)) 1, rng (decide (u8 r 5 ≤ 63)) 5]
  act c r :=
    let i := 4 * u8 r 0 + u8 r 1
    let c := if u8 r 2 = 0 then c.onPwr fun p => { p with filters := p.filters.set i (r.drop 4) } else c
    c.ok (c.pwr.filters.getD i (zeros 16))

def pwrPnMode : Cmd where
  form _ r := [lenIs r 4, enc (decide (u8 r 1 ≤ 1)) 1, rsv r 2 2, rng (decide (u8 r 0 ≤ 11)) 0]
  state c r :=
    let st := (c.canCh (u8 r 0)).state
    [need (st != .stopped && (u8 r 1 == 1 || st == .ignoring)) 0x06]
  act c r :=
    let n := u8 r 0
    let x := c.canCh n
    if u8 r 1 = 0 then (let c := (c.setCan n .integrating).canRaise n 111; c.ok (le 1 (c.canCh n).state.code ++ zeros 3))
    else if x.state = .ignoring then c.ok (le 1 x.state.code ++ zeros 3)
    else match c.canBusy n with
      | (true, c) => { chip := c.onCan n fun x => { x with ignoring := true }, busy := true }
      | (false, c) => (let c := c.canIgnore n; c.ok (le 1 (c.canCh n).state.code ++ zeros 3))

def pwrCounters : Cmd where
  form := noReq
  act c _ := (c.onPwr fun p => { p with counters := List.replicate 9 0 }).ok (cntBytes c.pwr.counters)

end Sys2Proof.Machine
end

