-- ==== Sys2Proof/Machine/Boot.lean ====
section
/-! DEFINITION. Start-up, reset and absence (R442–R468): the boot steps, the journal, the firmware images, and opcodes 0x0C00–0x0C0A. -/
namespace Sys2Proof.Machine
open Host (Outcome)

/-! The boot journal (R448). -/

def updLast {α : Type} (l : List α) (f : α → α) : List α :=
  match l.getLast? with | some x => l.dropLast ++ [f x] | none => l

def Chip.onEntry (c : Chip) (f : JournalEntry → JournalEntry) : Chip := c.onJournal fun j => { j with entries := updLast j.entries f }

/-- The step state of Bn; BootStep follows. -/
def Chip.setStep (c : Chip) (n st : Nat) : Chip := (c.onEntry fun e => { e with steps := e.steps.set (n - 1) st }).onBoot fun b => { b with step := n }

/-- Bn ends its work: its failure counts return to 0 (R449, R451); state 4 where another slot was taken for it. -/
def Chip.stepDone (c : Chip) (n : Nat) : Chip :=
  let c := (c.setStep n (if c.boot.replaced.contains n then 4 else 2)).onJournal fun j => { j with failures := j.failures.set (n - 1) 0 }
  c.onClove fun k => { k with retries := match retrySteps.findIdx? (· == n) with | some i => k.retries.set i 0 | none => k.retries }

/-- Open the entry of a start; the start before it gets its EndCause. -/
def Chip.openEntry (c : Chip) : Chip :=
  let cause := c.clove.resetCause
  let c := c.onEntry fun e => if e.endCause = 0xFF then { e with endCause := cause } else e
  let e : JournalEntry := { seq := c.boot.journal.nextSeq, powerCycles := c.log.powerCycles, operatingTime := c.log.opTime c.clk.now, resetCause := cause
                            startCount := c.boot.startCount % 65536 }
  (c.onJournal fun j => { j with entries := (j.entries ++ [e]).drop (j.entries.length - 63), nextSeq := next32 j.nextSeq }).onClove
    fun k => { k with counted := false, challenged := false }

def JournalEntry.bytes (e : JournalEntry) : Bytes :=
  le 4 e.seq ++ le 4 e.powerCycles ++ le 8 e.operatingTime ++ le 8 (e.steps.foldr (fun s acc => s % 8 + 8 * acc) 0) ++ le 1 e.resetCause ++ le 1 e.endCause ++
  le 1 e.imageSlot ++ le 1 e.outcome ++ le 2 e.startCount ++ le 2 e.bootDuration

/-! Images (R452, R453). -/

def Chip.slot (c : Chip) (s : Nat) : FlashSlot := if s = 0 then c.boot.slotA else c.boot.slotB
def Chip.onSlot (c : Chip) (s : Nat) (f : FlashSlot → FlashSlot) : Chip := c.onBoot fun b => if s = 0 then { b with slotA := f b.slotA } else { b with slotB := f b.slotB }

/-- Bytes of a slot as the flash reads. (log 37) -/
def Chip.flash (c : Chip) (s off len : Nat) : Bytes :=
  if (c.slot s).fitted then (List.range len).map fun i => Config.flashByte s (off + i) else ((c.slot s).inverted.read off len).map (0xFF#8 ^^^ ·)

def Chip.header (c : Chip) (s : Nat) : Bytes := c.flash s 0 256
def hdrSecurity (h : Bytes) : Nat := u32 h 0x0C

/-- The body as B04 loads it matches its hash. (log 70) -/
def Chip.bodyOk (c : Chip) (s : Nat) : Bool :=
  let h := c.header s
  let n := u32 h 0x10
  decide (65536 ≤ n ∧ n ≤ 6291456 ∧ n % 64 = 0) && (Config.sha256 (c.flash s 256 n)).toNat == bAt h 0x20 32

/-- The checks of B05. (log 70) -/
def Chip.headerOk (c : Chip) (s : Nat) : Bool :=
  let h := c.header s
  let k := u8 h 0x40
  u32 h 0 == 0x5A4B4657 && u16 h 4 == 1 && u16 h 6 == 256 && u8 h 8 == 2 && decide (hdrSecurity h ≤ 63) && decide (k ≤ 3) &&
    Config.sha256 (slice h 0x80 64) == Config.keyHash k && !c.fuses.revoked.testBit k && Config.ecdsaValid (slice h 0x80 64) (h.take 0xC0) (slice h 0xC0 64) &&
    decide (c.fuses.minSecurity ≤ hdrSecurity h)

/-! Slots and trials (R454, R455). -/

def Journal.isBad (j : Journal) (s : Nat) : Bool := if s = 0 then j.badA else j.badB
def Journal.setBad (j : Journal) (s : Nat) (b : Bool) : Journal := if s = 0 then { j with badA := b } else { j with badB := b }

/-- Mark a slot Bad; a trial on it is reverted at that moment. -/
def Journal.condemn (j : Journal) (s : Nat) : Journal :=
  let j := j.setBad s true
  if j.trial = s then { j with trial := 0xFF, trialStarts := 0, reverts := j.reverts + 1 } else j

/-- The slots still open to this start, first choice first. -/
def Journal.order (j : Journal) : List Nat := ((if j.trial = 0xFF then [] else [j.trial]) ++ [j.preferred, 1 - j.preferred]).filter fun s => !j.isBad s

/-- No slot remains. (log 69) -/
def Chip.halt (c : Chip) (n : Nat) : Chip := (c.onBoot fun b => { b with state := .halted, step := n, imageSlot := 0 }).onEntry fun e => { e with outcome := 3, imageSlot := 0xFF }

def Chip.replace (c : Chip) (n : Nat) : Chip := c.onBoot fun b => { b with replaced := if b.replaced.contains n then b.replaced else b.replaced ++ [n] }

/-- Take a slot for this start. -/
def Chip.takeSlot (c : Chip) (s : Nat) : Chip :=
  let j := c.boot.journal
  let trial := j.trial == s
  let c := c.onJournal fun j => { j with trialStarts := if trial then j.trialStarts + 1 else j.trialStarts }
  c.onBoot fun b => { b with imageSlot := s, onTrial := trial, trialBegan := b.trialBegan || (trial && j.trialStarts == 0) }

/-- The start runs a slot's image: another slot than the one whose start set the SkipMask clears it (R450). (log 69) -/
def Chip.runsSlot (c : Chip) (s : Nat) : Chip := c.onJournal fun j => { j with
  skipMask := if j.skipSlot = s ∨ j.skipSlot = 0xFF then j.skipMask else 0, skipSlot := if j.skipSlot = s then s else 0xFF }

/-- The session count rises at B06 of every start; every stream's Sequence starts at 0 in the new session (R117). (log 69) -/
def Chip.newSession (c : Chip) : Chip :=
  (c.onJournal fun j => { j with session := (j.session + 1) % 4294967296 }).onBb fun b => { b with streams := [], pubs := b.pubs.map fun p => { p with sequence := 0 } }

/-- A start: whether it goes on, and the chip. -/
abbrev Start := Bool × Chip

/-- The next step, if the start goes on. -/
def Start.next (s : Start) (f : Chip → Start) : Start := if s.1 then f s.2 else s

/-- B04 to B06 on the slots in order (R446, R454). `hang`: the step this start never completes; `fails`: steps that report a failure. -/
def Chip.bootImage (hang : Nat) : Nat → List Nat → Chip → Start
  | 0, _, c => (false, c)
  | fuel + 1, fails, c =>
    match c.boot.journal.order with
    | [] => (false, c.halt (match c.boot.replaced with | n :: _ => n | [] => 3))
    | s :: _ =>
      let fail := fun (n : Nat) (c : Chip) => Chip.bootImage hang fuel (fails.erase n) ((c.replace n).onJournal fun j => j.condemn s)
      let c := (c.takeSlot s).setStep 4 1
      let c := c.onEntry fun e => { e with imageSlot := s }
      if hang = 4 then (false, c)
      else if !c.bodyOk s || fails.contains 4 then fail 4 c
      else
        let c := (c.stepDone 4).setStep 5 1
        if hang = 5 then (false, c)
        else if !c.headerOk s || fails.contains 5 then fail 5 c
        else
          let c := (c.stepDone 5).setStep 6 1
          if hang = 6 then (false, c)
          else if fails.contains 6 then fail 6 c
          else
            let h := c.header s
            let c := (c.runsSlot s).newSession
            let c := c.onBoot fun b => { b with fwMajor := u8 h 8, fwMinor := u8 h 9, fwPatch := u16 h 0x0A, security := hdrSecurity h, buildStamp := u64 h 0x18 }
            (true, c.stepDone 6)

/-! B03 (R449–R451, R455, R456). -/

/-- The policy of a step that the start before left begun. -/
def Chip.policy (c : Chip) (prev : JournalEntry) (n : Nat) : Chip :=
  if n = 4 ∨ n = 5 ∨ n = 6 then
    let c := c.replace n
    if prev.imageSlot = 0xFF then c else c.onJournal fun j => j.condemn prev.imageSlot
  else if retrySteps.contains n then c
  else c.onJournal fun j => { j with skipMask := j.skipMask ||| (1#14 <<< (n - 1)), skipSlot := prev.imageSlot }

/-- The steps an entry holds in state 1. -/
def JournalEntry.begun (e : JournalEntry) : List Nat := ((List.range 14).map (· + 1)).filter fun n => e.steps.getD (n - 1) 0 == 1

def Chip.judgePrevious (c : Chip) : Chip :=
  let c := c.onJournal fun j => { j with failures := (retrySteps.zip c.clove.retries).foldl (fun f p => f.set (p.1 - 1) p.2) j.failures }
  match c.boot.journal.entries.dropLast.getLast? with
  | none => c
  | some e =>
    if e.begun = [] ∨ c.clove.resetCause = 0 then c
    else
      let c := (c.onJournal fun j => { j with failures := (e.begun.filter fun n => !retrySteps.contains n).foldl (fun f n => f.set (n - 1) (f.getD (n - 1) 0 + 1)) j.failures }).onBoot
        fun b => { b with failedStep := e.begun.headD 0 }
      if c.boot.journal.trial ≠ 0xFF ∧ e.imageSlot = c.boot.journal.trial then c.onJournal fun j => j.condemn j.trial
      else e.begun.foldl (fun c n => c.policy e n) c

/-- A journal that fails its check value is rebuilt empty, with PreferredSlot A (R446). (log 69) -/
def Chip.rebuildJournal (c : Chip) : Chip :=
  let first := match c.boot.journal.entries.getLast? with | some e => e.steps.take 2 | none => [2, 2]
  let c := (c.onJournal fun _ => {}).openEntry
  (c.onEntry fun e => { e with steps := first ++ List.replicate 12 0 }).setStep 3 1

/-- The work of B03 before the slot is chosen. -/
def Chip.readJournal (c : Chip) (damaged : Bool) : Chip :=
  let c := (if damaged then c.rebuildJournal else c).judgePrevious
  let c := c.onJournal fun j => if j.trial ≠ 0xFF ∧ 3 ≤ j.trialStarts then j.condemn j.trial else j
  c.onBoot fun b => { b with service := b.journal.serviceNext == 1 }

/-! B07 to B14. -/

/-- SERVICE is where this start ends (R456). -/
def Boot.toService (b : Boot) : Bool := b.service || (b.journal.stopOnFailure == 1 && !b.replaced.isEmpty)

/-- The values of the blocks that a firmware restart stops. -/
def Chip.loadStopped (c : Chip) (s : Stored) : Chip :=
  let c := (c.onDir fun d => { d with vehicle := { cur := s.vehicle } }).onRc fun r => { r with config := s.rollcall }
  (c.onBb fun b => { b with config := s.backbone, image := { cur := s.schedule } }).onBr fun b => { b with config := s.bridge }

/-- What skipping or replacing a step leaves (R446). (log 68) -/
def Chip.skipEffect (c : Chip) (fw : Bool) (n : Nat) : Chip :=
  match n with
  | 7 => c.recorderFail
  | 8 =>
    let c := if fw && c.boot.ran.contains 8 then
        (({ c with stored := if c.boot.loaded then c.collect else c.stored }).loadStopped {}).schedUpdate.onBoot fun b => { b with loaded := false }
      else c.onPwr fun p => { p with config := pwrReset, filters := ({} : Power).filters }
    c.onBoot fun b => { b with ran := 8 :: b.ran.filter (· != 8) }
  | 11 =>
    let own := match c.boot.held with | some h => h | none => (c.tiles.backbone, c.tiles.mac)
    ({ c with tiles := { c.tiles with backbone := 0xF, mac := 0xFFF } }).onBoot fun b => { b with held := some own }
  | _ => c

/-- The channels of CanWake restored into IGNORING after a wake by a line, a CAN channel or a branch-channel (R414). (log 68) (log 51) -/
def Chip.restoreCan (c : Chip) : Chip :=
  if c.clove.state = .waking ∧ 1 ≤ c.clove.wakeCause ∧ c.clove.wakeCause ≤ 4 then
    (List.range 12).foldl (fun c n =>
      if c.pwr.canWake n then
        let c := match c.pwr.savedCan.lookup n with | some bufs => c.onCan n fun x => { x with bufs := bufs } | none => c
        (c.canMatrixStart n).canIgnore n
      else c) c
  else c

/-- The work of a step from B07 to B13. (log 69) -/
def Chip.stepWork (c : Chip) (fw : Bool) (n : Nat) : Chip :=
  match n with
  | 7 => c.recorderScan
  | 8 =>
    if fw && c.boot.ran.contains 8 then (if c.boot.loaded then c else (c.loadStopped c.stored).schedUpdate)
    else ((c.load c.stored).onBoot fun b => { b with loaded := true }).schedUpdate
  | 9 => c.onSafe SafeIsland.deliver
  | 10 => if c.mem.state = .stopped ∨ c.mem.state = .failed then ddrTrainingComplete true (c.setMem .training) else c
  | 11 => match c.boot.held with
    | some (b, m) => ({ c with tiles := { c.tiles with backbone := b, mac := m } }).onBoot fun b => { b with held := none }
    | none => c
  | 12 => if c.boot.journal.autoStart % 2 = 1 ∧ c.clove.state ≠ .prepare then c.startEngine else c
  | 13 => c.restoreCan
  | _ => c

/-- The subsystem that a step starts still runs through a firmware restart (R444). (log 69) -/
def Chip.keepsRunning (c : Chip) (n : Nat) : Bool :=
  match n with
  | 7 => c.log.state != .failed && c.log.state != .scanning
  | 9 => c.safe.nutmeg.state != .unconfigured
  | 10 => c.memBusy
  | 11 | 13 => c.boot.ran.contains n
  | _ => false

/-- A step's work is done. -/
def Chip.noteRan (c : Chip) (n : Nat) : Chip := c.onBoot fun b => { b with ran := n :: b.ran.filter (· != n) }

/-- A step from B07 to B13 (R446, R450, R456); in a firmware restart a step whose subsystem is still running is not needed (R444). (log 69) -/
def Chip.bootStep (fw : Bool) (hang : Nat) (fails : List Nat) (n : Nat) (c : Chip) : Start :=
  let c := c.setStep n 1
  if (n = 12 ∨ n = 13) ∧ c.boot.toService then (true, c.setStep n 5)
  else if c.boot.journal.skipMask.getLsbD (n - 1) then (true, ((c.setStep n (if n = 8 then 4 else 3)).replace n).skipEffect fw n)
  else if fw && c.keepsRunning n then (true, c.setStep n 5)
  else if hang = n then (false, if n = 10 ∧ c.mem.state = .stopped then c.setMem .training else c)
  else if n = 10 ∧ fails.contains 10 ∧ (c.mem.state = .stopped ∨ c.mem.state = .failed) then (true, (ddrTrainingComplete false (c.setMem .training)).stepDone 10)
  else if fails.contains n then (true, ((c.setStep n (if n = 8 then 4 else 3)).replace n).skipEffect fw n)
  else (true, ((c.stepWork fw n).noteRan n).stepDone n)

/-- A record of firmware (R425). -/
def Chip.fwRecord (c : Chip) (severity code : Nat) (payload : Bytes) : Chip :=
  let (c, d) := c.intake (c.makeRecord severity 2 0 code 0 0 0 payload)
  (c.noteDrop (d.map (·.1))).1

/-- READY or SERVICE (R352, R405, R412, R414, R425, R446, R462). (log 35, log 69) (log 71) -/
def Chip.becomeReady (c : Chip) : Chip :=
  let svc := c.boot.toService
  let k := c.clove
  let woke := k.state == .waking
  let (ms, c) := c.draw
  let ms := ms % 4294967296
  let c := c.onBoot fun b => { b with state := if svc then .service else .ready, bootDuration := ms }
  let c := c.onJournal fun j => { j with serviceNext := if c.boot.service then 0 else j.serviceNext }
  let c := (c.onEntry fun e => { e with outcome := if svc then 2 else 1, bootDuration := sat 16 ms }).mailboxesIdle
  let c := c.onHost fun h => { h with ifVersion := 0x0200 + Config.interfaceMinor.toNat }
  let c := match c.log.sleepNote with
    | some (ts, fs) => (c.fwRecord 2 2 (le 8 ts ++ le 1 (b2n fs))).onLog fun r => { r with sleepNote := none }
    | none => c
  let b := c.boot
  let c := c.fwRecord 3 1 (le 1 k.wakeCause ++ le 1 b.imageSlot ++ le 1 b.failedStep ++ zeros 1 ++ le 1 b.fwMajor ++ le 1 b.fwMinor ++ le 2 b.fwPatch)
  let c := if woke then c.setClove .awake else c
  let c := if k.failSafeDue then (c.raise 109).pwCount pwFailSafe else c
  let c := (b.replaced ++ k.waited).foldl (fun c n => c.raiseD 120 0 0xFFFF n) c
  let c := if b.trialBegan then c.raiseD 121 0 0xFFFF 1 else c
  let c := (List.range b.journal.reverts).foldl (fun c _ => c.raiseD 121 0 0xFFFF 3) c
  let c := if 2 ≤ k.resetCause ∧ k.resetCause ≤ 8 then c.raiseD 122 0 0xFFFF k.resetCause else c
  let c := (c.onJournal fun j => { j with reverts := 0 }).onClove fun k => { k with failSafeDue := false, waited := [], crystalReported := k.crystalNote, crystalNote := false }
  let c := if k.crystalNote then c.emit .crystalReport else c
  let c := if k.state = .prepare then c.quiesce else c
  if woke ∧ 1 ≤ k.wakeCause ∧ k.wakeCause ≤ 4 then c.onPwr fun p => { p with checking := true } else c

/-- A Retry step (R446, R451). -/
def Chip.retryStep (hang n : Nat) (c : Chip) : Start :=
  let c := c.setStep n 1
  if hang = n then (false, c) else (true, c.stepDone n)

/-- A start from B01, or from B02 for a firmware restart. `hang` is the step that is begun and never completed (15: none); `fails` names the steps that
report a failure, 3 standing for a journal that fails its check value. (log 34, log 69) -/
def Chip.runStart (fw : Bool) (hang : Nat) (fails : List Nat) (c : Chip) : Chip :=
  let c := c.onBoot fun b => { b with
    state := .booting, step := 0, failedStep := 0, bootDuration := 0, replaced := [], trialBegan := false, service := false, onTrial := false, restart := none
    down := false, begun := none, loaded := b.loaded && fw, ran := if fw then b.ran else [] }
  let s : Start := (true, c.openEntry)
  let s := if fw then s.next (fun c => (true, c.setStep 1 5)) else s.next (Chip.retryStep hang 1)
  let s := (s.next (Chip.retryStep hang 2)).next fun c => (decide (hang ≠ 3), if hang = 3 then c.setStep 3 1 else ((c.setStep 3 1).readJournal (fails.contains 3)).stepDone 3)
  let s := s.next (Chip.bootImage hang 6 fails)
  let s := [7, 8, 9, 10, 11, 12, 13].foldl (fun s n => s.next (Chip.bootStep fw hang fails n)) s
  ((s.next (Chip.retryStep hang 14)).next fun c => (true, c.becomeReady)).2

/-! Rows: supplies, reset, reference, crystal (R28, R35, R442, R443, R467, R468). -/

/-- LocalTime starts at 0 (R148): instants that Clove and the recorder hold are counted from there. (log 74) -/
def Chip.rebase (c : Chip) : Chip :=
  let now := c.clk.now
  let c := c.onLog fun r => { r with opBase := r.opBase + (now - r.opMark), opMark := 0, awakeBase := r.awakeBase + (now - r.awakeMark), awakeMark := 0 }
  (c.onClove fun k => { k with refractory := k.refractory - now, sleptAt := 0, wokenAt := none }).onClk fun k => { k with now := 0 }

/-- MAIN_DIE_RELEASE. (log 34, log 69) -/
def mainDieRelease (hang : Nat) (fails : List Nat) (c : Chip) : Chip :=
  let k := c.clove
  if !k.powered ∨ k.state = .sleep ∨ !k.refRunning ∨ !k.nrstHigh ∨ k.waiting ∨ c.mainDie then c
  else
    let c := (c.rebase.onLog fun r => { r with powerCycles := (r.powerCycles + 1) % 4294967296 }).onBoot fun b => { b with startCount := 1 }
    Chip.runStart false hang fails { c with safe := c.safe.nutmegUp }

/-- RETRY_WAIT_EXPIRY. (log 71) -/
def retryWaitExpiry (hang : Nat) (fails : List Nat) (c : Chip) : Chip :=
  if c.clove.waiting then mainDieRelease hang fails (c.onClove fun k => { k with waiting := false }) else c

/-- POWER_UP: OperatingTime goes on from what MRAM holds (R426). (log 35) -/
def powerUp (c : Chip) : Chip :=
  if c.clove.powered then c
  else
    let k := c.clove
    let r := c.log
    let found := r.slots.foldl (fun m s => max m (recOpTime s.2)) r.savedOp
    let first := found == 0 && r.savedPower == 0
    let c := c.onLog fun r => { r with powerCycles := r.savedPower, opBase := if first then 0 else (found + 1) * 1000000, opMark := c.clk.now
                                       awakeBase := if first then 0 else (r.savedAwake + 1) * 1000000, awakeMark := c.clk.now }
    { c with clove := { powered := true, refRunning := k.refRunning, nrstHigh := k.nrstHigh, counted := true } }

/-- ALWAYS_ON_LOSS. (log 76) -/
def alwaysOnLoss (c : Chip) : Chip :=
  let k := c.clove
  let c := c.mainDown.onPwr fun p => { p with config := pwrReset }
  { c with clove := { powered := false, refRunning := k.refRunning, nrstHigh := k.nrstHigh } }

/-- NRST_ASSERT. (log 35, log 75) -/
def nrstAssert (c : Chip) : Chip :=
  let c := c.onClove fun k => { k with nrstHigh := false }
  if !c.clove.powered then c
  else if c.clove.state = .sleep then c.wakeUp 6 0xFF 2 else c.mainReset 2

/-- NRST_RELEASE. (log 75) -/
def nrstRelease (c : Chip) : Chip := c.onClove fun k => { k with nrstHigh := true }

/-- REFERENCE_LOST: watched in AWAKE, ARMED and PREPARE only. -/
def referenceLost (c : Chip) : Chip :=
  let c := c.onClove fun k => { k with refRunning := false }
  match c.clove.powered, c.clove.state with
  | true, .awake | true, .armed | true, .prepare => (c.mainReset 3).onClove fun k => { k with refLost := true }
  | _, _ => c

/-- REFERENCE_RETURN. -/
def referenceReturn (c : Chip) : Chip := c.onClove fun k => { k with refRunning := true }

/-- CRYSTAL_STABLE and CRYSTAL_LOST. -/
def crystalStable (c : Chip) : Chip := c.onClove fun k => { k with crystal := k.powered }
/-- See log 71. -/
def crystalLost (c : Chip) : Chip := c.onClove fun k => { k with crystal := false, crystalNote := true }

/-! Rows: watchdogs and restarts (R442, R444, R445, R447). -/

/-- BOOT_STEP_WATCHDOG. -/
def bootStepWatchdog (c : Chip) : Chip := if c.boot.state = .booting then c.mainReset 4 else c

/-- The challenge before, if there was one since the start, has its answer (R445). (log 35) -/
def Clove.healthy (k : Clove) (answer : Option Nat) : Bool :=
  !k.challenged || (match answer with | some a => a % 65536 == (k.challenge + 1) % 65536 | none => false)

/-- HEALTH_CHALLENGE: `answer` is what firmware has written into the answer register since the challenge before, none where it has written nothing.
(log 35) -/
def healthChallenge (answer : Option Nat) (c : Chip) : Chip :=
  if !c.firmware then c
  else if c.clove.healthy answer then
    let (v, c) := c.draw
    c.onClove fun k => { k with challenge := v % 65536, challenged := true, answer := (answer.getD k.answer) % 65536 }
  else
    let c := (c.onRc fun r => { r with relaysOpen := false }).onClove fun k => { k with challenged := false, answer := (answer.getD k.answer) % 65536 }
    match c.clove.state with
    | .armed => c.failSafePath
    | .prepare => if c.clove.switching then c else c.failSafePath
    | .awake | .sleep | .waking => c.fwDown 5

/-- FIRMWARE_FATAL_ERROR. -/
def firmwareFatalError (c : Chip) : Chip := if c.firmware then c.fwDown 8 else c

/-- The start of a firmware restart. -/
def Chip.fwStart (hang : Nat) (fails : List Nat) (c : Chip) : Chip :=
  Chip.runStart true hang fails (c.onBoot fun b => { b with startCount := (b.startCount + 1) % 4294967296 })

/-- FIRMWARE_RESTART: FW_RESTART takes place, or the complex leaves the reset of R445 or of a fatal error. (log 71) -/
def firmwareRestart (hang : Nat) (fails : List Nat) (c : Chip) : Chip :=
  match c.boot.restart with
  | some 1 => c.mainReset 7
  | some _ => (c.fwDown 6).fwStart hang fails
  | none => if c.boot.down then c.fwStart hang fails else c

/-! Commands (R461). -/

/-- See log 70. -/
def bootStatus : Cmd where
  form := noReq
  act c _ :=
    let j := c.boot.journal
    let a := c.header 0
    let b := c.header 1
    c.ok (le 1 j.preferred ++ le 1 j.trial ++ le 1 j.trialStarts ++ le 1 (b2n j.badA + b2n j.badB * 2) ++ le 2 j.skipMask.toNat ++ le 1 c.clove.resetCause ++
      le 1 c.fuses.minSecurity ++ le 4 (match j.entries.getLast? with | some e => e.seq | none => 0) ++ slice a 8 4 ++ slice b 8 4 ++
      le 1 (hdrSecurity a) ++ le 1 (hdrSecurity b) ++ zeros 2)

def bootJournalRead : Cmd where
  form _ r := [lenIs r 8, rsv r 5 3, rng (decide (1 ≤ u8 r 4 ∧ u8 r 4 ≤ 15)) 4]
  act c r :=
    let j := c.boot.journal
    let from_ := if u32 r 0 = 0 then j.entries else j.entries.dropWhile fun e => newer (u32 r 0) e.seq
    let es := from_.take (u8 r 4)
    let nxt := match from_.drop (u8 r 4) with | e :: _ => e.seq | [] => j.nextSeq
    c.ok (le 1 es.length ++ zeros 3 ++ le 4 nxt ++ es.flatMap JournalEntry.bytes)

def bootJournalClear : Cmd where
  form _ r := [lenIs r 4, enc (decide (u8 r 0 < 4)) 0, rsv r 1 3]
  act c r :=
    let c := if (u8 r 0).testBit 0 then c.onJournal fun j => { j with skipMask := 0, skipSlot := 0xFF, failures := List.replicate 14 0 } else c
    (if (u8 r 0).testBit 1 then c.onJournal fun j => { j with badA := false, badB := false } else c).ok

def bootConfigSet : Cmd where
  form _ r := [lenIs r 8, enc (decide (u8 r 0 < 2)) 0, rsv r 3 5, rng (decide (u8 r 1 ≤ 1)) 1, rng (decide (u8 r 2 ≤ 1)) 2]
  act c r := (c.onJournal fun j => { j with autoStart := u8 r 0, serviceNext := u8 r 1, stopOnFailure := u8 r 2 }).ok

def bootConfigGet : Cmd where
  form := noReq
  act c _ := c.ok (le 1 c.boot.journal.autoStart ++ le 1 c.boot.journal.serviceNext ++ le 1 c.boot.journal.stopOnFailure ++ zeros 5)

/-- ARMED or PREPARE. -/
def Chip.sleepNear (c : Chip) : Bool := c.clove.state == .armed || c.clove.state == .prepare

def fwBegin : Cmd where
  form := noReq
  state c _ := [need (c.boot.journal.trial == 0xFF && !c.sleepNear) 0x06]
  act c _ :=
    let s := 1 - c.boot.imageSlot
    let c := (c.onSlot s fun _ => { fitted := false }).onJournal fun j => j.setBad s false
    ((c.onBoot fun b => { b with begun := some [] }).raiseD 123 0 0xFFFF 0x0C05).ok (le 1 s ++ zeros 3)

/-- No byte of the range has been written since FW_BEGIN. -/
def untouched (done : List (Nat × Nat)) (off len : Nat) : Bool := done.all fun d => decide (off + len ≤ d.1 ∨ d.1 + d.2 ≤ off)

/-- See log 70. -/
def fwWrite : Cmd where
  form _ r := [lenData r 8 (u16 r 4), rsv r 6 2, rng (decide (u32 r 0 + u16 r 4 ≤ 8388608)) 0, rng (decide (1 ≤ u16 r 4 ∧ u16 r 4 ≤ 480)) 4]
  state c r := [need (match c.boot.begun with | some d => untouched d (u32 r 0) (u16 r 4) | none => false) 0x06]
  act c r :=
    let c := c.onSlot (1 - c.boot.imageSlot) fun x => { x with inverted := x.inverted.write (u32 r 0) ((r.drop 8).map (0xFF#8 ^^^ ·)) }
    (c.onBoot fun b => { b with begun := b.begun.map fun d => (u32 r 0, u16 r 4) :: d }).ok

/-- See log 70. -/
def fwActivate : Cmd where
  form := noReq
  state c _ :=
    let s := 1 - c.boot.imageSlot
    [need (c.boot.journal.trial == 0xFF) 0x06, need (c.headerOk s && c.bodyOk s) 0x0C]
  act c _ :=
    let s := 1 - c.boot.imageSlot
    let h := c.header s
    let c := c.onJournal fun j => { j.setBad s false with trial := s, trialStarts := 0 }
    (c.raiseD 123 0 0xFFFF 0x0C07).ok (le 1 s ++ le 1 (hdrSecurity h) ++ slice h 0x0A 2 ++ slice h 8 1 ++ slice h 9 1 ++ zeros 2)

def fwConfirm : Cmd where
  form := noReq
  state c _ := [need c.boot.onTrial 0x06]
  act c _ :=
    let c := (c.onJournal fun j => { j with preferred := c.boot.imageSlot, trial := 0xFF, trialStarts := 0 }).onBoot fun b => { b with onTrial := false }
    (c.raiseD 121 0 0xFFFF 2).ok

/-- See log 71. -/
def fwRestart : Cmd where
  form _ r := [lenIs r 4, enc (decide (u8 r 0 ≤ 1)) 0, rsv r 1 3]
  state c _ := [need (!c.sleepNear) 0x06]
  act c r := (c.onBoot fun b => { b with restart := some (u8 r 0) }).ok

def fwSecurityAdvance : Cmd where
  form c r := [lenIs r 4, rsv r 1 3, rng (decide (u8 r 0 = c.boot.security)) 0]
  state c _ := [need (!c.boot.onTrial) 0x06]
  act c _ :=
    let c := { c with fuses := { c.fuses with minSecurity := max c.fuses.minSecurity c.boot.security } }
    c.ok (le 1 c.fuses.minSecurity ++ zeros 3)

end Sys2Proof.Machine
end

