-- ==== Sys2Proof/Machine/HostBlock.lean ====
section
/-! DEFINITION. The register block, the SPI target, the PCIe link, interrupts towards the host and the diagnostics commands (R340–R370). -/
namespace Sys2Proof.Machine

/-! Diagnostics commands (R364, R367). -/

def ifIdentify : Cmd where
  form := noReq
  act c _ :=
    let b := c.boot
    let h := c.host
    c.ok (le 1 2 ++ le 1 Config.interfaceMinor.toNat ++ le 1 b.fwMajor ++ le 1 b.fwMinor ++ le 2 b.fwPatch ++ le 1 0x0B ++
      le 1 (b2n h.pcieUp + b2n h.spiSeen * 2 + b2n h.msi.enable * 4) ++ le 8 c.fuses.identity ++ le 8 b.buildStamp ++ le 1 b.imageSlot ++
      le 1 (if h.msi.enable then 2 ^ h.msi.vecLog2 else 0) ++ le 1 (if h.pcieUp then h.pcieWidth % 16 + h.pcieSpeed % 16 * 16 else 0) ++ zeros 5)

/-- IF_ECHO: the data is the rest of the request; more than 504 bytes are refused at step 6 (R355). -/
def ifEcho : Cmd where
  form _ r := [(if 512 < r.length then some (0x01, 0xFFFF) else none), rng (decide (r.length ≤ 504)) 0]
  act c r := c.ok r

def ifCounters : Cmd where
  form := noReq
  act c _ := (c.onHost fun h => { h with counters := List.replicate 8 0 }).ok (cntBytes c.host.counters)

def EvRecord.bytes (r : EvRecord) : Bytes :=
  le 4 r.seq ++ le 1 r.event ++ le 1 r.argKind ++ le 2 r.arg ++ le 4 r.detail ++ le 1 (b2n r.timeValid) ++ zeros 3 ++ le 8 r.trainTime ++ le 8 r.localTime

def evRecordRead : Cmd where
  form _ r := [lenIs r 4, rsv r 1 3, rng (decide (1 ≤ u8 r 0 ∧ u8 r 0 ≤ 15)) 0]
  act c r :=
    let h := c.host
    let out := h.records.take (u8 r 0)
    let rest := h.records.drop (u8 r 0)
    (c.onHost fun h => { h with records := rest, lost := 0 }).ok
      (le 1 out.length ++ zeros 1 ++ le 2 rest.length ++ le 4 h.lost ++ out.flatMap EvRecord.bytes)

def tileStatus : Cmd where
  form := noReq
  act c _ :=
    let t := c.tiles
    c.ok (le 1 t.backbone.toNat ++ le 1 t.saffron.toNat ++ le 2 t.mac.toNat ++ le 4 t.carBus.toNat ++ le 2 t.can.toNat ++ le 2 t.check.toNat ++ zeros 4)

/-! The opcodes (R370). -/

/-- The commands of one high byte, in opcode order from its first value. -/
def groupCmds (grp : Nat) : List Cmd :=
  match grp with
  | 2 => [bbStatus, bbConfigSet, bbConfigGet, bbSchedStage, bbSchedCommit, pdWrite, pdRead, msgSend, leaseStatus, bbCounters]
  | 3 => [timeStatus, timeConfigSet, timeConfigGet, timeNow, timeRefTod, cepSet, cepGet, cepStatus, timePort, timeCounters]
  | 4 => [cbStatus, cbConfigSet, cbConfigGet, cbStart, cbStop, cbSchedStage, cbSchedCommit, cbTxWrite, cbRxRead, cbEventSend, cbEventRead, cbSlotStatus,
      cbPointSet, cbCounters]
  | 5 => [canStatus, canConfigSet, canConfigGet, canStart, canStop, canRecover, canBufSet, canBufGet, canTxWrite, canRxRead, canSend, canMatrixStage,
      canMatrixCommit, canBufResume, canCounters]
  | 6 => [routeStatus, routeStart, routeStop, routeStage, routeCommit, routeEntryGet, routeEntryEnable, guardStatus, guardReset, routeCounters, guardCompute]
  | 7 => [brStatus, brConfigSet, brConfigGet, brStart, brStop, brWindowSet, brWindowEnable, brWindowStatus, brExport, brRead, brCompletionRead, brFaultRead,
      brStrandedRead, brPrefetch, brSemControl, brCounters]
  | 8 => [ethStatus, ethConfigSet, ethConfigGet, ethStart, ethStop, ethAddrSet, ethCounters, queueSet, queueStatus, ringSet, ringEnable, memConfigSet,
      memConfigGet, memStart, memStop, memStatus]
  | 9 => [safeStatus, safeIoStatus, safeParamStage, safeParamCommit, safeParamRead, safeConfigEnter, safeParamConfirm, safeConfigLeave, safePasswordSet,
      safeLogRead, safeCounters]
  | 10 => [pwrStatus, pwrConfigSet, pwrConfigGet, pwrVote, pwrWakeRequest, pwrSleepLocal, pwrPnSet, pwrPnMode, pwrCounters]
  | 11 => [recStatus, recConfigSet, recConfigGet, recRead, recCopy, recSeqRead, recWrite, recErase, recCounters]
  | 12 => [bootStatus, bootJournalRead, bootJournalClear, bootConfigSet, bootConfigGet, fwBegin, fwWrite, fwActivate, fwConfirm, fwRestart, fwSecurityAdvance]
  | 13 => [ifIdentify, ifEcho, ifCounters, evRecordRead, tileStatus]
  | _ => []

/-- The command behind an opcode; none where it is not defined. -/
def cmdOf (op : Nat) : Option Cmd :=
  if op / 256 = 1 then
    if op % 256 < 16 then [dirStatus, dirPin, dirReadPage, dirUnpin, dirCopy, dirResolve, vehicleConfigSet, vehicleConfigGet][op % 256]?
    else [rollcallStart, rollcallStop, rollcallRerun, rollcallStatus, cabSet, rollcallConfigSet, rollcallConfigGet, rollcallCounters][op % 256 - 16]?
  else (groupCmds (op / 256))[op % 256]?

/-- A doorbell write as the register takes it (R351). -/
def Chip.doorbellWrite (c : Chip) (mb v : Nat) : Chip :=
  c.doorbell { mb := mb, tag := bits v 31 28, length := bits v 25 16 } (v % 65536) (cmdOf (v % 65536))

/-- UNDEFINED_OPCODE, DOORBELL_IGNORED: a doorbell with any opcode (R352, R355, R370). -/
def anyDoorbell (d : Doorbell) (op : Nat) (c : Chip) : Chip := c.doorbell d (op % 65536) (cmdOf (op % 65536))

/-- HELD_COMMAND_START (R96, R145, R356): the mailbox's command starts once nothing earlier of its high byte is BUSY; a MSG_SEND accepted under another epoch
completes with status 0x0A. -/
def heldCommandStart (n : Nat) (c : Chip) : Chip :=
  let m := c.host.mb n
  if !c.firmware || m.state != .busy || !m.waiting || c.host.heldBehind (m.opcode / 256) m.order then c
  else
    let c := c.onMb n fun m => { m with waiting := false }
    match cmdOf m.opcode with
    | some k => c.runCmd n m.opcode (if m.opcode = 0x0207 then k.under (m.epoch == c.epoch) else k)
    | none => c.complete n 0x03 0xFFFF []

/-! The register block (R341, R348–R353, R359–R363). -/

def MbState.code : MbState → Nat
  | .idle => 0 | .busy => 1 | .done => 2 | .offline => 3

def BootSt.code : BootSt → Nat
  | .reset => 0 | .booting => 1 | .ready => 2 | .service => 3 | .halted => 4

/-- BootStatus (R349). -/
def Boot.statusNat (b : Boot) : Nat :=
  b.state.code + b.step % 256 * 2 ^ 8 + b.failedStep % 256 * 2 ^ 16 + b.imageSlot % 2 * 2 ^ 24 + b.fwPatch % 65536 * 2 ^ 32 + b.fwMinor % 256 * 2 ^ 48 +
    b.fwMajor % 256 * 2 ^ 56 + b.startCount % 2 ^ 32 * 2 ^ 64 + b.bootDuration % 2 ^ 32 * 2 ^ 96

/-- The 4-byte word of a wider value at a byte offset into it. -/
def wordAt (v off : Nat) : Nat := v / 2 ^ (8 * off) % 2 ^ 32

def Mailbox.stateWord (m : Mailbox) : Nat := m.state.code + b2n m.waiting * 4 + m.tag % 16 * 2 ^ 8 + m.status % 256 * 2 ^ 16

/-- The word at an offset of the register block, but for FENCEn and SEMn, whose reads act (R348). -/
def Chip.regWord (c : Chip) (o : Nat) : Nat :=
  let h := c.host
  if o = 0 then 0x5A4B0640
  else if o = 4 then h.ifVersion
  else if o < 0x10 then wordAt c.fuses.identity (o - 8)
  else if o < 0x20 then wordAt c.boot.statusNat (o - 0x10)
  else if o = 0x20 then h.heartbeat
  else if o = 0x30 then b2n h.nhirq
  else if o < 0x100 then 0
  else if o < 0x110 then wordAt h.evStatus.toNat (o - 0x100)
  else if o < 0x120 then wordAt h.evEnable.toNat (o - 0x110)
  else if o < 0x130 then 0
  else if o < 0x140 then wordAt (h.evStatus &&& h.evEnable).toNat (o - 0x130)
  else if o < 0x200 then 0
  else if o < 0x280 then leNat ((slice (h.evVector.map (BitVec.ofNat 8)) (o - 0x200) 4))
  else if o < 0x300 then
    let v := (o - 0x280) / 4
    b2n (h.conditions.getLsbD v) + b2n (h.msi.mask.getLsbD v) * 2 + h.msi.sent.getD v 0 * 65536
  else if o < 0x380 then
    let m := h.mb ((o - 0x300) / 16)
    match o % 16 with
    | 4 => m.stateWord
    | 8 => b2n m.completionEvent * 2
    | 12 => m.elapsed
    | _ => 0
  else if o = 0x380 then
    maskOf 8 (fun n => (h.mb n).state == .done) + maskOf 8 (fun n => (h.mb n).state == .busy) * 256
  else if o < 0x1000 then 0
  else if o < 0x2000 then u32 (c.br.window ((o - 0x1000) / 64)).desc (o % 64)
  else if o < 0x8000 then 0
  else if o < 0xA000 then
    let m := h.mb ((o - 0x8000) / 0x400)
    leNat ((if o % 0x400 < 0x200 then m.request else m.response).read (o % 0x200) 4)
  else 0

/-- A host write into a mailbox area: a request area outside BUSY takes it (R353). -/
def Chip.areaPut (c : Chip) (o : Nat) (d : Bytes) : Chip :=
  let n := (o - 0x8000) / 0x400
  let m := c.host.mb n
  if 0x200 ≤ o % 0x400 then c
  else if m.state = .busy then
    let c := c.onHost fun h => { h with counters := bump h.counters cntProtocol }
    if m.lockRaised then c else (c.onMb n fun m => { m with lockRaised := true }).raiseD 125 6 n 0
  else c.onMb n fun m => { m with request := m.request.write (o % 0x400) d }

/-- MB_RELEASE (R351, R352). -/
def mbRelease (n : Nat) (c : Chip) : Chip := if (c.host.mb n).state = .done then c.onMb n fun m => { m with state := .idle } else c

/-- EV_ACK: a write to one of its words (R359). -/
def evAck (word : Nat) (value : BitVec 32) (c : Chip) : Chip :=
  if 4 ≤ word then c else (c.onHost fun h => { h with evStatus := h.evStatus &&& ~~~(value.setWidth 128 <<< (32 * word)) }).evalConds

/-- A cycle event point in force pulses GPIO12 (R171, R363). (log 57) -/
def Saffron.pulses12 (s : Saffron) : Bool := s.ceps.any fun p => u8 p.config.cur 0 == 1 && (u8 p.config.cur 2).testBit 1 && u8 p.config.cur 3 == 12

/-- NHIRQ_ENABLE_WRITE (R363). (log 57) -/
def nhirqEnableWrite (value : BitVec 32) (c : Chip) : Chip := c.onHost fun h => { h with nhirq := value.getLsbD 0 && !c.time.pulses12 }

/-- A 4-byte write to the register block (R348). -/
def Chip.writeWord (c : Chip) (o v : Nat) : Chip :=
  let w := BitVec.ofNat 32 v
  if o = 0x30 then nhirqEnableWrite w c
  else if 0x110 ≤ o ∧ o < 0x120 then
    let k := 8 * (o - 0x110)
    (c.onHost fun h => { h with evEnable := (h.evEnable &&& ~~~(0xFFFFFFFF#128 <<< k)) ||| (w.setWidth 128 <<< k) }).evalConds
  else if 0x120 ≤ o ∧ o < 0x130 then evAck ((o - 0x120) / 4) w c
  else if 0x200 ≤ o ∧ o < 0x280 then
    (c.onHost fun h => { h with evVector := h.evVector.mapIdx fun i x => if o - 0x200 ≤ i ∧ i < o - 0x200 + 4 then v / 256 ^ (i - (o - 0x200)) % 32 else x }).evalConds
  else if 0x300 ≤ o ∧ o < 0x380 then
    let n := (o - 0x300) / 16
    match o % 16 with
    | 0 => c.doorbellWrite n v
    | 8 =>
      let c := c.onMb n fun m => { m with completionEvent := w.getLsbD 1 }
      if w.getLsbD 0 then mbRelease n c else c
    | _ => c
  else if 0x400 ≤ o ∧ o < 0x440 then semReleaseWrite ((o - 0x400) / 4) w c
  else if 0x800 ≤ o ∧ o < 0xA00 ∧ o % 8 = 0 then remoteIrqWrite ((o - 0x800) / 8) w 0xF c
  else if 0x8000 ≤ o ∧ o < 0xA000 then c.areaPut o (le 4 v)
  else c

/-- An access of the form R341 allows in BAR0. (log 56) -/
def accessOk (write : Bool) (o len : Nat) : Bool :=
  let fence := decide (0x800 ≤ o ∧ o < 0xA00)
  if 0x8000 ≤ o ∧ o < 0xA000 then decide (1 ≤ len ∧ len ≤ 256 ∧ o / 512 = (o + len - 1) / 512)
  else if 0x2000 ≤ o then true
  else decide (len = 4 ∧ o % 4 = 0) || (decide (len = 8 ∧ o % 8 = 0) && (fence || decide (o = 8))) || (write && fence && decide (1 ≤ len ∧ o % 8 + len ≤ 4))

def Chip.badAccess (c : Chip) (o : Nat) : Chip := if o < 0x2000 then c.onHost fun h => { h with counters := bump h.counters cntAccess } else c

/-- REGISTER_WRITE over PCIe: any offset of BAR0, any length. (log 56, log 57) -/
def registerWrite (o : Nat) (d : Bytes) (c : Chip) : Chip :=
  let len := d.length
  if !accessOk true o len then c.badAccess o
  else if 0x8000 ≤ o ∧ o < 0xA000 then c.areaPut o d
  else if 0x800 ≤ o ∧ o < 0xA00 then
    if o % 8 + len ≤ 4 then
      remoteIrqWrite ((o - 0x800) / 8) (BitVec.ofNat 32 (leNat d * 256 ^ (o % 8))) (BitVec.ofNat 4 ((2 ^ len - 1) * 2 ^ (o % 8))) c
    else c
  else if len = 4 then c.writeWord o (leNat d)
  else c

/-- REQUEST_AREA_WRITE_LOCKED (R353): a write into the request area of a mailbox. (log 56) -/
def requestAreaWrite (n off : Nat) (d : Bytes) (c : Chip) : Chip :=
  if 8 ≤ n ∨ 512 < off + d.length ∨ d = [] ∨ 256 < d.length then c else c.areaPut (0x8000 + 0x400 * n + off) d

/-- REGISTER_ACCESS_ERROR (R341): `tag` is that of a read, none for a write. -/
def registerAccessError (tag : Option Nat) (o len : Nat) (c : Chip) : Chip :=
  if accessOk tag.isNone o len then c
  else match tag with
    | some t => (c.badAccess o).emit (.completion t (zeros len))
    | none => c.badAccess o

/-- HEARTBEAT_TICK (R350). -/
def heartbeatTick (c : Chip) : Chip :=
  match c.boot.state with
  | .ready | .service => c.onHost fun h => { h with heartbeat := (h.heartbeat + 1) % 2 ^ 32 }
  | .reset | .booting | .halted => c

/-! The SPI target (R343–R347). -/

/-- A word as an SPI read samples it: FENCEn and SEMn act without waiting (R347). (log 56) -/
def Chip.spiWord (c : Chip) (o : Nat) : Nat × Chip :=
  if 0x800 ≤ o ∧ o < 0xA00 then
    let n := (o - 0x800) / 8
    if o % 8 = 0 then (let (v, c) := c.fenceNow n; (v % 2 ^ 32, c)) else ((c.br.window n).lastFence / 2 ^ 32, c)
  else if 0x400 ≤ o ∧ o < 0x440 then c.semNow ((o - 0x400) / 4)
  else (c.regWord o, c)

/-- `n` words from an offset on, in ascending address order. -/
def Chip.spiWords : Nat → Nat → Chip → Bytes × Chip
  | 0, _, c => ([], c)
  | n + 1, o, c =>
    let (v, c) := c.spiWord o
    let (bs, c) := c.spiWords n (o + 4)
    (le 4 v ++ bs, c)

def Chip.spiWrites : Nat → Bytes → Chip → Chip
  | _, [], c => c
  | o, a :: b :: d :: e :: rest, c => Chip.spiWrites (o + 4) rest (c.writeWord o (leNat [a, b, d, e]))
  | _, _, c => c

/-- The status word (R344). -/
def Chip.spiStatus (c : Chip) : Nat :=
  let h := c.host
  let ready : Bool := c.boot.state == .ready || c.boot.state == .service
  0xA5 * 2 ^ 24 + h.spiFrameCount * 2 ^ 16 + b2n h.pcieUp * 8 + b2n h.spiPrevError * 4 + b2n (h.conditions != 0) * 2 + b2n ready

/-- The frame's outcome in the counters (R344, R346, R367). (log 56) -/
def Chip.spiDone (c : Chip) (refused : Bool) : Chip :=
  c.onHost fun h =>
    if refused then { h with spiPrevError := true, counters := bump h.counters cntSpiErrors }
    else { h with spiPrevError := false, spiFrameCount := (h.spiFrameCount + 1) % 256, spiSeen := true, counters := bump h.counters cntSpiFrames }

/-- B01 of the start has ended: the SPI target answers, and the PCIe endpoint is out of reset (R446, R457). -/
def Chip.portsUp (c : Chip) : Bool := c.boot.state != .booting || decide (2 ≤ c.boot.step)

/-- SPI_FRAME: the whole bytes received on MOSI between the edges of nCS (R343–R347). (log 56) -/
def spiFrame (mosi : Bytes) (c : Chip) : Chip :=
  let status := be 4 c.spiStatus
  let len := mosi.length
  if !c.portsUp then c
  else if len < 4 then (c.onHost fun h => { h with spiPrevError := false }).emit (.miso (status.take len))
  else
    let hd := bAt mosi 0 4
    let n := bits hd 29 16 + 1
    let o := bits hd 15 2 * 4
    let rsvBad : Bool := hd.testBit 30 || hd.testBit 1 || hd.testBit 0
    if hd.testBit 31 then
      if rsvBad || decide (1024 < n) then (c.spiDone true).emit (.miso (padTo len (status ++ zeros 4 ++ ones (4 * n + 2))))
      else
        let k := min n (ceilDiv (len - 8) 4)
        let (bs, c) := c.spiWords k o
        let crc := if k = n then be 2 (crc16 bs) else []
        (c.spiDone false).emit (.miso (padTo len (status ++ zeros 4 ++ bs ++ crc)))
    else
      let body := mosi.take (4 + 4 * n)
      let bad := rsvBad || decide (256 < n) || decide (len < 4 + 4 * n + 2) || crc16 body != bAt mosi (4 + 4 * n) 2
      let c := c.emit (.miso (padTo len status))
      if bad then c.spiDone true else Chip.spiWrites o (body.drop 4) (c.spiDone false)

/-! The PCIe link and MSI (R340, R342, R361). -/

/-- PCIE_LINK_UP: the width trained, and 1 for 2.5 GT/s or 2 for 5.0 GT/s. -/
def pcieLinkUp (width speed : Nat) (c : Chip) : Chip :=
  if !c.portsUp then c else c.onHost fun h => { h with pcieUp := true, pcieWidth := if width = 2 then 2 else 1, pcieSpeed := if speed = 2 then 2 else 1 }

/-- PCIE_LINK_DOWN (R342): the rings stop, commands writing to host memory end with 0x09; the endpoint's own configuration returns to its
reset values (PRESUMED, log 6). (log 4) -/
def pcieLinkDown (c : Chip) : Chip :=
  let c := c.onHost fun h => { h with
    pcieUp := false, pcieWidth := 0, pcieSpeed := 0
    msi := { h.msi with busMaster := false, enable := false, intDisable := false, vecLog2 := 0, mask := 0, pending := 0, d3hot := false, bar0 := 0, bar2 := 0 } }
  let c := c.onEth fun e => { e with rings := e.rings.map fun r => { r with enabled := false, owned := [] } }
  let ops := c.host.copies.map (·.op)
  (ops.foldl (fun c op => c.completeWaiting op 0x09) (c.onHost fun h => { h with copies := [] })).evalConds

/-- The condition of a vector turned into its MSI: sent, or pending while it is masked (R361). -/
def Chip.msiFor (c : Chip) (v : Nat) : Chip :=
  if c.host.msi.mask.getLsbD v then c.onHost fun h => { h with msi := { h.msi with pending := h.msi.pending ||| (1#32 <<< v) } } else c.sendMsi v

/-- MSI_REENABLE (R342): the bits the host writes to the command register and the MSI capability. (log 57) (log 6) -/
def msiReenable (busMaster enable intDisable : Bool) (k : PcieSet) (c : Chip) : Chip :=
  let was := c.host.msi.enable && c.host.msi.busMaster
  let c := c.onHost fun h => { h with msi := { h.msi with busMaster := busMaster, enable := enable, intDisable := intDisable, vecLog2 := min k.vectors 5, d3hot := k.d3hot, bar0 := k.bar0 / 65536 * 65536, bar2 := k.bar2 / 536870912 * 536870912 } }
  if enable && busMaster && !was then
    let cond := c.host.conditions
    let c := c.onHost fun h => { h with msi := { h.msi with cond := cond } }
    (List.range 32).foldl (fun c v => if cond.getLsbD v then c.msiFor v else c) c
  else c.evalConds

/-- MSI_UNMASK (R361): the mask register as the host writes it. (log 57) -/
def msiUnmask (mask : BitVec 32) (c : Chip) : Chip :=
  let open_ := c.host.msi.pending &&& ~~~mask
  let c := c.onHost fun h => { h with msi := { h.msi with mask := mask, pending := h.msi.pending &&& mask } }
  if c.host.msi.enable && c.host.msi.busMaster then
    (List.range 32).foldl (fun c v => if open_.getLsbD v && c.host.conditions.getLsbD v then c.sendMsi v else c) c
  else c

/-! Tiles (R23). -/

/-- See log 40, log 41. -/
def setTile {n : Nat} (v : BitVec n) (i : Nat) : BitVec n := v ||| (1#n <<< i)

/-- A backbone port whose link goes down with its tile, reported even if the link was down already. (log 40, log 41) -/
def Chip.portIsolated (c : Chip) (p : Nat) : Chip := if c.bb.isUp p then c.linkDown p else (c.linkDown p).raisePort 16 p

/-- TILE_SELF_CHECK_FAIL: a tile fails its self-check, is isolated and reported (R23, R197, R250, R274, R432). (log 41) -/
def tileSelfCheckFail (kind : TileKind) (i : Nat) (c : Chip) : Chip :=
  let t := c.tiles
  match kind with
  | .backbone => if 4 ≤ i ∨ t.backbone.getLsbD i then c else ({ c with tiles := { t with backbone := setTile t.backbone i } }).portIsolated i
  | .saffron => if 4 ≤ i ∨ t.saffron.getLsbD i then c else (({ c with tiles := { t with saffron := setTile t.saffron i } }).linkDown i).raisePort 37 i
  | .mac =>
    if 12 ≤ i ∨ t.mac.getLsbD i then c
    else
      let c := { c with tiles := { t with mac := setTile t.mac i } }
      if i < 4 then c.portIsolated i
      else (c.onVport i fun v => { v with linkUp := false, preempt := false }).raisePort 26 i
  | .carBus => if 24 ≤ i ∨ t.carBus.getLsbD i then c else ({ c with tiles := { t with carBus := setTile t.carBus i } }).raisePort 61 (12 + i)
  | .can => if 12 ≤ i ∨ t.can.getLsbD i then c else ({ c with tiles := { t with can := setTile t.can i } }).canIsolate i
  | .check => if 16 ≤ i ∨ t.check.getLsbD i then c else ({ c with tiles := { t with check := setTile t.check i } }).raiseD 87 7 i 0
  | .mram => c.recorderFail

end Sys2Proof.Machine
end

