-- ==== Sys2Proof/Machine/Act.lean ====
section
/-! DEFINITION. The switch instant over all blocks, what follows in firmware from any command, and the form every meaning has. -/
namespace Sys2Proof.Machine
open Host (Outcome)

/-- EPOCH_SWITCH (R24, R87, R138, R263, R305): every block applies its pending epoch-dependent state; a run that ends without a switch of
epoch puts only its snapshot in force. -/
def epochSwitch (c : Chip) : Chip :=
  let due : Bool := match c.rc.state, c.rc.announce with
    | .armed, some a => c.rc.composed.isSome && !a.noSwitch
    | _, _ => false
  let c := c.rollcallSwitch
  if due then c.rtSwitch.bridgeSwitch.onBb fun b => { b with firstDue := true } else c

/-- PREEMPT_VERIFY_COMPLETE: ports 0 to 3 (R122) and vehicle ports (R316). -/
def preemptEnd (p : Nat) (ok : Bool) (c : Chip) : Chip := if p < 4 then preemptVerifyComplete p ok c else vehiclePreemptVerify p ok c

/-- A snapshot has come into force: the schedule is checked against it (R128), and so are the bridge's windows and semaphores (R289, R303). (log 39) -/
def Chip.followSnapshot (old c : Chip) : Chip :=
  if c.firmware && c.dir.inForce.isSome && c.dir.inForce != old.dir.inForce then c.bridgeSnapshot.schedCheck else c

/-- What the leader does as soon as it may act (R134): the NOTICEs that reached it before, and the first gateway grants of the epoch (R138). (log 48) -/
def Chip.leaderWork (c : Chip) : Chip :=
  if c.rc.notices = [] ∧ c.bb.firstDue = false then c
  else if !c.recordedLeader then (c.onRc fun r => { r with notices := [] }).onBb fun b => { b with firstDue := false }
  else if !c.actsAsLeader then c
  else
    let todo := c.rc.notices
    let first := c.bb.firstDue
    let c := (c.onRc fun r => { r with notices := [] }).onBb fun b => { b with firstDue := false }
    let c := todo.foldl (fun c n => c.applyNotice n.reporter n.kind n.e n.lines n.peer n.delay) c
    if first then c.firstGrants else c

/-- The active line has been re-named: a node whose entry holds another delay towards the next higher node than the link of the new line has reports it,
since the entry's DelayTowardsHigher is that of the active line (R53, R56, R112). (log 18) -/
def Chip.followLine (old c : Chip) : Chip :=
  if !c.rolling || c.namedLine == old.namedLine then c
  else match c.ownNode with
  | none => c
  | some n =>
    let e := if n.orientation = 0 then 1 else 0
    match c.nextAlong e true with
    | some _ => if c.endDelayPs e = n.delayHigher then c else c.notice 4 e (c.peerOf e)
    | none => c

/-- What firmware does after a command that took the chip from `old` to `c`; the frames that waited for a protect window leave once it is over (R127).
(log 39, log 45) -/
def Chip.settled (old c : Chip) : Chip :=
  (Chip.follow old (Chip.followSnapshot old (Chip.followLine old c.leaderWork))).releaseHeld.stampsLost

/-- A command on the chip: the clock moves to its instant, the command acts, and firmware does what follows. (log 2, log 39) -/
def Chip.command (t : Nat) (f : Chip → Chip) (c : Chip) : Chip := (c.tick t).settled (f (c.tick t))

/-- A meaning: an effect on everything but the queue. (log 2, log 79) -/
def act (t : Nat) (s : State) (f : Chip → Chip) : Outcome State Fault Refusal := .next { s with chip := s.chip.command t f }

/-- A meaning of the main die: nothing happens there while it is unpowered or in reset. (log 2, log 79) -/
def actMain (t : Nat) (s : State) (f : Chip → Chip) : Outcome State Fault Refusal := act t s fun c => if c.mainDie then f c else c

end Sys2Proof.Machine
end

