-- ==== Sys2Proof/Machine/ExecField.lean ====
section
/-! DEFINITION. The meaning of each row: the rows of the car bus, the CAN channels, the router, the window bridge, the Ethernet ports, the rings and the memory. -/
namespace Sys2Proof.Machine
open Host (Outcome)

/-- CB_CYCLE_START. -/
def execCbCycleStart (t : Nat) (s : State) : Outcome State Fault Refusal := actMain t s cbCycleStart
/-- CB_FRAME_RX. -/
def execCbFrameRx (t : Nat) (p : Nat) (seen : CbSeen) (idle decodes : Bool) (f : Bytes) (s : State) : Outcome State Fault Refusal := actMain t s (cbFrameRx p seen idle decodes f)
/-- CB_WINDOW_CLOSE. -/
def execCbWindowClose (t : Nat) (p k : Nat) (running : Option (Nat × Bool)) (s : State) : Outcome State Fault Refusal := actMain t s (cbWindowClose p k running)
/-- CB_FOREIGN_ACTIVITY. -/
def execCbForeignActivity (t : Nat) (stray : CbStray) (s : State) : Outcome State Fault Refusal := actMain t s (cbForeignActivity stray)
/-- CB_OWN_SLOT_SEND. -/
def execCbOwnSlotSend (t : Nat) (k : Nat) (s : State) : Outcome State Fault Refusal := actMain t s (cbOwnSlotSend k)
/-- CB_EVENT_WINDOW. -/
def execCbEventWindow (t : ReadAt) (s : State) : Outcome State Fault Refusal := actMain t.t s (cbEventWindow t.ecc)
/-- CB_GRANT_RESPONSE_TIMEOUT. -/
def execCbGrantResponseTimeout (t : Nat) (p : Nat) (s : State) : Outcome State Fault Refusal := actMain t s (cbGrantResponseTimeout p)
/-- CB_BEACON_RX. -/
def execCbBeaconRx (t : Nat) (p : Nat) (seen : CbSeen) (f : Bytes) (s : State) : Outcome State Fault Refusal := actMain t s (cbBeaconRx p seen f)
/-- CB_LISTEN_TIMEOUT. -/
def execCbListenTimeout (t : Nat) (s : State) : Outcome State Fault Refusal := actMain t s cbListenTimeout
/-- CB_OTHER_STAR_LOST. -/
def execCbOtherStarLost (t : Nat) (s : State) : Outcome State Fault Refusal := actMain t s cbOtherStarLost
/-- CB_POINT_FIRE. -/
def execCbPointFire (t : Nat) (n : Nat) (s : State) : Outcome State Fault Refusal := actMain t s (cbPointFire n)
/-- CAN_INTEGRATED. -/
def execCanIntegrated (t : Nat) (n : Nat) (s : State) : Outcome State Fault Refusal := actMain t s (canIntegrated n)
/-- CAN_FRAME_RX. -/
def execCanFrameRx (t : Nat) (n sof : Nat) (raw : Bytes) (s : State) : Outcome State Fault Refusal := actMain t s (canFrameRx n sof raw)
/-- CAN_TX_START. -/
def execCanTxStart (t : ReadAt) (n : Nat) (s : State) : Outcome State Fault Refusal := actMain t.t s (canTxStart n t.ecc)
/-- CAN_TX_COMPLETE. -/
def execCanTxComplete (t : Nat) (n : Nat) (tdc : Option Nat) (s : State) : Outcome State Fault Refusal := actMain t s (canTxComplete n tdc)
/-- CAN_ERROR. -/
def execCanError (t : Nat) (n kind : Nat) (clash exempt : Bool) (extra : CanExtra) (s : State) : Outcome State Fault Refusal := actMain t s (canError n kind clash exempt extra)
/-- CAN_RECOVERY_COMPLETE. -/
def execCanRecoveryComplete (t : Nat) (n : Nat) (s : State) : Outcome State Fault Refusal := actMain t s (canRecoveryComplete n)
/-- CAN_ALONE_RETRY. -/
def execCanAloneRetry (t : Nat) (n : Nat) (s : State) : Outcome State Fault Refusal := actMain t s (canAloneRetry n)
/-- CAN_CELL_START. -/
def execCanCellStart (t : Nat) (n : Nat) (idle : Bool) (s : State) : Outcome State Fault Refusal := actMain t s (canCellStart n idle)
/-- CAN_CHECK_CELL_END. -/
def execCanCheckCellEnd (t : Nat) (n : CheckEnd) (s : State) : Outcome State Fault Refusal := actMain t s (canCheckCellEnd n)
/-- CAN_MATRIX_RESUME. -/
def execCanMatrixResume (t : Nat) (n : Nat) (s : State) : Outcome State Fault Refusal := actMain t s (canMatrixResume n)
/-- ROUTER_LOOKUP. -/
def execRouterLookup (t : Nat) (s : State) : Outcome State Fault Refusal := actMain t s routerLookup
/-- GUARD_TIMEOUT. -/
def execGuardTimeout (t : Nat) (idx : Nat) (s : State) : Outcome State Fault Refusal := actMain t s (guardTimeout idx)
/-- READ_REQ_RX. -/
def execReadReqRx (t : Nat) (p : Nat) (f : Bytes) (s : State) : Outcome State Fault Refusal := actMain t s (requestRx 1 p f)
/-- WRITE_RX. -/
def execWriteRx (t : Nat) (p : Nat) (f : Bytes) (s : State) : Outcome State Fault Refusal := actMain t s (requestRx 3 p f)
/-- IRQ_RX. -/
def execIrqRx (t : Nat) (p : Nat) (f : Bytes) (s : State) : Outcome State Fault Refusal := actMain t s (requestRx 9 p f)
/-- SEM_ACQUIRE_RX. -/
def execSemAcquireRx (t : Nat) (p : Nat) (f : Bytes) (s : State) : Outcome State Fault Refusal := actMain t s (requestRx 6 p f)
/-- SEM_RELEASE_RX. -/
def execSemReleaseRx (t : Nat) (p : Nat) (f : Bytes) (s : State) : Outcome State Fault Refusal := actMain t s (requestRx 8 p f)
/-- EXPORT_TARGET_TIMEOUT. -/
def execExportTargetTimeout (t : Nat) (source : Nat) (s : State) : Outcome State Fault Refusal := actMain t s (exportTargetTimeout source)
/-- WRITE_ACK_TIMER. -/
def execWriteAckTimer (t : Nat) (source : Nat) (s : State) : Outcome State Fault Refusal := actMain t s (writeAckTimer source)
/-- READ_REPLY_RX. -/
def execReadReplyRx (t : Nat) (p : Nat) (f : Bytes) (s : State) : Outcome State Fault Refusal := actMain t s (readReplyRx p f)
/-- WRITE_ACK_RX. -/
def execWriteAckRx (t : Nat) (p : Nat) (f : Bytes) (s : State) : Outcome State Fault Refusal := actMain t s (writeAckRx p f)
/-- WRITE_FAULT_RX. -/
def execWriteFaultRx (t : Nat) (p : Nat) (f : Bytes) (s : State) : Outcome State Fault Refusal := actMain t s (writeFaultRx p f)
/-- SEM_REPLY_RX. -/
def execSemReplyRx (t : Nat) (p : Nat) (f : Bytes) (s : State) : Outcome State Fault Refusal := actMain t s (semReplyRx p f)
/-- HELD_READ_TIMEOUT. -/
def execHeldReadTimeout (t : Nat) (tag : Nat) (s : State) : Outcome State Fault Refusal := actMain t s (heldReadTimeout tag)
/-- FENCE_TIMEOUT. -/
def execFenceTimeout (t : Nat) (tag : Nat) (s : State) : Outcome State Fault Refusal := actMain t s (fenceTimeout tag)
/-- SEM_READ_TIMEOUT. -/
def execSemReadTimeout (t : Nat) (tag : Nat) (s : State) : Outcome State Fault Refusal := actMain t s (semReadTimeout tag)
/-- SEM_ATTEMPT_TIMEOUT. -/
def execSemAttemptTimeout (t : Nat) (n : Nat) (s : State) : Outcome State Fault Refusal := actMain t s (semAttemptTimeout n)
/-- ASYNC_READ_TIMEOUT. -/
def execAsyncReadTimeout (t : Nat) (tag : Nat) (s : State) : Outcome State Fault Refusal := actMain t s (asyncReadTimeout tag)
/-- WRITE_ACK_TIMEOUT. -/
def execWriteAckTimeout (t : Nat) (tag : Nat) (s : State) : Outcome State Fault Refusal := actMain t s (writeAckTimeout tag)
/-- PREFETCH_LINE_EXPIRY. -/
def execPrefetchLineExpiry (t : Nat) (n k : Nat) (s : State) : Outcome State Fault Refusal := actMain t s (prefetchLineExpiry n k)
/-- WINDOW_DISABLE_COMPLETE. -/
def execWindowDisableComplete (t : Nat) (n : Nat) (s : State) : Outcome State Fault Refusal := actMain t s (windowDisableComplete n)
/-- VEHICLE_FRAME_RX. -/
def execVehicleFrameRx (t : Nat) (p ps err : Nat) (f : Bytes) (s : State) : Outcome State Fault Refusal := actMain t s (vehicleFrameRx p ps err f)
/-- PAUSE_EXPIRY. -/
def execPauseExpiry (t : Nat) (p : Nat) (s : State) : Outcome State Fault Refusal := actMain t s (pauseExpiry p)
/-- VEHICLE_EGRESS_DEQUEUE. -/
def execVehicleEgressDequeue (t : Nat) (p fragments : Nat) (ecc : Option Nat) (s : State) : Outcome State Fault Refusal := actMain t s (vehicleEgressDequeue p fragments ecc)
/-- VEHICLE_LINK_CHANGE. -/
def execVehicleLinkChange (t : Nat) (p : Nat) (up is100 : Bool) (s : State) : Outcome State Fault Refusal := actMain t s (vehicleLinkChange p up is100)
/-- RING_POLL. -/
def execRingPoll (t : Nat) (q : Nat) (descs : List Bytes) (s : State) : Outcome State Fault Refusal := actMain t s (ringPoll q descs)
/-- RX_RING_DELIVER. -/
def execRxRingDeliver (t : Nat) (q : Nat) (ecc : Option Nat) (s : State) : Outcome State Fault Refusal := actMain t s (rxRingDeliver q ecc)
/-- TX_CHAIN_PROCESS. -/
def execTxChainProcess (t : Nat) (q : Nat) (more bufs : List Bytes) (failed : Bool) (s : State) : Outcome State Fault Refusal := actMain t s (txChainProcess q more bufs failed)
/-- DDR_TRAINING_COMPLETE. -/
def execDdrTrainingComplete (t : Nat) (passed : Bool) (s : State) : Outcome State Fault Refusal := actMain t s (ddrTrainingComplete passed)
/-- DDR_SCRUB_PASS. -/
def execDdrScrubPass (t : Nat) (corrected : Nat) (uces : List Nat) (s : State) : Outcome State Fault Refusal := actMain t s (ddrScrubPass corrected uces)
/-- MEM_STOP_DRAINED. -/
def execMemStopDrained (t : Nat) (s : State) : Outcome State Fault Refusal := actMain t s memStopDrained
/-- MEM_STOP_TIMEOUT. -/
def execMemStopTimeout (t : Nat) (s : State) : Outcome State Fault Refusal := actMain t s memStopTimeout
/-- EXPORT_ACCESS_COMPLETE. -/
def execExportAccessComplete (t : Nat) (source : Nat) (ends : AccessEnd) (data : Bytes) (s : State) : Outcome State Fault Refusal := actMain t s (exportAccessComplete source ends data)

end Sys2Proof.Machine
end

