-- ==== Sys2Proof/Machine/ExecHost.lean ====
section
/-! DEFINITION. The meaning of each row: the rows of the host interface, the register block and the PCIe link (R340–R364). -/
namespace Sys2Proof.Machine
open Host (Outcome)

/-- UNDEFINED_OPCODE. -/
def execUndefinedOpcode (t : Nat) (d : Doorbell) (op : Nat) (s : State) : Outcome State Fault Refusal := actMain t s (anyDoorbell d op)
/-- HELD_COMMAND_START. -/
def execHeldCommandStart (t : Nat) (n : Nat) (s : State) : Outcome State Fault Refusal := actMain t s (heldCommandStart n)
/-- DOORBELL_IGNORED. -/
def execDoorbellIgnored (t : Nat) (d : Doorbell) (op : Nat) (s : State) : Outcome State Fault Refusal := actMain t s (anyDoorbell d op)
/-- REQUEST_AREA_WRITE_LOCKED. -/
def execRequestAreaWriteLocked (t : Nat) (n off : Nat) (data : Bytes) (s : State) : Outcome State Fault Refusal := actMain t s (requestAreaWrite n off data)
/-- MB_RELEASE. -/
def execMbRelease (t : Nat) (n : Nat) (s : State) : Outcome State Fault Refusal := actMain t s (mbRelease n)
/-- EV_ACK. -/
def execEvAck (t : Nat) (word : Nat) (value : BitVec 32) (s : State) : Outcome State Fault Refusal := actMain t s (evAck word value)
/-- NHIRQ_ENABLE_WRITE. -/
def execNhirqEnableWrite (t : Nat) (value : BitVec 32) (s : State) : Outcome State Fault Refusal := actMain t s (nhirqEnableWrite value)
/-- REGISTER_WRITE. -/
def execRegisterWrite (t : Nat) (o : Nat) (d : Bytes) (s : State) : Outcome State Fault Refusal := actMain t s (registerWrite o d)
/-- REGISTER_ACCESS_ERROR. -/
def execRegisterAccessError (t : Nat) (tag : Option Nat) (o len : Nat) (s : State) : Outcome State Fault Refusal := actMain t s (registerAccessError tag o len)
/-- FENCE_READ. -/
def execFenceRead (t : Nat) (tag n off len : Nat) (s : State) : Outcome State Fault Refusal := actMain t s (fenceRead tag n off len)
/-- REMOTE_IRQ_WRITE. -/
def execRemoteIrqWrite (t : Nat) (n : Nat) (value : BitVec 32) (enables : BitVec 4) (s : State) : Outcome State Fault Refusal := actMain t s (remoteIrqWrite n value enables)
/-- SEM_READ. -/
def execSemRead (t : Nat) (tag n : Nat) (s : State) : Outcome State Fault Refusal := actMain t s (semRead tag n)
/-- SEM_RELEASE_WRITE. -/
def execSemReleaseWrite (t : Nat) (n : Nat) (value : BitVec 32) (s : State) : Outcome State Fault Refusal := actMain t s (semReleaseWrite n value)
/-- WINDOW_READ. -/
def execWindowRead (t : Nat) (tag off len : Nat) (s : State) : Outcome State Fault Refusal := actMain t s (windowRead tag off len)
/-- WINDOW_WRITE. -/
def execWindowWrite (t : Nat) (off : Nat) (d : Bytes) (s : State) : Outcome State Fault Refusal := actMain t s (windowWrite off d)
/-- NONPOSTED_REQUEST_ADMITTED. -/
def execNonpostedRequestAdmitted (t : Nat) (s : State) : Outcome State Fault Refusal := actMain t s nonPostedAdmitted
/-- SPI_FRAME. -/
def execSpiFrame (t : Nat) (mosi : Bytes) (s : State) : Outcome State Fault Refusal := actMain t s (spiFrame mosi)
/-- PCIE_LINK_DOWN. -/
def execPcieLinkDown (t : Nat) (s : State) : Outcome State Fault Refusal := actMain t s pcieLinkDown
/-- MSI_REENABLE. -/
def execMsiReenable (t : Nat) (busMaster enable intDisable : Bool) (k : PcieSet) (s : State) : Outcome State Fault Refusal := actMain t s (msiReenable busMaster enable intDisable k)
/-- MSI_UNMASK. -/
def execMsiUnmask (t : Nat) (mask : BitVec 32) (s : State) : Outcome State Fault Refusal := actMain t s (msiUnmask mask)
/-- HEARTBEAT_TICK. -/
def execHeartbeatTick (t : Nat) (s : State) : Outcome State Fault Refusal := actMain t s heartbeatTick
/-- TILE_SELF_CHECK_FAIL. -/
def execTileSelfCheckFail (t : Nat) (kind : TileKind) (idx : Nat) (s : State) : Outcome State Fault Refusal := actMain t s (tileSelfCheckFail kind idx)
/-- PIN_EXPIRY. -/
def execPinExpiry (t : Nat) (h : Nat) (s : State) : Outcome State Fault Refusal := actMain t s (pinExpiry h)
/-- PCIE_LINK_UP. -/
def execPcieLinkUp (t : Nat) (width speed : Nat) (s : State) : Outcome State Fault Refusal := actMain t s (pcieLinkUp width speed)

end Sys2Proof.Machine
end

