-- ==== Sys2Proof/Machine/ExecMailbox.lean ====
section
/-! DEFINITION. The meaning of each row: the mailbox commands (R351–R357), one doorbell each. -/
namespace Sys2Proof.Machine
open Host (Outcome)

/-- DIR_STATUS. -/
def execDirStatus (t : Nat) (d : Doorbell) (s : State) : Outcome State Fault Refusal := act t s fun c => c.doorbell d 0x0100 (some dirStatus)
/-- DIR_PIN. -/
def execDirPin (t : Nat) (d : Doorbell) (s : State) : Outcome State Fault Refusal := act t s fun c => c.doorbell d 0x0101 (some dirPin)
/-- DIR_READ_PAGE. -/
def execDirReadPage (t : Nat) (d : Doorbell) (s : State) : Outcome State Fault Refusal := act t s fun c => c.doorbell d 0x0102 (some dirReadPage)
/-- DIR_UNPIN. -/
def execDirUnpin (t : Nat) (d : Doorbell) (s : State) : Outcome State Fault Refusal := act t s fun c => c.doorbell d 0x0103 (some dirUnpin)
/-- DIR_COPY. -/
def execDirCopy (t : Nat) (d : Doorbell) (s : State) : Outcome State Fault Refusal := act t s fun c => c.doorbell d 0x0104 (some dirCopy)
/-- DIR_RESOLVE. -/
def execDirResolve (t : Nat) (d : Doorbell) (s : State) : Outcome State Fault Refusal := act t s fun c => c.doorbell d 0x0105 (some dirResolve)
/-- VEHICLE_CONFIG_SET. -/
def execVehicleConfigSet (t : Nat) (d : Doorbell) (s : State) : Outcome State Fault Refusal := act t s fun c => c.doorbell d 0x0106 (some vehicleConfigSet)
/-- VEHICLE_CONFIG_GET. -/
def execVehicleConfigGet (t : Nat) (d : Doorbell) (s : State) : Outcome State Fault Refusal := act t s fun c => c.doorbell d 0x0107 (some vehicleConfigGet)
/-- ROLLCALL_START. -/
def execRollcallStart (t : Nat) (d : Doorbell) (s : State) : Outcome State Fault Refusal := act t s fun c => c.doorbell d 0x0110 (some rollcallStart)
/-- ROLLCALL_STOP. -/
def execRollcallStop (t : Nat) (d : Doorbell) (s : State) : Outcome State Fault Refusal := act t s fun c => c.doorbell d 0x0111 (some rollcallStop)
/-- ROLLCALL_RERUN. -/
def execRollcallRerun (t : Nat) (d : Doorbell) (s : State) : Outcome State Fault Refusal := act t s fun c => c.doorbell d 0x0112 (some rollcallRerun)
/-- ROLLCALL_STATUS. -/
def execRollcallStatus (t : Nat) (d : Doorbell) (s : State) : Outcome State Fault Refusal := act t s fun c => c.doorbell d 0x0113 (some rollcallStatus)
/-- CAB_SET. -/
def execCabSet (t : Nat) (d : Doorbell) (s : State) : Outcome State Fault Refusal := act t s fun c => c.doorbell d 0x0114 (some cabSet)
/-- ROLLCALL_CONFIG_SET. -/
def execRollcallConfigSet (t : Nat) (d : Doorbell) (s : State) : Outcome State Fault Refusal := act t s fun c => c.doorbell d 0x0115 (some rollcallConfigSet)
/-- ROLLCALL_CONFIG_GET. -/
def execRollcallConfigGet (t : Nat) (d : Doorbell) (s : State) : Outcome State Fault Refusal := act t s fun c => c.doorbell d 0x0116 (some rollcallConfigGet)
/-- ROLLCALL_COUNTERS. -/
def execRollcallCounters (t : Nat) (d : Doorbell) (s : State) : Outcome State Fault Refusal := act t s fun c => c.doorbell d 0x0117 (some rollcallCounters)
/-- BB_STATUS. -/
def execBbStatus (t : Nat) (d : Doorbell) (s : State) : Outcome State Fault Refusal := act t s fun c => c.doorbell d 0x0200 (some bbStatus)
/-- BB_CONFIG_SET. -/
def execBbConfigSet (t : Nat) (d : Doorbell) (s : State) : Outcome State Fault Refusal := act t s fun c => c.doorbell d 0x0201 (some bbConfigSet)
/-- BB_CONFIG_GET. -/
def execBbConfigGet (t : Nat) (d : Doorbell) (s : State) : Outcome State Fault Refusal := act t s fun c => c.doorbell d 0x0202 (some bbConfigGet)
/-- BB_SCHED_STAGE. -/
def execBbSchedStage (t : Nat) (d : Doorbell) (s : State) : Outcome State Fault Refusal := act t s fun c => c.doorbell d 0x0203 (some bbSchedStage)
/-- BB_SCHED_COMMIT. -/
def execBbSchedCommit (t : Nat) (d : Doorbell) (s : State) : Outcome State Fault Refusal := act t s fun c => c.doorbell d 0x0204 (some bbSchedCommit)
/-- PD_WRITE. -/
def execPdWrite (t : Nat) (d : Doorbell) (s : State) : Outcome State Fault Refusal := act t s fun c => c.doorbell d 0x0205 (some pdWrite)
/-- PD_READ. -/
def execPdRead (t : Nat) (d : Doorbell) (s : State) : Outcome State Fault Refusal := act t s fun c => c.doorbell d 0x0206 (some pdRead)
/-- MSG_SEND. -/
def execMsgSend (t : Nat) (d : Doorbell) (s : State) : Outcome State Fault Refusal := act t s fun c => c.doorbell d 0x0207 (some msgSend)
/-- LEASE_STATUS. -/
def execLeaseStatus (t : Nat) (d : Doorbell) (s : State) : Outcome State Fault Refusal := act t s fun c => c.doorbell d 0x0208 (some leaseStatus)
/-- BB_COUNTERS. -/
def execBbCounters (t : Nat) (d : Doorbell) (s : State) : Outcome State Fault Refusal := act t s fun c => c.doorbell d 0x0209 (some bbCounters)
/-- TIME_STATUS. -/
def execTimeStatus (t : Nat) (d : Doorbell) (s : State) : Outcome State Fault Refusal := act t s fun c => c.doorbell d 0x0300 (some timeStatus)
/-- TIME_CONFIG_SET. -/
def execTimeConfigSet (t : Nat) (d : Doorbell) (s : State) : Outcome State Fault Refusal := act t s fun c => c.doorbell d 0x0301 (some timeConfigSet)
/-- TIME_CONFIG_GET. -/
def execTimeConfigGet (t : Nat) (d : Doorbell) (s : State) : Outcome State Fault Refusal := act t s fun c => c.doorbell d 0x0302 (some timeConfigGet)
/-- TIME_NOW. -/
def execTimeNow (t : Nat) (d : Doorbell) (s : State) : Outcome State Fault Refusal := act t s fun c => c.doorbell d 0x0303 (some timeNow)
/-- TIME_REF_TOD. -/
def execTimeRefTod (t : Nat) (d : Doorbell) (s : State) : Outcome State Fault Refusal := act t s fun c => c.doorbell d 0x0304 (some timeRefTod)
/-- CEP_SET. -/
def execCepSet (t : Nat) (d : Doorbell) (s : State) : Outcome State Fault Refusal := act t s fun c => c.doorbell d 0x0305 (some cepSet)
/-- CEP_GET. -/
def execCepGet (t : Nat) (d : Doorbell) (s : State) : Outcome State Fault Refusal := act t s fun c => c.doorbell d 0x0306 (some cepGet)
/-- CEP_STATUS. -/
def execCepStatus (t : Nat) (d : Doorbell) (s : State) : Outcome State Fault Refusal := act t s fun c => c.doorbell d 0x0307 (some cepStatus)
/-- TIME_PORT. -/
def execTimePort (t : Nat) (d : Doorbell) (s : State) : Outcome State Fault Refusal := act t s fun c => c.doorbell d 0x0308 (some timePort)
/-- TIME_COUNTERS. -/
def execTimeCounters (t : Nat) (d : Doorbell) (s : State) : Outcome State Fault Refusal := act t s fun c => c.doorbell d 0x0309 (some timeCounters)
/-- CB_STATUS. -/
def execCbStatus (t : Nat) (d : Doorbell) (s : State) : Outcome State Fault Refusal := act t s fun c => c.doorbell d 0x0400 (some cbStatus)
/-- CB_CONFIG_SET. -/
def execCbConfigSet (t : Nat) (d : Doorbell) (s : State) : Outcome State Fault Refusal := act t s fun c => c.doorbell d 0x0401 (some cbConfigSet)
/-- CB_CONFIG_GET. -/
def execCbConfigGet (t : Nat) (d : Doorbell) (s : State) : Outcome State Fault Refusal := act t s fun c => c.doorbell d 0x0402 (some cbConfigGet)
/-- CB_START. -/
def execCbStart (t : Nat) (d : Doorbell) (s : State) : Outcome State Fault Refusal := act t s fun c => c.doorbell d 0x0403 (some cbStart)
/-- CB_STOP. -/
def execCbStop (t : Nat) (d : Doorbell) (s : State) : Outcome State Fault Refusal := act t s fun c => c.doorbell d 0x0404 (some cbStop)
/-- CB_SCHED_STAGE. -/
def execCbSchedStage (t : Nat) (d : Doorbell) (s : State) : Outcome State Fault Refusal := act t s fun c => c.doorbell d 0x0405 (some cbSchedStage)
/-- CB_SCHED_COMMIT. -/
def execCbSchedCommit (t : Nat) (d : Doorbell) (s : State) : Outcome State Fault Refusal := act t s fun c => c.doorbell d 0x0406 (some cbSchedCommit)
/-- CB_TX_WRITE. -/
def execCbTxWrite (t : Nat) (d : Doorbell) (s : State) : Outcome State Fault Refusal := act t s fun c => c.doorbell d 0x0407 (some cbTxWrite)
/-- CB_RX_READ. -/
def execCbRxRead (t : Nat) (d : Doorbell) (s : State) : Outcome State Fault Refusal := act t s fun c => c.doorbell d 0x0408 (some cbRxRead)
/-- CB_EVENT_SEND. -/
def execCbEventSend (t : Nat) (d : Doorbell) (s : State) : Outcome State Fault Refusal := act t s fun c => c.doorbell d 0x0409 (some cbEventSend)
/-- CB_EVENT_READ. -/
def execCbEventRead (t : Nat) (d : Doorbell) (s : State) : Outcome State Fault Refusal := act t s fun c => c.doorbell d 0x040A (some cbEventRead)
/-- CB_SLOT_STATUS. -/
def execCbSlotStatus (t : Nat) (d : Doorbell) (s : State) : Outcome State Fault Refusal := act t s fun c => c.doorbell d 0x040B (some cbSlotStatus)
/-- CB_POINT_SET. -/
def execCbPointSet (t : Nat) (d : Doorbell) (s : State) : Outcome State Fault Refusal := act t s fun c => c.doorbell d 0x040C (some cbPointSet)
/-- CB_COUNTERS. -/
def execCbCounters (t : Nat) (d : Doorbell) (s : State) : Outcome State Fault Refusal := act t s fun c => c.doorbell d 0x040D (some cbCounters)
/-- CAN_STATUS. -/
def execCanStatus (t : Nat) (d : Doorbell) (s : State) : Outcome State Fault Refusal := act t s fun c => c.doorbell d 0x0500 (some canStatus)
/-- CAN_CONFIG_SET. -/
def execCanConfigSet (t : Nat) (d : Doorbell) (s : State) : Outcome State Fault Refusal := act t s fun c => c.doorbell d 0x0501 (some canConfigSet)
/-- CAN_CONFIG_GET. -/
def execCanConfigGet (t : Nat) (d : Doorbell) (s : State) : Outcome State Fault Refusal := act t s fun c => c.doorbell d 0x0502 (some canConfigGet)
/-- CAN_START. -/
def execCanStart (t : Nat) (d : Doorbell) (s : State) : Outcome State Fault Refusal := act t s fun c => c.doorbell d 0x0503 (some canStart)
/-- CAN_STOP. -/
def execCanStop (t : Nat) (d : Doorbell) (s : State) : Outcome State Fault Refusal := act t s fun c => c.doorbell d 0x0504 (some canStop)
/-- CAN_RECOVER. -/
def execCanRecover (t : Nat) (d : Doorbell) (s : State) : Outcome State Fault Refusal := act t s fun c => c.doorbell d 0x0505 (some canRecover)
/-- CAN_BUF_SET. -/
def execCanBufSet (t : Nat) (d : Doorbell) (s : State) : Outcome State Fault Refusal := act t s fun c => c.doorbell d 0x0506 (some canBufSet)
/-- CAN_BUF_GET. -/
def execCanBufGet (t : Nat) (d : Doorbell) (s : State) : Outcome State Fault Refusal := act t s fun c => c.doorbell d 0x0507 (some canBufGet)
/-- CAN_TX_WRITE. -/
def execCanTxWrite (t : Nat) (d : Doorbell) (s : State) : Outcome State Fault Refusal := act t s fun c => c.doorbell d 0x0508 (some canTxWrite)
/-- CAN_RX_READ. -/
def execCanRxRead (t : Nat) (d : Doorbell) (s : State) : Outcome State Fault Refusal := act t s fun c => c.doorbell d 0x0509 (some canRxRead)
/-- CAN_SEND. -/
def execCanSend (t : Nat) (d : Doorbell) (s : State) : Outcome State Fault Refusal := act t s fun c => c.doorbell d 0x050A (some canSend)
/-- CAN_MATRIX_STAGE. -/
def execCanMatrixStage (t : Nat) (d : Doorbell) (s : State) : Outcome State Fault Refusal := act t s fun c => c.doorbell d 0x050B (some canMatrixStage)
/-- CAN_MATRIX_COMMIT. -/
def execCanMatrixCommit (t : Nat) (d : Doorbell) (s : State) : Outcome State Fault Refusal := act t s fun c => c.doorbell d 0x050C (some canMatrixCommit)
/-- CAN_BUF_RESUME. -/
def execCanBufResume (t : Nat) (d : Doorbell) (s : State) : Outcome State Fault Refusal := act t s fun c => c.doorbell d 0x050D (some canBufResume)
/-- CAN_COUNTERS. -/
def execCanCounters (t : Nat) (d : Doorbell) (s : State) : Outcome State Fault Refusal := act t s fun c => c.doorbell d 0x050E (some canCounters)
/-- ROUTE_STATUS. -/
def execRouteStatus (t : Nat) (d : Doorbell) (s : State) : Outcome State Fault Refusal := act t s fun c => c.doorbell d 0x0600 (some routeStatus)
/-- ROUTE_START. -/
def execRouteStart (t : Nat) (d : Doorbell) (s : State) : Outcome State Fault Refusal := act t s fun c => c.doorbell d 0x0601 (some routeStart)
/-- ROUTE_STOP. -/
def execRouteStop (t : Nat) (d : Doorbell) (s : State) : Outcome State Fault Refusal := act t s fun c => c.doorbell d 0x0602 (some routeStop)
/-- ROUTE_STAGE. -/
def execRouteStage (t : Nat) (d : Doorbell) (s : State) : Outcome State Fault Refusal := act t s fun c => c.doorbell d 0x0603 (some routeStage)
/-- ROUTE_COMMIT. -/
def execRouteCommit (t : Nat) (d : Doorbell) (s : State) : Outcome State Fault Refusal := act t s fun c => c.doorbell d 0x0604 (some routeCommit)
/-- ROUTE_ENTRY_GET. -/
def execRouteEntryGet (t : Nat) (d : Doorbell) (s : State) : Outcome State Fault Refusal := act t s fun c => c.doorbell d 0x0605 (some routeEntryGet)
/-- ROUTE_ENTRY_ENABLE. -/
def execRouteEntryEnable (t : Nat) (d : Doorbell) (s : State) : Outcome State Fault Refusal := act t s fun c => c.doorbell d 0x0606 (some routeEntryEnable)
/-- GUARD_STATUS. -/
def execGuardStatus (t : Nat) (d : Doorbell) (s : State) : Outcome State Fault Refusal := act t s fun c => c.doorbell d 0x0607 (some guardStatus)
/-- GUARD_RESET. -/
def execGuardReset (t : Nat) (d : Doorbell) (s : State) : Outcome State Fault Refusal := act t s fun c => c.doorbell d 0x0608 (some guardReset)
/-- ROUTE_COUNTERS. -/
def execRouteCounters (t : Nat) (d : Doorbell) (s : State) : Outcome State Fault Refusal := act t s fun c => c.doorbell d 0x0609 (some routeCounters)
/-- GUARD_COMPUTE. -/
def execGuardCompute (t : Nat) (d : Doorbell) (s : State) : Outcome State Fault Refusal := act t s fun c => c.doorbell d 0x060A (some guardCompute)
/-- BR_STATUS. -/
def execBrStatus (t : Nat) (d : Doorbell) (s : State) : Outcome State Fault Refusal := act t s fun c => c.doorbell d 0x0700 (some brStatus)
/-- BR_CONFIG_SET. -/
def execBrConfigSet (t : Nat) (d : Doorbell) (s : State) : Outcome State Fault Refusal := act t s fun c => c.doorbell d 0x0701 (some brConfigSet)
/-- BR_CONFIG_GET. -/
def execBrConfigGet (t : Nat) (d : Doorbell) (s : State) : Outcome State Fault Refusal := act t s fun c => c.doorbell d 0x0702 (some brConfigGet)
/-- BR_START. -/
def execBrStart (t : Nat) (d : Doorbell) (s : State) : Outcome State Fault Refusal := act t s fun c => c.doorbell d 0x0703 (some brStart)
/-- BR_STOP. -/
def execBrStop (t : Nat) (d : Doorbell) (s : State) : Outcome State Fault Refusal := act t s fun c => c.doorbell d 0x0704 (some brStop)
/-- BR_WINDOW_SET. -/
def execBrWindowSet (t : Nat) (d : Doorbell) (s : State) : Outcome State Fault Refusal := act t s fun c => c.doorbell d 0x0705 (some brWindowSet)
/-- BR_WINDOW_ENABLE. -/
def execBrWindowEnable (t : Nat) (d : Doorbell) (s : State) : Outcome State Fault Refusal := act t s fun c => c.doorbell d 0x0706 (some brWindowEnable)
/-- BR_WINDOW_STATUS. -/
def execBrWindowStatus (t : Nat) (d : Doorbell) (s : State) : Outcome State Fault Refusal := act t s fun c => c.doorbell d 0x0707 (some brWindowStatus)
/-- BR_EXPORT. -/
def execBrExport (t : Nat) (d : Doorbell) (s : State) : Outcome State Fault Refusal := act t s fun c => c.doorbell d 0x0708 (some brExport)
/-- BR_READ. -/
def execBrRead (t : Nat) (d : Doorbell) (s : State) : Outcome State Fault Refusal := act t s fun c => c.doorbell d 0x0709 (some brRead)
/-- BR_COMPLETION_READ. -/
def execBrCompletionRead (t : Nat) (d : Doorbell) (s : State) : Outcome State Fault Refusal := act t s fun c => c.doorbell d 0x070A (some brCompletionRead)
/-- BR_FAULT_READ. -/
def execBrFaultRead (t : Nat) (d : Doorbell) (s : State) : Outcome State Fault Refusal := act t s fun c => c.doorbell d 0x070B (some brFaultRead)
/-- BR_STRANDED_READ. -/
def execBrStrandedRead (t : Nat) (d : Doorbell) (s : State) : Outcome State Fault Refusal := act t s fun c => c.doorbell d 0x070C (some brStrandedRead)
/-- BR_PREFETCH. -/
def execBrPrefetch (t : Nat) (d : Doorbell) (s : State) : Outcome State Fault Refusal := act t s fun c => c.doorbell d 0x070D (some brPrefetch)
/-- BR_SEM_CONTROL. -/
def execBrSemControl (t : Nat) (d : Doorbell) (s : State) : Outcome State Fault Refusal := act t s fun c => c.doorbell d 0x070E (some brSemControl)
/-- BR_COUNTERS. -/
def execBrCounters (t : Nat) (d : Doorbell) (s : State) : Outcome State Fault Refusal := act t s fun c => c.doorbell d 0x070F (some brCounters)
/-- ETH_STATUS. -/
def execEthStatus (t : Nat) (d : Doorbell) (s : State) : Outcome State Fault Refusal := act t s fun c => c.doorbell d 0x0800 (some ethStatus)
/-- ETH_CONFIG_SET. -/
def execEthConfigSet (t : Nat) (d : Doorbell) (s : State) : Outcome State Fault Refusal := act t s fun c => c.doorbell d 0x0801 (some ethConfigSet)
/-- ETH_CONFIG_GET. -/
def execEthConfigGet (t : Nat) (d : Doorbell) (s : State) : Outcome State Fault Refusal := act t s fun c => c.doorbell d 0x0802 (some ethConfigGet)
/-- ETH_START. -/
def execEthStart (t : Nat) (d : Doorbell) (s : State) : Outcome State Fault Refusal := act t s fun c => c.doorbell d 0x0803 (some ethStart)
/-- ETH_STOP. -/
def execEthStop (t : Nat) (d : Doorbell) (s : State) : Outcome State Fault Refusal := act t s fun c => c.doorbell d 0x0804 (some ethStop)
/-- ETH_ADDR_SET. -/
def execEthAddrSet (t : Nat) (d : Doorbell) (s : State) : Outcome State Fault Refusal := act t s fun c => c.doorbell d 0x0805 (some ethAddrSet)
/-- ETH_COUNTERS. -/
def execEthCounters (t : Nat) (d : Doorbell) (s : State) : Outcome State Fault Refusal := act t s fun c => c.doorbell d 0x0806 (some ethCounters)
/-- QUEUE_SET. -/
def execQueueSet (t : Nat) (d : Doorbell) (s : State) : Outcome State Fault Refusal := act t s fun c => c.doorbell d 0x0807 (some queueSet)
/-- QUEUE_STATUS. -/
def execQueueStatus (t : Nat) (d : Doorbell) (s : State) : Outcome State Fault Refusal := act t s fun c => c.doorbell d 0x0808 (some queueStatus)
/-- RING_SET. -/
def execRingSet (t : Nat) (d : Doorbell) (s : State) : Outcome State Fault Refusal := act t s fun c => c.doorbell d 0x0809 (some ringSet)
/-- RING_ENABLE. -/
def execRingEnable (t : Nat) (d : Doorbell) (s : State) : Outcome State Fault Refusal := act t s fun c => c.doorbell d 0x080A (some ringEnable)
/-- MEM_CONFIG_SET. -/
def execMemConfigSet (t : Nat) (d : Doorbell) (s : State) : Outcome State Fault Refusal := act t s fun c => c.doorbell d 0x080B (some memConfigSet)
/-- MEM_CONFIG_GET. -/
def execMemConfigGet (t : Nat) (d : Doorbell) (s : State) : Outcome State Fault Refusal := act t s fun c => c.doorbell d 0x080C (some memConfigGet)
/-- MEM_START. -/
def execMemStart (t : Nat) (d : Doorbell) (s : State) : Outcome State Fault Refusal := act t s fun c => c.doorbell d 0x080D (some memStart)
/-- MEM_STOP. -/
def execMemStop (t : Nat) (d : Doorbell) (s : State) : Outcome State Fault Refusal := act t s fun c => c.doorbell d 0x080E (some memStop)
/-- MEM_STATUS. -/
def execMemStatus (t : Nat) (d : Doorbell) (s : State) : Outcome State Fault Refusal := act t s fun c => c.doorbell d 0x080F (some memStatus)
/-- IF_IDENTIFY. -/
def execIfIdentify (t : Nat) (d : Doorbell) (s : State) : Outcome State Fault Refusal := act t s fun c => c.doorbell d 0x0D00 (some ifIdentify)
/-- IF_ECHO. -/
def execIfEcho (t : Nat) (d : Doorbell) (s : State) : Outcome State Fault Refusal := act t s fun c => c.doorbell d 0x0D01 (some ifEcho)
/-- IF_COUNTERS. -/
def execIfCounters (t : Nat) (d : Doorbell) (s : State) : Outcome State Fault Refusal := act t s fun c => c.doorbell d 0x0D02 (some ifCounters)
/-- EV_RECORD_READ. -/
def execEvRecordRead (t : Nat) (d : Doorbell) (s : State) : Outcome State Fault Refusal := act t s fun c => c.doorbell d 0x0D03 (some evRecordRead)
/-- TILE_STATUS. -/
def execTileStatus (t : Nat) (d : Doorbell) (s : State) : Outcome State Fault Refusal := act t s fun c => c.doorbell d 0x0D04 (some tileStatus)
/-- SAFE_STATUS. -/
def execSafeStatus (t : Nat) (d : Doorbell) (s : State) : Outcome State Fault Refusal := act t s fun c => c.doorbell d 0x0900 (some safeStatus)
/-- SAFE_IO_STATUS. -/
def execSafeIoStatus (t : Nat) (d : Doorbell) (s : State) : Outcome State Fault Refusal := act t s fun c => c.doorbell d 0x0901 (some safeIoStatus)
/-- SAFE_PARAM_STAGE. -/
def execSafeParamStage (t : Nat) (d : Doorbell) (s : State) : Outcome State Fault Refusal := act t s fun c => c.doorbell d 0x0902 (some safeParamStage)
/-- SAFE_PARAM_COMMIT. -/
def execSafeParamCommit (t : Nat) (d : Doorbell) (s : State) : Outcome State Fault Refusal := act t s fun c => c.doorbell d 0x0903 (some safeParamCommit)
/-- SAFE_PARAM_READ. -/
def execSafeParamRead (t : Nat) (d : Doorbell) (s : State) : Outcome State Fault Refusal := act t s fun c => c.doorbell d 0x0904 (some safeParamRead)
/-- SAFE_CONFIG_ENTER. -/
def execSafeConfigEnter (t : Nat) (d : Doorbell) (s : State) : Outcome State Fault Refusal := act t s fun c => c.doorbell d 0x0905 (some safeConfigEnter)
/-- SAFE_PARAM_CONFIRM. -/
def execSafeParamConfirm (t : Nat) (d : Doorbell) (s : State) : Outcome State Fault Refusal := act t s fun c => c.doorbell d 0x0906 (some safeParamConfirm)
/-- SAFE_CONFIG_LEAVE. -/
def execSafeConfigLeave (t : Nat) (d : Doorbell) (s : State) : Outcome State Fault Refusal := act t s fun c => c.doorbell d 0x0907 (some safeConfigLeave)
/-- SAFE_PASSWORD_SET. -/
def execSafePasswordSet (t : Nat) (d : Doorbell) (s : State) : Outcome State Fault Refusal := act t s fun c => c.doorbell d 0x0908 (some safePasswordSet)
/-- SAFE_LOG_READ. -/
def execSafeLogRead (t : Nat) (d : Doorbell) (s : State) : Outcome State Fault Refusal := act t s fun c => c.doorbell d 0x0909 (some safeLogRead)
/-- SAFE_COUNTERS. -/
def execSafeCounters (t : Nat) (d : Doorbell) (s : State) : Outcome State Fault Refusal := act t s fun c => c.doorbell d 0x090A (some safeCounters)
/-- PWR_STATUS. -/
def execPwrStatus (t : Nat) (d : Doorbell) (s : State) : Outcome State Fault Refusal := act t s fun c => c.doorbell d 0x0A00 (some pwrStatus)
/-- PWR_CONFIG_SET. -/
def execPwrConfigSet (t : Nat) (d : Doorbell) (s : State) : Outcome State Fault Refusal := act t s fun c => c.doorbell d 0x0A01 (some pwrConfigSet)
/-- PWR_CONFIG_GET. -/
def execPwrConfigGet (t : Nat) (d : Doorbell) (s : State) : Outcome State Fault Refusal := act t s fun c => c.doorbell d 0x0A02 (some pwrConfigGet)
/-- PWR_VOTE. -/
def execPwrVote (t : Nat) (d : Doorbell) (s : State) : Outcome State Fault Refusal := act t s fun c => c.doorbell d 0x0A03 (some pwrVote)
/-- PWR_WAKE_REQUEST. -/
def execPwrWakeRequest (t : Nat) (d : Doorbell) (s : State) : Outcome State Fault Refusal := act t s fun c => c.doorbell d 0x0A04 (some pwrWakeRequest)
/-- PWR_SLEEP_LOCAL. -/
def execPwrSleepLocal (t : Nat) (d : Doorbell) (s : State) : Outcome State Fault Refusal := act t s fun c => c.doorbell d 0x0A05 (some pwrSleepLocal)
/-- PWR_PN_SET. -/
def execPwrPnSet (t : Nat) (d : Doorbell) (s : State) : Outcome State Fault Refusal := act t s fun c => c.doorbell d 0x0A06 (some pwrPnSet)
/-- PWR_PN_MODE. -/
def execPwrPnMode (t : Nat) (d : Doorbell) (s : State) : Outcome State Fault Refusal := act t s fun c => c.doorbell d 0x0A07 (some pwrPnMode)
/-- PWR_COUNTERS. -/
def execPwrCounters (t : Nat) (d : Doorbell) (s : State) : Outcome State Fault Refusal := act t s fun c => c.doorbell d 0x0A08 (some pwrCounters)
/-- REC_STATUS. -/
def execRecStatus (t : Nat) (d : Doorbell) (s : State) : Outcome State Fault Refusal := act t s fun c => c.doorbell d 0x0B00 (some recStatus)
/-- REC_CONFIG_SET. -/
def execRecConfigSet (t : Nat) (d : Doorbell) (s : State) : Outcome State Fault Refusal := act t s fun c => c.doorbell d 0x0B01 (some recConfigSet)
/-- REC_CONFIG_GET. -/
def execRecConfigGet (t : Nat) (d : Doorbell) (s : State) : Outcome State Fault Refusal := act t s fun c => c.doorbell d 0x0B02 (some recConfigGet)
/-- REC_READ. -/
def execRecRead (t : Nat) (d : Doorbell) (s : State) : Outcome State Fault Refusal := act t s fun c => c.doorbell d 0x0B03 (some recRead)
/-- REC_COPY. -/
def execRecCopy (t : Nat) (d : Doorbell) (s : State) : Outcome State Fault Refusal := act t s fun c => c.doorbell d 0x0B04 (some recCopy)
/-- REC_SEQ_READ. -/
def execRecSeqRead (t : Nat) (d : Doorbell) (s : State) : Outcome State Fault Refusal := act t s fun c => c.doorbell d 0x0B05 (some recSeqRead)
/-- REC_WRITE. -/
def execRecWrite (t : Nat) (d : Doorbell) (s : State) : Outcome State Fault Refusal := act t s fun c => c.doorbell d 0x0B06 (some recWrite)
/-- REC_ERASE. -/
def execRecErase (t : Nat) (d : Doorbell) (s : State) : Outcome State Fault Refusal := act t s fun c => c.doorbell d 0x0B07 (some recErase)
/-- REC_COUNTERS. -/
def execRecCounters (t : Nat) (d : Doorbell) (s : State) : Outcome State Fault Refusal := act t s fun c => c.doorbell d 0x0B08 (some recCounters)
/-- BOOT_STATUS. -/
def execBootStatus (t : Nat) (d : Doorbell) (s : State) : Outcome State Fault Refusal := act t s fun c => c.doorbell d 0x0C00 (some bootStatus)
/-- BOOT_JOURNAL_READ. -/
def execBootJournalRead (t : Nat) (d : Doorbell) (s : State) : Outcome State Fault Refusal := act t s fun c => c.doorbell d 0x0C01 (some bootJournalRead)
/-- BOOT_JOURNAL_CLEAR. -/
def execBootJournalClear (t : Nat) (d : Doorbell) (s : State) : Outcome State Fault Refusal := act t s fun c => c.doorbell d 0x0C02 (some bootJournalClear)
/-- BOOT_CONFIG_SET. -/
def execBootConfigSet (t : Nat) (d : Doorbell) (s : State) : Outcome State Fault Refusal := act t s fun c => c.doorbell d 0x0C03 (some bootConfigSet)
/-- BOOT_CONFIG_GET. -/
def execBootConfigGet (t : Nat) (d : Doorbell) (s : State) : Outcome State Fault Refusal := act t s fun c => c.doorbell d 0x0C04 (some bootConfigGet)
/-- FW_BEGIN. -/
def execFwBegin (t : Nat) (d : Doorbell) (s : State) : Outcome State Fault Refusal := act t s fun c => c.doorbell d 0x0C05 (some fwBegin)
/-- FW_WRITE. -/
def execFwWrite (t : Nat) (d : Doorbell) (s : State) : Outcome State Fault Refusal := act t s fun c => c.doorbell d 0x0C06 (some fwWrite)
/-- FW_ACTIVATE. -/
def execFwActivate (t : Nat) (d : Doorbell) (s : State) : Outcome State Fault Refusal := act t s fun c => c.doorbell d 0x0C07 (some fwActivate)
/-- FW_CONFIRM. -/
def execFwConfirm (t : Nat) (d : Doorbell) (s : State) : Outcome State Fault Refusal := act t s fun c => c.doorbell d 0x0C08 (some fwConfirm)
/-- FW_RESTART. -/
def execFwRestart (t : Nat) (d : Doorbell) (s : State) : Outcome State Fault Refusal := act t s fun c => c.doorbell d 0x0C09 (some fwRestart)
/-- FW_SECURITY_ADVANCE. -/
def execFwSecurityAdvance (t : Nat) (d : Doorbell) (s : State) : Outcome State Fault Refusal := act t s fun c => c.doorbell d 0x0C0A (some fwSecurityAdvance)

end Sys2Proof.Machine
end

