-- ==== Sys2Proof/Machine/ExecNode.lean ====
section
/-! DEFINITION. The meaning of each row: the rows of the safety island, power, start-up and the recorder. -/
namespace Sys2Proof.Machine
open Host (Outcome)

/-- NUTMEG_FRAME_TIMER. -/
def execNutmegFrameTimer (t : Nat) (s : State) : Outcome State Fault Refusal := act t s nutmegFrameTimer
/-- MACE_FRAME_RX. -/
def execMaceFrameRx (t : Nat) (good : Bool) (s : State) : Outcome State Fault Refusal := act t s (maceFrameRx good)
/-- NUTMEG_ANSWER_RX. -/
def execNutmegAnswerRx (t : Nat) (good : Bool) (s : State) : Outcome State Fault Refusal := act t s (nutmegAnswerRx good)
/-- MACE_LINK_TIMEOUT. -/
def execMaceLinkTimeout (t : Nat) (s : State) : Outcome State Fault Refusal := act t s (linkTimeout false)
/-- NUTMEG_LINK_TIMEOUT. -/
def execNutmegLinkTimeout (t : Nat) (s : State) : Outcome State Fault Refusal := act t s (linkTimeout true)
/-- LOCKSTEP_MISMATCH. -/
def execLockstepMismatch (t : Nat) (s : State) : Outcome State Fault Refusal := act t s lockstepMismatch
/-- MACE_CLOCK_MEASURE. -/
def execMaceClockMeasure (t : Nat) (interval : Nat) (s : State) : Outcome State Fault Refusal := act t s (maceClockMeasure interval)
/-- SAFE_FUNCTION_EVAL. -/
def execSafeFunctionEval (t : Nat) (nutmeg : Bool) (samples : List (BitVec 16)) (rb : BitVec 8) (s : State) : Outcome State Fault Refusal := act t s (safeFunctionEval nutmeg samples rb)
/-- DISCREPANCY_TIMEOUT. -/
def execDiscrepancyTimeout (t : Nat) (nutmeg : Bool) (idx : Nat) (s : State) : Outcome State Fault Refusal := act t s (discrepancyTimeout nutmeg idx)
/-- INPUT_TEST_PULSE. -/
def execInputTestPulse (t : Nat) (j : Nat) (lowN lowM : BitVec 16) (s : State) : Outcome State Fault Refusal := act t s (inputTestPulse j lowN lowM)
/-- OFF_PULSE_SLOT. -/
def execOffPulseSlot (t : Nat) (k : Nat) (opened other back : BothSee) (s : State) : Outcome State Fault Refusal := act t s (offPulseSlot k opened other back)
/-- BRAKE_FEEDBACK_DEADLINE. -/
def execBrakeFeedbackDeadline (t : Nat) (nutmeg : Bool) (o : Nat) (s : State) : Outcome State Fault Refusal := act t s (brakeFeedbackDeadline nutmeg o)
/-- ACK_STUCK_TIMEOUT. -/
def execAckStuckTimeout (t : Nat) (nutmeg : Bool) (s : State) : Outcome State Fault Refusal := act t s (ackStuckTimeout nutmeg)
/-- STARTING_COMPLETE. -/
def execStartingComplete (t : Nat) (nutmeg checkOk : Bool) (s : State) : Outcome State Fault Refusal := act t s (startingComplete nutmeg checkOk)
/-- COMPANION_POWER_UP. -/
def execCompanionPowerUp (t : Nat) (s : State) : Outcome State Fault Refusal := act t s companionPowerUp
/-- COMPANION_SUPPLY_LOW. -/
def execCompanionSupplyLow (t : Nat) (s : State) : Outcome State Fault Refusal := act t s companionSupplyLow
/-- PASSWORD_LOCKOUT_EXPIRY. -/
def execPasswordLockoutExpiry (t : Nat) (s : State) : Outcome State Fault Refusal := act t s passwordLockoutExpiry
/-- AUTHORISATION_EXPIRY. -/
def execAuthorisationExpiry (t : Nat) (s : State) : Outcome State Fault Refusal := act t s authorisationExpiry
/-- TRAIN_WAKE_PULSE_DETECT. -/
def execTrainWakePulseDetect (t : Nat) (rear : Bool) (s : State) : Outcome State Fault Refusal := act t s (trainWakePulseDetect rear)
/-- WAKE_PULSE_END. -/
def execWakePulseEnd (t : Nat) (s : State) : Outcome State Fault Refusal := act t s wakePulseEnd
/-- CAN_WAKE_DETECT. -/
def execCanWakeDetect (t : Nat) (n : Nat) (s : State) : Outcome State Fault Refusal := act t s (canWakeDetect n)
/-- CARBUS_WAKE_DETECT. -/
def execCarbusWakeDetect (t : Nat) (port : Nat) (s : State) : Outcome State Fault Refusal := act t s (carbusWakeDetect port)
/-- WAKE_AFTER_EXPIRY. -/
def execWakeAfterExpiry (t : Nat) (s : State) : Outcome State Fault Refusal := act t s wakeAfterExpiry
/-- FALSE_WAKE_TIMEOUT. -/
def execFalseWakeTimeout (t : Nat) (s : State) : Outcome State Fault Refusal := act t s falseWakeTimeout
/-- SLEEP_VOTE_TIMER. -/
def execSleepVoteTimer (t : Nat) (s : State) : Outcome State Fault Refusal := actMain t s sleepVoteTimer
/-- SLEEP_VOTE_RX. -/
def execSleepVoteRx (t : Nat) (p : Nat) (raw : Sourced) (s : State) : Outcome State Fault Refusal := actMain t s (sleepVoteRx p raw)
/-- SLEEP_VOTE_EXPIRY. -/
def execSleepVoteExpiry (t : Nat) (s : State) : Outcome State Fault Refusal := actMain t s sleepVoteExpiry
/-- SLEEP_GRANT_ISSUE. -/
def execSleepGrantIssue (t : Nat) (s : State) : Outcome State Fault Refusal := actMain t s sleepGrantIssue
/-- SLEEP_GRANT_RX. -/
def execSleepGrantRx (t : Nat) (p : Nat) (raw : Sourced) (s : State) : Outcome State Fault Refusal := actMain t s (sleepGrantRx p raw)
/-- ABORT_REQUEST_RX. -/
def execAbortRequestRx (t : Nat) (p : Nat) (raw : Sourced) (s : State) : Outcome State Fault Refusal := actMain t s (abortRequestRx p raw)
/-- SLEEP_ABORT_RX. -/
def execSleepAbortRx (t : Nat) (p : Nat) (raw : Sourced) (s : State) : Outcome State Fault Refusal := actMain t s (sleepAbortRx p raw)
/-- SLEEP_INSTANT. -/
def execSleepInstant (t : Nat) (s : State) : Outcome State Fault Refusal := actMain t s sleepInstant
/-- CLOVE_COUNTDOWN_EXPIRY. -/
def execCloveCountdownExpiry (t : Nat) (s : State) : Outcome State Fault Refusal := act t s cloveCountdownExpiry
/-- SLEEP_READY. -/
def execSleepReady (t : Nat) (s : State) : Outcome State Fault Refusal := act t s sleepReady
/-- PREPARE_FAILSAFE_TIMEOUT. -/
def execPrepareFailsafeTimeout (t : Nat) (s : State) : Outcome State Fault Refusal := act t s prepareFailsafeTimeout
/-- SLEEP_ENTRY_COMPLETE. -/
def execSleepEntryComplete (t : Nat) (s : State) : Outcome State Fault Refusal := act t s sleepEntryComplete
/-- REFERENCE_LOST. -/
def execReferenceLost (t : Nat) (s : State) : Outcome State Fault Refusal := act t s referenceLost
/-- REFERENCE_RETURN. -/
def execReferenceReturn (t : Nat) (s : State) : Outcome State Fault Refusal := act t s referenceReturn
/-- HEALTH_CHALLENGE. -/
def execHealthChallenge (t : Nat) (answer : Option Nat) (s : State) : Outcome State Fault Refusal := act t s (healthChallenge answer)
/-- OPTIME_SAVE. -/
def execOptimeSave (t : Nat) (s : State) : Outcome State Fault Refusal := act t s optimeSave
/-- POWER_UP. -/
def execPowerUp (t : Nat) (s : State) : Outcome State Fault Refusal := act t s powerUp
/-- ALWAYS_ON_LOSS. -/
def execAlwaysOnLoss (t : Nat) (s : State) : Outcome State Fault Refusal := act t s alwaysOnLoss
/-- NRST_ASSERT. -/
def execNrstAssert (t : Nat) (s : State) : Outcome State Fault Refusal := act t s nrstAssert
/-- NRST_RELEASE. -/
def execNrstRelease (t : Nat) (s : State) : Outcome State Fault Refusal := act t s nrstRelease
/-- MAIN_DIE_RELEASE. -/
def execMainDieRelease (t : Nat) (hang : Nat) (fails : List Nat) (s : State) : Outcome State Fault Refusal := act t s (mainDieRelease hang fails)
/-- BOOT_STEP_WATCHDOG. -/
def execBootStepWatchdog (t : Nat) (s : State) : Outcome State Fault Refusal := act t s bootStepWatchdog
/-- RETRY_WAIT_EXPIRY. -/
def execRetryWaitExpiry (t : Nat) (hang : Nat) (fails : List Nat) (s : State) : Outcome State Fault Refusal := act t s (retryWaitExpiry hang fails)
/-- FIRMWARE_RESTART. -/
def execFirmwareRestart (t : Nat) (hang : Nat) (fails : List Nat) (s : State) : Outcome State Fault Refusal := act t s (firmwareRestart hang fails)
/-- FIRMWARE_FATAL_ERROR. -/
def execFirmwareFatalError (t : Nat) (s : State) : Outcome State Fault Refusal := act t s firmwareFatalError
/-- RECORD_STORE. -/
def execRecordStore (t : ReadAt) (arisen : List (Nat × Nat)) (s : State) : Outcome State Fault Refusal := actMain t.t s (recordStore arisen t.ecc)
/-- CRYSTAL_STABLE. -/
def execCrystalStable (t : Nat) (s : State) : Outcome State Fault Refusal := act t s crystalStable
/-- CRYSTAL_LOST. -/
def execCrystalLost (t : Nat) (s : State) : Outcome State Fault Refusal := act t s crystalLost

end Sys2Proof.Machine
end

