-- ==== Sys2Proof/Machine/ExecTrain.lean ====
section
/-! DEFINITION. The meaning of each row: the rows of the backbone, the roll-call, the leases and train time. -/
namespace Sys2Proof.Machine
open Host (Outcome)

/-- PHY_LINK_LOSS. -/
def execPhyLinkLoss (t : Nat) (p : Nat) (s : State) : Outcome State Fault Refusal := actMain t s (phyLinkLoss p)
/-- LINK_RX_TIMEOUT. -/
def execLinkRxTimeout (t : Nat) (p : Nat) (s : State) : Outcome State Fault Refusal := actMain t s (linkRxTimeout p)
/-- LINK_PROVISIONAL. -/
def execLinkProvisional (t : Nat) (p : Nat) (s : State) : Outcome State Fault Refusal := actMain t s (linkProvisional p)
/-- LINK_IDLE_TIMER. -/
def execLinkIdleTimer (t : Nat) (p : Nat) (s : State) : Outcome State Fault Refusal := actMain t s (linkIdleTimer p)
/-- DELAY_BURST_END. -/
def execDelayBurstEnd (t : Nat) (p : Nat) (s : State) : Outcome State Fault Refusal := actMain t s (delayBurstEnd p)
/-- DELAY_REQUEST_TIMER. -/
def execDelayRequestTimer (t : Nat) (p : Nat) (s : State) : Outcome State Fault Refusal := actMain t s (delayRequestTimer p)
/-- TDREQ_RX. -/
def execTdreqRx (t : Nat) (p : Nat) (raw : Bytes) (s : State) : Outcome State Fault Refusal := actMain t s (tdreqRx p raw)
/-- TDRESP_RX. -/
def execTdrespRx (t : Nat) (p ps : Nat) (raw : Bytes) (s : State) : Outcome State Fault Refusal := actMain t s (tdrespRx p ps raw)
/-- DELAY_SAMPLE_TIMEOUT. -/
def execDelaySampleTimeout (t : Nat) (p : Nat) (s : State) : Outcome State Fault Refusal := actMain t s (delaySampleTimeout p)
/-- LATENCY_TEMP_CORRECTION. -/
def execLatencyTempCorrection (t : Nat) (p : Nat) (tx rx : Int) (s : State) : Outcome State Fault Refusal := actMain t s (latencyTempCorrection p tx rx)
/-- PROBE_RX. -/
def execProbeRx (t : Nat) (p : Nat) (raw : Sourced) (s : State) : Outcome State Fault Refusal := actMain t s (probeRx p raw)
/-- PROBE_REPLY_RX. -/
def execProbeReplyRx (t : Nat) (p : Nat) (raw : Sourced) (s : State) : Outcome State Fault Refusal := actMain t s (probeReplyRx p raw)
/-- PROBE_REPLY_TIMEOUT. -/
def execProbeReplyTimeout (t : Nat) (e : Nat) (s : State) : Outcome State Fault Refusal := actMain t s (probeReplyTimeout e)
/-- COUPLER_SENSE_CHANGE. -/
def execCouplerSenseChange (t : Nat) (e : Nat) (high : Bool) (s : State) : Outcome State Fault Refusal := actMain t s (couplerSenseChange e high)
/-- COUPLER_DISAGREE_TIMEOUT. -/
def execCouplerDisagreeTimeout (t : Nat) (e : Nat) (s : State) : Outcome State Fault Refusal := actMain t s (couplerDisagreeTimeout e)
/-- FIRST_START_TIMEOUT. -/
def execFirstStartTimeout (t : Nat) (s : State) : Outcome State Fault Refusal := actMain t s firstStartTimeout
/-- HOLDOFF_EXPIRY. -/
def execHoldoffExpiry (t : Nat) (s : State) : Outcome State Fault Refusal := actMain t s holdoffExpiry
/-- START_RX. -/
def execStartRx (t : Nat) (p : Nat) (raw : Sourced) (s : State) : Outcome State Fault Refusal := actMain t s (startRx p raw)
/-- START_OUTER_TIMEOUT. -/
def execStartOuterTimeout (t : Nat) (e : Nat) (s : State) : Outcome State Fault Refusal := actMain t s (startOuterTimeout e)
/-- COUNT_RX. -/
def execCountRx (t : Nat) (p : Nat) (raw : Sourced) (s : State) : Outcome State Fault Refusal := actMain t s (countRx p raw)
/-- REPORT_RX. -/
def execReportRx (t : Nat) (p : Nat) (src : Outer) (raw : Bytes) (s : State) : Outcome State Fault Refusal := actMain t s (reportRx p src raw)
/-- REPORT_WAIT_TIMEOUT. -/
def execReportWaitTimeout (t : Nat) (s : State) : Outcome State Fault Refusal := actMain t s reportWaitTimeout
/-- COMPOSITION_COMPLETE. -/
def execCompositionComplete (t : Nat) (s : State) : Outcome State Fault Refusal := actMain t s compositionComplete
/-- ANNOUNCE_RX. -/
def execAnnounceRx (t : Nat) (p : Nat) (raw : Sourced) (s : State) : Outcome State Fault Refusal := actMain t s (announceRx p raw)
/-- DIRSEG_RX. -/
def execDirsegRx (t : Nat) (p : Nat) (src : Outer) (raw : Bytes) (s : State) : Outcome State Fault Refusal := actMain t s (dirsegRx p src raw)
/-- SEGREQ_DEADLINE. -/
def execSegreqDeadline (t : Nat) (s : State) : Outcome State Fault Refusal := actMain t s segreqDeadline
/-- SEGREQ_RX. -/
def execSegreqRx (t : Nat) (p : Nat) (src : Outer) (raw : Bytes) (s : State) : Outcome State Fault Refusal := actMain t s (segreqRx p src raw)
/-- SNAPSHOT_INCOMPLETE_DEADLINE. -/
def execSnapshotIncompleteDeadline (t : Nat) (s : State) : Outcome State Fault Refusal := actMain t s snapshotIncompleteDeadline
/-- EPOCH_SWITCH. -/
def execEpochSwitch (t : Nat) (s : State) : Outcome State Fault Refusal := actMain t s epochSwitch
/-- RUN_WATCHDOG_EXPIRY. -/
def execRunWatchdogExpiry (t : Nat) (s : State) : Outcome State Fault Refusal := actMain t s runWatchdogExpiry
/-- SNAPSHOT_EFFECTIVE. -/
def execSnapshotEffective (t : Nat) (s : State) : Outcome State Fault Refusal := actMain t s snapshotEffective
/-- NOTICE_RX. -/
def execNoticeRx (t : Nat) (p : Nat) (src : Outer) (raw : Bytes) (s : State) : Outcome State Fault Refusal := actMain t s (noticeRx p src raw)
/-- BRIDGE_TIMEOUT. -/
def execBridgeTimeout (t : Nat) (num : Nat) (s : State) : Outcome State Fault Refusal := actMain t s (bridgeTimeout num)
/-- BEACON_TIMER. -/
def execBeaconTimer (t : Nat) (s : State) : Outcome State Fault Refusal := actMain t s beaconTimer
/-- BEACON_RX. -/
def execBeaconRx (t : Nat) (p : Nat) (src : Outer) (raw : Bytes) (s : State) : Outcome State Fault Refusal := actMain t s (beaconRx p src raw)
/-- BEACON_MISSING_HELD. -/
def execBeaconMissingHeld (t : Nat) (s : State) : Outcome State Fault Refusal := actMain t s beaconMissingHeld
/-- LEADER_LOST_TIMEOUT. -/
def execLeaderLostTimeout (t : Nat) (s : State) : Outcome State Fault Refusal := actMain t s leaderLostTimeout
/-- LEADER_LEASE_RENEW. -/
def execLeaderLeaseRenew (t : Nat) (s : State) : Outcome State Fault Refusal := actMain t s leaderLeaseRenew
/-- LEASE_RX. -/
def execLeaseRx (t : Nat) (p : Nat) (raw : Sourced) (s : State) : Outcome State Fault Refusal := actMain t s (leaseRx p raw)
/-- DEPUTY_TAKEOVER. -/
def execDeputyTakeover (t : Nat) (s : State) : Outcome State Fault Refusal := actMain t s deputyTakeover
/-- LEASE_EXPIRY. -/
def execLeaseExpiry (t : Nat) (vehicle : Nat) (s : State) : Outcome State Fault Refusal := actMain t s (leaseExpiry vehicle)
/-- GATEWAY_REQUEST_TIMER. -/
def execGatewayRequestTimer (t : Nat) (s : State) : Outcome State Fault Refusal := actMain t s gatewayRequestTimer
/-- BB_TELEGRAM_RX. -/
def execBbTelegramRx (t : Nat) (p ps err busy : Nat) (f : Bytes) (s : State) : Outcome State Fault Refusal := actMain t s (bbTelegramRx p ps err busy f)
/-- BB_EGRESS_DEQUEUE. -/
def execBbEgressDequeue (t : Nat) (q : Nat) (ecc : Option Nat) (s : State) : Outcome State Fault Refusal := actMain t s (bbEgressDequeue q ecc)
/-- DUP_ENTRY_AGEOUT. -/
def execDupEntryAgeout (t : Nat) (s : State) : Outcome State Fault Refusal := actMain t s dupEntryAgeout
/-- FALLBACK_RETURN_TIMER. -/
def execFallbackReturnTimer (t : Nat) (e : Nat) (s : State) : Outcome State Fault Refusal := actMain t s (fallbackReturnTimer e)
/-- LINE_RENAME_TIMER. -/
def execLineRenameTimer (t : Nat) (seg : Nat) (s : State) : Outcome State Fault Refusal := actMain t s (lineRenameTimer seg)
/-- PREEMPT_VERIFY_COMPLETE. -/
def execPreemptVerifyComplete (t : Nat) (p : Nat) (ok : Bool) (s : State) : Outcome State Fault Refusal := actMain t s (preemptEnd p ok)
/-- PD_SLOT_INSTANT. -/
def execPdSlotInstant (t : Nat) (idx : Nat) (s : State) : Outcome State Fault Refusal := actMain t s (pdSlotInstant idx)
/-- TSYNC_GM_TIMER. -/
def execTsyncGmTimer (t : Nat) (s : State) : Outcome State Fault Refusal := actMain t s tsyncGmTimer
/-- TSYNC_RX. -/
def execTsyncRx (t : Nat) (p ps : Nat) (raw : Bytes) (s : State) : Outcome State Fault Refusal := actMain t s (tsyncRx p ps raw)
/-- TSYNC_LOSS_TIMEOUT. -/
def execTsyncLossTimeout (t : Nat) (s : State) : Outcome State Fault Refusal := actMain t s tsyncLossTimeout
/-- HOLDOVER_TSYNC_TIMER. -/
def execHoldoverTsyncTimer (t : Nat) (s : State) : Outcome State Fault Refusal := actMain t s holdoverTsyncTimer
/-- HOLDOVER_LIMIT_EXCEEDED. -/
def execHoldoverLimitExceeded (t : Nat) (s : State) : Outcome State Fault Refusal := actMain t s holdoverLimitExceeded
/-- TREF_IN_PULSE. -/
def execTrefInPulse (t : Nat) (ps : Nat) (s : State) : Outcome State Fault Refusal := actMain t s (trefInPulse ps)
/-- TREF_IN_MISSING. -/
def execTrefInMissing (t : Nat) (s : State) : Outcome State Fault Refusal := actMain t s trefInMissing
/-- TREF_OUT_PULSE. -/
def execTrefOutPulse (t : Nat) (s : State) : Outcome State Fault Refusal := actMain t s trefOutPulse
/-- CEP_FIRE. -/
def execCepFire (t : Nat) (n : Nat) (s : State) : Outcome State Fault Refusal := actMain t s (cepFire n)
/-- PHY_ENERGY_DETECT. -/
def execPhyEnergyDetect (t : Nat) (p : Nat) (s : State) : Outcome State Fault Refusal := actMain t s (phyEnergyDetect p)
/-- SAFFRON_INTERNAL_TICK. -/
def execSaffronInternalTick (t : Nat) (s : State) : Outcome State Fault Refusal := actMain t s saffronInternalTick

end Sys2Proof.Machine
end

