-- ==== Sys2Proof/Machine/Dispatch.lean ====
section
/-! DEFINITION. One arm for each command: a call of its meaning. -/
namespace Sys2Proof.Machine
open Host (Outcome)

/-- The effect of a command on everything but the queue. -/
def exec (i : Instr) (s : State) : Host.Outcome State Fault Refusal :=
  match i with
  | .dirStatus t d => Sys2Proof.Machine.execDirStatus t d s
  | .dirPin t d => Sys2Proof.Machine.execDirPin t d s
  | .dirReadPage t d => Sys2Proof.Machine.execDirReadPage t d s
  | .dirUnpin t d => Sys2Proof.Machine.execDirUnpin t d s
  | .dirCopy t d => Sys2Proof.Machine.execDirCopy t d s
  | .dirResolve t d => Sys2Proof.Machine.execDirResolve t d s
  | .vehicleConfigSet t d => Sys2Proof.Machine.execVehicleConfigSet t d s
  | .vehicleConfigGet t d => Sys2Proof.Machine.execVehicleConfigGet t d s
  | .rollcallStart t d => Sys2Proof.Machine.execRollcallStart t d s
  | .rollcallStop t d => Sys2Proof.Machine.execRollcallStop t d s
  | .rollcallRerun t d => Sys2Proof.Machine.execRollcallRerun t d s
  | .rollcallStatus t d => Sys2Proof.Machine.execRollcallStatus t d s
  | .cabSet t d => Sys2Proof.Machine.execCabSet t d s
  | .rollcallConfigSet t d => Sys2Proof.Machine.execRollcallConfigSet t d s
  | .rollcallConfigGet t d => Sys2Proof.Machine.execRollcallConfigGet t d s
  | .rollcallCounters t d => Sys2Proof.Machine.execRollcallCounters t d s
  | .bbStatus t d => Sys2Proof.Machine.execBbStatus t d s
  | .bbConfigSet t d => Sys2Proof.Machine.execBbConfigSet t d s
  | .bbConfigGet t d => Sys2Proof.Machine.execBbConfigGet t d s
  | .bbSchedStage t d => Sys2Proof.Machine.execBbSchedStage t d s
  | .bbSchedCommit t d => Sys2Proof.Machine.execBbSchedCommit t d s
  | .pdWrite t d => Sys2Proof.Machine.execPdWrite t d s
  | .pdRead t d => Sys2Proof.Machine.execPdRead t d s
  | .msgSend t d => Sys2Proof.Machine.execMsgSend t d s
  | .leaseStatus t d => Sys2Proof.Machine.execLeaseStatus t d s
  | .bbCounters t d => Sys2Proof.Machine.execBbCounters t d s
  | .timeStatus t d => Sys2Proof.Machine.execTimeStatus t d s
  | .timeConfigSet t d => Sys2Proof.Machine.execTimeConfigSet t d s
  | .timeConfigGet t d => Sys2Proof.Machine.execTimeConfigGet t d s
  | .timeNow t d => Sys2Proof.Machine.execTimeNow t d s
  | .timeRefTod t d => Sys2Proof.Machine.execTimeRefTod t d s
  | .cepSet t d => Sys2Proof.Machine.execCepSet t d s
  | .cepGet t d => Sys2Proof.Machine.execCepGet t d s
  | .cepStatus t d => Sys2Proof.Machine.execCepStatus t d s
  | .timePort t d => Sys2Proof.Machine.execTimePort t d s
  | .timeCounters t d => Sys2Proof.Machine.execTimeCounters t d s
  | .cbStatus t d => Sys2Proof.Machine.execCbStatus t d s
  | .cbConfigSet t d => Sys2Proof.Machine.execCbConfigSet t d s
  | .cbConfigGet t d => Sys2Proof.Machine.execCbConfigGet t d s
  | .cbStart t d => Sys2Proof.Machine.execCbStart t d s
  | .cbStop t d => Sys2Proof.Machine.execCbStop t d s
  | .cbSchedStage t d => Sys2Proof.Machine.execCbSchedStage t d s
  | .cbSchedCommit t d => Sys2Proof.Machine.execCbSchedCommit t d s
  | .cbTxWrite t d => Sys2Proof.Machine.execCbTxWrite t d s
  | .cbRxRead t d => Sys2Proof.Machine.execCbRxRead t d s
  | .cbEventSend t d => Sys2Proof.Machine.execCbEventSend t d s
  | .cbEventRead t d => Sys2Proof.Machine.execCbEventRead t d s
  | .cbSlotStatus t d => Sys2Proof.Machine.execCbSlotStatus t d s
  | .cbPointSet t d => Sys2Proof.Machine.execCbPointSet t d s
  | .cbCounters t d => Sys2Proof.Machine.execCbCounters t d s
  | .canStatus t d => Sys2Proof.Machine.execCanStatus t d s
  | .canConfigSet t d => Sys2Proof.Machine.execCanConfigSet t d s
  | .canConfigGet t d => Sys2Proof.Machine.execCanConfigGet t d s
  | .canStart t d => Sys2Proof.Machine.execCanStart t d s
  | .canStop t d => Sys2Proof.Machine.execCanStop t d s
  | .canRecover t d => Sys2Proof.Machine.execCanRecover t d s
  | .canBufSet t d => Sys2Proof.Machine.execCanBufSet t d s
  | .canBufGet t d => Sys2Proof.Machine.execCanBufGet t d s
  | .canTxWrite t d => Sys2Proof.Machine.execCanTxWrite t d s
  | .canRxRead t d => Sys2Proof.Machine.execCanRxRead t d s
  | .canSend t d => Sys2Proof.Machine.execCanSend t d s
  | .canMatrixStage t d => Sys2Proof.Machine.execCanMatrixStage t d s
  | .canMatrixCommit t d => Sys2Proof.Machine.execCanMatrixCommit t d s
  | .canBufResume t d => Sys2Proof.Machine.execCanBufResume t d s
  | .canCounters t d => Sys2Proof.Machine.execCanCounters t d s
  | .routeStatus t d => Sys2Proof.Machine.execRouteStatus t d s
  | .routeStart t d => Sys2Proof.Machine.execRouteStart t d s
  | .routeStop t d => Sys2Proof.Machine.execRouteStop t d s
  | .routeStage t d => Sys2Proof.Machine.execRouteStage t d s
  | .routeCommit t d => Sys2Proof.Machine.execRouteCommit t d s
  | .routeEntryGet t d => Sys2Proof.Machine.execRouteEntryGet t d s
  | .routeEntryEnable t d => Sys2Proof.Machine.execRouteEntryEnable t d s
  | .guardStatus t d => Sys2Proof.Machine.execGuardStatus t d s
  | .guardReset t d => Sys2Proof.Machine.execGuardReset t d s
  | .routeCounters t d => Sys2Proof.Machine.execRouteCounters t d s
  | .guardCompute t d => Sys2Proof.Machine.execGuardCompute t d s
  | .brStatus t d => Sys2Proof.Machine.execBrStatus t d s
  | .brConfigSet t d => Sys2Proof.Machine.execBrConfigSet t d s
  | .brConfigGet t d => Sys2Proof.Machine.execBrConfigGet t d s
  | .brStart t d => Sys2Proof.Machine.execBrStart t d s
  | .brStop t d => Sys2Proof.Machine.execBrStop t d s
  | .brWindowSet t d => Sys2Proof.Machine.execBrWindowSet t d s
  | .brWindowEnable t d => Sys2Proof.Machine.execBrWindowEnable t d s
  | .brWindowStatus t d => Sys2Proof.Machine.execBrWindowStatus t d s
  | .brExport t d => Sys2Proof.Machine.execBrExport t d s
  | .brRead t d => Sys2Proof.Machine.execBrRead t d s
  | .brCompletionRead t d => Sys2Proof.Machine.execBrCompletionRead t d s
  | .brFaultRead t d => Sys2Proof.Machine.execBrFaultRead t d s
  | .brStrandedRead t d => Sys2Proof.Machine.execBrStrandedRead t d s
  | .brPrefetch t d => Sys2Proof.Machine.execBrPrefetch t d s
  | .brSemControl t d => Sys2Proof.Machine.execBrSemControl t d s
  | .brCounters t d => Sys2Proof.Machine.execBrCounters t d s
  | .ethStatus t d => Sys2Proof.Machine.execEthStatus t d s
  | .ethConfigSet t d => Sys2Proof.Machine.execEthConfigSet t d s
  | .ethConfigGet t d => Sys2Proof.Machine.execEthConfigGet t d s
  | .ethStart t d => Sys2Proof.Machine.execEthStart t d s
  | .ethStop t d => Sys2Proof.Machine.execEthStop t d s
  | .ethAddrSet t d => Sys2Proof.Machine.execEthAddrSet t d s
  | .ethCounters t d => Sys2Proof.Machine.execEthCounters t d s
  | .queueSet t d => Sys2Proof.Machine.execQueueSet t d s
  | .queueStatus t d => Sys2Proof.Machine.execQueueStatus t d s
  | .ringSet t d => Sys2Proof.Machine.execRingSet t d s
  | .ringEnable t d => Sys2Proof.Machine.execRingEnable t d s
  | .memConfigSet t d => Sys2Proof.Machine.execMemConfigSet t d s
  | .memConfigGet t d => Sys2Proof.Machine.execMemConfigGet t d s
  | .memStart t d => Sys2Proof.Machine.execMemStart t d s
  | .memStop t d => Sys2Proof.Machine.execMemStop t d s
  | .memStatus t d => Sys2Proof.Machine.execMemStatus t d s
  | .ifIdentify t d => Sys2Proof.Machine.execIfIdentify t d s
  | .ifEcho t d => Sys2Proof.Machine.execIfEcho t d s
  | .ifCounters t d => Sys2Proof.Machine.execIfCounters t d s
  | .evRecordRead t d => Sys2Proof.Machine.execEvRecordRead t d s
  | .tileStatus t d => Sys2Proof.Machine.execTileStatus t d s
  | .safeStatus t d => Sys2Proof.Machine.execSafeStatus t d s
  | .safeIoStatus t d => Sys2Proof.Machine.execSafeIoStatus t d s
  | .safeParamStage t d => Sys2Proof.Machine.execSafeParamStage t d s
  | .safeParamCommit t d => Sys2Proof.Machine.execSafeParamCommit t d s
  | .safeParamRead t d => Sys2Proof.Machine.execSafeParamRead t d s
  | .safeConfigEnter t d => Sys2Proof.Machine.execSafeConfigEnter t d s
  | .safeParamConfirm t d => Sys2Proof.Machine.execSafeParamConfirm t d s
  | .safeConfigLeave t d => Sys2Proof.Machine.execSafeConfigLeave t d s
  | .safePasswordSet t d => Sys2Proof.Machine.execSafePasswordSet t d s
  | .safeLogRead t d => Sys2Proof.Machine.execSafeLogRead t d s
  | .safeCounters t d => Sys2Proof.Machine.execSafeCounters t d s
  | .pwrStatus t d => Sys2Proof.Machine.execPwrStatus t d s
  | .pwrConfigSet t d => Sys2Proof.Machine.execPwrConfigSet t d s
  | .pwrConfigGet t d => Sys2Proof.Machine.execPwrConfigGet t d s
  | .pwrVote t d => Sys2Proof.Machine.execPwrVote t d s
  | .pwrWakeRequest t d => Sys2Proof.Machine.execPwrWakeRequest t d s
  | .pwrSleepLocal t d => Sys2Proof.Machine.execPwrSleepLocal t d s
  | .pwrPnSet t d => Sys2Proof.Machine.execPwrPnSet t d s
  | .pwrPnMode t d => Sys2Proof.Machine.execPwrPnMode t d s
  | .pwrCounters t d => Sys2Proof.Machine.execPwrCounters t d s
  | .recStatus t d => Sys2Proof.Machine.execRecStatus t d s
  | .recConfigSet t d => Sys2Proof.Machine.execRecConfigSet t d s
  | .recConfigGet t d => Sys2Proof.Machine.execRecConfigGet t d s
  | .recRead t d => Sys2Proof.Machine.execRecRead t d s
  | .recCopy t d => Sys2Proof.Machine.execRecCopy t d s
  | .recSeqRead t d => Sys2Proof.Machine.execRecSeqRead t d s
  | .recWrite t d => Sys2Proof.Machine.execRecWrite t d s
  | .recErase t d => Sys2Proof.Machine.execRecErase t d s
  | .recCounters t d => Sys2Proof.Machine.execRecCounters t d s
  | .bootStatus t d => Sys2Proof.Machine.execBootStatus t d s
  | .bootJournalRead t d => Sys2Proof.Machine.execBootJournalRead t d s
  | .bootJournalClear t d => Sys2Proof.Machine.execBootJournalClear t d s
  | .bootConfigSet t d => Sys2Proof.Machine.execBootConfigSet t d s
  | .bootConfigGet t d => Sys2Proof.Machine.execBootConfigGet t d s
  | .fwBegin t d => Sys2Proof.Machine.execFwBegin t d s
  | .fwWrite t d => Sys2Proof.Machine.execFwWrite t d s
  | .fwActivate t d => Sys2Proof.Machine.execFwActivate t d s
  | .fwConfirm t d => Sys2Proof.Machine.execFwConfirm t d s
  | .fwRestart t d => Sys2Proof.Machine.execFwRestart t d s
  | .fwSecurityAdvance t d => Sys2Proof.Machine.execFwSecurityAdvance t d s
  | .undefinedOpcode t d op => Sys2Proof.Machine.execUndefinedOpcode t d op s
  | .heldCommandStart t n => Sys2Proof.Machine.execHeldCommandStart t n s
  | .doorbellIgnored t d op => Sys2Proof.Machine.execDoorbellIgnored t d op s
  | .requestAreaWriteLocked t n off data => Sys2Proof.Machine.execRequestAreaWriteLocked t n off data s
  | .mbRelease t n => Sys2Proof.Machine.execMbRelease t n s
  | .evAck t word value => Sys2Proof.Machine.execEvAck t word value s
  | .nhirqEnableWrite t value => Sys2Proof.Machine.execNhirqEnableWrite t value s
  | .registerWrite t o d => Sys2Proof.Machine.execRegisterWrite t o d s
  | .registerAccessError t tag o len => Sys2Proof.Machine.execRegisterAccessError t tag o len s
  | .fenceRead t tag n off len => Sys2Proof.Machine.execFenceRead t tag n off len s
  | .remoteIrqWrite t n value enables => Sys2Proof.Machine.execRemoteIrqWrite t n value enables s
  | .semRead t tag n => Sys2Proof.Machine.execSemRead t tag n s
  | .semReleaseWrite t n value => Sys2Proof.Machine.execSemReleaseWrite t n value s
  | .windowRead t tag off len => Sys2Proof.Machine.execWindowRead t tag off len s
  | .windowWrite t off d => Sys2Proof.Machine.execWindowWrite t off d s
  | .nonpostedRequestAdmitted t => Sys2Proof.Machine.execNonpostedRequestAdmitted t s
  | .spiFrame t mosi => Sys2Proof.Machine.execSpiFrame t mosi s
  | .pcieLinkDown t => Sys2Proof.Machine.execPcieLinkDown t s
  | .msiReenable t busMaster enable intDisable k => Sys2Proof.Machine.execMsiReenable t busMaster enable intDisable k s
  | .msiUnmask t mask => Sys2Proof.Machine.execMsiUnmask t mask s
  | .heartbeatTick t => Sys2Proof.Machine.execHeartbeatTick t s
  | .tileSelfCheckFail t kind idx => Sys2Proof.Machine.execTileSelfCheckFail t kind idx s
  | .phyLinkLoss t p => Sys2Proof.Machine.execPhyLinkLoss t p s
  | .linkRxTimeout t p => Sys2Proof.Machine.execLinkRxTimeout t p s
  | .linkProvisional t p => Sys2Proof.Machine.execLinkProvisional t p s
  | .linkIdleTimer t p => Sys2Proof.Machine.execLinkIdleTimer t p s
  | .delayBurstEnd t p => Sys2Proof.Machine.execDelayBurstEnd t p s
  | .delayRequestTimer t p => Sys2Proof.Machine.execDelayRequestTimer t p s
  | .tdreqRx t p raw => Sys2Proof.Machine.execTdreqRx t p raw s
  | .tdrespRx t p ps raw => Sys2Proof.Machine.execTdrespRx t p ps raw s
  | .delaySampleTimeout t p => Sys2Proof.Machine.execDelaySampleTimeout t p s
  | .latencyTempCorrection t p tx rx => Sys2Proof.Machine.execLatencyTempCorrection t p tx rx s
  | .probeRx t p raw => Sys2Proof.Machine.execProbeRx t p raw s
  | .probeReplyRx t p raw => Sys2Proof.Machine.execProbeReplyRx t p raw s
  | .probeReplyTimeout t e => Sys2Proof.Machine.execProbeReplyTimeout t e s
  | .couplerSenseChange t e high => Sys2Proof.Machine.execCouplerSenseChange t e high s
  | .couplerDisagreeTimeout t e => Sys2Proof.Machine.execCouplerDisagreeTimeout t e s
  | .firstStartTimeout t => Sys2Proof.Machine.execFirstStartTimeout t s
  | .holdoffExpiry t => Sys2Proof.Machine.execHoldoffExpiry t s
  | .startRx t p raw => Sys2Proof.Machine.execStartRx t p raw s
  | .startOuterTimeout t e => Sys2Proof.Machine.execStartOuterTimeout t e s
  | .countRx t p raw => Sys2Proof.Machine.execCountRx t p raw s
  | .reportRx t p src raw => Sys2Proof.Machine.execReportRx t p src raw s
  | .reportWaitTimeout t => Sys2Proof.Machine.execReportWaitTimeout t s
  | .compositionComplete t => Sys2Proof.Machine.execCompositionComplete t s
  | .announceRx t p raw => Sys2Proof.Machine.execAnnounceRx t p raw s
  | .dirsegRx t p src raw => Sys2Proof.Machine.execDirsegRx t p src raw s
  | .segreqDeadline t => Sys2Proof.Machine.execSegreqDeadline t s
  | .segreqRx t p src raw => Sys2Proof.Machine.execSegreqRx t p src raw s
  | .snapshotIncompleteDeadline t => Sys2Proof.Machine.execSnapshotIncompleteDeadline t s
  | .epochSwitch t => Sys2Proof.Machine.execEpochSwitch t s
  | .runWatchdogExpiry t => Sys2Proof.Machine.execRunWatchdogExpiry t s
  | .snapshotEffective t => Sys2Proof.Machine.execSnapshotEffective t s
  | .noticeRx t p src raw => Sys2Proof.Machine.execNoticeRx t p src raw s
  | .bridgeTimeout t num => Sys2Proof.Machine.execBridgeTimeout t num s
  | .beaconTimer t => Sys2Proof.Machine.execBeaconTimer t s
  | .beaconRx t p src raw => Sys2Proof.Machine.execBeaconRx t p src raw s
  | .beaconMissingHeld t => Sys2Proof.Machine.execBeaconMissingHeld t s
  | .leaderLostTimeout t => Sys2Proof.Machine.execLeaderLostTimeout t s
  | .leaderLeaseRenew t => Sys2Proof.Machine.execLeaderLeaseRenew t s
  | .leaseRx t p raw => Sys2Proof.Machine.execLeaseRx t p raw s
  | .deputyTakeover t => Sys2Proof.Machine.execDeputyTakeover t s
  | .leaseExpiry t vehicle => Sys2Proof.Machine.execLeaseExpiry t vehicle s
  | .gatewayRequestTimer t => Sys2Proof.Machine.execGatewayRequestTimer t s
  | .bbTelegramRx t p ps err busy f => Sys2Proof.Machine.execBbTelegramRx t p ps err busy f s
  | .bbEgressDequeue t q ecc => Sys2Proof.Machine.execBbEgressDequeue t q ecc s
  | .dupEntryAgeout t => Sys2Proof.Machine.execDupEntryAgeout t s
  | .fallbackReturnTimer t e => Sys2Proof.Machine.execFallbackReturnTimer t e s
  | .lineRenameTimer t seg => Sys2Proof.Machine.execLineRenameTimer t seg s
  | .preemptVerifyComplete t p ok => Sys2Proof.Machine.execPreemptVerifyComplete t p ok s
  | .pdSlotInstant t idx => Sys2Proof.Machine.execPdSlotInstant t idx s
  | .tsyncGmTimer t => Sys2Proof.Machine.execTsyncGmTimer t s
  | .tsyncRx t p ps raw => Sys2Proof.Machine.execTsyncRx t p ps raw s
  | .tsyncLossTimeout t => Sys2Proof.Machine.execTsyncLossTimeout t s
  | .holdoverTsyncTimer t => Sys2Proof.Machine.execHoldoverTsyncTimer t s
  | .holdoverLimitExceeded t => Sys2Proof.Machine.execHoldoverLimitExceeded t s
  | .trefInPulse t ps => Sys2Proof.Machine.execTrefInPulse t ps s
  | .trefInMissing t => Sys2Proof.Machine.execTrefInMissing t s
  | .trefOutPulse t => Sys2Proof.Machine.execTrefOutPulse t s
  | .cepFire t n => Sys2Proof.Machine.execCepFire t n s
  | .cbCycleStart t => Sys2Proof.Machine.execCbCycleStart t s
  | .cbFrameRx t p seen idle decodes f => Sys2Proof.Machine.execCbFrameRx t p seen idle decodes f s
  | .cbWindowClose t p k running => Sys2Proof.Machine.execCbWindowClose t p k running s
  | .cbForeignActivity t stray => Sys2Proof.Machine.execCbForeignActivity t stray s
  | .cbOwnSlotSend t k => Sys2Proof.Machine.execCbOwnSlotSend t k s
  | .cbEventWindow t => Sys2Proof.Machine.execCbEventWindow t s
  | .cbGrantResponseTimeout t p => Sys2Proof.Machine.execCbGrantResponseTimeout t p s
  | .cbBeaconRx t p seen f => Sys2Proof.Machine.execCbBeaconRx t p seen f s
  | .cbListenTimeout t => Sys2Proof.Machine.execCbListenTimeout t s
  | .cbOtherStarLost t => Sys2Proof.Machine.execCbOtherStarLost t s
  | .cbPointFire t n => Sys2Proof.Machine.execCbPointFire t n s
  | .canIntegrated t n => Sys2Proof.Machine.execCanIntegrated t n s
  | .canFrameRx t n sof raw => Sys2Proof.Machine.execCanFrameRx t n sof raw s
  | .canTxStart t n => Sys2Proof.Machine.execCanTxStart t n s
  | .canTxComplete t n tdc => Sys2Proof.Machine.execCanTxComplete t n tdc s
  | .canError t n kind clash exempt extra => Sys2Proof.Machine.execCanError t n kind clash exempt extra s
  | .canRecoveryComplete t n => Sys2Proof.Machine.execCanRecoveryComplete t n s
  | .canAloneRetry t n => Sys2Proof.Machine.execCanAloneRetry t n s
  | .canCellStart t n idle => Sys2Proof.Machine.execCanCellStart t n idle s
  | .canCheckCellEnd t n => Sys2Proof.Machine.execCanCheckCellEnd t n s
  | .canMatrixResume t n => Sys2Proof.Machine.execCanMatrixResume t n s
  | .routerLookup t => Sys2Proof.Machine.execRouterLookup t s
  | .guardTimeout t idx => Sys2Proof.Machine.execGuardTimeout t idx s
  | .readReqRx t p f => Sys2Proof.Machine.execReadReqRx t p f s
  | .writeRx t p f => Sys2Proof.Machine.execWriteRx t p f s
  | .irqRx t p f => Sys2Proof.Machine.execIrqRx t p f s
  | .semAcquireRx t p f => Sys2Proof.Machine.execSemAcquireRx t p f s
  | .semReleaseRx t p f => Sys2Proof.Machine.execSemReleaseRx t p f s
  | .exportTargetTimeout t source => Sys2Proof.Machine.execExportTargetTimeout t source s
  | .writeAckTimer t source => Sys2Proof.Machine.execWriteAckTimer t source s
  | .readReplyRx t p f => Sys2Proof.Machine.execReadReplyRx t p f s
  | .writeAckRx t p f => Sys2Proof.Machine.execWriteAckRx t p f s
  | .writeFaultRx t p f => Sys2Proof.Machine.execWriteFaultRx t p f s
  | .semReplyRx t p f => Sys2Proof.Machine.execSemReplyRx t p f s
  | .heldReadTimeout t tag => Sys2Proof.Machine.execHeldReadTimeout t tag s
  | .fenceTimeout t tag => Sys2Proof.Machine.execFenceTimeout t tag s
  | .semReadTimeout t tag => Sys2Proof.Machine.execSemReadTimeout t tag s
  | .semAttemptTimeout t n => Sys2Proof.Machine.execSemAttemptTimeout t n s
  | .asyncReadTimeout t tag => Sys2Proof.Machine.execAsyncReadTimeout t tag s
  | .writeAckTimeout t tag => Sys2Proof.Machine.execWriteAckTimeout t tag s
  | .prefetchLineExpiry t n k => Sys2Proof.Machine.execPrefetchLineExpiry t n k s
  | .windowDisableComplete t n => Sys2Proof.Machine.execWindowDisableComplete t n s
  | .vehicleFrameRx t p ps err f => Sys2Proof.Machine.execVehicleFrameRx t p ps err f s
  | .pauseExpiry t p => Sys2Proof.Machine.execPauseExpiry t p s
  | .vehicleEgressDequeue t p fragments ecc => Sys2Proof.Machine.execVehicleEgressDequeue t p fragments ecc s
  | .vehicleLinkChange t p up is100 => Sys2Proof.Machine.execVehicleLinkChange t p up is100 s
  | .ringPoll t q descs => Sys2Proof.Machine.execRingPoll t q descs s
  | .rxRingDeliver t q ecc => Sys2Proof.Machine.execRxRingDeliver t q ecc s
  | .txChainProcess t q more bufs failed => Sys2Proof.Machine.execTxChainProcess t q more bufs failed s
  | .ddrTrainingComplete t passed => Sys2Proof.Machine.execDdrTrainingComplete t passed s
  | .ddrScrubPass t corrected uces => Sys2Proof.Machine.execDdrScrubPass t corrected uces s
  | .memStopDrained t => Sys2Proof.Machine.execMemStopDrained t s
  | .memStopTimeout t => Sys2Proof.Machine.execMemStopTimeout t s
  | .nutmegFrameTimer t => Sys2Proof.Machine.execNutmegFrameTimer t s
  | .maceFrameRx t good => Sys2Proof.Machine.execMaceFrameRx t good s
  | .nutmegAnswerRx t good => Sys2Proof.Machine.execNutmegAnswerRx t good s
  | .maceLinkTimeout t => Sys2Proof.Machine.execMaceLinkTimeout t s
  | .nutmegLinkTimeout t => Sys2Proof.Machine.execNutmegLinkTimeout t s
  | .lockstepMismatch t => Sys2Proof.Machine.execLockstepMismatch t s
  | .maceClockMeasure t interval => Sys2Proof.Machine.execMaceClockMeasure t interval s
  | .safeFunctionEval t nutmeg samples rb => Sys2Proof.Machine.execSafeFunctionEval t nutmeg samples rb s
  | .discrepancyTimeout t nutmeg idx => Sys2Proof.Machine.execDiscrepancyTimeout t nutmeg idx s
  | .inputTestPulse t j lowN lowM => Sys2Proof.Machine.execInputTestPulse t j lowN lowM s
  | .offPulseSlot t k opened other back => Sys2Proof.Machine.execOffPulseSlot t k opened other back s
  | .brakeFeedbackDeadline t nutmeg o => Sys2Proof.Machine.execBrakeFeedbackDeadline t nutmeg o s
  | .ackStuckTimeout t nutmeg => Sys2Proof.Machine.execAckStuckTimeout t nutmeg s
  | .startingComplete t nutmeg checkOk => Sys2Proof.Machine.execStartingComplete t nutmeg checkOk s
  | .companionPowerUp t => Sys2Proof.Machine.execCompanionPowerUp t s
  | .companionSupplyLow t => Sys2Proof.Machine.execCompanionSupplyLow t s
  | .passwordLockoutExpiry t => Sys2Proof.Machine.execPasswordLockoutExpiry t s
  | .authorisationExpiry t => Sys2Proof.Machine.execAuthorisationExpiry t s
  | .trainWakePulseDetect t rear => Sys2Proof.Machine.execTrainWakePulseDetect t rear s
  | .wakePulseEnd t => Sys2Proof.Machine.execWakePulseEnd t s
  | .canWakeDetect t n => Sys2Proof.Machine.execCanWakeDetect t n s
  | .carbusWakeDetect t port => Sys2Proof.Machine.execCarbusWakeDetect t port s
  | .wakeAfterExpiry t => Sys2Proof.Machine.execWakeAfterExpiry t s
  | .falseWakeTimeout t => Sys2Proof.Machine.execFalseWakeTimeout t s
  | .sleepVoteTimer t => Sys2Proof.Machine.execSleepVoteTimer t s
  | .sleepVoteRx t p raw => Sys2Proof.Machine.execSleepVoteRx t p raw s
  | .sleepVoteExpiry t => Sys2Proof.Machine.execSleepVoteExpiry t s
  | .sleepGrantIssue t => Sys2Proof.Machine.execSleepGrantIssue t s
  | .sleepGrantRx t p raw => Sys2Proof.Machine.execSleepGrantRx t p raw s
  | .abortRequestRx t p raw => Sys2Proof.Machine.execAbortRequestRx t p raw s
  | .sleepAbortRx t p raw => Sys2Proof.Machine.execSleepAbortRx t p raw s
  | .sleepInstant t => Sys2Proof.Machine.execSleepInstant t s
  | .cloveCountdownExpiry t => Sys2Proof.Machine.execCloveCountdownExpiry t s
  | .sleepReady t => Sys2Proof.Machine.execSleepReady t s
  | .prepareFailsafeTimeout t => Sys2Proof.Machine.execPrepareFailsafeTimeout t s
  | .sleepEntryComplete t => Sys2Proof.Machine.execSleepEntryComplete t s
  | .referenceLost t => Sys2Proof.Machine.execReferenceLost t s
  | .referenceReturn t => Sys2Proof.Machine.execReferenceReturn t s
  | .healthChallenge t answer => Sys2Proof.Machine.execHealthChallenge t answer s
  | .optimeSave t => Sys2Proof.Machine.execOptimeSave t s
  | .powerUp t => Sys2Proof.Machine.execPowerUp t s
  | .alwaysOnLoss t => Sys2Proof.Machine.execAlwaysOnLoss t s
  | .nrstAssert t => Sys2Proof.Machine.execNrstAssert t s
  | .nrstRelease t => Sys2Proof.Machine.execNrstRelease t s
  | .mainDieRelease t hang fails => Sys2Proof.Machine.execMainDieRelease t hang fails s
  | .bootStepWatchdog t => Sys2Proof.Machine.execBootStepWatchdog t s
  | .retryWaitExpiry t hang fails => Sys2Proof.Machine.execRetryWaitExpiry t hang fails s
  | .firmwareRestart t hang fails => Sys2Proof.Machine.execFirmwareRestart t hang fails s
  | .firmwareFatalError t => Sys2Proof.Machine.execFirmwareFatalError t s
  | .recordStore t arisen => Sys2Proof.Machine.execRecordStore t arisen s
  | .pinExpiry t h => Sys2Proof.Machine.execPinExpiry t h s
  | .exportAccessComplete t source ends data => Sys2Proof.Machine.execExportAccessComplete t source ends data s
  | .pcieLinkUp t width speed => Sys2Proof.Machine.execPcieLinkUp t width speed s
  | .phyEnergyDetect t p => Sys2Proof.Machine.execPhyEnergyDetect t p s
  | .saffronInternalTick t => Sys2Proof.Machine.execSaffronInternalTick t s
  | .crystalStable t => Sys2Proof.Machine.execCrystalStable t s
  | .crystalLost t => Sys2Proof.Machine.execCrystalLost t s

end Sys2Proof.Machine
end

