-- ==== Sys2Proof/Machine/Step.lean ====
section
/-! DEFINITION. One step: the command at the front of the queue. -/
namespace Sys2Proof.Machine
open Host (Outcome)

/-- One step. With no command waiting, the 200 MHz core clock goes on by one cycle of 5 ns and nothing else happens (log 2). -/
def step (s : State) : Outcome State Fault Refusal :=
  match s.pending with
  | [] => .next { s with chip := s.chip.tick (s.chip.clk.now + 5) }
  | i :: rest => exec i { s with pending := rest }

/-- The command a word spells, put at the front of the queue; no word spells one. (log 34) -/
def State.withFetchWord (s : State) (nbits w : Nat) : State :=
  match decodeTableWord nbits w with
  | some i => { s with pending := i :: s.pending }
  | none => s

end Sys2Proof.Machine
end

