-- ==== Sys2Proof/Machine/Pins.lean ====
section
/-! DEFINITION. What the pins and the PCIe endpoint's identification show of the state (R38, R319, R340, R363, R372, R458, R473, R479). Nothing here is
held: each level is read off the state that other chapters keep. A pin that a command drives for a moment is an output instead (HostState.lean). -/

namespace Sys2Proof.Machine

/-- What a GPIO pin serves as (R479). -/
inductive PinUse where
  /-- A high-impedance input without pulls. -/
  | input
  | trefIn | trefOut | nhirq
  /-- A cycle event point drives it. -/
  | point
  deriving DecidableEq, Repr

/-- Step `n` of the start has been passed, so that the interfaces R458 names with it are out of their reset state. In HALTED the failed step has not. -/
def Chip.startPast (c : Chip) (n : Nat) : Bool :=
  c.mainDie && match c.boot.state with
  | .reset => false
  | .booting | .halted => decide (n < c.boot.step)
  | .ready | .service => true

/-- A cycle event point with a pulse is set on the pin (R171, R173). (log 82) -/
def Saffron.pointOn (s : Saffron) (pin : Nat) : Bool :=
  s.ceps.any fun p => u8 p.config.cur 0 == 1 && (u8 p.config.cur 2).testBit 1 && u8 p.config.cur 3 == pin

/-- The use of GPIO `pin` (R479): a high-impedance input from chip reset to B08; after that by the rules that claim it, in R479's order. A firmware restart
is no chip reset: the values B08 loaded stay in force through it. (log 82) (log 5) -/
def Chip.gpioUse (c : Chip) (pin : Nat) : PinUse :=
  if !(c.startPast 8 || (c.mainDie && c.boot.loaded)) then .input
  else if pin = 14 ∧ u8 c.time.config 1 ≠ 0 then .trefIn
  else if pin = 15 ∧ u8 c.time.config 2 ≠ 0 then .trefOut
  else if pin = 12 ∧ c.host.nhirq then .nhirq
  else if c.time.pointOn pin then .point
  else .input

/-- GPIO12 serves as nHIRQ and is pulled low: some vector's condition is 1, whatever the PCIe state (R363). -/
def Chip.nhirqLow (c : Chip) : Bool := c.gpioUse 12 == .nhirq && c.host.conditions != 0

/-- The endpoint asserts INTA (R363). (log 6) -/
def Chip.inta (c : Chip) : Bool := c.mainDie && !c.host.msi.enable && !c.host.msi.intDisable && c.host.conditions != 0

/-- BYPF and BYPR are high and hold the relays open; else low, or high-impedance, which releases them (R38, R458, R473). (log 5) -/
def Chip.bypassHigh (c : Chip) : Bool := c.mainDie && c.rc.relaysOpen

/-- The QSPI pins are driven: from B03, never in HALTED (R458). -/
def Chip.qspiDriven (c : Chip) : Bool := c.startPast 2 && c.boot.state != .halted

/-- The PHY or SerDes of a vehicle port is on: from B11 and its ETH_START (R319, R458). -/
def Chip.vportPowered (c : Chip) (p : Nat) : Bool := c.startPast 11 && c.vportOn p

/-- SOnDN is high (R372, R473): a front end holds its drive off while the main die is unpowered or in reset. (log 5) -/
def Chip.driveN (c : Chip) (o : Nat) : Bool := c.mainDie && c.safe.nutmeg.on && (c.safe.nutmeg.outp o).demand

/-- SOnDM is high (R372, R473): held off while Mace's supply monitor reports its supply out of range. (log 5) -/
def Chip.driveM (c : Chip) (o : Nat) : Bool := c.safe.mace.on && (c.safe.mace.outp o).demand

/-- The identification of the PCIe function (R340). -/
structure PcieIdent where
  vendor : Nat := 0x1F4E
  device : Nat := 0x0640
  revision : Nat := 0x0B
  classCode : Nat := 0x028000
  subsystemVendor : Nat
  subsystem : Nat
  /-- The Device Serial Number. -/
  serial : Nat
  deriving DecidableEq, Repr

/-- What the endpoint of this chip identifies as: the subsystem identification comes from fuses, and the serial number is the node identity (R340). (log 6) -/
def Chip.pcieIdent (c : Chip) : PcieIdent :=
  { subsystemVendor := c.fuses.subsystem % 65536, subsystem := c.fuses.subsystem / 65536, serial := c.fuses.identity }

end Sys2Proof.Machine
end

