-- ==== Sys2Proof/Safety.lean ====
section
/-! DEFINITION. The terms in which claims are stated: what a command leaves, when a mailbox command is served, and, row by row, the conditions on
the state and the operands under which the spec gives the row its own effect (`Ready`). -/
namespace Sys2Proof
open Machine

/-- The command answers a next state at instant `t`: its work leaves the chip `X`, firmware then does what follows from any command, and the queue of
waiting commands is as it was. -/
def Leaves (i : Instr) (t : Nat) (s : State) (X : Chip) : Prop := Machine.exec i s = .next { s with chip := (s.chip.tick t).settled X }

/-- A doorbell is served at once (R352, R355, R356, R412): the main die is up, the mailbox takes doorbells, no earlier command of its group is BUSY,
the subsystem is available and started, and PREPARE does not refuse it. -/
abbrev Served (c : Chip) (d : Doorbell) (op : Nat) : Prop :=
  c.mainDie = true ∧ d.mb < 8 ∧ ((c.host.mb d.mb).state = .idle ∨ (c.host.mb d.mb).state = .done) ∧
  (op / 256 = 0x0D ∨ c.host.heldBehind (op / 256) c.host.nextOrder = false) ∧ (c.boot.state ≠ .service ∨ op / 256 = 0x0C ∨ op / 256 = 0x0D) ∧
  c.tiles.allIsolated op = false ∧ c.unstarted op = false ∧ (c.clove.state ≠ .prepare ∨ op = 0x0A00 ∨ op / 256 = 0x0D)

/-- The chip on which a served command runs: the doorbell accepted, the mailbox BUSY. -/
def rung (s : State) (t : Nat) (d : Doorbell) (op : Nat) : Chip := (s.chip.tick t).ring d op false

/-- The request it reads. -/
def asked (s : State) (t : Nat) (d : Doorbell) (op : Nat) : Bytes := (rung s t d op).host.request d.mb d.length

/-- A mailbox command served while `ready` holds completes with status 0 and Detail 0: `work` names the chip its effect leaves and the payload of its response. -/
def Serves (i : Nat → Doorbell → Instr) (op : Nat) (ready : Chip → Bytes → Prop) (work : Chip → Bytes → Chip × Bytes) : Prop :=
  ∀ s t d, Served (s.chip.tick t) d op → ready (rung s t d op) (asked s t d op) →
    Leaves (i t d) t s ((work (rung s t d op) (asked s t d op)).1.complete d.mb 0 0 (work (rung s t d op) (asked s t d op)).2)

/-- A mailbox command served while `ready` holds takes effect and stays BUSY until the operation it began has ended. -/
def Begins (i : Nat → Doorbell → Instr) (op : Nat) (ready : Chip → Bytes → Prop) (work : Chip → Bytes → Chip) : Prop :=
  ∀ s t d, Served (s.chip.tick t) d op → ready (rung s t d op) (asked s t d op) → Leaves (i t d) t s (work (rung s t d op) (asked s t d op))

/-- An event of the main die: while the die is up and `ready` holds, the command leaves `work` of the chip. -/
def Acts (i : Nat → Instr) (ready : Chip → Prop) (work : Chip → Chip) : Prop :=
  ∀ t s, (s.chip.tick t).mainDie = true → ready (s.chip.tick t) → Leaves (i t) t s (work (s.chip.tick t))

/-- An event that needs no main die: the safety island, Clove, power and start-up. -/
def ActsAlways (i : Nat → Instr) (ready : Chip → Prop) (work : Chip → Chip) : Prop :=
  ∀ t s, ready (s.chip.tick t) → Leaves (i t) t s (work (s.chip.tick t))

/-- Fuses that other fuses can become (R41, R461): the identity and the revocations stay, with the latencies measured at
production and the subsystem identification, and the minimum security version never falls. -/
def Machine.Fuses.after (f g : Fuses) : Prop :=
  g.identity = f.identity ∧ g.revoked = f.revoked ∧ g.txLatency = f.txLatency ∧ g.rxLatency = f.rxLatency ∧ g.subsystem = f.subsystem ∧ f.minSecurity ≤ g.minSecurity

/-- A channel demands nothing unless it runs, and has a set in every state in which it works with one (R376, R389). -/
def Machine.SafeChan.quiet (x : SafeChan) : Prop :=
  (x.state = .running ∨ x.state = .starting ∨ x.state = .configuration → x.set.isSome = true) ∧ (x.state ≠ .running → ∀ y ∈ x.outs, y.demand = false)

/-- Both channels are quiet. -/
def Machine.Chip.islandQuiet (c : Chip) : Prop := SafeChan.quiet c.safe.nutmeg ∧ SafeChan.quiet c.safe.mace

/-- The mailbox rows with their opcodes (R370). -/
def mailboxRows : List (Nat × (Nat → Doorbell → Instr)) :=
  [(0x0100, Instr.dirStatus), (0x0101, Instr.dirPin), (0x0102, Instr.dirReadPage), (0x0103, Instr.dirUnpin), (0x0104, Instr.dirCopy), (0x0105, Instr.dirResolve), (0x0106, Instr.vehicleConfigSet), (0x0107, Instr.vehicleConfigGet), (0x0110, Instr.rollcallStart), (0x0111, Instr.rollcallStop), (0x0112, Instr.rollcallRerun), (0x0113, Instr.rollcallStatus), (0x0114, Instr.cabSet), (0x0115, Instr.rollcallConfigSet), (0x0116, Instr.rollcallConfigGet), (0x0117, Instr.rollcallCounters)] ++
  [(0x0200, Instr.bbStatus), (0x0201, Instr.bbConfigSet), (0x0202, Instr.bbConfigGet), (0x0203, Instr.bbSchedStage), (0x0204, Instr.bbSchedCommit), (0x0205, Instr.pdWrite), (0x0206, Instr.pdRead), (0x0207, Instr.msgSend), (0x0208, Instr.leaseStatus), (0x0209, Instr.bbCounters)] ++
  [(0x0300, Instr.timeStatus), (0x0301, Instr.timeConfigSet), (0x0302, Instr.timeConfigGet), (0x0303, Instr.timeNow), (0x0304, Instr.timeRefTod), (0x0305, Instr.cepSet), (0x0306, Instr.cepGet), (0x0307, Instr.cepStatus), (0x0308, Instr.timePort), (0x0309, Instr.timeCounters)] ++
  [(0x0400, Instr.cbStatus), (0x0401, Instr.cbConfigSet), (0x0402, Instr.cbConfigGet), (0x0403, Instr.cbStart), (0x0404, Instr.cbStop), (0x0405, Instr.cbSchedStage), (0x0406, Instr.cbSchedCommit), (0x0407, Instr.cbTxWrite), (0x0408, Instr.cbRxRead), (0x0409, Instr.cbEventSend), (0x040A, Instr.cbEventRead), (0x040B, Instr.cbSlotStatus), (0x040C, Instr.cbPointSet), (0x040D, Instr.cbCounters)] ++
  [(0x0500, Instr.canStatus), (0x0501, Instr.canConfigSet), (0x0502, Instr.canConfigGet), (0x0503, Instr.canStart), (0x0504, Instr.canStop), (0x0505, Instr.canRecover), (0x0506, Instr.canBufSet), (0x0507, Instr.canBufGet), (0x0508, Instr.canTxWrite), (0x0509, Instr.canRxRead), (0x050A, Instr.canSend), (0x050B, Instr.canMatrixStage), (0x050C, Instr.canMatrixCommit), (0x050D, Instr.canBufResume), (0x050E, Instr.canCounters)] ++
  [(0x0600, Instr.routeStatus), (0x0601, Instr.routeStart), (0x0602, Instr.routeStop), (0x0603, Instr.routeStage), (0x0604, Instr.routeCommit), (0x0605, Instr.routeEntryGet), (0x0606, Instr.routeEntryEnable), (0x0607, Instr.guardStatus), (0x0608, Instr.guardReset), (0x0609, Instr.routeCounters), (0x060A, Instr.guardCompute)] ++
  [(0x0700, Instr.brStatus), (0x0701, Instr.brConfigSet), (0x0702, Instr.brConfigGet), (0x0703, Instr.brStart), (0x0704, Instr.brStop), (0x0705, Instr.brWindowSet), (0x0706, Instr.brWindowEnable), (0x0707, Instr.brWindowStatus), (0x0708, Instr.brExport), (0x0709, Instr.brRead), (0x070A, Instr.brCompletionRead), (0x070B, Instr.brFaultRead), (0x070C, Instr.brStrandedRead), (0x070D, Instr.brPrefetch), (0x070E, Instr.brSemControl), (0x070F, Instr.brCounters)] ++
  [(0x0800, Instr.ethStatus), (0x0801, Instr.ethConfigSet), (0x0802, Instr.ethConfigGet), (0x0803, Instr.ethStart), (0x0804, Instr.ethStop), (0x0805, Instr.ethAddrSet), (0x0806, Instr.ethCounters), (0x0807, Instr.queueSet), (0x0808, Instr.queueStatus), (0x0809, Instr.ringSet), (0x080A, Instr.ringEnable), (0x080B, Instr.memConfigSet), (0x080C, Instr.memConfigGet), (0x080D, Instr.memStart), (0x080E, Instr.memStop), (0x080F, Instr.memStatus)] ++
  [(0x0900, Instr.safeStatus), (0x0901, Instr.safeIoStatus), (0x0902, Instr.safeParamStage), (0x0903, Instr.safeParamCommit), (0x0904, Instr.safeParamRead), (0x0905, Instr.safeConfigEnter), (0x0906, Instr.safeParamConfirm), (0x0907, Instr.safeConfigLeave), (0x0908, Instr.safePasswordSet), (0x0909, Instr.safeLogRead), (0x090A, Instr.safeCounters)] ++
  [(0x0A00, Instr.pwrStatus), (0x0A01, Instr.pwrConfigSet), (0x0A02, Instr.pwrConfigGet), (0x0A03, Instr.pwrVote), (0x0A04, Instr.pwrWakeRequest), (0x0A05, Instr.pwrSleepLocal), (0x0A06, Instr.pwrPnSet), (0x0A07, Instr.pwrPnMode), (0x0A08, Instr.pwrCounters)] ++
  [(0x0B00, Instr.recStatus), (0x0B01, Instr.recConfigSet), (0x0B02, Instr.recConfigGet), (0x0B03, Instr.recRead), (0x0B04, Instr.recCopy), (0x0B05, Instr.recSeqRead), (0x0B06, Instr.recWrite), (0x0B07, Instr.recErase), (0x0B08, Instr.recCounters)] ++
  [(0x0C00, Instr.bootStatus), (0x0C01, Instr.bootJournalRead), (0x0C02, Instr.bootJournalClear), (0x0C03, Instr.bootConfigSet), (0x0C04, Instr.bootConfigGet), (0x0C05, Instr.fwBegin), (0x0C06, Instr.fwWrite), (0x0C07, Instr.fwActivate), (0x0C08, Instr.fwConfirm), (0x0C09, Instr.fwRestart), (0x0C0A, Instr.fwSecurityAdvance)] ++
  [(0x0D00, Instr.ifIdentify), (0x0D01, Instr.ifEcho), (0x0D02, Instr.ifCounters), (0x0D03, Instr.evRecordRead), (0x0D04, Instr.tileStatus)]

/-- The rows that can run FW_SECURITY_ADVANCE: its own, and those that take the doorbell of any opcode. -/
def mayAdvance (i : Instr) : Bool :=
  match i with
  | .fwSecurityAdvance _ _ | .undefinedOpcode _ _ _ | .doorbellIgnored _ _ _ | .registerWrite _ _ _ | .spiFrame _ _ | .heldCommandStart _ _ => true
  | _ => false

/-- Reserved bytes of a request are 0 (R11). -/
abbrev Zero (r : Bytes) (off n : Nat) : Prop := isZero (slice r off n) = true

namespace Ready

/-- A command without a request. -/
abbrev noRequest (_ : Chip) (r : Bytes) : Prop := r.length = 0
/-- A Static or mixed record may be written: its engine is stopped, or its Static fields keep their values (R13). -/
abbrev static (stopped : Bool) (old new : Bytes) (fields : List (Nat × Nat)) : Prop := stopped = true ∨ staticKept old new fields = true

/-- A copy to host memory is under way (R342): its block, once written within `bound`, completes the command with its response. -/
abbrev copying (op bound address : Nat) (data payload : Bytes) (c : Chip) : Chip :=
  c.draw.2.onHost fun h => { h with copies := h.copies ++ [{ op := op, due := c.clk.now + c.draw.1 % bound, address := address, data := data, payload := payload }] }

/-! Opcodes 0x0100–0x0117 (R64, R102). -/

abbrev noSnapshot (c : Chip) (r : Bytes) : Prop := r.length = 0 ∧ c.dir.inForce = none
abbrev snapshot (sn : Snapshot) (c : Chip) (r : Bytes) : Prop := r.length = 0 ∧ c.dir.inForce = some sn
abbrev dirPin (sn : Snapshot) (c : Chip) (r : Bytes) : Prop := r.length = 0 ∧ c.dir.inForce = some sn ∧ c.dir.pins.length < 4
abbrev dirReadPage (p : Pin) (c : Chip) (r : Bytes) : Prop := r.length = 4 ∧ Zero r 1 1 ∧ c.dir.pin (u8 r 0) = some p ∧ u16 r 2 < ceilDiv p.snap.totalSize 480
abbrev dirUnpin (p : Pin) (c : Chip) (r : Bytes) : Prop := r.length = 4 ∧ Zero r 1 3 ∧ c.dir.pin (u8 r 0) = some p
abbrev dirCopy (sn : Snapshot) (c : Chip) (r : Bytes) : Prop := r.length = 12 ∧ c.dir.inForce = some sn ∧ sn.totalSize ≤ u32 r 8 ∧ c.host.pcieUp = true
/-- A descriptor of R60 at an offset, its reserved bytes 0 for its kind. -/
abbrev addr (r : Bytes) (o : Nat) : Prop :=
  u8 r o ≤ 4 ∧ (u8 r o = 1 ∨ u8 r o = 3 ∨ Zero r (o + 1) 1) ∧ Zero r (o + 2) 2 ∧ (if u8 r o ≤ 1 then Zero r (o + 10) 6 else Zero r (o + 4) 4) ∧
  (u8 r o ≠ 4 ∨ Zero r (o + 8) 8) ∧ (¬(u8 r o = 1 ∨ u8 r o = 3) ∨ u8 r (o + 1) ≤ 2)
/-- The expected epoch of a descriptor is none or the one in force (R61). -/
abbrev epochOk (c : Chip) (a : Addr) : Prop := ¬(a.kind ≤ 1) ∨ a.expected = 0 ∨ a.expected = c.epoch
abbrev dirResolve (sn : Snapshot) (n : NodeEntry) (c : Chip) (r : Bytes) : Prop :=
  r.length = 16 ∧ addr r 0 ∧ (Addr.at r 0).isAll = false ∧ c.dir.inForce = some sn ∧ epochOk c (Addr.at r 0) ∧ c.resolve (Addr.at r 0) = some n
abbrev vehicleConfigSet (c : Chip) (r : Bytes) : Prop :=
  r.length = 32 ∧ u8 r 0x13 < 2 ∧ Zero r 0x18 8 ∧ idOk (u64 r 0) = true ∧ idOk (u64 r 8) = true ∧ 1 ≤ u16 r 0x10 ∧ u16 r 0x10 ≤ 4094 ∧
  (u8 r 0x12 = 1 ∨ u8 r 0x12 = 2) ∧ ¬(u8 r 0x12 = 2 ∧ u8 r 0x13 = 0) ∧ c.rc.state ≠ .reported ∧ c.rc.state ≠ .composing
abbrev stopped (c : Chip) (r : Bytes) : Prop := r.length = 0 ∧ c.rolling = false
abbrev rolling (c : Chip) (r : Bytes) : Prop := r.length = 0 ∧ c.rolling = true
/-- The cab claim now held: 0 none, 1 or 2. -/
abbrev claimNow (c : Chip) : Nat := match c.rc.cab with | some k => k.toRear + 1 | none => 0
abbrev cabSame (c : Chip) (r : Bytes) : Prop := r.length = 4 ∧ Zero r 1 3 ∧ u8 r 0 ≤ 2 ∧ u8 r 0 = claimNow c
abbrev cabChanged (c : Chip) (r : Bytes) : Prop := r.length = 4 ∧ Zero r 1 3 ∧ u8 r 0 ≤ 2 ∧ u8 r 0 ≠ claimNow c
abbrev rollcallConfigSet (c : Chip) (r : Bytes) : Prop :=
  r.length = 8 ∧ Zero r 4 4 ∧ u8 r 0 ≤ 15 ∧ u8 r 1 ≤ 1 ∧ u8 r 2 ≤ 2 ∧ u8 r 3 ≤ 2 ∧ static (!c.rolling) c.rc.config r [(2, 2)]

/-! Opcodes 0x0200–0x0209 (R144). -/

abbrev bbConfigSet (c : Chip) (r : Bytes) : Prop :=
  r.length = 16 ∧ Zero r 5 1 ∧ Zero r 10 6 ∧ 0x0600 ≤ u16 r 0 ∧ u8 r 2 ≤ 1 ∧ u8 r 3 ≤ 1 ∧ u8 r 4 ≤ 15 ∧ 1 ≤ u16 r 6 ∧ u16 r 6 ≤ 10 ∧ 10 ≤ u16 r 8 ∧ u16 r 8 ≤ 1000 ∧
  static (!c.rolling) c.bb.config r [(0, 2), (2, 1)]
/-- A staging command of Offset (4), Length (2) and data for an area of `size` bytes. -/
abbrev stage (size : Nat) (_ : Chip) (r : Bytes) : Prop := r.length = 8 + u16 r 4 ∧ u16 r 4 ≤ 480 ∧ Zero r 6 2 ∧ u32 r 0 + u16 r 4 ≤ size
abbrev bbSchedCommit (running : Bool) (c : Chip) (r : Bytes) : Prop := r.length = 0 ∧ schedValid c.stagedSched = true ∧ c.rolling = running
abbrev pdWrite (sl : Bytes) (c : Chip) (r : Bytes) : Prop :=
  r.length = 8 + u16 r 4 ∧ u16 r 4 ≤ 480 ∧ u8 r 6 ≤ 1 ∧ Zero r 7 1 ∧ c.slotOf (u16 r 0) = some sl ∧ c.ownSlot sl = true ∧ u16 r 2 + u16 r 4 ≤ u16 sl 6
abbrev pdReadNone (c : Chip) (r : Bytes) : Prop := r.length = 8 ∧ Zero r 6 2 ∧ u16 r 4 ≤ 480 ∧ (c.bb.recvs.find? fun x => x.dataId == u16 r 0) = none
abbrev pdRead (x : RecvSlot) (c : Chip) (r : Bytes) : Prop := r.length = 8 ∧ Zero r 6 2 ∧ u16 r 4 ≤ 480 ∧ (c.bb.recvs.find? fun x => x.dataId == u16 r 0) = some x
/-- The acting gateway recorded for this node's vehicle; none while the record names no holder. -/
abbrev actingGateway (c : Chip) : Option Lease := (c.bb.gateways.lookup c.vehicleId).filter fun l => l.holder != 0
/-- The telegram that MSG_SEND originates. -/
abbrev message (r : Bytes) : Telegram := { (Addr.at r 0).telegram 5 (u8 r 0x10) (r.drop 24) with selector := u16 r 0x12 }
abbrev msgSend (o : Telegram × Chip) (c : Chip) (r : Bytes) : Prop :=
  r.length = 24 + u16 r 0x14 ∧ u16 r 0x14 ≤ 480 ∧ addr r 0 ∧ Zero r 0x11 1 ∧ Zero r 0x16 2 ∧ u8 r 0x10 ≤ 1 ∧ c.rolling = true ∧ epochOk c (Addr.at r 0) ∧
  ((Addr.at r 0).isAll = true ∨ (c.resolve (Addr.at r 0)).isSome = true) ∧ c.roomFor ((Addr.at r 0).telegram 5 (u8 r 0x10) (r.drop 24)) = true ∧ c.originate (message r) = some o
/-- Port (1), at most `hi` and at least `lo`, and three bytes of 0. -/
abbrev port (lo hi : Nat) (_ : Chip) (r : Bytes) : Prop := r.length = 4 ∧ Zero r 1 3 ∧ lo ≤ u8 r 0 ∧ u8 r 0 ≤ hi

/-! Opcodes 0x0300–0x0309 (R176). -/

abbrev timeConfigSet (c : Chip) (r : Bytes) : Prop :=
  r.length = 48 ∧ Zero r 3 1 ∧ Zero r 0x28 8 ∧ u8 r 0 ≤ 2 ∧ u8 r 1 ≤ 2 ∧ u8 r 2 ≤ 1 ∧ 100 ≤ u32 r 4 ∧ u32 r 4 ≤ 100000 ∧ 1 ≤ u32 r 8 ∧ u32 r 8 ≤ 1000000 ∧
  1 ≤ u32 r 12 ∧ u32 r 12 ≤ 1000000 ∧ (sInt 32 (u32 r 0x10)).natAbs ≤ 100000 ∧ 10 ≤ u32 r 0x14 ∧ u32 r 0x14 ≤ 1000000 ∧
  (∀ i < 8, u16 r (0x18 + 2 * i) ≤ 10000) ∧ static (!c.rolling) c.time.config r [(0, 2), (8, 8), (0x18, 16)]
abbrev timeRefTod (c : Chip) (r : Bytes) : Prop := r.length = 16 ∧ Zero r 10 6 ∧ c.time.state = .grandmaster ∧ c.time.refLocked = true
/-- The period of a cycle event point, ns (R173). -/
abbrev cepPeriod (r : Bytes) : Nat := 250000 * 2 ^ u8 r 5
abbrev cepSet (c : Chip) (r : Bytes) : Prop :=
  r.length = 20 ∧ Zero r 1 3 ∧ u8 r 6 < 4 ∧ Zero r 16 4 ∧ u8 r 0 ≤ 15 ∧ u8 r 4 ≤ 1 ∧ u8 r 5 ≤ 12 ∧
  ((u8 r 6).testBit 1 = false ∨ (u8 r 7 ≤ 15 ∧ c.pinTaken (u8 r 7) = false ∧ c.time.pinUsed (u8 r 0) (u8 r 7) = false)) ∧ u32 r 8 < cepPeriod r ∧
  10 ≤ u32 r 12 ∧ u32 r 12 ≤ 1000000 ∧ u32 r 12 < cepPeriod r
abbrev index (hi : Nat) (_ : Chip) (r : Bytes) : Prop := r.length = 4 ∧ Zero r 1 3 ∧ u8 r 0 ≤ hi
/-- The port leads towards the leader. -/
abbrev parent (c : Chip) (p : Nat) : Bool := c.dir.inForce.isSome && !c.recordedLeader && p / 2 == c.parentEnd
/-- The largest less the smallest of a port's delay samples. -/
abbrev spread (l : List Nat) : Nat := l.foldl max (l.headD 0) - l.foldl min (l.headD 0)

/-! Opcodes 0x0400–0x040D (R220–R222). -/

abbrev cbConfigSet (c : Chip) (r : Bytes) : Prop :=
  r.length = 32 ∧ Zero r 2 2 ∧ maskOk (u32 r 4) = true ∧ maskOk (u32 r 8) = true ∧ Zero r 0x15 11 ∧ u8 r 0 ≤ 2 ∧ u8 r 1 ≤ 5 ∧
  (u8 r 0 = 0 ∨ branchBit (u32 r 4) 11 (u8 r 0 - 1) = true) ∧ 400 ≤ u16 r 12 ∧ u16 r 12 ≤ 2000 ∧ 100 ≤ u16 r 14 ∧ u16 r 14 ≤ 600 ∧ u16 r 16 ≤ 600 ∧
  40 ≤ u16 r 18 ∧ u16 r 18 ≤ 1000 ∧ 1 ≤ u8 r 20 ∧ static (c.cb.state == .stopped) c.cb.config r [(0, 2), (4, 4), (12, 6)]
/-- The mute mask that a write of another one ends, kept for the frames then under way (R20). -/
abbrev mutedAt (c : Chip) (r : Bytes) : List (Nat × Nat) := if u32 c.cb.config 8 = u32 r 8 then [] else [(c.clk.now, u32 c.cb.config 8)]
/-- Where a star that starts begins its first cycle (R207, R208). -/
abbrev cbFirst (c : Chip) : Nat :=
  if c.timeValid then roundUp (c.trainTime + 5000) c.cb.cycleNs
  else c.clk.now + match c.cb.mode with | 0 => 100000 | 1 => c.cb.cycleNs + 100000 | _ => 3 * c.cb.cycleNs
abbrev cbStart (img : Bytes) (c : Chip) (r : Bytes) : Prop := r.length = 0 ∧ c.cb.state = .stopped ∧ c.cb.image.cur = some img ∧ c.cb.imageOk img = true
/-- The star runs; `inCycle`: a cycle is under way, which CB_STOP lets end. -/
abbrev cbStop (inCycle : Bool) (c : Chip) (r : Bytes) : Prop := r.length = 0 ∧ c.cb.state ≠ .stopped ∧ (c.cb.beating && c.cb.begun) = inCycle
abbrev cbCommit (c : Chip) (r : Bytes) : Prop := r.length = 0 ∧ c.cb.imageOk (c.cb.stage.read 0 832) = true
/-- The staged image, as long as its SlotCount says. -/
abbrev cbStaged (c : Chip) : Bytes := c.cb.stage.read 0 (64 + 8 * u8 (c.cb.stage.read 13 1) 0)
abbrev cbTxWrite (sl : Bytes) (c : Chip) (r : Bytes) : Prop :=
  r.length = 8 + u8 r 2 ∧ u8 r 3 ≤ 1 ∧ Zero r 4 4 ∧ c.cb.ownSlot (u8 r 0) = some sl ∧ u8 r 1 + u8 r 2 ≤ slotMax sl
abbrev cbRxSlot (c : Chip) (r : Bytes) : Prop := r.length = 4 ∧ Zero r 1 3 ∧ (c.cb.slot (u8 r 0)).isSome = true ∧ c.cb.ownSlot (u8 r 0) = none
abbrev cbRxNone (c : Chip) (r : Bytes) : Prop := cbRxSlot c r ∧ (c.cb.rx.find? fun x => x.slot == u8 r 0) = none
abbrev cbRxRead (x : CbRx) (c : Chip) (r : Bytes) : Prop := cbRxSlot c r ∧ (c.cb.rx.find? fun x => x.slot == u8 r 0) = some x
abbrev cbEventSend (o : Nat × Chip) (c : Chip) (r : Bytes) : Prop :=
  r.length = 4 + u8 r 2 ∧ Zero r 3 1 ∧ eventDestOk (u8 r 0) = true ∧ u8 r 1 ≤ 1 ∧ u8 r 2 ≤ 64 ∧ c.cbPlaceEvent (u8 r 0) (u8 r 1 == 1) (r.drop 4) = some o
abbrev noEvent (c : Chip) (r : Bytes) : Prop := r.length = 0 ∧ (c.qm.queue 47).entries = []
abbrev anEvent (e : QEntry) (es : List QEntry) (c : Chip) (r : Bytes) : Prop := r.length = 0 ∧ (c.qm.queue 47).entries = e :: es
abbrev cbSlotStatus (sl : Bytes) (c : Chip) (r : Bytes) : Prop := r.length = 4 ∧ Zero r 1 3 ∧ c.cb.slot (u8 r 0) = some sl
/-- Mean offset of a cell over its reference span; 0 without one. -/
abbrev meanOffset (x : CbCell) : Int := if x.refCount = 0 then 0 else x.refSum / x.refCount
abbrev cbPointSet (c : Chip) (r : Bytes) : Prop := r.length = 8 ∧ Zero r 2 2 ∧ u8 r 0 ≤ 7 ∧ u8 r 1 ≤ 1 ∧ u32 r 4 < c.cb.cycleNs / 1000
/-- A branch-channel creeps: some cell of a slot that its branch sends has been flagged. -/
abbrev creeping (b : CarBus) (p : Nat) : Bool :=
  b.cells.any fun x => x.2.creeping && match b.slot x.1.1 with
    | some s => if b.served.contains x.1.2 then (b.sender s).any fun br => cbPort br x.1.2 == p else b.cross == some p
    | none => false

/-! Opcodes 0x0500–0x050E (R251, R252). -/

abbrev channel (_ : Chip) (r : Bytes) : Prop := r.length = 4 ∧ Zero r 1 3 ∧ u8 r 0 ≤ 11
abbrev canConfigSet (c : Chip) (r : Bytes) : Prop :=
  r.length = 36 ∧ Zero r 1 3 ∧ u8 r 0 ≤ 11 ∧ Zero r 19 1 ∧ Zero r 27 9 ∧ u8 r 4 ≤ 1 ∧ u8 r 5 ≤ 1 ∧ u8 r 6 ≤ 1 ∧ u8 r 7 ≤ 1 ∧
  1 ≤ u16 (r.drop 4) 4 ∧ u16 (r.drop 4) 4 ≤ 32 ∧ 2 ≤ u16 (r.drop 4) 6 ∧ u16 (r.drop 4) 6 ≤ 256 ∧ 2 ≤ u8 (r.drop 4) 8 ∧ u8 (r.drop 4) 8 ≤ 128 ∧
  1 ≤ u8 (r.drop 4) 9 ∧ u8 (r.drop 4) 9 ≤ u8 (r.drop 4) 8 ∧ 1 ≤ u8 (r.drop 4) 10 ∧ u8 (r.drop 4) 10 ≤ 32 ∧ 1 ≤ u8 (r.drop 4) 11 ∧ u8 (r.drop 4) 11 ≤ 32 ∧
  1 ≤ u8 (r.drop 4) 12 ∧ u8 (r.drop 4) 12 ≤ 16 ∧ 1 ≤ u8 (r.drop 4) 13 ∧ u8 (r.drop 4) 13 ≤ u8 (r.drop 4) 12 ∧ u8 (r.drop 4) 14 ≤ 127 ∧ timingOk (r.drop 4) = true ∧
  2 ≤ u8 (r.drop 4) 16 ∧ 1 ≤ u8 (r.drop 4) 17 ∧ u8 (r.drop 4) 17 ≤ 16 ∧ 1 ≤ u16 (r.drop 4) 18 ∧ u16 (r.drop 4) 18 ≤ 1000 ∧ 1 ≤ u16 (r.drop 4) 20 ∧
  u16 (r.drop 4) 20 ≤ 10000 ∧ u8 (r.drop 4) 22 ≤ 1 ∧ static ((c.canCh (u8 r 0)).state == .stopped) (c.canCh (u8 r 0)).config (r.drop 4) [(0, 16)]
/-- A channel that starts: STOPPED, its buffers allowed by its configuration, its matrix image valid; its tile isolated or not. -/
abbrev canStart (isolated busOff : Bool) (c : Chip) (r : Bytes) : Prop :=
  channel c r ∧ (c.canCh (u8 r 0)).state = .stopped ∧ (c.canCh (u8 r 0)).fdOk = true ∧ (∀ img, (c.canCh (u8 r 0)).image.cur = some img → (c.canCh (u8 r 0)).imageOk img = true) ∧
  c.tiles.can.getLsbD (u8 r 0) = isolated ∧ (c.canCh (u8 r 0)).stoppedBusOff = busOff
/-- The isolated tile of a channel has passed its self-check, whose result is open (log 3). -/
abbrev tileBack (c : Chip) (r : Bytes) : Chip := { c.draw.2 with tiles := { c.tiles with can := c.tiles.can &&& ~~~(1#12 <<< u8 r 0) } }
/-- `busy`: a frame is in progress on the channel, which leaves `d` once that has been settled (R252). -/
abbrev canStop (busy : Bool) (d : Chip) (c : Chip) (r : Bytes) : Prop := channel c r ∧ (c.canCh (u8 r 0)).state ≠ .stopped ∧ c.canBusy (u8 r 0) = (busy, d)
abbrev canRecover (c : Chip) (r : Bytes) : Prop := channel c r ∧ (c.canCh (u8 r 0)).state = .busOff
abbrev canBufSet (c : Chip) (r : Bytes) : Prop :=
  r.length = 20 ∧ Zero r 2 2 ∧ leastFail (bufForm (c.canCh (u8 r 0)) r) = none ∧ u8 r 0 ≤ 11 ∧ u8 r 1 ≤ 63 ∧ (c.canCh (u8 r 0)).state = .stopped
abbrev buffer (_ : Chip) (r : Bytes) : Prop := r.length = 4 ∧ Zero r 2 2 ∧ u8 r 0 ≤ 11 ∧ u8 r 1 ≤ 63
/-- The buffer that a request names. -/
abbrev bufOf (c : Chip) (r : Bytes) : CanBuf := (c.canCh (u8 r 0)).buf (u8 r 1)
abbrev canTxWrite (c : Chip) (r : Bytes) : Prop :=
  r.length = 8 + u8 r 3 ∧ u8 r 4 ≤ 1 ∧ Zero r 5 3 ∧ u8 r 0 ≤ 11 ∧ u8 r 1 ≤ 63 ∧ (bufOf c r).isTx = true ∧ u8 r 2 + u8 r 3 ≤ dlcLen (bufOf c r).dlc
abbrev canRxNone (c : Chip) (r : Bytes) : Prop := buffer c r ∧ (bufOf c r).kind = 1 ∧ (bufOf c r).front = none
abbrev canRxRead (f : CanFrame) (tt : Nat) (valid : Bool) (c : Chip) (r : Bytes) : Prop := buffer c r ∧ (bufOf c r).kind = 1 ∧ (bufOf c r).front = some (f, tt, valid)
/-- The frame that CAN_SEND queues. -/
abbrev canFrame (r : Bytes) : CanFrame :=
  { ident := u32 r 4, ext := (u8 r 1).testBit 0, fd := (u8 r 1).testBit 1, brs := (u8 r 1).testBit 2, dlc := u8 r 2, data := r.drop 8 }
abbrev canSend (c' : Chip) (c : Chip) (r : Bytes) : Prop :=
  r.length = 8 + dlcLen (u8 r 2) ∧ u8 r 2 ≤ 15 ∧ u8 r 1 < 8 ∧ Zero r 3 1 ∧ u32 r 4 < (if (u8 r 1).testBit 0 then 2 ^ 29 else 2048) ∧ u8 r 0 ≤ 11 ∧
  ((u8 r 1).testBit 2 = true → (u8 r 1).testBit 1 = true) ∧ ((u8 r 1).testBit 1 = true → u8 (c.canCh (u8 r 0)).config 1 = 1) ∧
  (u8 r 2 ≤ 8 ∨ (u8 r 1).testBit 1 = true) ∧ (c.canCh (u8 r 0)).state ≠ .stopped ∧ (c.canCh (u8 r 0)).listenOnly = false ∧
  c.canPush (u8 r 0) (canFrame r) = some c'
abbrev canMatrixStage (_ : Chip) (r : Bytes) : Prop := r.length = 12 + u16 r 8 ∧ u16 r 8 ≤ 480 ∧ Zero r 1 3 ∧ Zero r 10 2 ∧ u8 r 0 ≤ 11 ∧ u32 r 4 + u16 r 8 ≤ 2176
/-- The staged matrix image of the channel. -/
abbrev canStaged (c : Chip) (r : Bytes) : Bytes := (c.canCh (u8 r 0)).stage.read 0 2176
abbrev canCommit (c : Chip) (r : Bytes) : Prop := channel c r ∧ (c.canCh (u8 r 0)).imageOk (canStaged c r) = true
abbrev canFifoResume (c : Chip) (r : Bytes) : Prop := r.length = 4 ∧ Zero r 2 2 ∧ u8 r 0 ≤ 11 ∧ u8 r 1 = 0xFF ∧ (c.canCh (u8 r 0)).fifoSuspended = true
abbrev canBufResume (c : Chip) (r : Bytes) : Prop := buffer c r ∧ (bufOf c r).suspended = true

/-! Opcodes 0x0600–0x060A (R275). -/

abbrev routeStopped (c : Chip) (r : Bytes) : Prop := r.length = 0 ∧ c.rt.running = false
abbrev routeRunning (c : Chip) (r : Bytes) : Prop := r.length = 0 ∧ c.rt.running = true
abbrev routeCommit (running : Bool) (c : Chip) (r : Bytes) : Prop := r.length = 0 ∧ routerOk c.stagedRouter = true ∧ c.rt.running = running
abbrev routeEntry (img : Bytes) (c : Chip) (r : Bytes) : Prop := r.length = 4 ∧ Zero r 2 2 ∧ c.rt.loaded = some img ∧ u16 r 0 < rtEntries img
abbrev routeEntryEnable (img : Bytes) (c : Chip) (r : Bytes) : Prop := r.length = 4 ∧ Zero r 3 1 ∧ c.rt.image.cur = some img ∧ u16 r 0 < rtEntries img ∧ u8 r 2 ≤ 1
abbrev guard (c : Chip) (r : Bytes) : Prop := r.length = 4 ∧ Zero r 3 1 ∧ c.hasGuard (u16 r 0) (u8 r 2) = true
/-- The guard state that a request names. -/
abbrev guardOf (c : Chip) (r : Bytes) : Guard := c.rt.guard (u16 r 0) (u8 r 2)
/-- The guard states of the image in force that a condition picks. -/
abbrev guardsThat (c : Chip) (img : Bytes) (p : Guard → Bool) : Nat :=
  (List.range (rtEntries img)).foldl (fun n k => n + b2n (entVerify (rtEntry img k) && p (c.rt.guard k 0)) +
    ((List.range 4).filter fun j => u8 (rtDest (rtEntry img k) j) 0 != 0 && u8 (rtDest (rtEntry img k) j) 2 != 0xFF && p (c.rt.guard k (j + 1))).length) 0
abbrev guardCompute (raw : Nat) (img : Bytes) (c : Chip) (r : Bytes) : Prop :=
  r.length = 8 + u16 r 6 ∧ u16 r 6 ≤ 472 ∧ c.rt.image.cur = some img ∧ unitOn img (u8 r 0) = true ∧ u8 r 1 = raw ∧
  (raw = 1 ∨ u16 r 4 + blockLen (rtUnit img (u8 r 0)) ≤ u16 r 6)

/-! Opcodes 0x0700–0x070F (R307). -/

abbrev brConfigSet (c : Chip) (r : Bytes) : Prop :=
  r.length = 16 ∧ Zero r 10 6 ∧ 20 ≤ u32 r 0 ∧ u32 r 0 ≤ 50000 ∧ 1 ≤ u16 r 4 ∧ u16 r 4 ≤ 10000 ∧ 1 ≤ u16 r 6 ∧ u16 r 6 ≤ 10000 ∧ 0x600 ≤ u16 r 8 ∧
  static (!c.br.running) c.br.config r [(0, 4), (8, 2)]
abbrev brStopped (c : Chip) (r : Bytes) : Prop := r.length = 0 ∧ c.br.running = false
abbrev brRunning (settled : Bool) (c : Chip) (r : Bytes) : Prop := r.length = 0 ∧ c.br.running = true ∧ c.br.allSettled = settled
/-- Windows other than the request's that split their accesses. -/
abbrev otherSplits (c : Chip) (r : Bytes) : Nat := (c.br.windows.zipIdx.filter fun x => x.1.split && x.2 != u8 r 0).length
abbrev brWindowSet (c : Chip) (r : Bytes) : Prop :=
  r.length = 68 ∧ leastFail (windowForm r) = none ∧ (c.br.window (u8 r 0)).enabled = false ∧ (c.windowOf r).target.isSome = true ∧
  ((c.windowOf r).mode ≠ 1 ∨ c.holdAllowed (c.windowOf r) = true) ∧ ((c.windowOf r).split = false ∨ otherSplits c r < 8)
abbrev window (_ : Chip) (r : Bytes) : Prop := r.length = 4 ∧ Zero r 1 3 ∧ u8 r 0 < 64
/-- The window that a request names. -/
abbrev windowAt (c : Chip) (r : Bytes) : BrWindow := c.br.window (u8 r 0)
abbrev brWindowEnable (on : Nat) (c : Chip) (r : Bytes) : Prop := r.length = 4 ∧ Zero r 2 2 ∧ u8 r 0 < 64 ∧ u8 r 1 = on ∧ c.br.running = true
abbrev brExportForm (r : Bytes) : Prop :=
  r.length = 36 ∧ u8 r 1 ≤ 1 ∧ Zero r 2 2 ∧ u8 (r.drop 4) 1 < 16 ∧ u8 (r.drop 4) 2 ≤ 1 ∧ Zero r 7 5 ∧ u8 r 0 < 16 ∧ u8 (r.drop 4) 0 ≤ 1
abbrev brExportSet (c : Chip) (r : Bytes) : Prop :=
  brExportForm r ∧ u8 r 1 = 0 ∧ u64 (r.drop 4) 8 % 0x1000 = 0 ∧ 0x1000 ≤ u64 (r.drop 4) 0x10 ∧ u64 (r.drop 4) 0x10 ≤ 0x100000000 ∧ u64 (r.drop 4) 0x10 % 0x1000 = 0 ∧
  (u8 (c.br.exportEntry (u8 r 0)) 0 = 0 ∨ (c.br.exportEntry (u8 r 0)).drop 1 = r.drop 5)
abbrev brExportGet (_ : Chip) (r : Bytes) : Prop := brExportForm r ∧ u8 r 1 = 1 ∧ Zero r 4 32
/-- The chip that BR_READ counts on, its window's target resolved anew (R62, R278). -/
abbrev reading (c : Chip) (r : Bytes) : Chip := (c.brCount brAsyncReads).retarget (u8 r 0)
abbrev brRead (reach : Option Nat) (c : Chip) (r : Bytes) : Prop :=
  r.length = 12 ∧ Zero r 1 1 ∧ u8 r 0 < 64 ∧ 1 ≤ u16 r 2 ∧ u16 r 2 ≤ 256 ∧ u32 r 4 + u16 r 2 ≤ (windowAt c r).size ∧ c.br.open (u8 r 0) = true ∧ c.q61 < 64 ∧
  (reading c r).brReach ((reading c r).br.window (u8 r 0)) = reach
abbrev queueEmpty (q : Nat) (c : Chip) (r : Bytes) : Prop := r.length = 0 ∧ (c.qm.queue q).entries = []
abbrev queueHead (q : Nat) (e : QEntry) (es : List QEntry) (c : Chip) (r : Bytes) : Prop := r.length = 0 ∧ (c.qm.queue q).entries = e :: es
abbrev strandedNone (c : Chip) (r : Bytes) : Prop := r.length = 0 ∧ c.br.stranded = []
abbrev strandedSome (e : Bytes) (es : List Bytes) (c : Chip) (r : Bytes) : Prop := r.length = 0 ∧ c.br.stranded = e :: es
abbrev brPrefetch (length : Nat) (reach : Option Nat) (c : Chip) (r : Bytes) : Prop :=
  r.length = 12 ∧ Zero r 1 3 ∧ u8 r 0 < 64 ∧ u32 r 8 ≤ 16384 ∧ u32 r 8 = length ∧ c.br.open (u8 r 0) = true ∧ (windowAt c r).mode = 2 ∧ (windowAt c r).refused = false ∧
  (c.retarget (u8 r 0)).brReach ((c.retarget (u8 r 0)).br.window (u8 r 0)) = reach
abbrev semControl (action : Nat) (c : Chip) (r : Bytes) : Prop :=
  r.length = 24 ∧ u8 r 1 = action ∧ Zero r 2 2 ∧ Zero r 0x15 3 ∧ u8 r 0 < 16 ∧ u8 r 0x14 < 16 ∧ (action = 0 ∨ Zero r 4 16) ∧
  (2 ≤ action ∨ ((c.br.sem (u8 r 0)).state ≠ .acquired ∧ (c.br.sem (u8 r 0)).state ≠ .pending))
abbrev semBind (n : NodeEntry) (c : Chip) (r : Bytes) : Prop := semControl 0 c r ∧ addr r 4 ∧ epochOk c (Addr.at r 4) ∧ c.resolve (Addr.at r 4) = some n
/-- What BR_SEM_CONTROL answers. -/
abbrev semAnswer (c : Chip) (n named : Nat) : Bytes :=
  le 4 (c.br.sem n).state.busyBits ++ le 2 c.br.homeMask ++ zeros 2 ++ le 8 (match c.br.homes.getD named none with | some (id, _) => id | none => 0)

/-! Opcodes 0x0800–0x080F (R337, R338). -/

abbrev ethConfigSet (c : Chip) (r : Bytes) : Prop :=
  r.length = 20 ∧ Zero r 1 3 ∧ Zero r 11 1 ∧ Zero r 14 6 ∧ 4 ≤ u8 r 0 ∧ u8 r 0 ≤ 11 ∧ u8 r 4 ≤ (if u8 r 0 < 8 then 1 else 2) ∧ u8 r 5 ≤ 1 ∧ u8 r 6 ≤ 1 ∧ u8 r 7 ≤ 1 ∧
  u8 r 8 ≤ 1 ∧ 48 ≤ u8 r 9 ∧ u8 r 9 ≤ 55 ∧ u8 r 10 ≤ 7 ∧ 64 ≤ u16 r 12 ∧ u16 r 12 ≤ 2000 ∧
  static (!(c.vport (u8 r 0)).running) (c.vport (u8 r 0)).config (r.drop 4) [(0, 3), (8, 2)]
abbrev portStopped (c : Chip) (r : Bytes) : Prop := port 4 11 c r ∧ (c.vport (u8 r 0)).running = false
abbrev portRunning (c : Chip) (r : Bytes) : Prop := port 4 11 c r ∧ (c.vport (u8 r 0)).running = true
/-- ETH_ADDR_SET with Action 1 (get). -/
abbrev ethAddrGet (_ : Chip) (r : Bytes) : Prop := r.length = 36 ∧ u8 r 2 = 1 ∧ Zero r 3 1 ∧ Zero r 4 32 ∧ 4 ≤ u8 r 0 ∧ u8 r 0 ≤ 11 ∧ u8 r 1 ≤ 7
/-- ETH_ADDR_SET with Action 0 (set): the entry of R313 is in order for its kind of action. -/
abbrev ethAddrSet (_ : Chip) (r : Bytes) : Prop :=
  r.length = 36 ∧ u8 r 2 = 0 ∧ Zero r 3 1 ∧ 4 ≤ u8 r 0 ∧ u8 r 0 ≤ 11 ∧ u8 r 1 ≤ 7 ∧ u8 r 10 ≤ 3 ∧ Zero r 13 7 ∧
  (if u8 r 10 = 3 then addr r 20 ∧ u8 r 12 ≤ 1 ∧ (u8 r 20 ≤ 1 → u32 r 24 = 0) ∧ ((4 ≤ u8 r 11 ∧ u8 r 11 ≤ 11) ∨ (48 ≤ u8 r 11 ∧ u8 r 11 ≤ 55))
   else Zero r 20 16 ∧ u8 r 12 = 0 ∧ (u8 r 10 = 1 → 48 ≤ u8 r 11 ∧ u8 r 11 ≤ 55) ∧ (u8 r 10 = 2 → 4 ≤ u8 r 11 ∧ u8 r 11 ≤ 11))
abbrev queueGet (_ : Chip) (r : Bytes) : Prop := r.length = 20 ∧ u8 r 1 = 1 ∧ Zero r 2 2 ∧ Zero r 18 2 ∧ u8 r 0 ≤ 60
abbrev queueSet (c : Chip) (r : Bytes) : Prop :=
  r.length = 20 ∧ u8 r 1 = 0 ∧ Zero r 2 2 ∧ Zero r 18 2 ∧ u8 r 0 ≤ 60 ∧ u32 r 12 ≤ 4194304 ∧ 1 ≤ u16 r 16 ∧ c.limitsOk (u8 r 0) (u32 r 4) (u32 r 8) (u32 r 12) = true
abbrev ringSet (c : Chip) (r : Bytes) : Prop :=
  r.length = 20 ∧ Zero r 1 3 ∧ 48 ≤ u8 r 0 ∧ u8 r 0 ≤ 59 ∧ u64 r 4 % 64 = 0 ∧ 16 ≤ u16 r 12 ∧ u16 r 12 ≤ 4096 ∧ (∃ i < 13, u16 r 12 = 2 ^ i) ∧
  (if u8 r 0 < 56 then 256 ≤ u16 r 14 ∧ u16 r 14 ≤ 16384 ∧ u16 r 14 % 64 = 0 else u16 r 14 = 0) ∧ 2 ≤ u16 r 16 ∧ u16 r 16 ≤ 1000 ∧ u16 r 18 ≤ 10000 ∧
  (c.eth.ring (u8 r 0)).enabled = false ∧ c.host.pcieUp = true
abbrev ringEnable (on : Nat) (c : Chip) (r : Bytes) : Prop :=
  r.length = 4 ∧ Zero r 2 2 ∧ 48 ≤ u8 r 0 ∧ u8 r 0 ≤ 59 ∧ u8 r 1 = on ∧ on ≤ 1 ∧ (c.eth.ring (u8 r 0)).isSet = true ∧ c.host.pcieUp = true
abbrev memConfigSet (c : Chip) (r : Bytes) : Prop :=
  r.length = 16 ∧ u32 r 0 ∈ [0, 512, 1024, 2048, 4096] ∧ u16 r 4 ∈ [1600, 1866, 2133, 2400] ∧ (u8 r 6 = 8 ∨ u8 r 6 = 16) ∧ (u8 r 7 = 1 ∨ u8 r 7 = 2) ∧
  u32 r 8 ≤ u32 r 0 / 2 ∧ 1 ≤ u8 r 12 ∧ u8 r 12 ≤ 168 ∧ 1 ≤ u8 r 13 ∧ 1 ≤ u16 r 14 ∧ static (!c.memBusy) c.mem.config r [(0, 12)]
abbrev memStart (c : Chip) (r : Bytes) : Prop := r.length = 0 ∧ c.memBusy = false ∧ c.mem.state ≠ .absent
abbrev memStop (drained : Bool) (c : Chip) (r : Bytes) : Prop := r.length = 0 ∧ (c.memBusy = true ∨ c.mem.state = .failed) ∧ c.memDrained = drained

/-! Opcodes 0x0900–0x090A (R401). -/

/-- A password field of R399 at an offset: 8 to 16 characters from 0x21 to 0x7E, zeros behind them. -/
abbrev password (r : Bytes) (o : Nat) : Prop :=
  Zero r (o + 1) 3 ∧ 8 ≤ u8 r o ∧ u8 r o ≤ 16 ∧ Zero r (o + 4 + u8 r o) (16 - u8 r o) ∧
  (slice r (o + 4) (u8 r o)).all (fun b => decide (0x21 ≤ b.toNat ∧ b.toNat ≤ 0x7E)) = true
/-- The password is the one set, and no lockout is in force. -/
abbrev passes (c : Chip) (pw : Bytes) : Prop := c.safe.lockout = false ∧ c.safe.passwordIs pw = true
abbrev safeParamStage (c : Chip) (r : Bytes) : Prop := r.length = 4 + u16 r 2 ∧ u16 r 2 ≤ 256 ∧ u16 r 0 + u16 r 2 ≤ 256 ∧ c.safe.authorised = true
abbrev safeParamCommit (c : Chip) (r : Bytes) : Prop :=
  r.length = 0 ∧ c.safe.configuring = true ∧ c.safe.authorised = true ∧ paramsOk (c.safe.stage.read 0 256) = true
abbrev safeParamRead (img : Bytes) (c : Chip) (r : Bytes) : Prop :=
  r.length = 4 ∧ u8 r 0 ≤ 1 ∧ Zero r 1 3 ∧ (if u8 r 0 = 0 then c.safe.mace.set else c.safe.candidate) = some img
abbrev safeConfigEnter (mode : Nat) (c : Chip) (r : Bytes) : Prop :=
  r.length = 24 ∧ u8 r 0 = mode ∧ mode ≤ 1 ∧ Zero r 1 3 ∧ password r 4 ∧ (mode = 1 ∨ c.safe.configuring = true) ∧ passes c (passwordAt r 4)
abbrev safeParamConfirm (b : Bytes) (c : Chip) (r : Bytes) : Prop :=
  r.length = 28 ∧ password r 8 ∧ c.safe.candidate = some b ∧ c.safe.configuring = true ∧ setId b = u32 r 0 ∧ setCheck b = u32 r 4 ∧ passes c (passwordAt r 8)
abbrev candidate (c : Chip) (r : Bytes) : Prop := r.length = 0 ∧ c.safe.candidate.isSome = true
abbrev firstPassword (c : Chip) (r : Bytes) : Prop := r.length = 40 ∧ isZero (r.take 20) = true ∧ password r 20 ∧ c.safe.password = none ∧ c.safe.lockout = false
abbrev newPassword (c : Chip) (r : Bytes) : Prop := r.length = 40 ∧ password r 0 ∧ password r 20 ∧ passes c (passwordAt r 0)
abbrev safeLogRead (_ : Chip) (r : Bytes) : Prop := r.length = 8 ∧ Zero r 5 3 ∧ 1 ≤ u8 r 4 ∧ u8 r 4 ≤ 15

/-! Opcodes 0x0A00–0x0A08 (R421). -/

abbrev pwrConfigSet (_ : Chip) (r : Bytes) : Prop :=
  r.length = 32 ∧ u8 r 0 < 4 ∧ u16 r 2 < 4096 ∧ maskOk (u32 r 4) = true ∧ u16 r 8 < 4096 ∧ Zero r 14 2 ∧ Zero r 20 12 ∧ u8 r 1 ≤ 1 ∧ 500 ≤ u16 r 10 ∧ u16 r 10 ≤ 60000 ∧
  100 ≤ u16 r 12 ∧ u16 r 12 ≤ 60000 ∧ u32 r 16 ≤ 604800
abbrev pwrVote (vote : Nat) (_ : Chip) (r : Bytes) : Prop := r.length = 4 ∧ Zero r 1 3 ∧ u8 r 0 = vote ∧ vote ≤ 1
abbrev pwrSleepLocal (c : Chip) (r : Bytes) : Prop := r.length = 0 ∧ (c.rolling = false ∨ c.nodeCount = 1)
abbrev pwrPnGet (_ : Chip) (r : Bytes) : Prop := r.length = 20 ∧ u8 r 2 = 1 ∧ Zero r 3 1 ∧ Zero r 4 16 ∧ u8 r 0 ≤ 11 ∧ u8 r 1 ≤ 3
abbrev pwrPnSet (_ : Chip) (r : Bytes) : Prop :=
  r.length = 20 ∧ u8 r 2 = 0 ∧ Zero r 3 1 ∧ u8 r 0 ≤ 11 ∧ u8 r 1 ≤ 3 ∧ u8 r 4 < 16 ∧ u8 r 5 ≤ 63 ∧ Zero r 16 4 ∧
  u32 r 8 < (if (u8 r 4).testBit 1 then 2 ^ 29 else 2048) ∧ u32 r 12 < (if (u8 r 4).testBit 1 then 2 ^ 29 else 2048)
abbrev pnMode (mode : Nat) (c : Chip) (r : Bytes) : Prop := r.length = 4 ∧ u8 r 1 = mode ∧ Zero r 2 2 ∧ u8 r 0 ≤ 11 ∧ (c.canCh (u8 r 0)).state ≠ .stopped

/-! Opcodes 0x0B00–0x0B08 (R440). -/

abbrev recConfigSet (_ : Chip) (r : Bytes) : Prop :=
  r.length = 132 ∧ Zero r 1 3 ∧ u8 r 0 ≤ 7 ∧ (r.drop 4).all (fun b => decide (b.toNat ≤ 7) || b == 0xFF) = true ∧ u8 r 116 = 0xFF ∧ u8 r 117 = 0xFF
/-- FirstSlot (2), Count (1) up to `most`. -/
abbrev slots (most : Nat) (_ : Chip) (r : Bytes) : Prop := r.length = 4 ∧ Zero r 3 1 ∧ 1 ≤ u8 r 2 ∧ u8 r 2 ≤ most ∧ u16 r 0 + u8 r 2 ≤ 65536
abbrev recCopy (c : Chip) (r : Bytes) : Prop :=
  r.length = 20 ∧ Zero r 10 2 ∧ 1 ≤ u32 r 12 ∧ u32 r 12 ≤ 65536 ∧ u16 r 8 + u32 r 12 ≤ 65536 ∧ 64 * u32 r 12 ≤ u32 r 16 ∧ c.host.pcieUp = true
/-- The record of REC_WRITE, stamped at its intake (R428). -/
abbrev hostRecord (c : Chip) (r : Bytes) : Bytes := c.makeRecord (u8 r 0) 1 0 (u16 r 2) 0 0 0 (r.drop 8)
abbrev recWrite (dropped : Option (Nat × Bool)) (c : Chip) (r : Bytes) : Prop :=
  r.length = 8 + u8 r 4 ∧ u8 r 4 ≤ 28 ∧ Zero r 1 1 ∧ Zero r 5 3 ∧ u8 r 0 ≤ 7 ∧ c.log.state ≠ .failed ∧ (c.intake (hostRecord c r)).2 = dropped
abbrev recErase (c : Chip) (r : Bytes) : Prop := r.length = 4 ∧ u32 r 0 = c.log.newestSeq ∧ c.log.state = .running

/-! Opcodes 0x0C00–0x0C0A (R461). -/

abbrev bootJournalRead (_ : Chip) (r : Bytes) : Prop := r.length = 8 ∧ Zero r 5 3 ∧ 1 ≤ u8 r 4 ∧ u8 r 4 ≤ 15
abbrev bootJournalClear (_ : Chip) (r : Bytes) : Prop := r.length = 4 ∧ u8 r 0 < 4 ∧ Zero r 1 3
abbrev bootConfigSet (_ : Chip) (r : Bytes) : Prop := r.length = 8 ∧ u8 r 0 < 2 ∧ Zero r 3 5 ∧ u8 r 1 ≤ 1 ∧ u8 r 2 ≤ 1
abbrev fwBegin (c : Chip) (r : Bytes) : Prop := r.length = 0 ∧ c.boot.journal.trial = 0xFF ∧ c.clove.state ≠ .armed ∧ c.clove.state ≠ .prepare
abbrev fwWrite (done : List (Nat × Nat)) (c : Chip) (r : Bytes) : Prop :=
  r.length = 8 + u16 r 4 ∧ Zero r 6 2 ∧ u32 r 0 + u16 r 4 ≤ 8388608 ∧ 1 ≤ u16 r 4 ∧ u16 r 4 ≤ 480 ∧ c.boot.begun = some done ∧
  untouched done (u32 r 0) (u16 r 4) = true
abbrev fwActivate (c : Chip) (r : Bytes) : Prop :=
  r.length = 0 ∧ c.boot.journal.trial = 0xFF ∧ c.headerOk (1 - c.boot.imageSlot) = true ∧ c.bodyOk (1 - c.boot.imageSlot) = true
abbrev fwConfirm (c : Chip) (r : Bytes) : Prop := r.length = 0 ∧ c.boot.onTrial = true
abbrev fwRestart (c : Chip) (r : Bytes) : Prop := r.length = 4 ∧ u8 r 0 ≤ 1 ∧ Zero r 1 3 ∧ c.clove.state ≠ .armed ∧ c.clove.state ≠ .prepare
abbrev fwSecurityAdvance (c : Chip) (r : Bytes) : Prop := r.length = 4 ∧ Zero r 1 3 ∧ u8 r 0 = c.boot.security ∧ c.boot.onTrial = false

/-! Opcodes 0x0D00–0x0D04 (R366–R369). -/

abbrev echo (_ : Chip) (r : Bytes) : Prop := r.length ≤ 504
abbrev evRecordRead (_ : Chip) (r : Bytes) : Prop := r.length = 4 ∧ Zero r 1 3 ∧ 1 ≤ u8 r 0 ∧ u8 r 0 ≤ 15

/-! Roll-call and directory events (R46–R98). -/

/-- A roll-call telegram is taken on port `p` (R72, R76, R118): the engine runs, the link is up, the telegram is in order, of its row's type, and no copy. -/
abbrev taken (p mtype : Nat) (src : Outer) (raw : Bytes) (m : RcMsg) (c : Chip) : Prop :=
  c.rolling = true ∧ c.bb.isUp p = true ∧ RcMsg.parse raw = some m ∧ m.mtype = mtype ∧ (c.dupCheck p (Telegram.ofOuter src 1 raw)).1 = true ∧
  (c.dupCheck p (Telegram.ofOuter src 1 raw)).2.rcKnown p m = false
/-- The chip that has taken it: its copy is noted in the duplicate table and among the telegrams known. -/
abbrev took (p : Nat) (src : Outer) (raw : Bytes) (m : RcMsg) (c : Chip) : Chip := (c.dupCheck p (Telegram.ofOuter src 1 raw)).2.rcRemember p m
/-- A roll-call telegram is taken, and `ready` holds of the chip that has taken it. -/
abbrev rc (p mtype : Nat) (src : Outer) (raw : Bytes) (m : RcMsg) (ready : Chip → Prop) (c : Chip) : Prop := taken p mtype src raw m c ∧ ready (took p src raw m c)
/-- What `work` makes of the chip that has taken the telegram. -/
abbrev rcThen (p : Nat) (src : Outer) (raw : Bytes) (m : RcMsg) (work : Chip → Chip) (c : Chip) : Chip := work (took p src raw m c)
/-- It belongs to the run that this node is in. -/
abbrev ofRun (m : RcMsg) (c : Chip) : Prop := m.origin = c.rc.wave.origin ∧ m.nonce = c.rc.wave.nonce
/-- No run is under way. -/
abbrev atRest (c : Chip) : Prop := c.rc.state = .uninaugurated ∨ c.rc.state = .settled ∨ c.rc.state = .held
/-- A run is under way and not yet armed. -/
abbrev running (c : Chip) : Prop := c.rc.state = .wave ∨ c.rc.state = .reported ∨ c.rc.state = .composing
/-- The notice says that the leader's link is gone (R136). -/
abbrev leaderGone (c : Chip) (m : RcMsg) : Bool := decide (u8 m.body 0 = 1 ∧ bAt m.body 4 8 = c.leaderHolder ∧ bAt m.body 4 8 ≠ 0 ∧ m.epoch = c.epoch)
/-- The lead that a composing leader announces for `n` nodes: up to the switch instant, which is a multiple of 250 µs where it has train time (R86). -/
abbrev leadAt (c : Chip) (n : Nat) : Nat := if c.timeValid then roundUp (c.trainTime + leadNs n) 250000 - c.trainTime else leadNs n
/-- The beacon ends the case against the leader (R98, R136): it comes from a deputy of a rank before this node's, or from the recorded leader itself once
its lease has run out. -/
abbrev settles (c : Chip) (m : RcMsg) : Bool :=
  c.outranks (bAt m.body 8 8) || match c.bb.leaderLease with | some l => l.holder == bAt m.body 8 8 && decide (l.expiry + c.margin l.timed ≤ c.leaseNow l) | none => false
/-- The segments of a generation gathered outside a run, the received one among them (R88, R98). -/
abbrev gathered (c : Chip) (m : RcMsg) : List (Nat × Nat × Nat × Bytes) :=
  (c.dir.collecting.filter fun x => x.1 == bAt m.body 0 4 && x.2.1 != bAt m.body 4 2) ++ [(bAt m.body 0 4, bAt m.body 4 2, bAt m.body 6 2, m.body.drop 12)]
/-- A copy of TSYNC that found the offset `theta` is accepted on port `p`, used or not (R154, R176). -/
abbrev accepted (p : Nat) (theta : Int) (c : Chip) : Chip :=
  ((c.tmCount tmSyncAccepted).onTile p fun h => { h with lastOffset := theta, lastAccept := some c.clk.now }).onTime fun s => { s with lastOffset := theta, heard := c.clk.now }
/-- A LEASE telegram in order arrives on a port that is up (R132). -/
abbrev leaseIn (p : Nat) (raw : Sourced) (m : LeaseMsg) (c : Chip) : Prop := c.rolling = true ∧ c.bb.isUp p = true ∧ LeaseMsg.parse raw.bytes = some m
/-- The duplicate check of a LEASE copy (R118). -/
abbrev leaseCopy (p : Nat) (raw : Sourced) (c : Chip) : Bool × Chip := c.dupCheck p (Telegram.ofOuter raw.outer 3 raw.bytes)
/-- The Request of a node that may act as its vehicle's gateway (R134). -/
abbrev gatewayAsk (c : Chip) : LeaseMsg := { c.leaseMsg 2 4 with scope := c.vehicleId, gatewayPriority := u8 c.bb.config 4, grantor := 0 }
/-- A backbone port takes the frame: the engine runs, neither its tile nor its MAC is isolated. -/
abbrev frameIn (p : Nat) (c : Chip) : Prop := c.rolling = true ∧ p < 4 ∧ c.tiles.portSound p = true
/-- The chip once a frame has shown that the port's PHY has a link. -/
abbrev heard (p : Nat) (c : Chip) : Chip := c.onPort p fun q => { q with phyUp := true, recent := if q.phyUp then q.recent else [] }

/-! Car-bus and CAN events (R193–R246). -/

/-- A branch port of a star whose cycles run, its tile not isolated, and not its cross port. -/
abbrev onBranch (p : Nat) (c : Chip) : Prop :=
  12 ≤ p ∧ p ≤ 35 ∧ c.cb.beating = true ∧ c.cb.begun = true ∧ c.tiles.carBus.getLsbD (p - 12) = false ∧ c.cb.cross ≠ some p
/-- The branch-channel is served, fitted and was not muted when the activity began, when the star was not driving it, and no window close has judged it. -/
abbrev branchLive (p : Nat) (x : CbSeen) (c : Chip) : Prop :=
  c.cb.served.contains ((p - 12) % 2) = true ∧ branchBit (u32 c.cb.config 4) ((p - 12) / 2) ((p - 12) % 2) = true ∧
  branchBit (c.cb.muteAt x.start) ((p - 12) / 2) ((p - 12) % 2) = false ∧ c.cbShown p x = some x.start ∧ (c.cb.port p).judged.lookup x.start = none
/-- The end of the window of slot `k`: the latest instant at which its frame may begin. -/
abbrev closes (k : Nat) (img : Bytes) (c : Chip) : Nat := c.cb.cycleStart + slotStart img k + 2 * c.cb.delayMax + c.cb.margin
/-- An activity belongs to slot `k`, which the branch's channel awaits. -/
abbrev ofSlot (p : Nat) (x : CbSeen) (k : Nat) (sl img : Bytes) (c : Chip) : Prop :=
  onBranch p c ∧ branchLive p x c ∧ c.cb.image.cur = some img ∧ c.cbSlotAt ((p - 12) / 2) ((p - 12) % 2) x.start c.clk.now false = some (k, sl)
/-- A frame that starts and ends inside the window of slot `k`. -/
abbrev inWindow (p : Nat) (x : CbSeen) (k : Nat) (sl img : Bytes) (c : Chip) : Prop :=
  ofSlot p x k sl img c ∧ c.cb.cycleStart + slotStart img k ≤ x.start + c.cb.margin ∧ x.start ≤ closes k img c ∧ c.clk.now ≤ closes k img c + frameNs (slotMax sl)
/-- The window of slot `k` closes on a branch-channel that awaits the frame of another node. -/
abbrev windowOpen (p k : Nat) (sl : Bytes) (c : Chip) : Prop :=
  c.cb.slot k = some sl ∧ 12 ≤ p ∧ p ≤ 35 ∧ c.cb.beating = true ∧ c.cb.begun = true ∧ c.cb.dueSlot sl = true ∧ (u8 sl 1).testBit ((p - 12) % 2) = true ∧
  (c.cb.cell k ((p - 12) % 2)).settled = false ∧ slotOwner sl ≠ c.cb.self
/-- A closed window leaves its verdict on the activity that runs on: `cut` is where its relay is cut. -/
abbrev noted (p start : Nat) (cut : Option Nat) (c : Chip) : Chip :=
  c.onCbPort p fun q => { q with judged := if (q.judged.lookup start).isSome then q.judged else (start, cut) :: q.judged }
/-- An own slot whose cycle runs, due in it and not sent yet on some served channel. -/
abbrev ownSlot (k : Nat) (sl img : Bytes) (c : Chip) : Prop :=
  c.cb.slot k = some sl ∧ c.cb.image.cur = some img ∧ c.cb.beating = true ∧ c.cb.begun = true ∧ c.cb.dueSlot sl = true ∧ slotOwner sl = c.cb.self ∧
  c.cb.cycleStart + slotStart img k ≤ c.clk.now ∧ (c.cb.served.any fun ch => (u8 sl 1).testBit ch && !(c.cb.cell k ch).settled) = true
/-- A beacon in order (R208) reaches a star that neither is stopped nor stands in conflict. -/
abbrev beacon (p : Nat) (x : CbSeen) (f : Bytes) (c : Chip) : Prop :=
  c.cbShown p x = some x.start ∧ c.cb.state ≠ .stopped ∧ c.cb.state ≠ .conflict ∧ c.tiles.carBus.getLsbD (p - 12) = false ∧ cbCrcOk f = true ∧ u8 f 0 / 16 = 1 ∧
  u8 f 0 % 2 = (p - 12) % 2 ∧ u8 f 1 = 0 ∧ (u8 f 2 = 0x80 ∨ u8 f 2 = 0x81) ∧ u8 f 3 = 0xFF ∧ u8 f 4 = 24 ∧ u8 f 5 = 0
/-- The channel may send and no frame of its own is in transmission. -/
abbrev canSender (n : Nat) (c : Chip) : Prop :=
  (c.canCh n).maySend = true ∧ (c.canCh n).sending = none ∧ (c.canCh n).stopping = false ∧ (c.canCh n).ignoring = false ∧
  (c.canCh n).errFrame = none
/-- The channel takes part in bus traffic. -/
abbrev canActive (n : Nat) (c : Chip) : Prop := n < 12 ∧ ((c.canCh n).state = .errorActive ∨ (c.canCh n).state = .errorPassive)
/-- An access of a stream is under way for its request `m` (R282). -/
abbrev access (source : Nat) (x : BrStream) (m : BrMsg) (ms : List BrMsg) (c : Chip) : Prop :=
  (c.br.streams.find? fun y => y.source == source && y.active) = some x ∧ x.queue = m :: ms

/-! Ethernet, safety, power and start-up events (R312–R468). -/

/-- The interrupt bits, the power state and the BARs that MSI_REENABLE writes (R340, R364): a BAR keeps only the bits above its size. -/
abbrev msiSet (bm en di : Bool) (k : PcieSet) (c : Chip) : Chip :=
  c.onHost fun h => { h with msi := { h.msi with
    busMaster := bm, enable := en, intDisable := di, vecLog2 := min k.vectors 5, d3hot := k.d3hot, bar0 := k.bar0 / 65536 * 65536, bar2 := k.bar2 / 536870912 * 536870912 } }
/-- A vehicle port that runs, not isolated, its link up. -/
abbrev portUp (p : Nat) (c : Chip) : Prop := c.vportOn p = true ∧ (c.vport p).linkUp = true
/-- A frame in order on such a port (R312). -/
abbrev frameOk (p : Nat) (f : Bytes) (c : Chip) : Prop := portUp p c ∧ fcsGood f = true ∧ 64 ≤ f.length ∧ f.length ≤ u16 (c.vport p).config 8
/-- The descriptors that a transmit ring owns, with those that it reads now (R329). -/
abbrev descs (q : Nat) (more : List Bytes) (c : Chip) : List Bytes := (c.eth.ring q).owned ++ (more.map (padTo 64)).takeWhile descOwned
/-- A transmit ring that runs and waits for no capture has the chain `ch` before it (R329, R330). -/
abbrev chain (q : Nat) (more ch : List Bytes) (c : Chip) : Prop :=
  c.ringOn q = true ∧ isRx q = false ∧ (c.eth.waits.any fun w => w.ring == q) = false ∧ takeChain 17 true (descs q more c) = ch
/-- What the buffers of a chain hold, one after another. -/
abbrev chainData (ch bufs : List Bytes) : Bytes := (ch.zip (bufs ++ List.replicate ch.length [])).flatMap fun x => padTo (u16 x.1 8) x.2
/-- The chain passes every check of R329 and its frames have been placed, leaving `c1`. -/
abbrev chainGood (q : Nat) (more bufs : List Bytes) (d : Bytes) (ds : List Bytes) (c1 c : Chip) : Prop :=
  chain q more (d :: ds) c ∧ chainOk (d :: ds) = true ∧
  ((u8 d 10).testBit 3 = false ∨ u8 d 35 = 0 ∨ (l4Offsets (u8 d 35) ((chainData (d :: ds) bufs).take (u8 d 34))).isSome = true) ∧
  c.chainFits d (chainData (d :: ds) bufs) = true ∧ c.chainDest d = true ∧
  c.placeAll q d (if (u8 d 10).testBit 5 then some c.eth.nextToken else none) (chainFrames d (chainData (d :: ds) bufs)) = .ok c1
/-- The chip once the frames are placed: a tag that was there already is counted (R313). -/
abbrev chainPlaced (bufs : List Bytes) (d : Bytes) (ds : List Bytes) (c1 : Chip) : Chip :=
  if u8 d 11 != 3 && (u8 d 10).testBit 4 && tagged (chainData (d :: ds) bufs) then
    c1.macCountBy (if u8 d 11 = 1 then u8 d 12 else c1.tunnelPort 62) macTagPresent (chainFrames d (chainData (d :: ds) bufs)).length
  else c1
/-- Nutmeg has an answer of Mace that is in order and in time (R373): its number is that of a frame sent no more than 2 ms ago. -/
abbrev answered (fr : SafeFrame) (c : Chip) : Prop :=
  c.safe.toNutmeg = some fr ∧ c.safe.nutmeg.on = true ∧ (c.safe.sent.any fun x => x.1 == fr.number && decide (c.clk.now ≤ x.2 + 2000000)) = true
/-- Mace pulses source `j`: it holds a set in which the source's input is fed by the pulse outputs,
and the input round has come to the source's position (R383). -/
abbrev pulsed (j : Nat) (c : Chip) : Prop :=
  c.safe.mace.on = true ∧ c.safe.mace.set.isSome = true ∧ j < 16 ∧ (inKind c.safe.mace.params (j / 2) = 1 ∨ inKind c.safe.mace.params (j / 2) = 2) ∧
    c.safe.mace.due.getLsbD j = true
/-- The chip once source `j` has been low and high again. -/
abbrev pulse (j : Nat) (c : Chip) : Chip := c.emits [.testSource j (some false), .testSource j (some true)]
/-- A LEASE telegram of role 3 is taken on a port. -/
abbrev sleepMsg (p : Nat) (raw : Sourced) (m : LeaseMsg) (c : Chip) : Prop := c.rolling = true ∧ c.bb.isUp p = true ∧ LeaseMsg.parse raw.bytes = some m ∧ m.role = 3
/-- Firmware answered a challenge wrong or not at all: the bypass relays fall, and no challenge stands (R445). -/
abbrev sick (a : Option Nat) (c : Chip) : Chip :=
  (c.onRc fun r => { r with relaysOpen := false }).onClove fun k => { k with challenged := false, answer := (a.getD k.answer) % 65536 }
/-- Errors beyond correction that have arisen in words of the recorder stand, but for those of a slot that is retired already (R432). -/
abbrev wornBy (l : List (Nat × Nat)) (c : Chip) : Chip := c.onLog fun r => { r with worn := (l.filter fun w => !r.retired.contains w.1) ++ r.worn }
/-- The main die may be released: powered, not asleep, the reference running, nRST high, and the die still in reset (R467). -/
abbrev releasable (c : Chip) : Prop :=
  c.clove.powered = true ∧ c.clove.state ≠ .sleep ∧ c.clove.refRunning = true ∧ c.clove.nrstHigh = true ∧ c.mainDie = false

end Ready

end Sys2Proof
end

