-- ==== Sys2Proof/Certificates/Slice0/Obligations.lean ====
section
/-! DEFINITION. The statements for the provers. -/
open Sys2Proof Machine

/-! Mailbox commands, group by group: what each answers and leaves when the spec lets it run. -/

/-- Opcodes 0x0100–0x0107 (R64): the directory commands, with and without a snapshot in force. DIR_COPY stays BUSY until its block has been written
(R342), at an instant that is open within its bound (log 4). -/
def Obligations.DirectoryCommands : Prop :=
  Serves .dirStatus 0x0100 Ready.noSnapshot (fun c _ =>
    (c, zeros 16 ++ le 8 c.fuses.identity ++ zeros 19 ++ le 1 (if c.rc.state = .held then 8 else 0))) ∧
  (∀ sn, Serves .dirStatus 0x0100 (Ready.snapshot sn) (fun c _ =>
    (c, le 4 sn.epoch ++ le 4 sn.generation ++ le 8 sn.effective ++ le 8 c.fuses.identity ++ le 2 (c.ownNode.getD {}).number ++ le 2 (c.ownNode.getD {}).position ++
      le 2 (c.ownNode.getD {}).segment ++ le 2 sn.leaderNode ++ le 8 sn.leaderIdentity ++ le 2 sn.nodes.length ++ le 1 c.namedLine ++
      le 1 ((c.ownNode.getD {}).orientation % 2 + b2n c.leads * 2 + b2n (sn.segments.any (·.unreachable)) * 4 + (if c.rc.state = .held then 8 else 0))))) ∧
  (∀ sn, Serves .dirPin 0x0101 (Ready.dirPin sn) (fun c _ =>
    (c.draw.2.onDir fun d => { d with pins := d.pins ++ [{ handle := freeHandle c.dir.pins c.draw.1, snap := sn, lastUse := c.clk.now }] },
      le 1 (freeHandle c.dir.pins c.draw.1) ++ zeros 3 ++ le 4 sn.epoch ++ le 4 sn.generation ++ le 4 sn.totalSize ++ le 2 (ceilDiv sn.totalSize 480)))) ∧
  (∀ p, Serves .dirReadPage 0x0102 (Ready.dirReadPage p) (fun c r =>
    (c.onDir fun d => { d with pins := d.pins.map fun q => if q.handle = p.handle then { q with lastUse := c.clk.now } else q },
      le 2 (u16 r 2) ++ le 2 (slice p.snap.bytes (480 * u16 r 2) 480).length ++ le 4 p.snap.generation ++ slice p.snap.bytes (480 * u16 r 2) 480))) ∧
  (∀ p, Serves .dirUnpin 0x0103 (Ready.dirUnpin p) (fun c r => (c.onDir fun d => { d with pins := d.pins.filter fun q => q.handle != u8 r 0 }, []))) ∧
  (∀ sn, Begins .dirCopy 0x0104 (Ready.dirCopy sn) (fun c r =>
    Ready.copying 0x0104 2000000 (u64 r 0) sn.bytes (le 4 sn.epoch ++ le 4 sn.generation ++ le 4 sn.totalSize) c)) ∧
  (∀ c : Chip, ∀ j t, c.host.copies = [j] → j.due ≤ max c.clk.now t →
    c.tick t = (((c.advance t).onHost fun h => { h with copies := [] }).emits (Output.dmaWrites j.address j.data)).completeWaiting j.op 0 j.payload) ∧
  (∀ sn n, Serves .dirResolve 0x0105 (Ready.dirResolve sn n) (fun c _ =>
    (c, le 4 sn.epoch ++ le 4 sn.generation ++ n.bytes ++ ((sn.vehicle n.position).getD {}).bytes))) ∧
  Serves .vehicleConfigSet 0x0106 Ready.vehicleConfigSet (fun c r =>
    (c.onDir fun d => { d with vehicle := d.vehicle.write c.rolling (some r) }, le 4 c.epoch ++ le 1 (b2n (!c.rolling)) ++ zeros 3)) ∧
  Serves .vehicleConfigGet 0x0107 Ready.noRequest (fun c _ =>
    (c, le 1 (b2n c.dir.vehicle.pending.isSome) ++ zeros 3 ++ c.dir.vehicle.cur.getD (zeros 32) ++ (c.dir.vehicle.pending.getD none).getD (zeros 32)))

/-- Opcodes 0x0110–0x0117 (R102): the roll-call commands. A change of the cab claim is a trigger (R66). -/
def Obligations.RollcallCommands : Prop :=
  Serves .rollcallStart 0x0110 Ready.stopped (fun c _ => (c.startEngine, le 1 c.startEngine.rc.state.code ++ zeros 3)) ∧
  Serves .rollcallStop 0x0111 Ready.rolling (fun c _ => (c.stopEngine, [])) ∧
  Serves .rollcallRerun 0x0112 Ready.rolling (fun c _ =>
    (c.trigger none true,
      (if c.rc.state = .wave then le 8 c.rc.wave.origin ++ le 4 c.rc.wave.nonce else le 8 c.fuses.identity ++ le 4 (next32 c.rc.nonce)) ++
        le 1 (b2n (c.rc.state == .holdoff || c.rc.state == .wave)) ++ zeros 3)) ∧
  Serves .rollcallStatus 0x0113 Ready.noRequest (fun c _ =>
    (c, le 1 c.rc.state.code ++ le 1 c.deputyRank ++ le 1 (Ready.claimNow c) ++
      le 1 (b2n c.rc.claimLost + b2n c.rc.heldTrigger * 2 + b2n (c.coupled 0 == some true) * 4 + b2n (c.coupled 1 == some true) * 8) ++ le 4 c.epoch ++
      le 4 (if c.rc.state = .armed then (c.rc.announce.getD {}).newEpoch else 0) ++ le 4 c.rc.lastRunUs ++
      le 8 (if c.rc.state = .armed then (c.rc.announce.getD {}).switchInstant else 0) ++ le 8 c.rc.wave.origin ++ le 4 c.rc.wave.nonce ++ zeros 4)) ∧
  Serves .cabSet 0x0114 Ready.cabSame (fun c _ => (c, le 8 (match c.rc.cab with | some k => k.trainTime | none => 0))) ∧
  Serves .cabSet 0x0114 Ready.cabChanged (fun c r =>
    ((c.onRc fun x => { x with cab := if u8 r 0 = 0 then none else some { toRear := u8 r 0 - 1, localTime := c.clk.now
                                                                          trainTime := if c.timeValid then c.trainTime else 0, domain := c.domain } }).trigger none,
      le 8 (if u8 r 0 = 0 then 0 else if c.timeValid then c.trainTime else 0))) ∧
  Serves .rollcallConfigSet 0x0115 (fun c r => Ready.rollcallConfigSet c r ∧ c.rolling = true) (fun c r => (c.onRc fun x => { x with config := r }, [])) ∧
  Serves .rollcallConfigSet 0x0115 (fun c r => Ready.rollcallConfigSet c r ∧ c.rolling = false) (fun c r =>
    (c.onRc fun x => { x with config := splice r 2 (slice c.rc.config 2 2), written := some r }, [])) ∧
  Serves .rollcallConfigGet 0x0116 Ready.noRequest (fun c _ => (c, c.rc.written.getD c.rc.config)) ∧
  Serves .rollcallCounters 0x0117 Ready.noRequest (fun c _ => (c.onRc fun x => { x with counters := List.replicate 6 0 }, cntBytes c.rc.counters))

/-- Opcodes 0x0200–0x0209 (R144): the backbone commands. -/
def Obligations.BackboneCommands : Prop :=
  Serves .bbStatus 0x0200 Ready.noRequest (fun c _ =>
    (c, le 1 ((List.range 4).foldl (fun v p => v + b2n (c.bb.isUp p) * 2 ^ p) 0 + (List.range 4).foldl (fun v p => v + b2n (c.bb.port p).preempt * 2 ^ p) 0 * 16) ++
      le 1 ((c.bb.ends.getD 0 {}).egress + (c.bb.ends.getD 1 {}).egress * 2 + b2n (c.bb.ends.getD 0 {}).fallback * 4 + b2n (c.bb.ends.getD 1 {}).fallback * 8) ++
      le 1 c.namedLine ++ le 1 (match c.bb.schedState with | .none => 0 | .aligned => 1 | .holdover => 2 | .unaligned => 3) ++ le 4 (imageId c.bb.image.cur) ++
      le 4 (imageId (c.bb.image.pending.getD none)) ++ le 2 ((c.bb.image.cur.map fun b => (c.deferred b).length).getD 0) ++
      le 1 (b2n (((c.bb.image.cur.map fun b => (c.deferred b).length).getD 0) != 0) + b2n c.bb.differs * 2) ++ zeros 1 ++ le 8 c.cycleNumber ++
      le 4 (if c.recordedLeader then imageId c.bb.image.cur else c.bb.leaderScheduleId.getD 0) ++ zeros 4)) ∧
  Serves .bbConfigSet 0x0201 Ready.bbConfigSet (fun c r => (c.onBb fun b => { b with config := r }, [])) ∧
  Serves .bbConfigGet 0x0202 Ready.noRequest (fun c _ => (c, c.bb.config)) ∧
  Serves .bbSchedStage 0x0203 (Ready.stage 131136) (fun c r => (c.onBb fun b => { b with stage := b.stage.write (u32 r 0) (r.drop 8) }, [])) ∧
  Serves .bbSchedCommit 0x0204 (Ready.bbSchedCommit true) (fun c _ =>
    (c.onBb fun x => { x with image := x.image.write true (if schedSlots c.stagedSched = 0 then none else some c.stagedSched) },
      le 4 (u32 c.stagedSched 8) ++ le 4 c.epoch ++ zeros 4)) ∧
  Serves .bbSchedCommit 0x0204 (Ready.bbSchedCommit false) (fun c _ =>
    ((c.onBb fun x => { x with image := x.image.write false (if schedSlots c.stagedSched = 0 then none else some c.stagedSched)
                               pubs := x.pubs.map PubSlot.renew, recvs := [] }).schedUpdate.schedCheck,
      le 4 (u32 c.stagedSched 8) ++ le 4 c.epoch ++ le 1 1 ++ zeros 3)) ∧
  (∀ sl, Serves .pdWrite 0x0205 (Ready.pdWrite sl) (fun c r => (c.pdStage (u16 r 0) (u16 sl 6) (u16 r 2) (r.drop 8) (u8 r 6 == 1), []))) ∧
  Serves .pdRead 0x0206 Ready.pdReadNone (fun c r => (c, le 2 (u16 r 0) ++ zeros 22)) ∧
  (∀ x, Serves .pdRead 0x0206 (Ready.pdRead x) (fun c r =>
    (c, le 2 x.dataId ++ le 2 (slice x.payload (u16 r 2) (u16 r 4)).length ++ le 4 x.sequence ++ le 8 x.source ++ le 8 x.cycle ++ slice x.payload (u16 r 2) (u16 r 4)))) ∧
  (∀ o, Serves .msgSend 0x0207 (Ready.msgSend o) (fun _ _ => (o.2.launch o.1, le 2 o.1.stream ++ zeros 2 ++ le 4 o.1.sequence))) ∧
  Serves .leaseStatus 0x0208 Ready.noRequest (fun c _ =>
    (c, le 8 (c.bb.leaderLease.getD {}).holder ++ le 8 (c.bb.leaderLease.getD {}).start ++ le 8 (c.bb.leaderLease.getD {}).expiry ++
      le 8 ((Ready.actingGateway c).getD {}).holder ++ le 8 ((Ready.actingGateway c).getD {}).start ++
      le 8 ((Ready.actingGateway c).getD {}).expiry ++ le 4 (c.margin (if c.bb.leaderLease.isSome then (c.bb.leaderLease.getD {}).timed else c.timeValid)) ++
      le 1 (b2n c.actsAsLeader + b2n c.holdsGateway * 2 + b2n (c.bb.leaderLease.isSome && !(c.bb.leaderLease.getD {}).timed) * 4) ++ zeros 3)) ∧
  Serves .bbCounters 0x0209 (Ready.port 0 3) (fun c r =>
    (c.onPort (u8 r 0) fun q => { q with counters := List.replicate 19 0 }, cntBytes (c.bb.port (u8 r 0)).counters))

/-- Opcodes 0x0300–0x0309 (R176): the commands of train time. TIME_NOW answers the instants captured at its doorbell. -/
def Obligations.TrainTimeCommands : Prop :=
  Serves .timeStatus 0x0300 Ready.noRequest (fun c _ =>
    (c, le 1 (match c.time.state with | .free => 0 | .acquiring => 1 | .locked => 2 | .grandmaster => 3 | .holdover => 4) ++
      le 1 (b2n c.timeValid + b2n (c.time.state == .grandmaster) * 2 + b2n c.time.taiValid * 4 + b2n c.time.refLocked * 8 +
        b2n (decide (c.clk.now < c.time.slewUntil ∧ c.time.slewAdd ≠ 0)) * 16 + c.time.parentLine % 2 * 32) ++
      le 2 (if c.time.stepsRemoved = 0 then 0xFFFF else c.time.stepsRemoved) ++ le 4 c.errorBound ++ le 8 c.time.domain ++ le 8 c.trainTime ++ le 8 (ofInt 64 c.time.taiOffset) ++
      le 4 (ofInt 32 (c.time.rateNow c.clk.now)) ++ le 4 (ofInt 32 c.time.lastOffset) ++
      le 4 (if c.time.state = .holdover then sat32 ((c.clk.now - c.time.holdSince) / 1000000) else 0) ++ le 4 (ofInt 32 c.time.lastStep) ++ le 2 c.time.utcOffset ++ zeros 2)) ∧
  Serves .timeConfigSet 0x0301 (fun c r => Ready.timeConfigSet c r ∧ c.rolling = true) (fun c r => (c.onTime fun x => { x with config := r }, [])) ∧
  Serves .timeConfigSet 0x0301 (fun c r => Ready.timeConfigSet c r ∧ c.rolling = false) (fun c r =>
    (c.onTime fun x => { x with config := staticLate c.time.config r [(0, 2), (8, 8), (0x18, 16)], written := some r }, [])) ∧
  Serves .timeConfigGet 0x0302 Ready.noRequest (fun c _ => (c, c.time.written.getD c.time.config)) ∧
  (∀ s t d, Served (s.chip.tick t) d 0x0303 → asked s t d 0x0303 = [] → (rung s t d 0x0303).host.busyWith 0x0303 = some d.mb →
    Leaves (.timeNow t d) t s ((rung s t d 0x0303).complete d.mb 0 0 (le 8 (s.chip.tick t).trainTime ++ le 2 ((s.chip.tick t).trainPs % 1000) ++
      le 1 (b2n (s.chip.tick t).timeValid) ++ zeros 5 ++ le 8 (s.chip.tick t).clk.now))) ∧
  Serves .timeRefTod 0x0304 Ready.timeRefTod (fun c r => (c.onTime fun x => { x with todWaiting := some (u64 r 0, u16 r 8, c.clk.now) }, [])) ∧
  Serves .cepSet 0x0305 (fun c r => Ready.cepSet c r ∧ c.rolling = true) (fun c r =>
    (c.onTime fun x => { x with ceps := updAt x.ceps (u8 r 0) fun p => { p with config := p.config.write (roundUp (c.trainTime + 5000) 1000000) (r.drop 4) } },
      le 8 (roundUp (c.trainTime + 5000) 1000000))) ∧
  Serves .cepSet 0x0305 (fun c r => Ready.cepSet c r ∧ c.rolling = false) (fun c r =>
    (c.onTime fun x => { x with ceps := updAt x.ceps (u8 r 0) fun p => { p with config := { cur := r.drop 4 } } }, le 8 c.trainTime)) ∧
  Serves .cepGet 0x0306 (Ready.index 15) (fun c r => (c, (c.time.ceps.getD (u8 r 0) {}).config.read)) ∧
  Serves .cepStatus 0x0307 Ready.noRequest (fun c _ =>
    (c.onTime fun x => { x with hitMask := 0, skipped := 0 }, le 2 c.time.hitMask.toNat ++ le 1 (b2n c.timeValid) ++ zeros 1 ++ le 4 c.time.skipped)) ∧
  Serves .timePort 0x0308 (Ready.port 0 3) (fun c r =>
    (c, le 1 (u8 r 0) ++ le 1 (b2n (c.time.tile (u8 r 0)).valid + b2n (Ready.parent c (u8 r 0)) * 2 + b2n (Ready.parent c (u8 r 0) && c.time.parentLine == u8 r 0 % 2 &&
      u8 r 0 % 2 == c.namedLine && (c.time.tile (u8 r 0)).lastAccept.isSome) * 4) ++ zeros 2 ++ le 4 (c.time.tile (u8 r 0)).delay ++
      le 4 (Ready.spread (c.time.tile (u8 r 0)).samples) ++ le 4 (ofInt 32 (c.time.tile (u8 r 0)).lastOffset) ++ le 8 (if c.bb.isUp (u8 r 0) then c.peerOf (u8 r 0 / 2) else 0))) ∧
  Serves .timeCounters 0x0309 Ready.noRequest (fun c _ => (c.onTime fun x => { x with counters := List.replicate 11 0 }, cntBytes c.time.counters))

/-- Opcodes 0x0400–0x040D (R220–R222): the car-bus commands. CB_STOP in a cycle stays BUSY until its end. -/
def Obligations.CarBusCommands : Prop :=
  Serves .cbStatus 0x0400 Ready.noRequest (fun c _ =>
    (c.onCb fun b => { b with hits := 0 },
      le 1 c.cb.state.code ++ le 1 c.cb.mode ++ le 1 (b2n c.cb.other.heard + b2n c.cb.other.differs * 2 + b2n c.cb.pulling * 4 + b2n c.timeValid * 8) ++
      le 1 c.cb.hits.toNat ++ le 4 c.cb.cycleCount ++ le 4 (cbIdOf c.cb.image.cur) ++ le 4 (cbIdOf (c.cb.image.latest.getD none)) ++
      le 4 (portMask fun p => (c.cb.port p).present) ++ le 4 (portMask (Ready.creeping c.cb)) ++ le 4 (portMask fun p => (c.cb.port p).babbling) ++
      le 2 (match c.cb.other.phase with | some v => if c.cb.other.heard then ofInt 16 v else 0x8000 | none => 0x8000) ++ zeros 2)) ∧
  Serves .cbConfigSet 0x0401 Ready.cbConfigSet (fun c r => (c.onCb fun b => { b with config := r, mutes := Ready.mutedAt c r ++ b.mutes.filter fun x => decide (c.clk.now < x.1 + 1000000) }, [])) ∧
  Serves .cbConfigGet 0x0402 Ready.noRequest (fun c _ => (c, c.cb.config)) ∧
  (∀ img, Serves .cbStart 0x0403 (Ready.cbStart img) (fun c _ =>
    let c' := (({ c with tiles := { c.tiles with carBus := 0 } }.onCb fun b => { b with
      cycleCount := 0, begun := false, pulling := false, coasting := false, stopping := false, grant := none, unanswered := [], other := {}, taken := []
      first := Ready.cbFirst c }).setCb
      (if c.timeValid then .aligned else if c.cb.mode = 0 then .free else .listen))
    (c', le 1 c'.cb.state.code ++ zeros 3))) ∧
  Serves .cbStop 0x0404 (Ready.cbStop false) (fun c _ => (c.cbStopped, [])) ∧
  Begins .cbStop 0x0404 (Ready.cbStop true) (fun c _ => c.onCb fun b => { b with stopping := true }) ∧
  Serves .cbSchedStage 0x0405 (Ready.stage 832) (fun c r => (c.onCb fun b => { b with stage := b.stage.write (u32 r 0) (r.drop 8) }, [])) ∧
  Serves .cbSchedCommit 0x0406 (fun c r => Ready.cbCommit c r ∧ c.cb.state = .stopped) (fun c _ =>
    ((c.onCb fun b => { b with image := { cur := some (Ready.cbStaged c) } }).cbNewImage c.cb.image.cur (some (Ready.cbStaged c)),
      le 4 (u32 (Ready.cbStaged c) 8) ++ zeros 4 ++ le 1 1 ++ zeros 3)) ∧
  Serves .cbSchedCommit 0x0406 (fun c r => Ready.cbCommit c r ∧ c.cb.state ≠ .stopped) (fun c _ =>
    (c.onCb fun b => { b with image := b.image.write (b.cycleIndex + c.cbAhead) (some (Ready.cbStaged c)) },
      le 4 (u32 (Ready.cbStaged c) 8) ++ le 4 c.cbEffective ++ zeros 4)) ∧
  (∀ sl, Serves .cbTxWrite 0x0407 (Ready.cbTxWrite sl) (fun c r => (c.cbStage (u8 r 0) (slotMax sl) (u8 r 1) (r.drop 8) (u8 r 3 == 1), []))) ∧
  Serves .cbRxRead 0x0408 Ready.cbRxNone (fun c r => (c, le 1 (u8 r 0) ++ zeros 15)) ∧
  (∀ x, Serves .cbRxRead 0x0408 (Ready.cbRxRead x) (fun c _ =>
    (c.onCb fun b => { b with rx := b.rx.map fun y => if y.slot = x.slot then { y with fresh := false } else y },
      le 1 x.slot ++ le 1 (1 + b2n x.fresh * 2 + x.channel * 4 + b2n x.differed * 8 + b2n x.inTrain * 16) ++ le 1 x.payload.length ++ zeros 1 ++ le 4 x.cycle ++
      le 8 x.frameStart ++ x.payload))) ∧
  (∀ o, Serves .cbEventSend 0x0409 (Ready.cbEventSend o) (fun _ _ => (o.2, le 1 o.1 ++ zeros 3))) ∧
  Serves .cbEventRead 0x040A (fun c => Ready.noEvent (c.mailRead 0x040A 47)) (fun c _ => (c.mailRead 0x040A 47, zeros 24)) ∧
  (∀ e es, Serves .cbEventRead 0x040A (fun c => Ready.anEvent e es (c.mailRead 0x040A 47)) (fun c _ =>
    let d := (c.mailRead 0x040A 47).dropHead 47
    (d, le 2 (d.qm.queue 47).entries.length ++ le 1 (e.data.length - 8) ++ le 1 (u8 e.data 2) ++ le 1 (u8 e.data 3) ++ le 1 (u8 e.data 5) ++
      le 1 (u8 e.info 0) ++ le 1 1 ++ slice e.info 1 4 ++ zeros 4 ++ slice e.info 5 8 ++ e.data.drop 8))) ∧
  (∀ sl, Serves .cbSlotStatus 0x040B (Ready.cbSlotStatus sl) (fun c r =>
    (c, le 1 (slotOwner sl) ++ le 1 (u8 sl 1) ++ le 1 (c.cb.cell (u8 r 0) 0).result ++ le 1 (c.cb.cell (u8 r 0) 1).result ++
      le 2 (ofInt 16 (c.cb.cell (u8 r 0) 0).offset) ++ le 2 (ofInt 16 (c.cb.cell (u8 r 0) 1).offset) ++
      le 2 (ofInt 16 (Ready.meanOffset (c.cb.cell (u8 r 0) 0))) ++ le 2 (ofInt 16 (Ready.meanOffset (c.cb.cell (u8 r 0) 1))) ++ zeros 4))) ∧
  Serves .cbPointSet 0x040C (fun c r => Ready.cbPointSet c r ∧ c.cb.state = .stopped) (fun c r =>
    (c.onCb fun b => { b with points := updAt b.points (u8 r 0) fun _ => { cur := r } }, zeros 4)) ∧
  Serves .cbPointSet 0x040C (fun c r => Ready.cbPointSet c r ∧ c.cb.state ≠ .stopped) (fun c r =>
    (c.onCb fun b => { b with points := updAt b.points (u8 r 0) fun p => p.write (b.cycleIndex + c.cbAhead) r }, le 4 c.cbEffective)) ∧
  Serves .cbCounters 0x040D (Ready.port 12 35) (fun c r =>
    (c.onCbPort (u8 r 0) fun q => { q with counters := List.replicate 12 0 }, cntBytes (c.cb.port (u8 r 0)).counters)) ∧
  Serves .cbCounters 0x040D (Ready.port 0xFF 0xFF) (fun c _ => (c.onCb fun b => { b with counters := List.replicate 6 0 }, cntBytes c.cb.counters))

/-- Opcodes 0x0500–0x0507 (R251): the commands over a CAN channel as a whole and over a buffer's configuration. A channel that stopped in BUS_OFF
starts in RECOVERING with its error counters kept; an isolated one runs its tile's self-check first, whose outcome is a free value. CAN_STOP stays BUSY
while a frame is being sent or received; whether one is being received is open (log 13). -/
def Obligations.CanChannelCommands : Prop :=
  Serves .canStatus 0x0500 Ready.channel (fun c r =>
    (c, le 1 (u8 r 0) ++ le 1 (c.canCh (u8 r 0)).state.code ++
      le 1 (b2n (c.canCh (u8 r 0)).listenOnly + b2n (c.canCh (u8 r 0)).alone * 2 + b2n (c.canCh (u8 r 0)).warning * 4 + b2n (c.canCh (u8 r 0)).tdcMeasured * 8 +
        b2n (c.tiles.can.getLsbD (u8 r 0)) * 16 + b2n (c.canCh (u8 r 0)).fifoSuspended * 32) ++
      le 1 (c.canCh (u8 r 0)).matrix ++ le 2 (c.canCh (u8 r 0)).tec ++ le 2 (c.canCh (u8 r 0)).rxErrs ++ le 4 (cbIdOf (c.canCh (u8 r 0)).image.cur) ++
      le 4 (cbIdOf ((c.canCh (u8 r 0)).image.latest.getD none)) ++ le 4 (c.canCh (u8 r 0)).matrixCycle ++
      le 1 (c.canCh (u8 r 0)).basicIndex ++ le 1 (c.canCh (u8 r 0)).tdcValue ++ zeros 2 ++
      le 8 ((c.canCh (u8 r 0)).bufs.zipIdx.foldl (fun v (b, i) => v + b2n b.suspended * 2 ^ i) 0) ++ le 8 (c.canCh (u8 r 0)).checkMask.toNat)) ∧
  Serves .canConfigSet 0x0501 Ready.canConfigSet (fun c r => (c.onCan (u8 r 0) fun x => { x with config := r.drop 4 }, [])) ∧
  Serves .canConfigGet 0x0502 Ready.channel (fun c r => (c, (c.canCh (u8 r 0)).config)) ∧
  Serves .canStart 0x0503 (Ready.canStart false false) (fun c r =>
    let c' := c.onCan (u8 r 0) fun x => { x with tec := 0, rxErrs := 0, ackRun := 0, alone := false, warning := false, sending := none, stopping := false, cellWait := none, errFrame := none, checkWait := none
                                                 bufs := x.bufs.map fun b => { b with clashRun := 0 }, fifoClash := 0 }
    let c' := if (c.canCh (u8 r 0)).warning then c'.canRaise (u8 r 0) 65 else c'
    let c' := (c'.canMatrixStart (u8 r 0)).setCan (u8 r 0) .integrating
    (c', le 1 (c'.canCh (u8 r 0)).state.code ++ zeros 3)) ∧
  Serves .canStart 0x0503 (Ready.canStart false true) (fun c r =>
    let c' := c.onCan (u8 r 0) fun x => { x with ackRun := 0, alone := false, sending := none, stopping := false, cellWait := none, errFrame := none, checkWait := none
                                                 bufs := x.bufs.map fun b => { b with clashRun := 0 }, fifoClash := 0 }
    let c' := (c'.canMatrixStart (u8 r 0)).setCan (u8 r 0) .recovering
    (c', le 1 (c'.canCh (u8 r 0)).state.code ++ zeros 3)) ∧
  Serves .canStart 0x0503 (fun c r => Ready.canStart true false c r ∧ c.draw.1 % 2 = 0) (fun c r =>
    let c' := (Ready.tileBack c r).onCan (u8 r 0) fun x => { x with tec := 0, rxErrs := 0, ackRun := 0, alone := false, warning := false, sending := none, stopping := false, cellWait := none, errFrame := none, checkWait := none, bufs := x.bufs.map fun b => { b with clashRun := 0 }, fifoClash := 0 }
    let c' := if (c.canCh (u8 r 0)).warning then c'.canRaise (u8 r 0) 65 else c'
    let c' := (c'.canMatrixStart (u8 r 0)).setCan (u8 r 0) .integrating
    (c', le 1 (c'.canCh (u8 r 0)).state.code ++ zeros 3)) ∧
  Serves .canStart 0x0503 (fun c r => Ready.canStart true true c r ∧ c.draw.1 % 2 = 0) (fun c r =>
    let c' := (Ready.tileBack c r).onCan (u8 r 0) fun x => { x with ackRun := 0, alone := false, sending := none, stopping := false, cellWait := none, errFrame := none, checkWait := none, bufs := x.bufs.map fun b => { b with clashRun := 0 }, fifoClash := 0 }
    let c' := (c'.canMatrixStart (u8 r 0)).setCan (u8 r 0) .recovering
    (c', le 1 (c'.canCh (u8 r 0)).state.code ++ zeros 3)) ∧
  (∀ b s t d, Served (s.chip.tick t) d 0x0503 → Ready.canStart true b (rung s t d 0x0503) (asked s t d 0x0503) → (rung s t d 0x0503).draw.1 % 2 = 1 →
    Leaves (.canStart t d) t s ((rung s t d 0x0503).draw.2.complete d.mb 0x02 0 [])) ∧
  (∀ d, Serves .canStop 0x0504 (Ready.canStop false d) (fun _ r => (d.canStopped (u8 r 0), []))) ∧
  (∀ d, Begins .canStop 0x0504 (Ready.canStop true d) (fun _ r => d.onCan (u8 r 0) fun x => { x with stopping := true })) ∧
  Serves .canRecover 0x0505 Ready.canRecover (fun c r => (c.setCan (u8 r 0) .recovering, [])) ∧
  Serves .canBufSet 0x0506 Ready.canBufSet (fun c r => (c.onCanBuf (u8 r 0) (u8 r 1) fun _ => { config := r.drop 4 }, [])) ∧
  Serves .canBufGet 0x0507 Ready.buffer (fun c r => (c, (Ready.bufOf c r).config))

/-- Opcodes 0x0508–0x050E (R251, R252): the commands over CAN frames, the matrix image and the counters. -/
def Obligations.CanFrameCommands : Prop :=
  Serves .canTxWrite 0x0508 Ready.canTxWrite (fun c r => (c.canStage (u8 r 0) (u8 r 1) (u8 r 2) (r.drop 8) (u8 r 4 == 1), [])) ∧
  Serves .canRxRead 0x0509 Ready.canRxNone (fun c r => (c, le 1 (u8 r 1) ++ zeros 79)) ∧
  (∀ f tt valid, Serves .canRxRead 0x0509 (Ready.canRxRead f tt valid) (fun c r =>
    (c.onCanBuf (u8 r 0) (u8 r 1) fun b => { b with fresh := false, overwritten := false },
      le 1 (u8 r 1) ++ le 1 (1 + b2n (Ready.bufOf c r).fresh * 2 + b2n (Ready.bufOf c r).overwritten * 4 + b2n f.ext * 8 + b2n f.fd * 16 + b2n f.brs * 32 + b2n f.esi * 64 +
        b2n f.remote * 128) ++ le 1 f.dlc ++ le 1 (b2n valid) ++ le 4 f.ident ++ le 8 tt ++ padTo 64 f.data))) ∧
  (∀ c', Serves .canSend 0x050A (Ready.canSend c') (fun _ r => (c', le 2 (c'.qm.queue (32 + u8 r 0)).entries.length ++ zeros 2))) ∧
  Serves .canMatrixStage 0x050B Ready.canMatrixStage (fun c r => (c.onCan (u8 r 0) fun x => { x with stage := x.stage.write (u32 r 4) (r.drop 12) }, [])) ∧
  Serves .canMatrixCommit 0x050C (fun c r => Ready.canCommit c r ∧ (c.canCh (u8 r 0)).state = .stopped) (fun c r =>
    ((c.onCan (u8 r 0) fun x => { x with image := { cur := some (Ready.canStaged c r) } }).canRaise (u8 r 0) 75,
      le 4 (u32 (Ready.canStaged c r) 8) ++ zeros 4 ++ le 1 1 ++ zeros 3)) ∧
  Serves .canMatrixCommit 0x050C (fun c r => Ready.canCommit c r ∧ (c.canCh (u8 r 0)).state ≠ .stopped ∧ (c.canCh (u8 r 0)).image.cur = none) (fun c r =>
    (((c.onCan (u8 r 0) fun x => { x with image := { cur := some (Ready.canStaged c r) } }).canRaise (u8 r 0) 75).canMatrixStart (u8 r 0),
      le 4 (u32 (Ready.canStaged c r) 8) ++ zeros 4 ++ le 1 1 ++ zeros 3)) ∧
  (∀ img, Serves .canMatrixCommit 0x050C (fun c r => Ready.canCommit c r ∧ (c.canCh (u8 r 0)).state ≠ .stopped ∧ (c.canCh (u8 r 0)).image.cur = some img ∧
      ((c.canCh (u8 r 0)).matrix ≠ 2 ∨ c.timeValid = false)) (fun c r =>
    let k := if c.clk.now + 5000 ≤ (c.canCh (u8 r 0)).basicStart + (64 - (c.canCh (u8 r 0)).basicIndex) * basicNs img then 1 else 2
    (c.onCan (u8 r 0) fun x => { x with image := x.image.write (x.cycleIndex + k) (some (Ready.canStaged c r)) },
      le 4 (u32 (Ready.canStaged c r) 8) ++ le 4 (((c.canCh (u8 r 0)).matrixCycle + k) % 4294967296) ++ zeros 4))) ∧
  (∀ img b1 b2, Serves .canMatrixCommit 0x050C (fun c r => Ready.canCommit c r ∧ (c.canCh (u8 r 0)).state ≠ .stopped ∧ (c.canCh (u8 r 0)).image.cur = some img ∧
      c.canBoundaries (u8 r 0) (basicNs img) = (b1, b2)) (fun c r =>
    let soon := decide (c.clk.now + 5000 ≤ b1.1)
    (c.onCan (u8 r 0) fun x => { x with image := x.image.write (x.cycleIndex + if soon then 1 else 2) (some (Ready.canStaged c r)) },
      le 4 (u32 (Ready.canStaged c r) 8) ++ le 4 ((if soon then b1.2 else b2.2) % 4294967296) ++ zeros 4))) ∧
  Serves .canBufResume 0x050D Ready.canFifoResume (fun c r => (c.onCan (u8 r 0) fun x => { x with fifoSuspended := false, fifoClash := 0 }, [])) ∧
  Serves .canBufResume 0x050D Ready.canBufResume (fun c r => (c.onCanBuf (u8 r 0) (u8 r 1) fun b => { b with suspended := false, clashRun := 0 }, [])) ∧
  Serves .canCounters 0x050E Ready.channel (fun c r =>
    (c.onCan (u8 r 0) fun x => { x with counters := List.replicate 22 0 }, cntBytes (c.canCh (u8 r 0)).counters))

/-- Opcodes 0x0600–0x060A (R275): the commands of the message router and of its guards. -/
def Obligations.RouterCommands : Prop :=
  (∀ o : Option Bytes, Serves .routeStatus 0x0600 (fun c r => Ready.noRequest c r ∧ c.rt.image.cur = o) (fun c _ =>
    (c, le 1 (b2n c.rt.running) ++ le 1 (b2n o.isSome + b2n c.rt.image.pending.isSome * 2) ++ le 2 ((o.map rtEntries).getD 0) ++ le 4 (cbIdOf o) ++
      le 4 (cbIdOf (c.rt.image.pending.getD none)) ++ le 2 ((o.map fun img => Ready.guardsThat c img fun _ => true).getD 0) ++
      le 2 ((o.map fun img => Ready.guardsThat c img fun g => g.state == .failed).getD 0) ++ le 2 c.tiles.check.toNat ++ zeros 2))) ∧
  Serves .routeStart 0x0601 Ready.routeStopped (fun c _ =>
    (({ c with tiles := { c.tiles with check := 0 } }.onRt fun x => { x with running := true }).raiseD 80 0 0xFFFF 0, [])) ∧
  Serves .routeStop 0x0602 Ready.routeRunning (fun c _ => (c.routerStop, [])) ∧
  Serves .routeStage 0x0603 (Ready.stage 264000) (fun c r => (c.onRt fun x => { x with stage := x.stage.write (u32 r 0) (r.drop 8) }, [])) ∧
  Serves .routeCommit 0x0604 (Ready.routeCommit true) (fun c _ =>
    (c.onRt fun x => { x with image := x.image.write true (some c.stagedRouter) }, le 4 (u32 c.stagedRouter 8) ++ le 4 c.epoch ++ zeros 4)) ∧
  Serves .routeCommit 0x0604 (Ready.routeCommit false) (fun c _ =>
    (c.rtNewImage fun _ => { cur := some c.stagedRouter }, le 4 (u32 c.stagedRouter 8) ++ zeros 4 ++ le 1 1 ++ zeros 3)) ∧
  (∀ img, Serves .routeEntryGet 0x0605 (Ready.routeEntry img) (fun c r =>
    (c, le 2 (u16 r 0) ++ le 1 (b2n (c.rt.image.cur.any fun cur => decide (u16 r 0 < rtEntries cur) && c.rt.enabled cur (u16 r 0))) ++ zeros 1 ++
      rtEntry img (u16 r 0)))) ∧
  (∀ img, Serves .routeEntryEnable 0x0606 (Ready.routeEntryEnable img) (fun c r =>
    (c.onRt fun x => { x with toggled := if entEnabled (rtEntry img (u16 r 0)) = (u8 r 2 == 1) then c.rt.toggled.filter (· != u16 r 0)
                                         else u16 r 0 :: c.rt.toggled.filter (· != u16 r 0) }, []))) ∧
  Serves .guardStatus 0x0607 Ready.guard (fun c r =>
    (c.onGuard (u16 r 0) (u8 r 2) fun g => { g with errors := 0, skipped := 0 },
      le 1 (match (Ready.guardOf c r).state with | .initial => 0 | .ok => 1 | .failed => 2) ++ le 1 (Ready.guardOf c r).lastError ++ le 2 (Ready.guardOf c r).alive ++
      le 1 (min 255 (Ready.guardOf c r).errorRun) ++ le 1 (if (Ready.guardOf c r).state = .failed then (Ready.guardOf c r).validRun else 0) ++
      le 1 (min 255 (Ready.guardOf c r).repeats) ++ zeros 1 ++ le 4 (Ready.guardOf c r).errors ++ le 4 (Ready.guardOf c r).skipped ++ le 8 (Ready.guardOf c r).lastValid)) ∧
  Serves .guardReset 0x0608 Ready.guard (fun c r =>
    (c.onGuard (u16 r 0) (u8 r 2) fun g => { g with state := .initial, alive := 0, errorRun := 0, validRun := 0, repeats := 0 }, [])) ∧
  Serves .routeCounters 0x0609 Ready.noRequest (fun c _ => (c.onRt fun x => { x with counters := List.replicate 15 0 }, cntBytes c.rt.counters)) ∧
  (∀ img, Serves .guardCompute 0x060A (Ready.guardCompute 1 img) (fun c r => (c, le 8 (unitCrc (rtUnit img (u8 r 0)) (r.drop 8)) ++ zeros 2))) ∧
  (∀ img, Serves .guardCompute 0x060A (Ready.guardCompute 0 img) (fun c r =>
    (c, le 8 (guardValue (rtUnit img (u8 r 0)) (u16 r 2) (u16 r 4) (r.drop 8)) ++ le 2 (aliveOf (rtUnit img (u8 r 0)) (u16 r 4) (r.drop 8)))))

/-- Opcodes 0x0700–0x0708 (R307): the window bridge's configuration, windows and exports. BR_STOP and the disabling of a window stay BUSY while
operations are outstanding. -/
def Obligations.BridgeSetupCommands : Prop :=
  Serves .brStatus 0x0700 Ready.noRequest (fun c _ =>
    (c, le 1 (b2n c.br.running) ++ le 1 (c.br.windows.filter fun w => w.split).length ++ le 2 (c.qm.queue 62).entries.length ++ le 2 c.q61 ++ le 1 c.br.stranded.length ++
      le 1 c.br.heldNow ++ le 8 (c.br.windows.zipIdx.foldl (fun v (w, i) => v + b2n w.enabled * 2 ^ i) 0) ++
      le 2 (c.br.exports.zipIdx.foldl (fun v (e, i) => v + u8 e 0 * 2 ^ i) 0) ++ le 2 c.br.homeMask ++ zeros 4)) ∧
  Serves .brConfigSet 0x0701 (fun c r => Ready.brConfigSet c r ∧ c.br.running = true) (fun c r => (c.onBr fun b => { b with config := r }, [])) ∧
  Serves .brConfigSet 0x0701 (fun c r => Ready.brConfigSet c r ∧ c.br.running = false) (fun c r =>
    (c.onBr fun b => { b with config := staticLate c.br.config r [(0, 4), (8, 2)], written := some r }, [])) ∧
  Serves .brConfigGet 0x0702 Ready.noRequest (fun c _ => (c, c.br.written.getD c.br.config)) ∧
  Serves .brStart 0x0703 Ready.brStopped (fun c _ => (((c.onBr fun b => { b with running := true, config := c.br.written.getD c.br.config, written := none }).judgeHolds).raise 95, [])) ∧
  Serves .brStop 0x0704 (Ready.brRunning true) (fun c _ => (c.bridgeStopped, [])) ∧
  Begins .brStop 0x0704 (Ready.brRunning false) (fun c _ => c.onBr fun b => { b with stopping := true }) ∧
  Serves .brWindowSet 0x0705 Ready.brWindowSet (fun c r => ((c.discardLines 3 fun l => l.window == u8 r 0).onWin (u8 r 0) fun _ => c.windowOf r, [])) ∧
  Serves .brWindowEnable 0x0706 (fun c r => Ready.brWindowEnable 1 c r ∧ (Ready.windowAt c r).isSet = true ∧ (Ready.windowAt c r).enabled = false) (fun c r =>
    (c.onWin (u8 r 0) fun w => { w with enabled := true, refused := false }, [])) ∧
  Serves .brWindowEnable 0x0706 (fun c r => Ready.brWindowEnable 1 c r ∧ (Ready.windowAt c r).isSet = true ∧ (Ready.windowAt c r).enabled = true) (fun c _ => (c, [])) ∧
  Serves .brWindowEnable 0x0706 (fun c r => Ready.brWindowEnable 0 c r ∧ (Ready.windowAt c r).enabled = false) (fun c _ => (c, [])) ∧
  Serves .brWindowEnable 0x0706 (fun c r => Ready.brWindowEnable 0 c r ∧ (Ready.windowAt c r).enabled = true ∧ c.br.settled (u8 r 0) = true) (fun c r =>
    (c.disable (u8 r 0), [])) ∧
  Begins .brWindowEnable 0x0706 (fun c r => Ready.brWindowEnable 0 c r ∧ (Ready.windowAt c r).enabled = true ∧ c.br.settled (u8 r 0) = false) (fun c r =>
    c.onBr fun b => { b with disabling := some (u8 r 0) }) ∧
  (∀ hr k, Serves .brWindowStatus 0x0707 (fun c r => Ready.window c r ∧
      let c := c.retarget (u8 r 0);
      (c.brRtt (Ready.windowAt c r)).getD (0, 0) = hr ∧ (if (Ready.windowAt c r).isSet then c.brReach (Ready.windowAt c r) else none) = k) (fun c r =>
    let c := c.retarget (u8 r 0)
    (c, le 1 (b2n (Ready.windowAt c r).enabled) ++
      le 1 (b2n (Ready.windowAt c r).demoted + b2n (Ready.windowAt c r).refused * 2 + b2n (k == some 3) * 4 + b2n (k == some 4) * 8) ++ le 2 hr.1 ++
      le 4 (ceilDiv hr.2 1000000) ++ le 8 (Ready.windowAt c r).farId ++ le 2 (c.br.writesOf fun q => q.source == u8 r 0).length ++
      le 1 (c.br.held.filter fun x => x.window == u8 r 0).length ++ le 1 (c.br.lines.filter fun l => l.window == u8 r 0).length ++
      le 2 (c.br.sessionOf (Ready.windowAt c r).farId) ++ zeros 2))) ∧
  Serves .brExport 0x0708 Ready.brExportSet (fun c r =>
    (c.onBr fun b => { b with exports := b.exports.set (u8 r 0) (r.drop 4) }, (c.br.exports.set (u8 r 0) (r.drop 4)).getD (u8 r 0) (zeros 32))) ∧
  Serves .brExport 0x0708 Ready.brExportGet (fun c r => (c, c.br.exportEntry (u8 r 0)))

/-- Opcodes 0x0709–0x070F (R307): asynchronous reads, the record queues, prefetch, semaphores and counters of the window bridge. -/
def Obligations.BridgeTransferCommands : Prop :=
  (∀ k, Serves .brRead 0x0709 (Ready.brRead (some k)) (fun c r =>
    let a := (Ready.reading c r).refuseRead (u8 r 0) k (u32 r 4) (u16 r 2)
    ((a.2.2.onBr fun b => { b with asyncs := b.asyncs ++ [{ window := u8 r 0, hostTag := u32 r 8, length := u16 r 2, parts := a.1, status := a.2.1 }] }).brFinish, slice r 8 4))) ∧
  Serves .brRead 0x0709 (Ready.brRead none) (fun c r =>
    let a := (Ready.reading c r).askFar (u8 r 0) (u32 r 4) (u16 r 2) true
    ((a.2.2.onBr fun b => { b with asyncs := b.asyncs ++ [{ window := u8 r 0, hostTag := u32 r 8, length := u16 r 2, parts := a.1, status := a.2.1 }] }).brFinish, slice r 8 4)) ∧
  Serves .brCompletionRead 0x070A (fun c => Ready.queueEmpty 61 (c.mailRead 0x070A 61)) (fun c _ => (c.mailRead 0x070A 61, zeros 24)) ∧
  (∀ e es, Serves .brCompletionRead 0x070A (fun c => Ready.queueHead 61 e es (c.mailRead 0x070A 61)) (fun c _ =>
    let d := (c.mailRead 0x070A 61).onQm fun m => m.upd 61 fun a => { a with entries := es }
    (d, le 1 1 ++ e.data.take 9 ++ le 2 (d.qm.queue 61).entries.length ++ e.data.drop 9))) ∧
  Serves .brFaultRead 0x070B (fun c => Ready.queueEmpty 62 (c.mailRead 0x070B 62)) (fun c _ => (c.mailRead 0x070B 62, zeros 48)) ∧
  (∀ e es, Serves .brFaultRead 0x070B (fun c => Ready.queueHead 62 e es (c.mailRead 0x070B 62)) (fun c _ =>
    let d := (c.mailRead 0x070B 62).onQm fun m => m.upd 62 fun a => { a with entries := es }
    (d, le 1 1 ++ zeros 1 ++ le 2 (d.qm.queue 62).entries.length ++ zeros 4 ++ e.data))) ∧
  Serves .brStrandedRead 0x070C Ready.strandedNone (fun c _ => (c, zeros 40)) ∧
  (∀ e es, Serves .brStrandedRead 0x070C (Ready.strandedSome e es) (fun c _ =>
    (c.onBr fun b => { b with stranded := es }, le 1 1 ++ zeros 1 ++ le 2 es.length ++ zeros 4 ++ e))) ∧
  (∀ x, Serves .brPrefetch 0x070D (Ready.brPrefetch 0 x) (fun c r => (c.retarget (u8 r 0), zeros 4))) ∧
  (∀ n k, Serves .brPrefetch 0x070D (Ready.brPrefetch (n + 1) (some k)) (fun c r => (((c.retarget (u8 r 0)).refuseRead (u8 r 0) k (u32 r 4) (u32 r 8)).2.2, zeros 4))) ∧
  (∀ n, Serves .brPrefetch 0x070D (Ready.brPrefetch (n + 1) none) (fun c r =>
    (((c.retarget (u8 r 0)).fetchLines (u8 r 0) (lineSpan (u32 r 4) (u32 r 8))).2,
      le 2 ((c.retarget (u8 r 0)).fetchLines (u8 r 0) (lineSpan (u32 r 4) (u32 r 8))).1 ++ zeros 2))) ∧
  (∀ n, Serves .brSemControl 0x070E (Ready.semBind n) (fun c r =>
    let c' := c.onSem (u8 r 0) fun _ => { bound := some (slice r 4 16, u8 r 0x14), target := some n.identity }
    (c', Ready.semAnswer c' (u8 r 0) (u8 r 0x14)))) ∧
  Serves .brSemControl 0x070E (Ready.semControl 1) (fun c r =>
    (c.onSem (u8 r 0) fun _ => {}, Ready.semAnswer (c.onSem (u8 r 0) fun _ => {}) (u8 r 0) (u8 r 0x14))) ∧
  Serves .brSemControl 0x070E (fun c r => Ready.semControl 2 c r ∧ (c.br.homes.getD (u8 r 0) none).isSome = true) (fun c r =>
    (c.freeHome (u8 r 0), Ready.semAnswer (c.freeHome (u8 r 0)) (u8 r 0) (u8 r 0))) ∧
  Serves .brSemControl 0x070E (fun c r => Ready.semControl 2 c r ∧ c.br.homes.getD (u8 r 0) none = none) (fun c r => (c, Ready.semAnswer c (u8 r 0) (u8 r 0))) ∧
  Serves .brSemControl 0x070E (Ready.semControl 3) (fun c r => (c, Ready.semAnswer c (u8 r 0) (u8 r 0x14))) ∧
  Serves .brCounters 0x070F Ready.noRequest (fun c _ => (c.onBr fun b => { b with counters := List.replicate 20 0 }, cntBytes c.br.counters))

/-- Opcodes 0x0800–0x0806 (R337, R338): the Ethernet port commands. ETH_STATUS reads backbone ports 0 to 3 and vehicle ports 4 to 11. -/
def Obligations.EthernetCommands : Prop :=
  Serves .ethStatus 0x0800 (Ready.port 0 3) (fun c r =>
    (c, le 1 (u8 r 0) ++ le 1 (b2n c.rolling + b2n (c.bb.isUp (u8 r 0)) * 2 + b2n (c.bb.port (u8 r 0)).preempt * 8 +
      b2n (c.tiles.mac.getLsbD (u8 r 0) || c.tiles.backbone.getLsbD (u8 r 0)) * 32) ++ zeros 2)) ∧
  Serves .ethStatus 0x0800 (Ready.port 4 11) (fun c r =>
    (c, le 1 (u8 r 0) ++ le 1 (b2n (c.vport (u8 r 0)).running + b2n (c.vport (u8 r 0)).linkUp * 2 + b2n (c.vport (u8 r 0)).is100 * 4 + b2n (c.vport (u8 r 0)).preempt * 8 +
      b2n ((c.vport (u8 r 0)).paused c.clk.now) * 16 + b2n (c.tiles.mac.getLsbD (u8 r 0)) * 32) ++ zeros 2)) ∧
  Serves .ethConfigSet 0x0801 Ready.ethConfigSet (fun c r => (c.onVport (u8 r 0) fun v => { v with config := r.drop 4 }, [])) ∧
  Serves .ethConfigGet 0x0802 (Ready.port 4 11) (fun c r => (c, (c.vport (u8 r 0)).config)) ∧
  Serves .ethStart 0x0803 Ready.portStopped (fun c r =>
    ((if c.boot.held.isSome then c else { c with tiles := { c.tiles with mac := c.tiles.mac &&& ~~~(1#12 <<< u8 r 0) } }).onVport (u8 r 0) fun v => { v with
      running := true, linkUp := false, preempt := false, pausedUntil := none }, [])) ∧
  Serves .ethStop 0x0804 Ready.portRunning (fun c r =>
    let p := u8 r 0
    let c' := ((c.flushQueue (egressQueue p true)).flushQueue (egressQueue p false)).macCountBy p macEgressFlushed
      ((c.qm.queue (egressQueue p true)).entries.length + (c.qm.queue (egressQueue p false)).entries.length)
    let c' := if (c'.vport p).linkUp then (c'.macCount p macLinkLosses).raisePort 26 p else c'
    let c' := if (c'.vport p).pausedUntil.isSome then c'.endPause p else c'
    (c'.onVport p fun v => { v with running := false, linkUp := false, preempt := false }, [])) ∧
  Serves .ethAddrSet 0x0805 Ready.ethAddrGet (fun c r => (c, (c.vport (u8 r 0)).addrs.getD (u8 r 1) [])) ∧
  Serves .ethAddrSet 0x0805 Ready.ethAddrSet (fun c r => (c.onVport (u8 r 0) fun v => { v with addrs := v.addrs.set (u8 r 1) (r.drop 4) }, r.drop 4)) ∧
  Serves .ethCounters 0x0806 (Ready.port 0 11) (fun c r =>
    (c.onEth fun e => { e with mac := e.mac.set (u8 r 0) (List.replicate 18 0) },
      ((c.eth.mac.getD (u8 r 0) []).take 2).flatMap (le 8) ++ ((c.eth.mac.getD (u8 r 0) []).drop 2).flatMap (le 4)))

/-- Opcodes 0x0807–0x080F (R338): queue limits, DMA rings and the memory controller. MEM_START stays BUSY until training ends, MEM_STOP until the
spilled frames have drained. -/
def Obligations.QueueRingMemoryCommands : Prop :=
  Serves .queueSet 0x0807 Ready.queueGet (fun c r => (c, (c.qm.queue (u8 r 0)).config)) ∧
  Serves .queueSet 0x0807 Ready.queueSet (fun c r =>
    let c' := c.onQm fun m => m.upd (u8 r 0) fun a => { a with reserve := u32 r 4, spill := u32 r 8, limit := u32 r 12, maxEntries := u16 r 16 }
    (c', (c'.qm.queue (u8 r 0)).config)) ∧
  Serves .queueStatus 0x0808 (Ready.port 0 63) (fun c r =>
    (c.onQm fun m => m.upd (u8 r 0) fun a => { a with dropped := 0, eccDropped := 0 },
      le 4 (c.qm.queue (u8 r 0)).entries.length ++ le 4 (c.qm.queue (u8 r 0)).onChip ++ le 4 (c.qm.queue (u8 r 0)).spilled ++ le 4 (c.qm.queue (u8 r 0)).dropped ++
      le 4 (c.qm.queue (u8 r 0)).eccDropped ++ le 4 c.qm.poolFree ++ le 4 c.qm.retiredCells ++ le 1 (b2n (c.qm.queue (u8 r 0)).spilling) ++ zeros 3)) ∧
  Serves .ringSet 0x0809 Ready.ringSet (fun c r =>
    (c.onRing (u8 r 0) fun x => { x with isSet := true, address := u64 r 4, count := u16 r 12, bufSize := u16 r 14, poll := u16 r 16, holdoff := u16 r 18, next := 0, owned := [] }, [])) ∧
  Serves .ringEnable 0x080A (Ready.ringEnable 1) (fun c r =>
    let c' := (c.onEth fun e => { e with waits := e.waits.filter fun w => w.ring != u8 r 0 }).onRing (u8 r 0) fun x => { x with enabled := true, next := 0, owned := [] }
    (c', le 2 (c'.eth.ring (u8 r 0)).next ++ zeros 2)) ∧
  Serves .ringEnable 0x080A (Ready.ringEnable 0) (fun c r =>
    let c' := (c.onEth fun e => { e with waits := e.waits.filter fun w => w.ring != u8 r 0 }).onRing (u8 r 0) fun x => { x with enabled := false, owned := [] }
    (c', le 2 (c'.eth.ring (u8 r 0)).next ++ zeros 2)) ∧
  Serves .memConfigSet 0x080B (fun c r => Ready.memConfigSet c r ∧ c.mem.state = .absent ∧ u32 r 0 ≠ 0) (fun c r =>
    ((c.onMem fun m => { m with config := r }).setMem .stopped, [])) ∧
  Serves .memConfigSet 0x080B (fun c r => Ready.memConfigSet c r ∧ c.mem.state = .stopped ∧ u32 r 0 = 0) (fun c r =>
    ((c.onMem fun m => { m with config := r }).setMem .absent, [])) ∧
  Serves .memConfigSet 0x080B (fun c r => Ready.memConfigSet c r ∧ ¬(c.mem.state = .absent ∧ u32 r 0 ≠ 0) ∧ ¬(c.mem.state = .stopped ∧ u32 r 0 = 0)) (fun c r =>
    (c.onMem fun m => { m with config := r }, [])) ∧
  Serves .memConfigGet 0x080C Ready.noRequest (fun c _ => (c, c.mem.config)) ∧
  Begins .memStart 0x080D Ready.memStart (fun c _ => c.setMem .training) ∧
  Serves .memStop 0x080E (Ready.memStop true) (fun c _ => (c.memStopped, [])) ∧
  Begins .memStop 0x080E (Ready.memStop false) (fun c _ => c.onMem fun m => { m with stopping := true }) ∧
  Serves .memStatus 0x080F Ready.noRequest (fun c _ =>
    (c.onMem fun m => { m with corrected := 0, uncorrectable := 0, scrubPasses := 0 },
      le 1 c.mem.state.code ++ zeros 3 ++ le 4 (ceilDiv c.qm.spilledCells 16384) ++ le 4 c.mem.corrected ++ le 4 c.mem.uncorrectable ++ le 4 c.mem.scrubPasses ++
      le 8 c.mem.lastUce))

/-- Opcodes 0x0900–0x090A (R401): the safety island's commands. -/
def Obligations.SafetyCommands : Prop :=
  Serves .safeStatus 0x0900 Ready.noRequest (fun c _ =>
    let held := c.safe.nutmeg.set.or c.safe.mace.set
    (c, le 1 (stateCode c.safe.nutmeg.state) ++ le 1 ((c.safe.shown.map fun f => stateCode f.state).getD 0) ++
      le 1 (maskOf 6 fun i => [held.any setSleepActive, c.safe.password.isSome, c.safe.lockout, c.safe.candidate.isSome, c.safe.authorised,
        c.safe.withhold].getD i false) ++ le 1 c.safe.nutmeg.stopReason ++ le 4 ((held.map setId).getD 0) ++ le 4 ((held.map setCheck).getD 0) ++
      le 4 ((c.safe.candidate.map setId).getD 0) ++ le 1 (maskOf 8 fun i => (c.safe.nutmeg.inp i).trusted) ++ le 1 (ackCode c.safe.nutmeg.ack) ++
      le 2 ((c.safe.shown.map (·.number)).getD 0))) ∧
  Serves .safeIoStatus 0x0901 Ready.noRequest (fun c _ =>
    (c, (List.range 8).flatMap (fun i => le 4 (c.safe.inputWord i)) ++ (List.range 4).flatMap fun o => le 4 (c.safe.outputWord o))) ∧
  Serves .safeParamStage 0x0902 Ready.safeParamStage (fun c r => (c.safeSet { c.safe with stage := c.safe.stage.write (u16 r 0) (r.drop 4) }, [])) ∧
  Serves .safeParamCommit 0x0903 Ready.safeParamCommit (fun c _ =>
    let b := c.safe.stage.read 0 256
    ((c.safeSet { c.safe with candidate := some b }).safeLog 4 0 (setId b) (setCheck b) ((c.safe.mace.set.map setCheck).getD 0), le 4 (setId b) ++ le 4 (setCheck b))) ∧
  (∀ img, Serves .safeParamRead 0x0904 (Ready.safeParamRead img) (fun c _ => (c, img))) ∧
  Serves .safeConfigEnter 0x0905 (Ready.safeConfigEnter 0) (fun c _ =>
    ((c.safeSet { c.safe with wrong := 0, authorised := true }).safeLog 3 0 0 0 ((c.safe.mace.set.map setCheck).getD 0), [])) ∧
  Serves .safeConfigEnter 0x0905 (Ready.safeConfigEnter 1) (fun c _ => (c.safeSet { c.safe with wrong := 0, withhold := true }, [])) ∧
  (∀ b, Serves .safeParamConfirm 0x0906 (fun c r => Ready.safeParamConfirm b c r ∧ c.safe.nutmeg.state = .unconfigured) (fun c _ =>
    let n := SafeIsland.load { c.safe with wrong := 0, stored := some b, candidate := none } b true
    (((c.safeSet { n with authorised := n.authorised && n.configuring }).safeEvents { c.safe with wrong := 0 }).safeLog 5 0 (setId b) (setCheck b)
      ((c.safe.mace.set.map setCheck).getD 0), le 4 c.safe.logSeq))) ∧
  (∀ b, Serves .safeParamConfirm 0x0906 (fun c r => Ready.safeParamConfirm b c r ∧ c.safe.nutmeg.state ≠ .unconfigured) (fun c _ =>
    let n := ({ c.safe with wrong := 0, stored := some b, candidate := none }.onChan false fun x => x.take b).onChan true fun x => x.take b
    (((c.safeSet { n with authorised := n.authorised && n.configuring }).safeEvents { c.safe with wrong := 0 }).safeLog 5 0 (setId b) (setCheck b)
      ((c.safe.mace.set.map setCheck).getD 0), le 4 c.safe.logSeq))) ∧
  Serves .safeConfigLeave 0x0907 Ready.candidate (fun c _ => (c.onSafe fun x => { x with candidate := none }, [])) ∧
  Serves .safePasswordSet 0x0908 Ready.firstPassword (fun c r =>
    let d := c.drawBytes 16
    ((d.2.safeSet { d.2.safe with password := some (d.1, (Config.pbkdf2 d.1 (passwordAt r 20)).toNat) }).safeLog 1 0 0 0 ((c.safe.mace.set.map setCheck).getD 0),
      le 4 c.safe.logSeq)) ∧
  Serves .safePasswordSet 0x0908 Ready.newPassword (fun c r =>
    let d := (c.safeSet { c.safe with wrong := 0 }).drawBytes 16
    ((d.2.safeSet { d.2.safe with password := some (d.1, (Config.pbkdf2 d.1 (passwordAt r 20)).toNat) }).safeLog 2 0 0 0 ((c.safe.mace.set.map setCheck).getD 0),
      le 4 c.safe.logSeq)) ∧
  Serves .safeLogRead 0x0909 Ready.safeLogRead (fun c r =>
    let got := (if u32 r 0 = 0 then c.safe.log else c.safe.log.filter fun b => decide (u32 r 0 ≤ u32 b 0)).take (u8 r 4)
    (c, le 1 got.length ++ zeros 3 ++ le 4 (match got.getLast? with | some b => next32 (u32 b 0) | none => c.safe.logSeq) ++ got.flatten)) ∧
  Serves .safeCounters 0x090A Ready.noRequest (fun c _ => (c.safeSet { c.safe with counters := List.replicate 10 0 }, cntBytes c.safe.counters))

/-- Opcodes 0x0A00–0x0A08 (R421): the power commands. PWR_PN_MODE with Mode 1 stays BUSY while a frame is being sent or received; whether one is being
received is open (log 13). -/
def Obligations.PowerCommands : Prop :=
  (∀ g : Option SleepGrant, Serves .pwrStatus 0x0A00 (fun c r => Ready.noRequest c r ∧ c.pwr.grant = g) (fun c _ =>
    let need := if c.recordedLeader then c.votersNeeded else []
    let held := (need.filter (c.voteHeld 0)).length
    (c, le 1 c.clove.state.code ++
      le 1 (match g with | some g => if g.asked then 4 else if c.trainTime < g.commit then 2 else 3 | none => b2n c.pwr.votes.isSome) ++
      le 1 c.clove.wakeCause ++ le 1 c.clove.wakePort ++
      le 1 (b2n c.pwr.votes.isSome + b2n c.clove.latched * 2 + b2n c.pwr.checking * 4 + b2n c.clove.failSafe * 8 + b2n (c.recordedLeader && held == need.length) * 16) ++
      zeros 3 ++ le 8 ((g.map (·.commit)).getD 0) ++ le 8 ((g.map (·.sleep)).getD 0) ++ le 2 held ++ le 2 need.length ++ le 2 c.pwr.lastPrepare ++ zeros 2 ++
      le 4 c.pwr.sleepCount))) ∧
  Serves .pwrConfigSet 0x0A01 Ready.pwrConfigSet (fun c r => (c.onPwr fun p => { p with config := r }, [])) ∧
  Serves .pwrConfigGet 0x0A02 Ready.noRequest (fun c _ => (c, c.pwr.config)) ∧
  Serves .pwrVote 0x0A03 (Ready.pwrVote 1) (fun c _ => (c.onPwr fun p => { p with hostVote := some true }, [])) ∧
  Serves .pwrVote 0x0A03 (Ready.pwrVote 0) (fun c _ => (((c.onPwr fun p => { p with hostVote := some false }).confirmWake.wakeRequest (c.rungTrain 0x0A03)).2, [])) ∧
  Serves .pwrWakeRequest 0x0A04 Ready.noRequest (fun c _ => ((c.confirmWake.wakeRequest (c.rungTrain 0x0A04)).2, le 1 (c.confirmWake.wakeRequest (c.rungTrain 0x0A04)).1 ++ zeros 3)) ∧
  Serves .pwrSleepLocal 0x0A05 Ready.pwrSleepLocal (fun c _ => ((c.onPwr fun p => { p with grant := none }).enterPrepare, [])) ∧
  Serves .pwrPnSet 0x0A06 Ready.pwrPnGet (fun c r => (c, c.pwr.filters.getD (4 * u8 r 0 + u8 r 1) (zeros 16))) ∧
  Serves .pwrPnSet 0x0A06 Ready.pwrPnSet (fun c r =>
    (c.onPwr fun p => { p with filters := p.filters.set (4 * u8 r 0 + u8 r 1) (r.drop 4) },
      (c.pwr.filters.set (4 * u8 r 0 + u8 r 1) (r.drop 4)).getD (4 * u8 r 0 + u8 r 1) (zeros 16))) ∧
  Serves .pwrPnMode 0x0A07 (fun c r => Ready.pnMode 0 c r ∧ (c.canCh (u8 r 0)).state = .ignoring) (fun c r =>
    ((c.setCan (u8 r 0) .integrating).canRaise (u8 r 0) 111, le 1 (((c.setCan (u8 r 0) .integrating).canRaise (u8 r 0) 111).canCh (u8 r 0)).state.code ++ zeros 3)) ∧
  Serves .pwrPnMode 0x0A07 (fun c r => Ready.pnMode 1 c r ∧ (c.canCh (u8 r 0)).state = .ignoring) (fun c _ => (c, le 1 CanSt.ignoring.code ++ zeros 3)) ∧
  (∀ d, Begins .pwrPnMode 0x0A07 (fun c r => Ready.pnMode 1 c r ∧ (c.canCh (u8 r 0)).state ≠ .ignoring ∧ c.canBusy (u8 r 0) = (true, d)) (fun _ r =>
    d.onCan (u8 r 0) fun x => { x with ignoring := true })) ∧
  (∀ d, Serves .pwrPnMode 0x0A07 (fun c r => Ready.pnMode 1 c r ∧ (c.canCh (u8 r 0)).state ≠ .ignoring ∧ c.canBusy (u8 r 0) = (false, d)) (fun _ r =>
    (d.canIgnore (u8 r 0), le 1 ((d.canIgnore (u8 r 0)).canCh (u8 r 0)).state.code ++ zeros 3))) ∧
  Serves .pwrCounters 0x0A08 Ready.noRequest (fun c _ => (c.onPwr fun p => { p with counters := List.replicate 9 0 }, cntBytes c.pwr.counters))

/-- Opcodes 0x0B00–0x0B08 (R440): the event recorder's commands. REC_ERASE stays BUSY until the erase has ended, REC_COPY until
its block has been written, at an instant that is open within its bound (log 4). -/
def Obligations.RecorderCommands : Prop :=
  Serves .recStatus 0x0B00 Ready.noRequest (fun c _ =>
    (c, le 1 (match c.log.state with | .scanning => 0 | .running => 1 | .erasing => 2 | .failed => 3) ++ le 1 (u8 c.log.config 0) ++ le 2 c.log.retired.length ++
      le 4 c.log.slots.length ++ le 4 (65536 - c.log.slots.length - c.log.retired.length) ++ le 4 c.log.newestSeq ++
      le 4 (((oldestSlot c.log.slots fun _ => true).map fun x => recSeq x.2).getD 0) ++ zeros 4 ++ le 8 (c.log.opTime c.clk.now) ++ le 8 (c.log.awakeTime c.clk.now) ++
      le 4 c.log.powerCycles ++ zeros 4 ++ (List.range 8).flatMap fun v => le 4 (c.log.slots.filter fun x => recSeverity x.2 == v).length)) ∧
  Serves .recConfigSet 0x0B01 Ready.recConfigSet (fun c r => (c.onLog fun x => { x with config := r }, [])) ∧
  Serves .recConfigGet 0x0B02 Ready.noRequest (fun c _ => (c, c.log.config)) ∧
  Serves .recRead 0x0B03 (Ready.slots 7) (fun c r =>
    let c' := (slotRange (u16 r 0) (u8 r 2)).foldl Chip.readSlot c
    (c', le 1 (u8 r 2) ++ zeros 3 ++ (slotRange (u16 r 0) (u8 r 2)).flatMap fun i => c'.log.slot i ++ le 4 (recSeq (c'.log.slot i)))) ∧
  Begins .recCopy 0x0B04 Ready.recCopy (fun c r =>
    let c' := (slotRange (u16 r 8) (u32 r 12)).foldl Chip.readSlot c
    Ready.copying 0x0B04 10000000 (u64 r 0) ((slotRange (u16 r 8) (u32 r 12)).flatMap c'.log.slot) (le 4 (u32 r 12)) c') ∧
  Serves .recSeqRead 0x0B05 (Ready.slots 120) (fun c r =>
    let c' := (slotRange (u16 r 0) (u8 r 2)).foldl (Chip.readWords · [0]) c
    (c', le 1 (u8 r 2) ++ zeros 3 ++ (slotRange (u16 r 0) (u8 r 2)).flatMap fun i => le 4 (recSeq (c'.log.slot i)))) ∧
  Serves .recWrite 0x0B06 (Ready.recWrite none) (fun c r => ((c.intake (Ready.hostRecord c r)).1.logCount recHost, [])) ∧
  (∀ q, Serves .recWrite 0x0B06 (Ready.recWrite (some (q, false))) (fun c r => (((c.intake (Ready.hostRecord c r)).1.noteDrop (some q)).1.logCount recHost, []))) ∧
  Begins .recErase 0x0B07 Ready.recErase (fun c _ => (c.onLog fun x => { x with state := .erasing }).raiseD 115 0 0xFFFF 2) ∧
  Serves .recCounters 0x0B08 Ready.noRequest (fun c _ => (c.onLog fun x => { x with counters := List.replicate 8 0 }, cntBytes c.log.counters))

/-- Opcodes 0x0C00–0x0C0A (R461): the commands of start-up and of the firmware images. FW_SECURITY_ADVANCE alone changes a fuse. -/
def Obligations.BootCommands : Prop :=
  Serves .bootStatus 0x0C00 Ready.noRequest (fun c _ =>
    (c, le 1 c.boot.journal.preferred ++ le 1 c.boot.journal.trial ++ le 1 c.boot.journal.trialStarts ++
      le 1 (b2n c.boot.journal.badA + b2n c.boot.journal.badB * 2) ++ le 2 c.boot.journal.skipMask.toNat ++ le 1 c.clove.resetCause ++ le 1 c.fuses.minSecurity ++
      le 4 ((c.boot.journal.entries.getLast?.map (·.seq)).getD 0) ++ slice (c.header 0) 8 4 ++ slice (c.header 1) 8 4 ++ le 1 (u32 (c.header 0) 0x0C) ++
      le 1 (u32 (c.header 1) 0x0C) ++ zeros 2)) ∧
  Serves .bootJournalRead 0x0C01 Ready.bootJournalRead (fun c r =>
    let all := if u32 r 0 = 0 then c.boot.journal.entries else c.boot.journal.entries.dropWhile fun e => newer (u32 r 0) e.seq
    (c, le 1 (all.take (u8 r 4)).length ++ zeros 3 ++ le 4 (match all.drop (u8 r 4) with | e :: _ => e.seq | [] => c.boot.journal.nextSeq) ++
      (all.take (u8 r 4)).flatMap JournalEntry.bytes)) ∧
  Serves .bootJournalClear 0x0C02 Ready.bootJournalClear (fun c r =>
    (c.onJournal fun j =>
      { j with
        skipMask := if (u8 r 0).testBit 0 then 0 else j.skipMask, skipSlot := if (u8 r 0).testBit 0 then 0xFF else j.skipSlot
        failures := if (u8 r 0).testBit 0 then List.replicate 14 0 else j.failures
        badA := !(u8 r 0).testBit 1 && j.badA, badB := !(u8 r 0).testBit 1 && j.badB }, [])) ∧
  Serves .bootConfigSet 0x0C03 Ready.bootConfigSet (fun c r =>
    (c.onJournal fun j => { j with autoStart := u8 r 0, serviceNext := u8 r 1, stopOnFailure := u8 r 2 }, [])) ∧
  Serves .bootConfigGet 0x0C04 Ready.noRequest (fun c _ =>
    (c, le 1 c.boot.journal.autoStart ++ le 1 c.boot.journal.serviceNext ++ le 1 c.boot.journal.stopOnFailure ++ zeros 5)) ∧
  Serves .fwBegin 0x0C05 Ready.fwBegin (fun c _ =>
    ((((c.onSlot (1 - c.boot.imageSlot) fun _ => { fitted := false }).onJournal fun j => j.setBad (1 - c.boot.imageSlot) false).onBoot fun b => { b with
      begun := some [] }).raiseD 123 0 0xFFFF 0x0C05, le 1 (1 - c.boot.imageSlot) ++ zeros 3)) ∧
  (∀ done, Serves .fwWrite 0x0C06 (Ready.fwWrite done) (fun c r =>
    ((c.onSlot (1 - c.boot.imageSlot) fun x => { x with inverted := x.inverted.write (u32 r 0) ((r.drop 8).map (0xFF#8 ^^^ ·)) }).onBoot fun b => { b with
      begun := some ((u32 r 0, u16 r 4) :: done) }, []))) ∧
  Serves .fwActivate 0x0C07 Ready.fwActivate (fun c _ =>
    let n := 1 - c.boot.imageSlot
    ((c.onJournal fun j => { j.setBad n false with trial := n, trialStarts := 0 }).raiseD 123 0 0xFFFF 0x0C07,
      le 1 n ++ le 1 (u32 (c.header n) 0x0C) ++ slice (c.header n) 0x0A 2 ++ slice (c.header n) 8 1 ++ slice (c.header n) 9 1 ++ zeros 2)) ∧
  Serves .fwConfirm 0x0C08 Ready.fwConfirm (fun c _ =>
    (((c.onJournal fun j => { j with preferred := c.boot.imageSlot, trial := 0xFF, trialStarts := 0 }).onBoot fun b => { b with onTrial := false }).raiseD 121 0 0xFFFF 2, [])) ∧
  Serves .fwRestart 0x0C09 Ready.fwRestart (fun c r => (c.onBoot fun b => { b with restart := some (u8 r 0) }, [])) ∧
  Serves .fwSecurityAdvance 0x0C0A Ready.fwSecurityAdvance (fun c _ =>
    ({ c with fuses := { c.fuses with minSecurity := max c.fuses.minSecurity c.boot.security } }, le 1 (max c.fuses.minSecurity c.boot.security) ++ zeros 3))

/-- Opcodes 0x0D00–0x0D04 (R366–R369): the commands of the host interface. -/
def Obligations.InterfaceCommands : Prop :=
  Serves .ifIdentify 0x0D00 Ready.noRequest (fun c _ =>
    (c, le 1 2 ++ le 1 Config.interfaceMinor.toNat ++ le 1 c.boot.fwMajor ++ le 1 c.boot.fwMinor ++ le 2 c.boot.fwPatch ++ le 1 0x0B ++
      le 1 (b2n c.host.pcieUp + b2n c.host.spiSeen * 2 + b2n c.host.msi.enable * 4) ++ le 8 c.fuses.identity ++ le 8 c.boot.buildStamp ++ le 1 c.boot.imageSlot ++
      le 1 (if c.host.msi.enable then 2 ^ c.host.msi.vecLog2 else 0) ++
      le 1 (if c.host.pcieUp then c.host.pcieWidth % 16 + c.host.pcieSpeed % 16 * 16 else 0) ++ zeros 5)) ∧
  Serves .ifEcho 0x0D01 Ready.echo (fun c r => (c, r)) ∧
  Serves .ifCounters 0x0D02 Ready.noRequest (fun c _ => (c.onHost fun h => { h with counters := List.replicate 8 0 }, cntBytes c.host.counters)) ∧
  Serves .evRecordRead 0x0D03 Ready.evRecordRead (fun c r =>
    (c.onHost fun h => { h with records := h.records.drop (u8 r 0), lost := 0 },
      le 1 (c.host.records.take (u8 r 0)).length ++ zeros 1 ++ le 2 (c.host.records.drop (u8 r 0)).length ++ le 4 c.host.lost ++
      (c.host.records.take (u8 r 0)).flatMap EvRecord.bytes)) ∧
  Serves .tileStatus 0x0D04 Ready.noRequest (fun c _ =>
    (c, le 1 c.tiles.backbone.toNat ++ le 1 c.tiles.saffron.toNat ++ le 2 c.tiles.mac.toNat ++ le 4 c.tiles.carBus.toNat ++ le 2 c.tiles.can.toNat ++
      le 2 c.tiles.check.toNat ++ zeros 4))

/-! Events of the backbone and the roll-call. -/

/-- HOLDOFF_EXPIRY, START_RX, START_OUTER_TIMEOUT, COUNT_RX and FIRST_START_TIMEOUT (R68, R77, R78, R92): how a wave starts, spreads and ends at an outer end. -/
def Obligations.WaveEvents : Prop :=
  Acts .holdoffExpiry (fun c => c.rc.state = .holdoff) (fun c => (c.onRc fun r => { r with nonce := next32 c.rc.nonce }).joinWave
    { origin := c.fuses.identity, nonce := next32 c.rc.nonce, startValid := c.timeValid, start := c.trainTime, domain := c.domain, est := c.clk.now } none 0) ∧
  (∀ p raw m, Acts (.startRx · p raw) (Ready.rc p 3 raw.outer raw.bytes m fun c => (Ready.atRest c ∨ c.rc.state = .holdoff)) (Ready.rcThen p raw.outer raw.bytes m fun c =>
    c.joinWave (c.readWave p m) (some (p / 2)) (min 255 (m.hop + 1)))) ∧
  (∀ p raw m, Acts (.startRx · p raw) (Ready.rc p 3 raw.outer raw.bytes m fun c => Ready.running c ∧ Ready.ofRun m c) (Ready.rcThen p raw.outer raw.bytes m fun c =>
    c.onRc fun r => { r with ends := updAt r.ends (p / 2) fun x => { x with startSeen := true } })) ∧
  (∀ p raw m, Acts (.startRx · p raw) (Ready.rc p 3 raw.outer raw.bytes m fun c => Ready.running c ∧ ¬Ready.ofRun m c ∧
      c.joinsWave (p / 2) (c.readWave p m) m = true) (Ready.rcThen p raw.outer raw.bytes m fun c => c.joinWave (c.readWave p m) (some (p / 2)) (min 255 (m.hop + 1)))) ∧
  (∀ p raw m, Acts (.startRx · p raw) (Ready.rc p 3 raw.outer raw.bytes m fun c => Ready.running c ∧ ¬Ready.ofRun m c ∧
      c.joinsWave (p / 2) (c.readWave p m) m = false) (Ready.rcThen p raw.outer raw.bytes m fun c => c)) ∧
  (∀ p raw m, Acts (.startRx · p raw) (Ready.rc p 3 raw.outer raw.bytes m fun c => c.rc.state = .armed ∧ ¬Ready.ofRun m c) (Ready.rcThen p raw.outer raw.bytes m fun c =>
    c.onRc fun r => { r with heldTrigger := true })) ∧
  (∀ e, Acts (.startOuterTimeout · e) (fun c => c.rc.state = .wave ∧ e < 2 ∧ (c.rc.ends.getD e {}).startSeen = false) (fun c => c.outerEnd e)) ∧
  (∀ p raw m, Acts (.countRx · p raw) (Ready.rc p 4 raw.outer raw.bytes m fun c => c.rc.state = .wave ∧ Ready.ofRun m c) (Ready.rcThen p raw.outer raw.bytes m fun c =>
    let k := c.readCount p m
    let c1 := c.onRc fun r => { r with ends := updAt r.ends (p / 2) fun x => { x with count := some k, startSeen := true } }
    (if (c1.rc.ends.getD (1 - p / 2) {}).outer then c1
     else c1.sendRc (1 - p / 2) { c1.rcRun 4 (c1.countBody (k.count + 1) (c1.ownKey.best k.key) k.endIdentity (bestClaim c1.ownClaim k.cab)) with
        hop := min 255 (m.hop + 1), age := sat32 (m.age + c.linkDelay p + c.stay 10000) }).know)) ∧
  Acts .firstStartTimeout (fun c => c.rc.state = .uninaugurated ∧ c.clove.state ≠ .prepare ∧ c.rc.barredUntil ≤ c.clk.now) (fun c =>
    (c.onRc fun r => { r with triggers := r.triggers + 1 }).toHoldoff)

/-- REPORT_RX, REPORT_WAIT_TIMEOUT, COMPOSITION_COMPLETE, ANNOUNCE_RX and RUN_WATCHDOG_EXPIRY (R82–R89): a node other than the leader passes a REPORT on; the
leader collects them, composes, announces and is ARMED with the snapshot composed; a node that takes the ANNOUNCE is ARMED without one; a run that
does not end in time is given up. -/
def Obligations.ComposeEvents : Prop :=
  (∀ p src raw m f e, Acts (.reportRx · p src raw) (Ready.rc p 5 src raw m fun c => Ready.ofRun m c ∧ c.rc.facts = some f ∧ f.towards = some e) (Ready.rcThen p src raw m fun c =>
    c.relayRc p src e (c.rcForward p m))) ∧
  (∀ p src raw m f, Acts (.reportRx · p src raw) (Ready.rc p 5 src raw m fun c => Ready.ofRun m c ∧ c.rc.facts = some f ∧ f.towards = none ∧
      c.rc.state = .composing ∧ 1 ≤ (readReport src.source m).index ∧ (readReport src.source m).index ≤ f.n) (Ready.rcThen p src raw m fun c =>
    c.onRc fun x => { x with reports := x.reports.filter (fun y => y.index != (readReport src.source m).index) ++ [readReport src.source m] })) ∧
  Acts .reportWaitTimeout (fun c => c.rc.state = .composing ∧ c.reportsComplete = false) (fun c => ((c.unjoinEpoch.rcCount rcAbandoned).raise 10).toHoldoff) ∧
  (∀ f t s, (s.chip.tick t).mainDie = true → (s.chip.tick t).rc.state = .composing → (s.chip.tick t).reportsComplete = true → (s.chip.tick t).rc.facts = some f →
    ∃ X a sn, Leaves (.compositionComplete t) t s X ∧ X.rc.state = .armed ∧ X.rc.announce = some a ∧ X.rc.composed = some sn ∧ a.nodeCount = f.n ∧ a.leader = f.leader ∧
      a.lead = Ready.leadAt (s.chip.tick t) f.n ∧ a.newGeneration = sn.generation ∧ a.newEpoch = sn.epoch ∧ a.size = sn.totalSize ∧ a.check = sn.check ∧
      (a.noSwitch = true → a.newEpoch = (s.chip.tick t).epoch ∧ a.quarantine = false)) ∧
  (∀ p raw m f t s, (s.chip.tick t).mainDie = true → Ready.rc p 6 raw.outer raw.bytes m (fun c => Ready.ofRun m c ∧
      c.rc.state = .reported ∧ c.rc.facts = some f ∧ raw.outer.source = f.leader) (s.chip.tick t) →
    ∃ X a, Leaves (.announceRx t p raw) t s X ∧ X.rc.state = .armed ∧ X.rc.announce = some a ∧ X.rc.composed = none ∧ a.newEpoch = bAt m.body 0 4 ∧
      a.newGeneration = bAt m.body 4 4 ∧ a.switchInstant = bAt m.body 8 8 ∧ a.lead = bAt m.body 0x10 4 ∧ a.leader = f.leader ∧ a.size = bAt m.body 0x1C 4 ∧ a.check = bAt m.body 0x20 4) ∧
  Acts .runWatchdogExpiry Ready.running (fun c => ((c.unjoinEpoch.rcCount rcAbandoned).raise 10).toHoldoff) ∧
  Acts .runWatchdogExpiry (fun c => Ready.atRest c ∨ c.rc.state = .stopped ∨ c.rc.state = .holdoff ∨ c.rc.state = .armed) id

/-- DIRSEG_RX, SEGREQ_DEADLINE, SEGREQ_RX, SNAPSHOT_INCOMPLETE_DEADLINE, EPOCH_SWITCH and SNAPSHOT_EFFECTIVE (R54, R87, R88) complete: the segments of a run, and the
instant at which its snapshot comes into force with the epoch and the leader's lease or, where it is not held, the run is given up. -/
def Obligations.SwitchEvents : Prop :=
  (∀ p src raw m a, Acts (.dirsegRx · p src raw) (Ready.rc p 7 src raw m fun c => c.rc.state = .armed ∧ c.rc.announce = some a ∧ c.rc.composed = none ∧
      c.rc.incomplete = false ∧ bAt m.body 0 4 = a.newGeneration ∧ src.source = a.leader) (Ready.rcThen p src raw m fun c =>
    let segs := c.rc.segments.filter (fun s => s.1 != bAt m.body 4 2) ++ [(bAt m.body 4 2, m.body.drop 12)]
    (c.relayRc p src (1 - p / 2) (c.rcForward p m)).onRc fun r => { r with
      segments := segs, segmentCount := bAt m.body 6 2
      composed := (joinSegments segs (bAt m.body 6 2)).bind fun x => if x.length = a.size ∧ u32 x 0x3C = a.check then Snapshot.parse x else none })) ∧
  (∀ a f first rest e, Acts .segreqDeadline (fun c => c.rc.state = .armed ∧ c.rc.announce = some a ∧ c.rc.composed = none ∧ c.rc.facts = some f ∧ f.towards = some e ∧
      ((List.range (ceilDiv a.size 1024)).filter fun i => !(c.rc.segments.any fun s => s.1 == i)) = first :: rest) (fun c =>
    c.sendRc e (c.rcRun 8 (be 4 a.newGeneration ++ be 2 first ++ be 2 (((first :: rest).getLast?).getD first - first + 1))))) ∧
  (∀ p src raw m f sn a, Acts (.segreqRx · p src raw) (Ready.rc p 8 src raw m fun c => c.rc.facts = some f ∧ f.towards = none ∧ c.rc.composed = some sn ∧
      c.rc.announce = some a ∧ c.rc.state = .armed ∧ bAt m.body 0 4 = a.newGeneration) (Ready.rcThen p src raw m fun c =>
    c.sendSegments true sn (bAt m.body 4 2) (bAt m.body 6 2))) ∧
  (∀ p src raw m f e, Acts (.segreqRx · p src raw) (Ready.rc p 8 src raw m fun c => c.rc.facts = some f ∧ f.towards = some e) (Ready.rcThen p src raw m fun c =>
    c.relayRc p src e (c.rcForward p m))) ∧
  (∀ p src raw m a, Acts (.dirsegRx · p src raw) (Ready.rc p 7 src raw m fun c => c.rc.state = .armed ∧ c.rc.announce = some a ∧
      (bAt m.body 0 4 ≠ a.newGeneration ∨ (src.source = a.leader ∧ (c.rc.composed.isSome = true ∨ c.rc.incomplete = true)))) (Ready.rcThen p src raw m fun c =>
    c.relayRc p src (1 - p / 2) (c.rcForward p m))) ∧
  (∀ p src raw m a, Acts (.dirsegRx · p src raw) (Ready.rc p 7 src raw m fun c => c.rc.state = .armed ∧ c.rc.announce = some a ∧
      bAt m.body 0 4 = a.newGeneration ∧ src.source ≠ a.leader) (Ready.rcThen p src raw m fun c => c)) ∧
  (∀ p src raw m sn, Acts (.dirsegRx · p src raw) (Ready.rc p 7 src raw m fun c => c.rc.state ≠ .armed ∧
      (joinSegments ((Ready.gathered c m).map fun x => (x.2.1, x.2.2.2)) (bAt m.body 6 2)).bind Snapshot.parse = sn) (Ready.rcThen p src raw m fun c =>
    let d := c.relayRc p src (1 - p / 2) (c.rcForward p m)
    match sn with
    | some s => (d.onDir fun x => { x with collecting := [] }).offerSnapshot src.source (c.linkDelay p + m.age) s
    | none => d.onDir fun x => { x with collecting := Ready.gathered c m })) ∧
  Acts .segreqDeadline (fun c => c.rc.state ≠ .armed ∨ c.rc.announce = none ∨ c.rc.composed.isSome = true ∨ c.rc.facts = none) id ∧
  Acts .snapshotIncompleteDeadline (fun c => c.rc.state ≠ .armed ∨ c.rc.composed.isSome = true ∨ c.rc.incomplete = true) id ∧
  Acts .snapshotIncompleteDeadline (fun c => c.rc.state = .armed ∧ c.rc.composed = none ∧ c.rc.incomplete = false) (fun c =>
    ((c.onRc fun r => { r with incomplete := true }).rcCount rcAbandoned).raise 10) ∧
  (∀ a, Acts .epochSwitch (fun c => c.rc.state = .armed ∧ c.rc.announce = some a ∧ c.rc.composed = none ∧ c.rc.incomplete = true) (fun c => c.unjoinEpoch.toHoldoff)) ∧
  (∀ a, Acts .epochSwitch (fun c => c.rc.state = .armed ∧ c.rc.announce = some a ∧ c.rc.composed = none ∧ c.rc.incomplete = false) (fun c =>
    ((c.rcCount rcAbandoned).raise 10).unjoinEpoch.toHoldoff)) ∧
  Acts .epochSwitch (fun c => c.rc.state ≠ .armed) id ∧
  (∀ a sn t s, (s.chip.tick t).mainDie = true → (s.chip.tick t).rc.state = .armed → (s.chip.tick t).rc.announce = some a →
    (s.chip.tick t).rc.composed = some sn → (s.chip.tick t).rc.heldTrigger = false → a.noSwitch = false →
    a.leader ≠ (s.chip.tick t).fuses.identity → ∃ X l, Leaves (.epochSwitch t) t s X ∧ X.rc.state = .settled ∧ X.dir.inForce = some sn ∧ X.dir.coming = [] ∧ X.dir.bridging = [] ∧
      X.dir.vehicle = (s.chip.tick t).dir.vehicle.switch ∧ X.bb.image = ((s.chip.tick t).bb.switchImage).image ∧
      X.bb.leaderLease = some l ∧ l.holder = a.leader ∧ l.epoch = sn.epoch) ∧
  (∀ a sn t s, (s.chip.tick t).mainDie = true → (s.chip.tick t).rc.state = .armed → (s.chip.tick t).rc.announce = some a →
    (s.chip.tick t).rc.composed = some sn → (s.chip.tick t).rc.heldTrigger = false →
    ∃ X, Leaves (.epochSwitch t) t s X ∧ X.rc.deputies = a.deputies ∧ X.rc.announce = none ∧ X.rc.composed = none ∧ X.rc.state = .settled ∧
      (a.noSwitch = true → X.dir.inForce = some sn)) ∧
  (∀ sn rest, Acts .snapshotEffective (fun c => c.dir.coming = sn :: rest ∧ (sn.effective ≤ c.trainTime ∨ c.timeValid = false)) (fun c =>
    ((c.onDir fun d => { d with coming := rest }).putInForce sn).joinTrain sn)) ∧
  (∀ sn rest, Acts .snapshotEffective (fun c => c.dir.coming = sn :: rest ∧ c.trainTime < sn.effective ∧ c.timeValid = true) id)

/-- NOTICE_RX, BRIDGE_TIMEOUT, BEACON_TIMER, BEACON_RX, BEACON_MISSING_HELD and LEADER_LOST_TIMEOUT (R48, R54, R71, R97, R98). A NOTICE that reaches the recorded leader
before it may act waits (log 48). -/
def Obligations.LeaderEvents : Prop :=
  (∀ p src raw m, Acts (.noticeRx · p src raw) (Ready.rc p 10 src raw m fun c => c.recordedLeader = true ∧
      (c.onBb fun b => { b with evidence := Ready.leaderGone c m || b.evidence }).actsAsLeader = true) (Ready.rcThen p src raw m fun c =>
    (c.onBb fun b => { b with evidence := Ready.leaderGone c m || b.evidence }).applyNotice src.source (u8 m.body 0) (u8 m.body 1) (u8 m.body 2)
      (bAt m.body 4 8) (bAt m.body 12 4))) ∧
  (∀ p src raw m, Acts (.noticeRx · p src raw) (Ready.rc p 10 src raw m fun c => c.recordedLeader = true ∧
      (c.onBb fun b => { b with evidence := Ready.leaderGone c m || b.evidence }).actsAsLeader = false) (Ready.rcThen p src raw m fun c =>
    (c.onBb fun b => { b with evidence := Ready.leaderGone c m || b.evidence }).onRc fun r => { r with notices := r.notices ++
      [{ reporter := src.source, kind := u8 m.body 0, e := u8 m.body 1, lines := u8 m.body 2, peer := bAt m.body 4 8, delay := bAt m.body 12 4 }] })) ∧
  (∀ p src raw m, Acts (.noticeRx · p src raw) (Ready.rc p 10 src raw m fun c => c.recordedLeader = false) (Ready.rcThen p src raw m fun c =>
    let c1 := c.onBb fun b => { b with evidence := Ready.leaderGone c m || b.evidence }
    c1.relayRc p src (1 - p / 2) (c1.rcForward p m))) ∧
  (∀ num e at0 sn n, Acts (.bridgeTimeout · num) (fun c => c.actsAsLeader = true ∧ (c.dir.bridging.find? fun x => x.1 == num) = some (num, e, at0) ∧ c.newest = some sn ∧
      sn.nextLive (decide (sn.leaderNode < num)) sn.nodes.length num = some n ∧ (sn.node n.number).any (·.unreachable) = false ∧
      (sn.node num).any (·.dark) = true) (fun c =>
    (c.onDir fun d => { d with bridging := d.bridging.filter fun x => x.1 != num }).issue fun _ s =>
      Snapshot.resegment { s with nodes := s.nodes.map fun (x : NodeEntry) =>
        if (if decide (sn.leaderNode < num) then decide (n.number ≤ x.number) else decide (x.number ≤ n.number)) then { x with unreachable := true } else x })) ∧
  Acts .beaconTimer (fun c => c.rolling = true ∧ c.actsAsLeader = true) (fun c => (c.sendRc 0 (c.rcPlain 9 c.beaconBody)).sendRc 1 (c.rcPlain 9 c.beaconBody)) ∧
  Acts .beaconTimer (fun c => c.rolling = false ∨ c.actsAsLeader = false) id ∧
  (∀ p src raw m, Acts (.beaconRx · p src raw) (Ready.rc p 9 src raw m fun c => bAt m.body 0 4 = c.epoch ∧ src.source = bAt m.body 8 8 ∧
      c.fromHolder (bAt m.body 8 8) (c.linkDelay p + m.age) = true ∧ c.recordedLeader = false) (Ready.rcThen p src raw m fun c =>
    let c1 := (c.onBb fun b => { b with evidence := b.evidence && !Ready.settles c m }).onRc fun r => { r with lastBeacon := c.clk.now, deputies := (List.range 4).map fun i => bAt m.body (16 + 8 * i) 8 }
    let c2 := if c.rc.state = .held then c1.setRc .settled else c1
    c2.relayRc p src (1 - p / 2) (c2.rcForward p m))) ∧
  (∀ p src raw m, Acts (.beaconRx · p src raw) (Ready.rc p 9 src raw m fun c => bAt m.body 0 4 ≠ c.epoch) (Ready.rcThen p src raw m fun c => c)) ∧
  Acts .beaconMissingHeld (fun c => c.rc.state = .settled ∧ c.recordedLeader = false) (fun c => ((c.rcCount rcBeaconLosses).onRc fun r => { r with state := .held }).raise 13) ∧
  Acts .leaderLostTimeout (fun c => c.rc.state = .held ∧ c.clove.state ≠ .prepare ∧ c.rc.barredUntil ≤ c.clk.now) (fun c =>
    (((c.onRc fun r => { r with triggers := r.triggers + 1 }).onRc fun r => { r with triggerAt := c.clk.now, heldTrigger := false }).onRc fun r => { r with state := .holdoff }).raise 13)

/-- PROBE_RX, PROBE_REPLY_RX, PROBE_REPLY_TIMEOUT, COUPLER_SENSE_CHANGE, COUPLER_DISAGREE_TIMEOUT and DEPUTY_TAKEOVER (R46, R66–R69, R98, R136). -/
def Obligations.NeighbourEvents : Prop :=
  (∀ p raw m, Acts (.probeRx · p raw) (Ready.rc p 1 raw.outer raw.bytes m fun _ => True) (Ready.rcThen p raw.outer raw.bytes m fun c =>
    (c.sendRc (p / 2) (c.rcPlain 2 c.probeBody)).neighbourState (p / 2) (u8 m.body 6))) ∧
  (∀ p raw m, Acts (.probeReplyRx · p raw) (Ready.rc p 2 raw.outer raw.bytes m fun c => c.rc.probing.getD (p / 2) false = false) (Ready.rcThen p raw.outer raw.bytes m fun c => c)) ∧
  (∀ p raw m, Acts (.probeReplyRx · p raw) (Ready.rc p 2 raw.outer raw.bytes m fun c => c.rc.probing.getD (p / 2) false = true ∧ c.rc.state = .uninaugurated) (Ready.rcThen p raw.outer raw.bytes m fun c =>
    (c.onRc fun r => { r with probing := updAt r.probing (p / 2) fun _ => false }).neighbourState (p / 2) (u8 m.body 6))) ∧
  (∀ p raw m n, Acts (.probeReplyRx · p raw) (Ready.rc p 2 raw.outer raw.bytes m fun c => c.rc.probing.getD (p / 2) false = true ∧
      (c.rc.state = .settled ∨ c.rc.state = .held) ∧ c.nextAlong (p / 2) true = some n ∧ n.identity = m.sender ∧ m.epoch = c.epoch) (Ready.rcThen p raw.outer raw.bytes m fun c =>
    (c.onRc fun r => { r with probing := updAt r.probing (p / 2) fun _ => false }).notice 2 (p / 2) m.sender)) ∧
  (∀ p raw m, Acts (.probeReplyRx · p raw) (Ready.rc p 2 raw.outer raw.bytes m fun c => c.rc.probing.getD (p / 2) false = true ∧
      (c.rc.state = .settled ∨ c.rc.state = .held) ∧ c.nextAlong (p / 2) true = none ∧ c.nextAlong (p / 2) false = none) (Ready.rcThen p raw.outer raw.bytes m fun c =>
    (c.onRc fun r => { r with probing := updAt r.probing (p / 2) fun _ => false }).trigger (some (p / 2)))) ∧
  (∀ e, Acts (.probeReplyTimeout · e) (fun _ => True) (fun c => c.onRc fun r => { r with probing := updAt r.probing e fun _ => false })) ∧
  (∀ e high, Acts (.couplerSenseChange · e high) (fun c => e < 2 ∧ c.rolling = false) (fun c => c.onRc fun r => { r with couplers := updAt r.couplers e fun _ => high })) ∧
  (∀ e high, Acts (.couplerSenseChange · e high) (fun c => e < 2 ∧ c.rolling = true ∧ c.endUp e = true ∧
      (c.onRc fun r => { r with couplers := updAt r.couplers e fun _ => high }).coupled e = some false) (fun c =>
    (c.onRc fun r => { r with couplers := updAt r.couplers e fun _ => high }).raisePort 15 (2 * e))) ∧
  (∀ e, Acts (.couplerDisagreeTimeout · e) (fun c => c.rolling = true ∧ e < 2 ∧ c.coupled e = some true ∧ c.endUp e = false) (fun c => c.raisePort 15 (2 * e))) ∧
  (∀ l t s, (s.chip.tick t).mainDie = true → (s.chip.tick t).rolling = true → 0 < (s.chip.tick t).deputyRank → (s.chip.tick t).bb.evidence = true →
    (s.chip.tick t).bb.leaderLease = some l → l.holder ≠ (s.chip.tick t).fuses.identity → l.epoch = (s.chip.tick t).epoch →
    l.expiry + (s.chip.tick t).margin l.timed + ((s.chip.tick t).deputyRank - 1) * 20000000 ≤ (s.chip.tick t).leaseNow l →
    ∃ X l', Leaves (.deputyTakeover t) t s X ∧ X.bb.leaderLease = some l' ∧ l'.holder = (s.chip.tick t).fuses.identity ∧ l'.expiry = l'.start + 100000000 ∧
      X.bb.evidence = false ∧ X.rc.state ≠ .held)

/-- PHY_LINK_LOSS, LINK_RX_TIMEOUT, LINK_PROVISIONAL, LINK_IDLE_TIMER, PREEMPT_VERIFY_COMPLETE, FALLBACK_RETURN_TIMER and LINE_RENAME_TIMER (R112–R116, R122). -/
def Obligations.LinkEvents : Prop :=
  (∀ p, Acts (.phyLinkLoss · p) (fun _ => True) (fun c => (c.linkDown p).onPort p fun q => { q with phyUp := false })) ∧
  (∀ p, Acts (.linkRxTimeout · p) (fun c => (c.bb.port p).link ≠ .down) (fun c => c.linkDown p)) ∧
  (∀ p, Acts (.linkRxTimeout · p) (fun c => (c.bb.port p).link = .down) id) ∧
  (∀ p, Acts (.linkProvisional · p) (fun c => c.rolling = true ∧ p < 4 ∧ (c.bb.port p).link = .down ∧ c.tiles.portSound p = true) (fun c =>
    (c.onPort p fun q => { q with phyUp := true, link := .provisional, lastRx := c.clk.now, recent := [] }).onTime fun s => { s with
      tiles := updAt s.tiles p fun h => { h with inBurst := true, burstCount := 0, burstAccepted := 0, outliers := 0, burstAt := c.clk.now } })) ∧
  (∀ p o, Acts (.linkIdleTimer · p) (fun c => c.rolling = true ∧ p < 4 ∧ c.tiles.portSound p = true ∧ c.originate { type := 8, tc := 3 } = some o) (fun _ => o.2.sendOn p o.1)) ∧
  (∀ p, Acts (.linkIdleTimer · p) (fun c => c.rolling = true ∧ p < 4 ∧ c.tiles.portSound p = true ∧ c.originate { type := 8, tc := 3 } = none) id) ∧
  (∀ p ok, Acts (.preemptVerifyComplete · p ok) (fun c => p < 4 ∧ ¬(ok = true ∧ (c.bb.port p).verified = true)) (fun c =>
    (c.onPort p fun q => { q with preempt := ok && u8 c.bb.config 2 == 1, verified := ok }).raisePort 19 p)) ∧
  (∀ p ok, Acts (.preemptVerifyComplete · p ok) (fun c => p < 4 ∧ ok = true ∧ (c.bb.port p).verified = true) (fun c =>
    c.onPort p fun q => { q with preempt := ok && u8 c.bb.config 2 == 1, verified := ok })) ∧
  (∀ e, Acts (.fallbackReturnTimer · e) (fun c => e < 2 ∧ (c.bb.ends.getD e {}).fallback = true ∧ (c.bb.port (2 * e + c.namedLine)).link = .up ∧
      (c.bb.port (2 * e + c.namedLine)).upSince + 1000000000 ≤ c.clk.now ∧ (c.bb.ends.getD e {}).egress ≠ c.namedLine) (fun c =>
    ((c.moveEgress e (c.bb.ends.getD e {}).egress c.namedLine).onBb fun b => { b with
      ends := updAt b.ends e fun y => { y with egress := c.namedLine, fallback := false } }).raisePort 18 (2 * e))) ∧
  (∀ seg sn g, Acts (.lineRenameTimer · seg) (fun c => c.actsAsLeader = true ∧ c.newest = some sn ∧ sn.segmentOf seg = some g ∧ sn.lineDown g g.line = true ∧
      sn.lineDown g (1 - g.line) = false) (fun c =>
    c.issue fun _ s => { s with segments := s.segments.map fun x => if x.number = seg then { x with line := 1 - x.line } else x }))

/-- TDREQ_RX, TDRESP_RX, DELAY_REQUEST_TIMER, DELAY_BURST_END, DELAY_SAMPLE_TIMEOUT and LATENCY_TEMP_CORRECTION (R151, R152, R161): a sample is half of the
time from request to response that the peer did not spend. -/
def Obligations.DelayEvents : Prop :=
  (∀ p raw, Acts (.tdreqRx · p raw) (fun c => c.hopRuns p = true ∧ raw.length = 16 ∧ isZero (raw.drop 4) = true) (fun c =>
    c.sendTime p 3 (raw.take 4 ++ zeros 4 ++ be 8 (c.stay 20000000 + c.heldFor p * 1000)))) ∧
  (∀ p raw, Acts (.tdreqRx · p raw) (fun c => c.hopRuns p = true ∧ ¬(raw.length = 16 ∧ isZero (raw.drop 4) = true)) (fun c => c.tmCount tmSyncDiscarded)) ∧
  (∀ p ps raw id t1, Acts (.tdrespRx · p ps raw) (fun c => c.hopRuns p = true ∧ raw.length = 16 ∧ isZero (slice raw 4 4) = true ∧
      (c.time.tile p).outstanding = some (id, t1) ∧ bAt raw 0 4 = id ∧ c.arrival p ps ≤ t1 + 100000000 ∧ (c.time.tile p).samples = [] ∧ (c.time.tile p).inBurst = true) (fun c =>
    (c.onTile p fun h => { h with outstanding := none, outliers := 0, samples := [((c.arrival p ps - t1 - bAt raw 8 8) / 2).toNat], burstAccepted := h.burstAccepted + 1 }).tmCount
      tmDelaySamples)) ∧
  (∀ p ps raw, Acts (.tdrespRx · p ps raw) (fun c => c.hopRuns p = true ∧ raw.length = 16 ∧ isZero (slice raw 4 4) = true ∧ (c.time.tile p).outstanding = none) id) ∧
  (∀ p, Acts (.delayRequestTimer · p) (fun c => c.hopRuns p = true ∧ (c.time.tile p).inBurst = true ∧ (c.time.tile p).burstCount < 8) (fun c =>
    (c.onTile p fun h => { h with
      nextReq := (h.nextReq + 1) % 4294967296, outstanding := some ((c.time.tile p).nextReq, c.departure p), burstCount := if h.inBurst then h.burstCount + 1 else h.burstCount }).sendTime
      p 2 (be 4 (c.time.tile p).nextReq ++ zeros 12))) ∧
  (∀ p, Acts (.delayRequestTimer · p) (fun c => c.hopRuns p = true ∧ (c.time.tile p).inBurst = false ∧ (c.time.tile p).valid = true ∧
      ((c.bb.port p).link = .up ∨ c.clk.now < (c.time.tile p).burstAt + 1000000000)) (fun c =>
    (c.onTile p fun h => { h with
      nextReq := (h.nextReq + 1) % 4294967296, outstanding := some ((c.time.tile p).nextReq, c.departure p), burstCount := if h.inBurst then h.burstCount + 1 else h.burstCount }).sendTime
      p 2 (be 4 (c.time.tile p).nextReq ++ zeros 12))) ∧
  (∀ p, Acts (.delayBurstEnd · p) (fun c => c.hopRuns p = true ∧ (c.time.tile p).inBurst = true ∧ (c.time.tile p).burstAccepted < 4) (fun c =>
    (c.onTile p fun h => { h with inBurst := false, valid := false }).raise 37)) ∧
  (∀ p, Acts (.delayBurstEnd · p) (fun c => c.hopRuns p = true ∧ (c.time.tile p).inBurst = true ∧ 4 ≤ (c.time.tile p).burstAccepted) (fun c =>
    (c.onTile p fun h => { h with inBurst := false, valid := true }).reportDelay p)) ∧
  (∀ p, Acts (.delaySampleTimeout · p) (fun c => (c.time.tile p).outstanding.isSome = true) (fun c => (c.onTile p fun h => { h with outstanding := none }).tmCount tmDelayMissing)) ∧
  (∀ p tx rx, Acts (.latencyTempCorrection · p tx rx) (fun _ => True) (fun c => c.onTile p fun h => { h with txCorrection := tx, rxCorrection := rx }))

/-- TSYNC_RX, TSYNC_GM_TIMER, TSYNC_LOSS_TIMEOUT, HOLDOVER_TSYNC_TIMER, HOLDOVER_LIMIT_EXCEEDED and SAFFRON_INTERNAL_TICK (R150, R153–R163, R173). -/
def Obligations.TimeTreeEvents : Prop :=
  (∀ p ps raw m, Acts (.tsyncRx · p ps raw) (fun c => c.rolling = true ∧ c.bb.isUp p = true ∧ c.tiles.saffron.getLsbD p = false ∧ Tsync.parse raw = some m ∧
      c.takesTsync p m = false) (fun c => c.tmCount tmSyncDiscarded)) ∧
  (∀ p ps raw m, Acts (.tsyncRx · p ps raw) (fun c => c.rolling = true ∧ c.bb.isUp p = true ∧ c.tiles.saffron.getLsbD p = false ∧ Tsync.parse raw = some m ∧
      c.takesTsync p m = true ∧ c.usesCopy p = true) (fun c =>
    let theta : Int := m.origin * 1000 + m.ps + (c.time.tile p).delay - (c.trainPs + ps - c.rxLatency p)
    let c1 := Ready.accepted p theta c
    (c1.followTsync p theta (c1.arrival p ps).toNat m).sendTsync (1 - p / 2))) ∧
  (∀ p ps raw m, Acts (.tsyncRx · p ps raw) (fun c => c.rolling = true ∧ c.bb.isUp p = true ∧ c.tiles.saffron.getLsbD p = false ∧ Tsync.parse raw = some m ∧
      c.takesTsync p m = true ∧ c.usesCopy p = false) (fun c =>
    Ready.accepted p (m.origin * 1000 + m.ps + (c.time.tile p).delay - (c.trainPs + ps - c.rxLatency p)) c)) ∧
  Acts .tsyncGmTimer (fun c => c.rolling = true ∧ c.time.state = .grandmaster) (fun c => (c.sendTsync 0).sendTsync 1) ∧
  Acts .holdoverTsyncTimer (fun c => c.rolling = true ∧ c.time.state = .holdover) (fun c => c.sendTsync (1 - c.parentEnd)) ∧
  Acts .tsyncLossTimeout (fun c => c.time.state = .locked) (fun c => c.toHoldover c.errorBound) ∧
  (∀ t s, (s.chip.tick t).mainDie = true → (s.chip.tick t).time.state = .locked →
    ∃ X, Leaves (.tsyncLossTimeout t) t s X ∧ X.time.state = .holdover ∧ X.time.holdE0 = (s.chip.tick t).errorBound ∧ X.time.holdSince = max s.chip.clk.now t ∧
      X.time.rate = (s.chip.tick t).time.rate ∧ X.time.slewAdd = 0) ∧
  (∀ t s, (s.chip.tick t).mainDie = true → (s.chip.tick t).time.state = .holdover →
    u32 (s.chip.tick t).time.config 4 * 1000 < (s.chip.tick t).errorBound →
    ∃ X, Leaves (.holdoverLimitExceeded t) t s X ∧ X.time.state = .free ∧ X.time.domain = 0 ∧ X.time.stepsRemoved = 0xFFFF) ∧
  Acts .saffronInternalTick (fun c => (c.trainTime + 125000) / 250000 % 4 = 0 ∧ (c.time.state = .grandmaster ∨ (c.clk.now < c.time.lastAccept + 1000000 ∧ c.clk.now < c.time.heard + 1000000))) (fun c =>
    c.onTime fun s => { s with ceps := s.ceps.map fun p => { p with config := p.config.tick c.trainTime } })

/-- TREF_IN_PULSE, TREF_IN_MISSING, TREF_OUT_PULSE and CEP_FIRE (R166–R172). -/
def Obligations.ReferenceEvents : Prop :=
  (∀ ps, Acts (.trefInPulse · ps) (fun c => u8 c.time.config 1 = 0) id) ∧
  (∀ ps l, Acts (.trefInPulse · ps) (fun c => u8 c.time.config 1 ≠ 0 ∧ c.time.refLast = some l ∧ ¬(l + 999900000 ≤ c.clk.now ∧ c.clk.now ≤ l + 1000100000)) (fun c =>
    (c.refJudge false).tmCount tmPpsRejected)) ∧
  (∀ ps, Acts (.trefInPulse · ps) (fun c => u8 c.time.config 1 ≠ 0 ∧ c.time.refLast = none ∧ c.time.refLocked = false ∧ c.time.refGood = 0 ∧ c.time.todWaiting = none ∧
      c.time.state ≠ .grandmaster) (fun c =>
    ((c.onTime fun s => { s with refLast := some c.clk.now, refGood := 1, refBad := 0 }).tmCount tmPpsAccepted).onTime fun s => { s with taiSeconds := c.time.taiSeconds.map (· + 1) })) ∧
  Acts .trefInMissing (fun c => u8 c.time.config 1 ≠ 0) (fun c => c.refJudge false) ∧
  Acts .trefInMissing (fun c => u8 c.time.config 1 = 0) id ∧
  Acts .trefOutPulse (fun c => u8 c.time.config 2 = 1 ∧ c.timeValid = true) (fun c => c.emit (.pulse 15 1000000)) ∧
  Acts .trefOutPulse (fun c => u8 c.time.config 2 ≠ 1 ∨ c.timeValid = false) id ∧
  (∀ n, Acts (.cepFire · n) (fun c => n < 16 ∧ u8 (c.time.ceps.getD n {}).config.cur 0 = 1 ∧ (∀ q ∈ c.time.ceps, ∀ t, q.lastFired = some t → t ≤ c.trainTime) ∧
      (∀ t, (c.time.ceps.getD n {}).lastFired = some t → t < c.trainTime)) (fun c =>
    let g := (c.time.ceps.getD n {}).config.cur
    let x := c.onTime fun s => { s with ceps := updAt s.ceps n fun p => { p with lastFired := some c.trainTime } }
    let x := if (u8 g 2).testBit 0 then (x.onTime fun s => { s with hitMask := s.hitMask ||| (1#16 <<< n) }).raise 39 else x
    if (u8 g 2).testBit 1 && !x.pinTaken (u8 g 3) then x.emit (.pulse (u8 g 3) (u32 g 8)) else x)) ∧
  (∀ n, Acts (.cepFire · n) (fun c => u8 (c.time.ceps.getD n {}).config.cur 0 ≠ 1) id)

/-- LEASE_RX, LEADER_LEASE_RENEW, LEASE_EXPIRY and GATEWAY_REQUEST_TIMER (R132–R138). The margin of R133 comes first; rounding the bound E, held in picoseconds, up
to whole nanoseconds is the model's choice (log 36). -/
def Obligations.LeaseEvents : Prop :=
  (∀ c : Chip, c.margin true = ceilDiv c.errorBound 1000 + 1000 ∧ (c.errorBound = 2000 → c.margin true = 1002) ∧ c.margin false = 100000) ∧
  (∀ p raw m, Acts (.leaseRx · p raw) (fun c => Ready.leaseIn p raw m c ∧ m.role ≠ 3 ∧ m.request = false ∧
      (Ready.leaseCopy p raw (c.relayLease p raw.outer m)).1 = true) (fun c => (Ready.leaseCopy p raw (c.relayLease p raw.outer m)).2.takeLease p m)) ∧
  (∀ p raw m, Acts (.leaseRx · p raw) (fun c => Ready.leaseIn p raw m c ∧ m.role ≠ 3 ∧ m.request = false ∧
      (Ready.leaseCopy p raw (c.relayLease p raw.outer m)).1 = false) (fun c => (Ready.leaseCopy p raw (c.relayLease p raw.outer m)).2)) ∧
  (∀ p raw m, Acts (.leaseRx · p raw) (fun c => Ready.leaseIn p raw m c ∧ m.role ≠ 3 ∧ m.request = true ∧ c.recordedLeader = false) (fun c =>
    c.relayLease p raw.outer m)) ∧
  (∀ p raw m, Acts (.leaseRx · p raw) (fun c => Ready.leaseIn p raw m c ∧ m.role ≠ 3 ∧ m.request = true ∧ c.recordedLeader = true ∧ m.epoch = c.epoch ∧
      (Ready.leaseCopy p raw c).1 = true) (fun c => (Ready.leaseCopy p raw c).2.gatewayRequest m)) ∧
  (∀ p raw, Acts (.leaseRx · p raw) (fun c => c.rolling = true ∧ c.bb.isUp p = true ∧ LeaseMsg.parse raw.bytes = none) (fun c => c.bbCount p bbHeaderInvalid)) ∧
  (∀ l, Acts .leaderLeaseRenew (fun c => c.rolling = true ∧ c.recordedLeader = true ∧ c.bb.leaderLease = some l ∧ c.leaseNow l + c.margin l.timed ≤ l.expiry) (fun c =>
    let l' := { l with expiry := c.leaseNow l + 100000000 }
    (c.onBb fun b => { b with leaderLease := some l' }).floodLease ((c.onBb fun b => { b with leaderLease := some l' }).renewMsg l'))) ∧
  (∀ l, Acts (.leaseExpiry · 0) (fun c => c.recordedLeader = true ∧ c.bb.leaderLease = some l ∧ l.expiry < c.leaseNow l + c.margin l.timed) (fun c =>
    ((c.onBb fun b => { b with leaderLease := none }).raise 23).timeRole.schedJudge)) ∧
  (∀ v l, Acts (.leaseExpiry · v) (fun c => v ≠ 0 ∧ c.bb.gateways.lookup v = some l ∧ l.holder ≠ 0 ∧ l.expiry < c.leaseNow l + c.margin l.timed ∧ l.holder ≠ c.fuses.identity ∧
      c.recordedLeader = false) (fun c => c.onBb fun b => { b with gateways := b.gateways.filter fun g => g.1 != v })) ∧
  Acts .gatewayRequestTimer (fun c => c.rolling = true ∧ c.gatewayEligible = true ∧ c.timeValid = true ∧ c.recordedLeader = false) (fun c =>
    c.sendLease (c.endTowards ((c.dir.inForce.map (·.leaderNode)).getD 0)) (Ready.gatewayAsk c)) ∧
  Acts .gatewayRequestTimer (fun c => c.rolling = true ∧ c.gatewayEligible = true ∧ c.timeValid = true ∧ c.recordedLeader = true) (fun c =>
    c.gatewayRequest (Ready.gatewayAsk c))

/-- BB_TELEGRAM_RX, BB_EGRESS_DEQUEUE, DUP_ENTRY_AGEOUT, PD_SLOT_INSTANT and PHY_ENERGY_DETECT (R108–R110, R118, R126, R131, R414). -/
def Obligations.TelegramEvents : Prop :=
  (∀ p ps busy f, Acts (.bbTelegramRx · p ps 2 busy f) (Ready.frameIn p) (fun c => ((Ready.heard p c).macCount p macRxOverflow).raiseLimited 28 1 p 0 100000000)) ∧
  (∀ p ps err busy f, Acts (.bbTelegramRx · p ps err busy f) (fun c => Ready.frameIn p c ∧ err ≠ 2 ∧ f ≠ [] ∧ fcsGood f = false) (fun c =>
    (((Ready.heard p c).macCounts p (macFaults 2000 err f)).bbCount p bbFcsFailed).cutBad p busy f)) ∧
  (∀ p ps busy f, Acts (.bbTelegramRx · p ps 1 busy f) (fun c => Ready.frameIn p c ∧ (f = [] ∨ (fcsGood f = true ∧ 64 ≤ f.length ∧ f.length ≤ 2000))) (fun c =>
    (Ready.heard p c).macCount p macRxSymbol)) ∧
  (∀ p ps busy f, Acts (.bbTelegramRx · p ps 0 busy f) (fun c => Ready.frameIn p c ∧ fcsGood f = true ∧ f.length < 64) (fun c => (Ready.heard p c).macCount p macRxRunts)) ∧
  (∀ p ps busy f, Acts (.bbTelegramRx · p ps 0 busy f) (fun c => Ready.frameIn p c ∧ fcsGood f = true ∧ 2000 < f.length) (fun c => (Ready.heard p c).macCount p macRxTooLong)) ∧
  (∀ p ps busy f tg, Acts (.bbTelegramRx · p ps 0 busy f) (fun c => Ready.frameIn p c ∧ fcsGood f = true ∧ 64 ≤ f.length ∧ f.length ≤ 2000 ∧ c.bb.isUp p = true ∧
      (((Ready.heard p c).macCount p macRxFrames).macCountBy p macRxBytes f.length).parseBody f = .ok tg ∧ 4 ≤ tg.type ∧ tg.type ≤ 7) (fun c =>
    (((((Ready.heard p c).macCount p macRxFrames).macCountBy p macRxBytes f.length).onPort p fun q => { q with
      lastRx := c.clk.now, recent := ((c.clk.now :: q.recent).filter fun x => decide (c.clk.now ≤ x + 1500000)).take 3 }).bbCount p bbReceived).route p ps busy tg)) ∧
  (∀ q e es tg, Acts (.bbEgressDequeue · q none) (fun c => c.rolling = true ∧ q < 16 ∧ c.bb.isUp (q / 4) = true ∧ (c.qm.queue q).entries = e :: es ∧
      c.parseBody e.data = .ok tg ∧ c.clearOf (q / 4) tg = true ∧ (c.dropHead q).parseBody e.data = .ok tg ∧
      e.since + (c.dropHead q).residence tg.tc < (c.dropHead q).clk.now) (fun c => (c.dropHead q).bbCount (q / 4) bbResidence)) ∧
  (∀ q e es tg, Acts (.bbEgressDequeue · q none) (fun c => c.rolling = true ∧ q < 16 ∧ c.bb.isUp (q / 4) = true ∧ (c.qm.queue q).entries = e :: es ∧
      c.parseBody e.data = .ok tg ∧ c.clearOf (q / 4) tg = true ∧ (c.dropHead q).parseBody e.data = .ok tg ∧
      (c.dropHead q).clk.now ≤ e.since + (c.dropHead q).residence tg.tc ∧ (c.dropHead q).oldTag tg = false ∧ (c.dropHead q).wayOf tg ≠ .unresolvable) (fun c =>
    ((c.dropHead q).sendOn (q / 4) tg).stamped (q / 4) e)) ∧
  Acts .dupEntryAgeout (fun _ => True) (fun c => c.onBb fun b => { b with dups := b.dups.filter fun d => decide (c.clk.now < d.lastUse + c.dupAge) }) ∧
  (∀ i b, Acts (.pdSlotInstant · i) (fun c => c.bb.image.cur = some b ∧ c.rolling = true ∧ i < schedSlots b ∧ c.ownSlot (schedSlot b i) = true ∧ c.bb.schedState ≠ .none ∧
      c.cycleNow (schedCycle b) % 2 ^ u8 (schedSlot b i) 0x13 = u8 (schedSlot b i) 0x14 ∧ (c.bb.pub (u16 (schedSlot b i) 4)).bind (·.publish) = none) (fun c =>
    ((c.wayOfSlot (schedSlot b i)).ends.flatMap fun e => [2 * e, 2 * e + 1]).foldl
      (fun c p => c.bbCount p bbSlotsMissed) c)) ∧
  (∀ i b x pay, Acts (.pdSlotInstant · i) (fun c => c.bb.image.cur = some b ∧ c.rolling = true ∧ i < schedSlots b ∧ c.ownSlot (schedSlot b i) = true ∧ c.bb.schedState ≠ .none ∧
      c.cycleNow (schedCycle b) % 2 ^ u8 (schedSlot b i) 0x13 = u8 (schedSlot b i) 0x14 ∧ c.bb.pub (u16 (schedSlot b i) 4) = some x ∧ x.publish = some pay) (fun c =>
    let tg : Telegram :=
      { type := 4, tc := 3, dstKind := u8 (schedSlot b i) 0x11, dstIndex := u8 (schedSlot b i) 0x12, dstValue := u64 (schedSlot b i) 0x18
        scheduled := (c.bb.schedState == .aligned || c.bb.schedState == .holdover) && !(c.deferred b).contains i, tag := c.epochTag, srcNode := c.ownNumber
        source := c.fuses.identity, session := c.boot.journal.session % 65536, stream := 0x8000 + u16 (schedSlot b i) 4, sequence := x.sequence
        selector := u16 (schedSlot b i) 4, payload := pay }
    let d := c.onBb fun y => { y with pubs := y.pubs.map fun q => if q.dataId = u16 (schedSlot b i) 4 then { q with sequence := (q.sequence + 1) % 4294967296 } else q }
    match c.wayOfSlot (schedSlot b i) with
    | .here => d.deliver 62 0 tg
    | .unresolvable => d.bbCount (c.bb.ends.getD 0 {}).egress bbUnresolvable
    | way => way.ends.foldl (fun d e => d.sendEnd e tg) d)) ∧
  (∀ p, Acts (.phyEnergyDetect · p) (fun _ => p < 4) (fun c => c.confirmWake)) ∧
  (∀ p, Acts (.phyEnergyDetect · p) (fun _ => 4 ≤ p) id)

/-! Events of the car bus, the CAN channels and the router. -/

/-- CB_CYCLE_START, CB_OWN_SLOT_SEND, CB_EVENT_WINDOW, CB_LISTEN_TIMEOUT, CB_OTHER_STAR_LOST and CB_POINT_FIRE (R190, R199–R211, R215): what the star sends
and begins on its own time. -/
def Obligations.StarEvents : Prop :=
  Acts .cbCycleStart (fun c => c.cb.stopping = true) (fun c => c.cbStopped.completeWaiting 0x0404 0) ∧
  Acts .cbCycleStart (fun c => c.cb.stopping = false ∧ c.cb.beating = false) id ∧
  Acts .cbCycleStart (fun c => c.cb.stopping = false ∧ c.cb.beating = true ∧ c.cb.begun = false ∧ c.cb.state ≠ .aligned) (fun c => c.cbBegin c.cb.cycleCount c.cb.state false) ∧
  Acts .cbCycleStart (fun c => c.cb.stopping = false ∧ c.cb.begun = false ∧ c.cb.state = .aligned ∧ c.timeValid = true) (fun c =>
    c.cbBegin (c.cbRefNow .aligned).1 .aligned false) ∧
  Acts .cbCycleStart (fun c => c.cb.stopping = false ∧ c.cb.begun = false ∧ c.cb.state = .aligned ∧ c.timeValid = false) (fun c =>
    c.cbBegin c.cb.cycleCount c.cbReference false) ∧
  Acts .cbCycleStart (fun c => c.cb.stopping = false ∧ c.cb.beating = true ∧ c.cb.begun = true ∧ c.cbReference = .free) (fun c =>
    (c.onCb fun b => { b with pulling := false, coasting := false }).cbBegin ((c.cb.cycleCount + 1) % 4294967296) .free false) ∧
  Acts .cbCycleStart (fun c => c.cb.stopping = false ∧ c.cb.beating = true ∧ c.cb.begun = true ∧ c.cbReference = c.cb.state ∧ c.cb.state ≠ .free ∧
      c.cbKeepsStep c.cb.state = true ∧ (c.cbRefNow c.cb.state).2.natAbs ≤ 5) (fun c =>
    (c.onCb fun b => { b with pulling := false, coasting := false }).cbBegin ((c.cb.cycleCount + 1) % 4294967296) c.cb.state false) ∧
  Acts .cbCycleStart (fun c => c.cb.stopping = false ∧ c.cb.beating = true ∧ c.cb.begun = true ∧ c.cbReference ≠ .free ∧ c.cbReference ≠ .aligned ∧ c.cb.state = .aligned ∧
      c.cbKeepsStep c.cbReference = false) (fun c =>
    (c.onCb fun b => { b with pulling := false, coasting := true }).cbBegin ((c.cb.cycleCount + 1) % 4294967296) c.cbReference false) ∧
  Acts .cbCycleStart (fun c => c.cb.stopping = false ∧ c.cb.beating = true ∧ c.cb.begun = true ∧ c.cb.coasting = false ∧ c.cbReference ≠ .free ∧
      (c.cb.state = .aligned → c.cbReference = .aligned) ∧ c.cbKeepsStep c.cbReference = false ∧ (c.cbRefNow c.cbReference).2.natAbs ≤ 5 ∧
      c.cb.cycleStart + c.cb.cycleNs ≤ c.clk.now) (fun c =>
    (c.onCb fun b => { b with pulling := false, coasting := false }).cbBegin (c.cbRefNow c.cbReference).1 c.cbReference true) ∧
  (∀ k sl img, Acts (.cbOwnSlotSend · k) (fun c => Ready.ownSlot k sl img c ∧ c.cb.cross = none ∧ c.cb.other.sent = [] ∧
      (c.cb.tx.find? fun x => x.slot == k) = none ∧ (u8 sl 3).testBit 0 = true) (fun c =>
    ([0, 1].filter fun ch => (u8 sl 1).testBit ch).foldl (fun d ch => d.onCell k ch fun y => { y with result := 8, settled := true })
      (((c.onCb fun b => { b with tx := { slot := k, staging := zeros (slotMax sl), taken := some (c.cb.cycleCount, c.clk.now, none) } :: b.tx.filter fun y => y.slot != k }).starCount
        starNotReady).raiseKeyed 60 (1000 + k) 0 0xFFFF 0 100000000))) ∧
  (∀ k sl img x at0 pay, Acts (.cbOwnSlotSend · k) (fun c => Ready.ownSlot k sl img c ∧ c.cb.cross = none ∧ c.cb.other.sent = [] ∧
      (c.cb.tx.find? fun x => x.slot == k) = some x ∧ x.taken = none ∧ x.latched c.clk.now = some (at0, pay) ∧ ((u8 sl 3).testBit 0 = true → x.lastSent ≠ some at0)) (fun c =>
    ([0, 1].filter fun ch => (u8 sl 1).testBit ch).foldl (fun d ch =>
        if c.cb.served.contains ch then (d.onCell k ch fun y => { y with result := 0, settled := true }).cbSendAll ch
          (cbFrame 2 ch k c.cb.self 0xFF 0 (c.cb.cycleCount % 65536) pay)
        else d.onCell k ch fun y => { y with result := 1, settled := true })
      (c.onCb fun b => { b with tx := { x with taken := some (c.cb.cycleCount, c.clk.now, some pay), lastSent := some at0 } :: b.tx.filter fun y => y.slot != k }))) ∧
  (∀ k sl img x at0 pay p, Acts (.cbOwnSlotSend · k) (fun c => c.cb.slot k = some sl ∧ c.cb.image.cur = some img ∧ c.cb.beating = true ∧ c.cb.begun = true ∧
      slotOwner sl = c.cb.self ∧ c.cb.dueSlot sl = false ∧ c.cb.cross = some p ∧ (u8 sl 1).testBit ((p - 12) % 2) = true ∧ c.cbCrossReady k sl p = true ∧
      (c.cb.tx.find? fun x => x.slot == k) = some x ∧ x.taken = none ∧ x.latched c.clk.now = some (at0, pay) ∧ ((u8 sl 3).testBit 0 = true → x.lastSent ≠ some at0)) (fun c =>
    (((c.onCb fun b => { b with tx := { x with taken := some (c.cb.other.cycle, c.clk.now, some pay), lastSent := some at0 } :: b.tx.filter fun y => y.slot != k }).onCell k ((p - 12) % 2)
      fun y => { y with result := 0, settled := true }).onCb fun b => { b with other := { b.other with sent := k :: b.other.sent } }).cbSendOn p
        (cbFrame 2 ((p - 12) % 2) k c.cb.self 0xFF 0 (c.cb.other.cycle % 65536) pay))) ∧
  (∀ img e es ecc, Acts (fun t => .cbEventWindow ⟨t, ecc⟩) (fun c => c.cb.image.cur = some img ∧ c.cb.beating = true ∧ c.cb.begun = true ∧ c.cb.cycleStart + eventStartNs img ≤ c.clk.now ∧
      ((c.cbEventHead img ecc).qm.queue 44).entries = e :: es ∧ c.cb.eventsSent < u8 img 0x21 ∧ c.cb.grant = none ∧
      c.clk.now + frameNs (u8 e.data 4) + 1000 ≤ c.cb.cycleStart + c.cb.cycleNs - 5000) (fun c =>
    c.cb.served.foldl (fun d ch => d.cbSendAll ch (cbFrame 4 ch 0xFF c.cb.self (u8 e.data 3) (u8 e.data 5) (c.cb.cycleCount % 65536) (e.data.drop 8)))
      (((c.cbEventHead img ecc).dropHead 44).onCb fun b => { b with eventsSent := b.eventsSent + 1 }))) ∧
  (∀ img ecc, Acts (fun t => .cbEventWindow ⟨t, ecc⟩) (fun c => c.cb.image.cur = some img ∧ c.cb.beating = true ∧ c.cb.begun = true ∧ c.cb.cycleStart + eventStartNs img ≤ c.clk.now ∧
      (c.qm.queue 44).entries = [] ∧ (c.qm.queue 45).entries = []) (fun c => c.cbGrant img c.clk.now (c.cb.cycleStart + c.cb.cycleNs - 5000))) ∧
  Acts .cbListenTimeout (fun c => c.cb.state = .listen) (fun c =>
    ((c.onCb fun b => { b with cycleCount := 0, begun := false, first := c.clk.now }).onCb fun b => { b with state := .free }).raise 48) ∧
  Acts .cbListenTimeout (fun c => c.cb.state ≠ .listen) id ∧
  Acts .cbOtherStarLost (fun c => c.cb.other.heard = true) (fun c =>
    (c.onCb fun b => { b with other := { b.other with heard := false, phase := none, aligned := false, integrated := false } }).raise 58) ∧
  Acts .cbOtherStarLost (fun c => c.cb.other.heard = false) id ∧
  (∀ n, Acts (.cbPointFire · n) (fun c => n < 8 ∧ c.cb.beating = true ∧ c.cb.begun = true ∧ u8 (c.cb.points.getD n { cur := [] }).cur 1 ≠ 0) (fun c =>
    (c.onCb fun b => { b with hits := b.hits ||| (1#8 <<< n) }).raise 55))

/-- CB_FRAME_RX, CB_WINDOW_CLOSE, CB_FOREIGN_ACTIVITY, CB_GRANT_RESPONSE_TIMEOUT and CB_BEACON_RX (R180, R193–R196, R204, R208): frames in and out of their windows. -/
def Obligations.BranchEvents : Prop :=
  (∀ p x start idle decodes f, Acts (.cbFrameRx · p x idle decodes f) (fun c => Ready.onBranch p c ∧ c.cbShown p x = some start ∧
      (c.cb.served.contains ((p - 12) % 2) = false ∨ branchBit (u32 c.cb.config 4) ((p - 12) / 2) ((p - 12) % 2) = false ∨
        branchBit (c.cb.muteAt start) ((p - 12) / 2) ((p - 12) % 2) = true) ∧ (c.cb.port p).stray ≠ some start) (fun c =>
    ((c.cbCount p cbForeign).onCbPort p fun q => { q with stray := some start }).cbDisturb p)) ∧
  (∀ p x idle decodes f, Acts (.cbFrameRx · p x idle decodes f) (fun c => c.cbShown p x = none) id) ∧
  (∀ p x idle decodes f k sl img, Acts (.cbFrameRx · p x idle decodes f) (fun c => Ready.ofSlot p x k sl img c ∧
      (x.start + c.cb.margin < c.cb.cycleStart + slotStart img k ∨ idle = false)) (fun c => ((c.cbSettle p k ((p - 12) % 2) 2).cbBlocked p 52).cbDisturb p)) ∧
  (∀ p x f decodes k sl img, Acts (.cbFrameRx · p x true decodes f) (fun c => Ready.ofSlot p x k sl img c ∧
      c.cb.cycleStart + slotStart img k ≤ x.start + c.cb.margin ∧ Ready.closes k img c < x.start) (fun c => (c.cbSettle p k ((p - 12) % 2) 3).cbBlocked p 52)) ∧
  (∀ p x f decodes k sl img, Acts (.cbFrameRx · p x true decodes f) (fun c => Ready.ofSlot p x k sl img c ∧
      c.cb.cycleStart + slotStart img k ≤ x.start + c.cb.margin ∧ x.start ≤ Ready.closes k img c ∧ Ready.closes k img c + frameNs (slotMax sl) < c.clk.now) (fun c =>
    ((c.cbSettle p k ((p - 12) % 2) 4).cbBlocked p 53).cbRelayCut ((p - 12) / 2) ((p - 12) % 2) x.start (Ready.closes k img c + frameNs (slotMax sl)) f)) ∧
  (∀ p x f decodes k sl img, Acts (.cbFrameRx · p x true decodes f) (fun c => Ready.inWindow p x k sl img c ∧
      (c.cbRelay ((p - 12) / 2) ((p - 12) % 2) x.start f).cb.checkSlot k ((p - 12) % 2) sl f decodes = 0) (fun c =>
    ((((c.cbRelay ((p - 12) / 2) ((p - 12) % 2) x.start f).cbSettle p k ((p - 12) % 2) 0).cbPresent (cbOwnerPort sl ((p - 12) % 2)) ((p - 12) % 2)).cbOffset p k ((p - 12) % 2)
      ((x.start : Int) - (c.cb.cycleStart + slotStart img k : Nat))).cbTakeSlot p k ((p - 12) % 2) x.start sl (slice f 8 (u8 f 4)))) ∧
  (∀ p x f decodes k sl img r, Acts (.cbFrameRx · p x true decodes f) (fun c => Ready.inWindow p x k sl img c ∧
      (c.cbRelay ((p - 12) / 2) ((p - 12) % 2) x.start f).cb.checkSlot k ((p - 12) % 2) sl f decodes = r ∧ r ≠ 0) (fun c =>
    (c.cbRelay ((p - 12) / 2) ((p - 12) % 2) x.start f).cbSettle p k ((p - 12) % 2) r)) ∧
  (∀ p k running sl, Acts (.cbWindowClose · p k running) (fun c => Ready.windowOpen p k sl c ∧ c.cb.cross = some p) (fun c => c.cbSettle p k ((p - 12) % 2) 1)) ∧
  (∀ p k sl, Acts (.cbWindowClose · p k none) (fun c => Ready.windowOpen p k sl c ∧ c.cb.sender sl = some ((p - 12) / 2)) (fun c => c.cbSettle p k ((p - 12) % 2) 1)) ∧
  (∀ p k sl start idle, Acts (.cbWindowClose · p k (some (start, idle))) (fun c => Ready.windowOpen p k sl c ∧ c.cb.cross ≠ some p ∧
      c.cb.sender sl = some ((p - 12) / 2) ∧ c.cbLive ((p - 12) / 2) ((p - 12) % 2) start = false) (fun c => c.cbSettle p k ((p - 12) % 2) 1)) ∧
  (∀ p k sl img start idle, Acts (.cbWindowClose · p k (some (start, idle))) (fun c => Ready.windowOpen p k sl c ∧ c.cb.cross ≠ some p ∧
      c.cb.sender sl = some ((p - 12) / 2) ∧ c.cbLive ((p - 12) / 2) ((p - 12) % 2) start = true ∧ c.cb.image.cur = some img ∧
      (start + c.cb.margin < c.cb.cycleStart + slotStart img k ∨ idle = false)) (fun c =>
    Ready.noted p start none (((c.cbSettle p k ((p - 12) % 2) 2).cbBlocked p 52).cbDisturb p))) ∧
  (∀ p k sl img start, Acts (.cbWindowClose · p k (some (start, true))) (fun c => Ready.windowOpen p k sl c ∧ c.cb.cross ≠ some p ∧
      c.cb.sender sl = some ((p - 12) / 2) ∧ c.cbLive ((p - 12) / 2) ((p - 12) % 2) start = true ∧ c.cb.image.cur = some img ∧
      c.cb.cycleStart + slotStart img k ≤ start + c.cb.margin) (fun c =>
    if Ready.closes k img c < start then Ready.noted p start none ((c.cbSettle p k ((p - 12) % 2) 3).cbBlocked p 52)
    else Ready.noted p start (some (Ready.closes k img c + frameNs (slotMax sl))) ((c.cbSettle p k ((p - 12) % 2) 4).cbBlocked p 53))) ∧
  (∀ x start, Acts (.cbForeignActivity · x) (fun c => 12 ≤ x.port ∧ x.port ≤ 35 ∧ c.tiles.carBus.getLsbD (x.port - 12) = false ∧ c.cbShown x.port x.seen = some start ∧
      (c.cb.port x.port).stray ≠ some start) (fun c =>
    if c.cb.begun then ((c.cbCount x.port cbForeign).onCbPort x.port fun q => { q with stray := some start }).cbDisturb x.port
    else (c.cbCount x.port cbForeign).onCbPort x.port fun q => { q with stray := some start })) ∧
  (∀ x, Acts (.cbForeignActivity · x) (fun c => c.tiles.carBus.getLsbD (x.port - 12) = true ∨ c.cbShown x.port x.seen = none) id) ∧
  (∀ p g, Acts (.cbGrantResponseTimeout · p) (fun c => c.cb.openGrant ((p - 12) / 2) ((p - 12) % 2) = some g) (fun c =>
    if g.early.contains ((p - 12) % 2) then (c.cbCount p cbUnanswered).cbCloseGrant p
    else ((c.cbCount p cbUnanswered).cbCloseGrant p).onCb fun b => { b with unanswered := (p, g.start) :: b.unanswered })) ∧
  (∀ p, Acts (.cbGrantResponseTimeout · p) (fun c => c.cb.openGrant ((p - 12) / 2) ((p - 12) % 2) = none) id) ∧
  (∀ p x f, Acts (.cbBeaconRx · p x f) (fun c => Ready.beacon p x f c ∧ (c.cb.mode = 0 ∨ c.cb.cross ≠ some p ∨ bits (u8 f 0x1A) 2 2 + 1 = c.cb.mode)) (fun c => c.cbConflict)) ∧
  (∀ p x f t s, (s.chip.tick t).mainDie = true → Ready.beacon p x f (s.chip.tick t) → (s.chip.tick t).cb.mode ≠ 0 → (s.chip.tick t).cb.cross = some p →
    bits (u8 f 0x1A) 2 2 + 1 ≠ (s.chip.tick t).cb.mode → ∃ X, Leaves (.cbBeaconRx t p x f) t s X ∧ X.cb.other.heard = true ∧ X.cb.other.missed = 0 ∧
      X.cb.other.frameStart = x.start ∧ X.cb.other.cycle = bAt f 8 4 ∧ X.cb.other.scheduleId = bAt f 12 4 ∧
      (X.cb.state ≠ (s.chip.tick t).cb.state → (s.chip.tick t).cb.state = .listen ∧ X.cb.begun = (s.chip.tick t).cb.begun ∧
        X.cb.cycleStart = x.start - (s.chip.tick t).cb.crossDelay ∧ X.cb.cycleCount = (bAt f 8 4 + 1) % 4294967296))

/-- CAN_INTEGRATED, CAN_FRAME_RX, CAN_TX_START, CAN_TX_COMPLETE, CAN_ERROR, CAN_RECOVERY_COMPLETE and CAN_ALONE_RETRY (R223, R226–R236, R245): the state and the error
counters of a channel. -/
def Obligations.CanBusEvents : Prop :=
  (∀ n, Acts (.canIntegrated · n) (fun c => n < 12 ∧ (c.canCh n).state = .integrating) (fun c =>
    (c.onCan n fun x => { x with state := if 128 ≤ (c.canCh n).tec ∨ 128 ≤ (c.canCh n).rxErrs then .errorPassive else .errorActive }).raisePort 64 (36 + n))) ∧
  (∀ n, Acts (.canIntegrated · n) (fun c => (c.canCh n).state ≠ .integrating) id) ∧
  (∀ n sof raw, Acts (.canFrameRx · n sof raw) (fun c => Ready.canActive n c ∧ ((CanFrame.ofBytes raw).fd = false ∨ u8 (c.canCh n).config 1 ≠ 0)) (fun c =>
    c.canReceive n sof (CanFrame.ofBytes raw))) ∧
  (∀ n sof raw, Acts (.canFrameRx · n sof raw) (fun c => Ready.canActive n c ∧ (CanFrame.ofBytes raw).fd = true ∧ u8 (c.canCh n).config 1 = 0 ∧
      u8 (c.canCh n).config 2 ≠ 0 ∧ (c.canCh n).sending = none) (fun c => ((c.canCount n canExceptions).canCheckDone n).canLeave n)) ∧
  (∀ n sof raw, Acts (.canFrameRx · n sof raw) (fun c => n < 12 ∧ (c.canCh n).state = .ignoring ∧ ((CanFrame.ofBytes raw).fd = false ∨ u8 (c.canCh n).config 1 ≠ 0)) (fun c =>
    c.canIgnoredFrame n sof (CanFrame.ofBytes raw))) ∧
  (∀ n sof raw, Acts (.canFrameRx · n sof raw) (fun c => (c.canCh n).state = .stopped ∨ (c.canCh n).state = .integrating ∨ (c.canCh n).state = .busOff ∨
      (c.canCh n).state = .recovering) id) ∧
  (∀ n src f ecc, Acts (fun t => .canTxStart ⟨t, ecc⟩ n) (fun c => Ready.canSender n c ∧ (c.canCh n).cellWait = none ∧ (c.canCh n).alone = false ∧
      (c.canHeadRead n ecc).canBest n = some (src, f) ∧ (src = none → ((c.canHeadRead n ecc).canCh n).fifoTried = false) ∧
      (c.canHeadRead n ecc).canAllows n (f.worst ((c.canHeadRead n ecc).canCh n).config) = true) (fun c => (c.canHeadRead n ecc).canBegin n src false f)) ∧
  (∀ n ecc, Acts (fun t => .canTxStart ⟨t, ecc⟩ n) (fun c => Ready.canSender n c ∧ (c.canCh n).cellWait = none ∧ (c.canCh n).alone = false) (fun c =>
    (c.canHeadRead n ecc).canSendEvent n)) ∧
  (∀ n i at0 ecc, Acts (fun t => .canTxStart ⟨t, ecc⟩ n) (fun c => Ready.canSender n c ∧ (c.canCh n).cellWait = some (i, at0) ∧
      c.clk.now + ((c.canCh n).buf i).worst (c.canCh n).config ≤ (c.canCh n).columnEnd) (fun c =>
    (c.onCanBuf n i fun b => { b with lastSent := some at0 }).canBegin n (some i) true (((c.canCh n).buf i).frame (c.canCh n).cellPay))) ∧
  (∀ n i at0 ecc, Acts (fun t => .canTxStart ⟨t, ecc⟩ n) (fun c => Ready.canSender n c ∧ (c.canCh n).cellWait = some (i, at0) ∧
      (c.canCh n).columnEnd < c.clk.now + ((c.canCh n).buf i).worst (c.canCh n).config) (fun c =>
    (c.onCan n fun x => { x with cellWait := none }).canCellEvent n canCellLate)) ∧
  (∀ n x, Acts (.canTxComplete · n none) (fun c => n < 12 ∧ (c.canCh n).sending = some x ∧ x.buffer = none) (fun c =>
    ((((((c.canCheckDone n).onCan n fun x => { x with tec := x.tec - 1 }).canCount n canSent).canHeard n).canNextHead n).canJudge n).canEnded n)) ∧
  (∀ n x i, Acts (.canTxComplete · n none) (fun c => n < 12 ∧ (c.canCh n).sending = some x ∧ x.buffer = some i) (fun c =>
    ((((((c.canCheckDone n).onCan n fun x => { x with tec := x.tec - 1 }).canCount n canSent).canHeard n).onCanBuf n i fun b => { b with
      clashRun := 0, pending := if x.cell then b.pending else b.again, again := false }).canJudge n).canEnded n)) ∧
  (∀ e ∈ [(CanErr.bit, canBitErrors), (CanErr.stuff, canStuffErrors), (CanErr.form, canFormErrors), (CanErr.crc, canCrcErrors)], ∀ n kind clash exempt steps,
    Acts (.canError · n kind clash exempt { steps := steps, tdc := none }) (fun c => (c.canCh n).onBus = true ∧ (c.canCh n).sending = none ∧ CanErr.parse kind = some e.1 ∧
      (c.canCh n).errFrame ≠ some true) (fun c =>
    ((c.canCount n e.2).canCheckDone n).onCan n fun x => { x with rxErrs := sat 16 (x.rxErrs + 1 + 8 * steps), errFrame := some (x.errFrame.getD false) })) ∧
  (∀ n clash exempt steps, Acts (.canError · n 0 clash exempt { steps := steps, inFlag := some false }) (fun c => (c.canCh n).onBus = true ∧ (c.canCh n).sending = none ∧
      (c.canCh n).errFrame ≠ some true) (fun c =>
    ((c.canCount n canBitErrors).canCheckDone n).onCan n fun x => { x with rxErrs := sat 16 (x.rxErrs + 8 + 8 * steps), errFrame := some (x.errFrame.getD false) })) ∧
  (∀ n clash exempt steps, Acts (.canError · n 0 clash exempt { steps := steps }) (fun c => (c.canCh n).onBus = true ∧ (c.canCh n).sending = none ∧
      (c.canCh n).errFrame = some true ∧ (c.canCh n).tec + 8 + 8 * steps ≤ 255) (fun c =>
    ((c.canCount n canBitErrors).canCheckDone n).onCan n fun x => { x with tec := x.tec + (8 + 8 * steps), errFrame := some true })) ∧
  (∀ e ∈ [(CanErr.bit, canBitErrors), (CanErr.stuff, canStuffErrors), (CanErr.form, canFormErrors), (CanErr.crc, canCrcErrors)], ∀ n kind clash steps x,
    Acts (.canError · n kind clash false { steps := steps, tdc := none }) (fun c => (c.canCh n).onBus = true ∧ (c.canCh n).sending = some x ∧ x.cell = false ∧
      CanErr.parse kind = some e.1 ∧ (c.canCh n).tec + 8 + 8 * steps ≤ 255) (fun c =>
    ((((c.canCount n e.2).canCheckDone n).onCan n fun x => { x with tec := x.tec + 8 + 8 * steps }).canClash n x.buffer (clash && e.1 == .bit)).onCan n fun x => { x with
      sending := none, errFrame := some true })) ∧
  (∀ n kind clash exempt extra, Acts (.canError · n kind clash exempt extra) (fun c => (c.canCh n).onBus = true ∧ CanErr.parse kind = some .frameEnd ∧
      (c.canCh n).errFrame = some true) (fun c => ((c.onCan n fun x => { x with errFrame := none }).canJudge n).canEnded n)) ∧
  (∀ n kind clash exempt extra, Acts (.canError · n kind clash exempt extra) (fun c => (c.canCh n).onBus = false) id) ∧
  (∀ n, Acts (.canRecoveryComplete · n) (fun c => n < 12 ∧ (c.canCh n).state = .recovering ∧ (c.canCh n).warning = false) (fun c =>
    (((c.onCan n fun x => { x with tec := 0, rxErrs := 0, warning := false }).onCan n fun x => { x with state := .errorActive }).raisePort 64 (36 + n)).raisePort 67 (36 + n))) ∧
  (∀ n, Acts (.canRecoveryComplete · n) (fun c => (c.canCh n).state ≠ .recovering) id) ∧
  (∀ n, Acts (.canAloneRetry · n) (fun c => Ready.canSender n c ∧ (c.canCh n).alone = true ∧ (c.canCh n).lastEnd + u16 (c.canCh n).config 18 * 1000000 ≤ c.clk.now) (fun c =>
    c.canSendEvent n)) ∧
  (∀ n, Acts (.canAloneRetry · n) (fun c => (c.canCh n).alone = false ∨ c.clk.now < (c.canCh n).lastEnd + u16 (c.canCh n).config 18 * 1000000) id)

/-- CAN_CELL_START, CAN_CHECK_CELL_END, CAN_MATRIX_RESUME, ROUTER_LOOKUP and GUARD_TIMEOUT (R237–R242, R254–R257, R271): the matrix of a channel and the router's lookup. -/
def Obligations.MatrixRouterEvents : Prop :=
  (∀ n img b cyc col start, Acts (.canCellStart · n false) (fun c => n < 12 ∧ (c.canCh n).image.cur = some img ∧ (c.canCh n).state ≠ .stopped ∧ (c.canCh n).matrix ≠ 0 ∧
      (c.canCh n).resuming = false ∧ (c.canCh n).cellWait = none ∧ c.canPlace n img = some (b, cyc, col, start) ∧ cyc = (c.canCh n).matrixCycle ∧
      cellCode img b col / 4096 ≠ 2) (fun c =>
    c.onCan n fun x => { x with basicIndex := b, matrixCycle := cyc, column := col, basicStart := start, columnStart := c.clk.now })) ∧
  (∀ n img b cyc col start, Acts (.canCellStart · n false) (fun c => n < 12 ∧ (c.canCh n).image.cur = some img ∧ (c.canCh n).state ≠ .stopped ∧ (c.canCh n).matrix = 2 ∧
      (c.canCh n).resuming = false ∧ (c.canCh n).cellWait = none ∧ c.canPlace n img = some (b, cyc, col, start) ∧ cyc ≠ (c.canCh n).matrixCycle ∧
      (c.canCh n).image.due ((c.canCh n).cycleIndex + 1) = false ∧ cellCode img b col / 4096 ≠ 2) (fun c =>
    c.onCan n fun x => { x with basicIndex := b, matrixCycle := cyc, column := col, basicStart := start, columnStart := c.clk.now, cycleIndex := x.cycleIndex + 1 })) ∧
  (∀ n idle img, Acts (.canCellStart · n idle) (fun c => (c.canCh n).image.cur = some img ∧ (c.canCh n).errFrame = none ∧ (c.canCh n).stopping = false ∧
      (c.canCh n).ignoring = false ∧ (c.canCh n).matrix = 0) id) ∧
  (∀ n idle img, Acts (.canCellStart · n idle) (fun c => n < 12 ∧ (c.canCh n).image.cur = some img ∧ (c.canCh n).errFrame = none ∧ (c.canCh n).stopping = false ∧
      (c.canCh n).ignoring = false ∧ (c.canCh n).state ≠ .stopped ∧ (c.canCh n).matrix ≠ 0 ∧ (c.canCh n).resuming = false ∧ (c.canCh n).cellWait = none ∧ c.canPlace n img = none) (fun c =>
    c.onCan n fun x => { x with resuming := true })) ∧
  (∀ e cell, Acts (.canCheckCellEnd · e) (fun c => (c.canCh e.channel).cell = some cell ∧ cell / 4096 = 3 ∧ (c.canCh e.channel).state ≠ .stopped ∧
      (e.running = false ∨ (c.canCh e.channel).tookIn (cell % 64) (c.canCh e.channel).columnStart (c.canCh e.channel).columnEnd = true)) (fun c =>
    (c.canCheckDone e.channel).canChecked e.channel (cell % 64)
      ((c.canCh e.channel).tookIn (cell % 64) (c.canCh e.channel).columnStart (c.canCh e.channel).columnEnd))) ∧
  (∀ e cell, Acts (.canCheckCellEnd · e) (fun c => (c.canCh e.channel).cell = some cell ∧ cell / 4096 = 3 ∧ (c.canCh e.channel).state ≠ .stopped ∧ e.running = true ∧
      (c.canCh e.channel).tookIn (cell % 64) (c.canCh e.channel).columnStart (c.canCh e.channel).columnEnd = false) (fun c =>
    (c.canCheckDone e.channel).onCan e.channel fun y => { y with checkWait := some (cell % 64, (c.canCh e.channel).columnStart, (c.canCh e.channel).columnEnd) })) ∧
  (∀ n img, Acts (.canMatrixResume · n) (fun c => (c.canCh n).image.cur = some img ∧ (c.canCh n).state ≠ .stopped ∧ (c.canCh n).matrix = 2 ∧ c.timeValid = true ∧
      ((c.canCh n).resuming = true ∨ (c.canCh n).basicStart + basicNs img ≤ c.clk.now) ∧
      (c.canCh n).basicIndex + (c.clk.now - (c.canCh n).basicStart) / basicNs img < 64 ∧ (c.trainTime + basicNs img / 2) / basicNs img % 64 ≠ 0) (fun c =>
    (c.onCan n fun x => { x with
      resuming := false, basicIndex := (c.trainTime + basicNs img / 2) / basicNs img % 64, matrixCycle := (c.trainTime + basicNs img / 2) / basicNs img / 64 % 4294967296
      basicStart := c.clk.now, columnStart := c.clk.now, column := 0 }).setMatrix n 1)) ∧
  Acts .routerLookup (fun c => c.rt.running = false ∨ c.rt.waiting = []) id ∧
  (∀ f rest, Acts .routerLookup (fun c => c.rt.running = true ∧ c.rt.waiting = f :: rest ∧ f.kind ≠ 3 ∧
      (((c.onRt fun r => { r with waiting := rest }).rtCount rtLookups).rt.lookup f = none)) (fun c =>
    ((c.onRt fun r => { r with waiting := rest }).rtCount rtLookups).rtCount rtNoRoute)) ∧
  (∀ f rest i img, Acts .routerLookup (fun c => c.rt.running = true ∧ c.rt.waiting = f :: rest ∧ f.kind ≠ 3 ∧ c.rt.image.cur = some img ∧ entVerify (rtEntry img i) = false ∧
      (((c.onRt fun r => { r with waiting := rest }).rtCount rtLookups).rt.lookup f = some (i, true))) (fun c =>
    (((c.onRt fun r => { r with waiting := rest }).rtCount rtLookups).rtCount rtExact).writeAll img (rtEntry img i) i 0 f)) ∧
  (∀ i img, Acts (.guardTimeout · i) (fun c => c.rt.image.cur = some img ∧ c.rt.running = true ∧ i < rtEntries img ∧ c.rt.enabled img i = true ∧ entVerify (rtEntry img i) = true ∧
      u16 (rtUnit img (u8 (rtEntry img i) 3)) 32 ≠ 0 ∧ c.tiles.check.getLsbD (u8 (rtEntry img i) 3) = false) (fun c =>
    c.judged i (u8 (rtEntry img i) 2) { error := 5, guard := (c.rt.guard i 0).fail (rtUnit img (u8 (rtEntry img i) 3)) 5 }))

/-! Events of the window bridge and of the host interface. -/

/-- READ_REQ_RX, WRITE_RX, IRQ_RX, SEM_ACQUIRE_RX and SEM_RELEASE_RX (R282, R284, R300, R303): a request taken from a port joins the stream of its sender and session,
which runs unless an access of it is under way; a telegram not taken does nothing else. Codes 1, 3, 9, 6 and 8 are the rows' Selectors. -/
def Obligations.FarRequestEvents : Prop :=
  ∀ row : (Nat → Nat → Bytes → Instr) × Nat, row ∈ [(Instr.readReqRx, 1), (Instr.writeRx, 3), (Instr.irqRx, 9), (Instr.semAcquireRx, 6), (Instr.semReleaseRx, 8)] → ∀ p f,
    Acts (row.1 · p f) (fun _ => 4 ≤ p ∧ p < 12) id ∧
    (∀ d, Acts (row.1 · p f) (fun c => ¬(4 ≤ p ∧ p < 12) ∧ c.bridgeTake p row.2 f = (none, d)) (fun _ => d)) ∧
    (∀ m d, Acts (row.1 · p f) (fun c => ¬(4 ≤ p ∧ p < 12) ∧ c.bridgeTake p row.2 f = (some m, d)) (fun _ =>
      let c1 := d.checkHolders m
      let c2 := if c1.br.streams.any (fun x => x.source == m.source && x.session == m.session) then c1
        else c1.onBr fun b => { b with streams := b.streams ++ [{ source := m.source, session := m.session }] }
      let c3 := c2.onStream m fun x => { x with queue := x.queue ++ [m] }
      match c3.br.streams.find? fun x => x.source == m.source && x.session == m.session with
      | some x => if x.active then c3 else c3.runStream x
      | none => c3))

/-- EXPORT_ACCESS_COMPLETE, EXPORT_TARGET_TIMEOUT and WRITE_ACK_TIMER (R282, R284): the end of an access at the exporting node, and the acknowledgements it owes. -/
def Obligations.ExportEvents : Prop :=
  (∀ source data x m ms, Acts (.exportAccessComplete · source .done data) (fun c => Ready.access source x m ms c) (fun c =>
    let e := m.entryIn c.br
    ((c.areaWrite m).endRequest m 0 (if u8 e 2 = 1 then c.mem.bridge.read (u64 e 8 + m.address) m.length else padTo m.length data)).runStream { x with queue := ms, active := false })) ∧
  (∀ source data x m ms, Acts (.exportAccessComplete · source .failed data) (fun c => Ready.access source x m ms c ∧ u8 (m.entryIn c.br) 2 ≠ 1) (fun c =>
    (c.endRequest m 5 []).runStream { x with queue := ms, active := false })) ∧
  (∀ source data x m ms, Acts (.exportAccessComplete · source .failed data) (fun c => Ready.access source x m ms c ∧ u8 (m.entryIn c.br) 2 = 1) (fun c =>
    ((c.ddrError (u64 (m.entryIn c.br) 8 + m.address) 0xFFFF).endRequest m 5 []).runStream { x with queue := ms, active := false })) ∧
  (∀ source n data x m ms, Acts (.exportAccessComplete · source (.corrected n) data) (fun c => Ready.access source x m ms c) (fun c =>
    let e := m.entryIn c.br
    let d := if u8 e 2 = 1 then c.ddrCorrected n else c
    ((d.areaWrite m).endRequest m 0 (if u8 e 2 = 1 then c.mem.bridge.read (u64 e 8 + m.address) m.length else padTo m.length data)).runStream { x with queue := ms, active := false })) ∧
  (∀ source ends data, Acts (.exportAccessComplete · source ends data) (fun c => (c.br.streams.find? fun x => x.source == source && x.active) = none) id) ∧
  (∀ source x m ms, Acts (.exportTargetTimeout · source) (fun c => Ready.access source x m ms c) (fun c =>
    ((if c.draw.1 % 2 = 1 then c.draw.2.areaWrite m else c.draw.2).endRequest m 6 []).runStream { x with queue := ms, active := false })) ∧
  (∀ source, Acts (.writeAckTimer · source) (fun _ => True) (fun c => (c.br.streams.filter fun x => x.source == source && decide (0 < x.unacked)).foldl Chip.sendAck c))

/-- READ_REPLY_RX, WRITE_ACK_RX, WRITE_FAULT_RX and SEM_REPLY_RX (R290, R297, R301): what a reply does to the request it answers. -/
def Obligations.ReplyEvents : Prop :=
  (∀ p f m d q, Acts (.readReplyRx · p f) (fun c => c.bridgeTake p 2 f = (some m, d) ∧ m.status = 0 ∧
      ((d.seeSession m).br.requests.find? fun x => x.op == 1 && x.tag == m.tag && x.far == m.source) = some q ∧ q.late = false ∧ q.isLine = false) (fun _ =>
    ((d.seeSession m).dropRequest q.tag).answerPart q.tag (({ desc := q.desc } : BrWindow).swap q.offset q.length (padTo q.length m.data)))) ∧
  (∀ p f m d q, Acts (.readReplyRx · p f) (fun c => c.bridgeTake p 2 f = (some m, d) ∧ m.status ≠ 0 ∧
      ((d.seeSession m).br.requests.find? fun x => x.op == 1 && x.tag == m.tag && x.far == m.source) = some q ∧ q.late = false ∧ q.isLine = false) (fun _ =>
    ((((d.seeSession m).dropRequest q.tag).brFault q.source 1 m.status 1 q.offset q.length q.far (q.sequence.getD 0)).failPart q.tag 1 m.status))) ∧
  (∀ p f m d q, Acts (.readReplyRx · p f) (fun c => c.bridgeTake p 2 f = (some m, d) ∧ m.status ≠ 0 ∧
      ((d.seeSession m).br.requests.find? fun x => x.op == 1 && x.tag == m.tag && x.far == m.source) = some q ∧ q.late = true ∧ q.isLine = false) (fun _ =>
    ((d.seeSession m).dropRequest q.tag).brCount brLateReplies)) ∧
  (∀ p f m d q, Acts (.readReplyRx · p f) (fun c => c.bridgeTake p 2 f = (some m, d) ∧ m.status = 0 ∧
      ((d.seeSession m).br.requests.find? fun x => x.op == 1 && x.tag == m.tag && x.far == m.source) = some q ∧ q.late = true ∧ q.isLine = false ∧
      (q.isAsync = true ∨ m.flags.testBit 1 = false ∨ m.flags.testBit 2 = false)) (fun _ =>
    (((d.seeSession m).dropRequest q.tag).brCount brLateReplies).strand q.source 6 q.far q.address q.sentTrain (m.data.take q.length))) ∧
  (∀ p f m d q, Acts (.readReplyRx · p f) (fun c => c.bridgeTake p 2 f = (some m, d) ∧
      ((d.seeSession m).br.requests.find? fun x => x.op == 1 && x.tag == m.tag && x.far == m.source) = some q ∧ q.late = false ∧ q.isLine = true) (fun _ =>
    if m.status = 0 then ((d.seeSession m).dropRequest q.tag).fillLine q m
    else if m.status = 4 then (((d.seeSession m).dropRequest q.tag).prefetchRefused q.source).failFetch q 10 0
    else ((d.seeSession m).dropRequest q.tag).failFetch q 1 m.status)) ∧
  (∀ p f m d, Acts (.writeAckRx · p f) (fun c => c.bridgeTake p 4 f = (some m, d)) (fun _ =>
    (d.seeSession m).settle (((d.seeSession m).br.requests.filter fun q => q.posted && q.far == m.source &&
      (match q.sequence with | some x => covered x m.ack | none => false)).map (·.tag)))) ∧
  (∀ p f m d q, Acts (.writeFaultRx · p f) (fun c => c.bridgeTake p 5 f = (some m, d) ∧
      ((d.seeSession m).br.requests.find? fun x => x.posted && x.far == m.source && x.sequence == some m.ack) = some q) (fun _ => (d.seeSession m).faultPosted q 1 m.status)) ∧
  (∀ p f m d n, Acts (.semReplyRx · p f) (fun c => c.bridgeTake p 7 f = (some m, d) ∧ m.status = 0 ∧
      ((List.range 16).find? fun i => let r := (d.seeSession m).br.sem i; r.state == .pending && r.tag == m.tag && r.home == m.source) = some n) (fun _ =>
    (((d.seeSession m).dropRequest m.tag).brCount brSemAcquired).semAnswer n .acquired)) ∧
  (∀ p f m d n, Acts (.semReplyRx · p f) (fun c => c.bridgeTake p 7 f = (some m, d) ∧ m.status = 7 ∧
      ((List.range 16).find? fun i => let r := (d.seeSession m).br.sem i; r.state == .pending && r.tag == m.tag && r.home == m.source) = some n) (fun _ =>
    (((d.seeSession m).dropRequest m.tag).brCount brSemBusy).semAnswer n (.busy (m.ack % 4096))))

/-- HELD_READ_TIMEOUT, FENCE_TIMEOUT, SEM_READ_TIMEOUT, SEM_ATTEMPT_TIMEOUT, ASYNC_READ_TIMEOUT, WRITE_ACK_TIMEOUT, PREFETCH_LINE_EXPIRY and WINDOW_DISABLE_COMPLETE
(R280, R290–R301): each completes, with what the bridge does when an answer has not come in time, and with nothing done where nothing waits. -/
def Obligations.BridgeTimeouts : Prop :=
  (∀ tag h, Acts (.heldReadTimeout · tag) (fun c => (c.br.held.find? fun x => x.hostTag == tag) = some h) (fun c =>
    let lost := h.parts.filter fun p => !p.done
    let d := lost.foldl (fun d p => d.brFault h.window 7 0 1 p.offset p.length p.far (((d.br.partRequests h.window p).head?.bind (·.sequence)).getD 0)) c
    let late := (lost.flatMap (d.br.partRequests h.window)).map (·.tag)
    let e := d.onBr fun b => { b with
      held := b.held.map fun g => if g.hostTag = tag then { g with parts := g.parts.map fun p => if p.done then p else { p with data := some (ones p.length) } } else g }
    (e.onBr fun b => { b with
      requests := b.requests.map fun q => if late.contains q.tag && !(q.isLine && !(e.br.onLine q.source (q.offset / 256) q.far).isEmpty) then { q with late := true } else q }).brFinish)) ∧
  (∀ tag, Acts (.heldReadTimeout · tag) (fun c => (c.br.held.find? fun x => x.hostTag == tag) = none) id) ∧
  (∀ tag f, Acts (.fenceTimeout · tag) (fun c => (c.br.fences.find? fun x => x.hostTag == tag) = some f) (fun c =>
    ((c.onWin f.window fun w => { w with queueLost := false, lastFence := (c.br.window f.window).fenceResult false }).onBr fun b => { b with
      fences := b.fences.filter fun g => g.hostTag != f.hostTag }).emit (.completion f.hostTag (le (if f.wide then 8 else 4) ((c.br.window f.window).fenceResult false))))) ∧
  (∀ tag, Acts (.fenceTimeout · tag) (fun c => (c.br.fences.find? fun x => x.hostTag == tag) = none) id) ∧
  (∀ tag, Acts (.semReadTimeout · tag) (fun c => (c.br.semReads.any fun r => r.1 == tag) = true) (fun c =>
    (c.onBr fun b => { b with semReads := b.semReads.filter fun r => r.1 != tag }).emit (.completion tag (le 4 4)))) ∧
  (∀ tag, Acts (.semReadTimeout · tag) (fun c => (c.br.semReads.any fun r => r.1 == tag) = false) id) ∧
  (∀ n, Acts (.semAttemptTimeout · n) (fun c => n < 16 ∧ (c.br.sem n).state = .pending) (fun c => (c.dropRequest (c.br.sem n).tag).semAnswer n .failed)) ∧
  (∀ n, Acts (.semAttemptTimeout · n) (fun c => 16 ≤ n ∨ (c.br.sem n).state ≠ .pending) id) ∧
  (∀ tag a, Acts (.asyncReadTimeout · tag) (fun c => (c.br.asyncs.find? fun x => x.parts.any fun p => p.tag == some tag && !p.done) = some a) (fun c =>
    (c.onBr fun b => { b with
      asyncs := b.asyncs.map fun x => if x.parts.any (fun p => p.tag == some tag) then
          { x with status := if x.status = 0 then 13 else x.status, parts := x.parts.map fun p => if p.done then p else { p with data := some (ones p.length) } } else x
      requests := b.requests.map fun q => if ((a.parts.filter fun p => !p.done).filterMap (·.tag)).contains q.tag then { q with late := true } else q }).brFinish)) ∧
  (∀ tag, Acts (.asyncReadTimeout · tag) (fun c => (c.br.asyncs.find? fun x => x.parts.any fun p => p.tag == some tag && !p.done) = none) id) ∧
  (∀ tag q, Acts (.writeAckTimeout · tag) (fun c => (c.br.requests.find? fun x => x.tag == tag && x.posted && x.waits.isEmpty) = some q) (fun c => c.faultPosted q 2 0)) ∧
  (∀ tag, Acts (.writeAckTimeout · tag) (fun c => (c.br.requests.find? fun x => x.tag == tag && x.posted && x.waits.isEmpty) = none) id) ∧
  (∀ n k, Acts (.prefetchLineExpiry · n k) (fun _ => True) (fun c => c.discardLines 1 fun l => l.window == n && l.index == k)) ∧
  (∀ n, Acts (.windowDisableComplete · n) (fun c => c.br.disabling = some n ∧ c.br.settled n = true) (fun c =>
    ((c.disable n).onBr fun b => { b with disabling := none }).completeWaiting 0x0706 0)) ∧
  (∀ n, Acts (.windowDisableComplete · n) (fun c => c.br.disabling ≠ some n ∧ c.br.stopping = true ∧ c.br.allSettled = true) (fun c => c.bridgeStopped.completeWaiting 0x0704 0)) ∧
  (∀ n, Acts (.windowDisableComplete · n) (fun c => c.br.disabling ≠ some n ∧ (c.br.stopping = false ∨ c.br.allSettled = false)) id)

/-- WINDOW_READ, WINDOW_WRITE, FENCE_READ, SEM_READ, SEM_RELEASE_WRITE, REMOTE_IRQ_WRITE and NONPOSTED_REQUEST_ADMITTED (R277–R303): the host's accesses to the bridge. With eight
non-posted requests held, or others waiting, a request waits. -/
def Obligations.WindowAccesses : Prop :=
  (∀ tag off len, Acts (.windowRead · tag off len) (fun c => off < 64 * 0x800000 ∧ len ≠ 0 ∧ c.br.heldNow < 8 ∧ c.br.waiting = []) (fun c => c.barRead tag off len)) ∧
  (∀ tag off len, Acts (.windowRead · tag off len) (fun c => off < 64 * 0x800000 ∧ len ≠ 0 ∧ ¬(c.br.heldNow < 8 ∧ c.br.waiting = [])) (fun c =>
    c.onBr fun b => { b with waiting := b.waiting ++ [.read tag off len] })) ∧
  (∀ off d, Acts (.windowWrite · off d) (fun c => off < 64 * 0x800000 ∧ d ≠ [] ∧ c.br.open (off / 0x800000) = false) (fun c => c.brCount brDisabled)) ∧
  (∀ off d, Acts (.windowWrite · off d) (fun c => off < 64 * 0x800000 ∧ d ≠ [] ∧ d.length ≤ 256 ∧ c.br.open (off / 0x800000) = true) (fun c =>
    c.barWrite (off / 0x800000) (off % 0x800000) (slice d 0 d.length))) ∧
  (∀ tag n off len, Acts (.fenceRead · tag n off len) (fun c => n < 64 ∧ ((off = 0 ∧ (len = 4 ∨ len = 8)) ∨ (off = 4 ∧ len = 4)) ∧ c.br.heldNow < 8 ∧ c.br.waiting = []) (fun c =>
    c.fenceStart tag n off len (c.br.writesOf fun q => q.source == n))) ∧
  (∀ tag n off len, Acts (.fenceRead · tag n off len) (fun _ => n < 64 ∧ ¬((off = 0 ∧ (len = 4 ∨ len = 8)) ∨ (off = 4 ∧ len = 4))) (fun c =>
    (c.onHost fun h => { h with counters := bump h.counters cntAccess }).emit (.completion tag (zeros len)))) ∧
  (∀ tag n, Acts (.semRead · tag n) (fun c => n < 16 ∧ c.br.heldNow < 8 ∧ c.br.waiting = []) (fun c => c.semStart tag n)) ∧
  (∀ n v, Acts (.semReleaseWrite · n v) (fun c => n < 16 ∧ v.getLsbD 0 = true ∧ (c.br.sem n).state ≠ .acquired) (fun c => c.brCount brStray)) ∧
  (∀ n v, Acts (.semReleaseWrite · n v) (fun c => n < 16 ∧ v.getLsbD 0 = true ∧ (c.br.sem n).state = .acquired) (fun c =>
    ((c.onSem n fun r => { r with state := .idle }).brRequest { tag := 0, op := 8, far := (c.br.sem n).home, source := 0x40 + n, exportId := (c.br.sem n).index
                                                                waits := (c.onSem n fun r => { r with state := .idle }).br.writesOf fun q => q.far == (c.br.sem n).home }).2)) ∧
  (∀ n v, Acts (.semReleaseWrite · n v) (fun _ => v.getLsbD 0 = false) id) ∧
  (∀ n v en, Acts (.remoteIrqWrite · n v en) (fun c => 64 ≤ n ∨ en = 0 ∨ c.br.open n = false) id) ∧
  (∀ n v k d, Acts (.remoteIrqWrite · n v 0xF#4) (fun c => n < 64 ∧ c.br.open n = true ∧ c.retarget n = d ∧ d.brReach (d.br.window n) = some k) (fun _ =>
    d.brFault n k 0 2 0 4 (d.br.window n).farId 0 (le 4 v.toNat))) ∧
  (∀ n v d, Acts (.remoteIrqWrite · n v 0xF#4) (fun c => n < 64 ∧ c.br.open n = true ∧ c.retarget n = d ∧ d.brReach (d.br.window n) = none) (fun _ =>
    (d.brRequest { tag := 0, op := 9, far := (d.br.window n).farId, source := n, field := (d.br.window n).field, exportId := (d.br.window n).exportId, length := 4, data := be 4 v.toNat
                   waits := d.br.writesOf fun q => q.far == (d.br.window n).farId }).2)) ∧
  (∀ w ws, Acts .nonpostedRequestAdmitted (fun c => c.br.waiting = w :: ws ∧ c.br.heldNow < 8) (fun c => (c.onBr fun b => { b with waiting := ws }).startNonPosted w)) ∧
  Acts .nonpostedRequestAdmitted (fun c => c.br.waiting = [] ∨ 8 ≤ c.br.heldNow) id

/-- UNDEFINED_OPCODE, HELD_COMMAND_START, DOORBELL_IGNORED, REQUEST_AREA_WRITE_LOCKED and MB_RELEASE (R352, R353, R356, R370): the mailbox rules that hold for every opcode. -/
def Obligations.MailboxEvents : Prop :=
  (∀ d op, cmdOf op = none → op < 65536 → ∀ t s, (s.chip.tick t).mainDie = true → d.mb < 8 →
    (((s.chip.tick t).host.mb d.mb).state = .idle ∨ ((s.chip.tick t).host.mb d.mb).state = .done) →
    (op / 256 = 0x0D ∨ (s.chip.tick t).host.heldBehind (op / 256) (s.chip.tick t).host.nextOrder = false) →
    Leaves (.undefinedOpcode t d op) t s ((rung s t d op).complete d.mb 0x03 0xFFFF [])) ∧
  (∀ d op, Acts (.doorbellIgnored · d op) (fun c => d.mb < 8 ∧ ((c.host.mb d.mb).state = .busy ∨ (c.host.mb d.mb).state = .offline)) (fun c =>
    (c.onHost fun h => { h with counters := bump h.counters cntProtocol }).raiseD 125 6 d.mb 0)) ∧
  (∀ n k, Acts (.heldCommandStart · n) (fun c => c.firmware = true ∧ (c.host.mb n).state = .busy ∧ (c.host.mb n).waiting = true ∧
      c.host.heldBehind ((c.host.mb n).opcode / 256) (c.host.mb n).order = false ∧ cmdOf (c.host.mb n).opcode = some k) (fun c =>
    (c.onMb n fun m => { m with waiting := false }).runCmd n (c.host.mb n).opcode
      (if (c.host.mb n).opcode = 0x0207 then k.under ((c.host.mb n).epoch == c.epoch) else k))) ∧
  (∀ n, Acts (.heldCommandStart · n) (fun c => (c.host.mb n).state = .busy ∧ (c.host.mb n).waiting = true ∧
      c.host.heldBehind ((c.host.mb n).opcode / 256) (c.host.mb n).order = true) id) ∧
  (∀ n, Acts (.heldCommandStart · n) (fun c => c.firmware = true ∧ (c.host.mb n).state = .busy ∧ (c.host.mb n).waiting = true ∧
      c.host.heldBehind ((c.host.mb n).opcode / 256) (c.host.mb n).order = false ∧ cmdOf (c.host.mb n).opcode = none) (fun c =>
    (c.onMb n fun m => { m with waiting := false }).complete n 0x03 0xFFFF [])) ∧
  (∀ n off d, Acts (.requestAreaWriteLocked · n off d) (fun c => n < 8 ∧ off < 512 ∧ off + d.length ≤ 512 ∧ d ≠ [] ∧ d.length ≤ 256 ∧ (c.host.mb n).state = .busy ∧ (c.host.mb n).lockRaised = false) (fun c =>
    ((c.onHost fun h => { h with counters := bump h.counters cntProtocol }).onMb n fun m => { m with lockRaised := true }).raiseD 125 6 n 0)) ∧
  (∀ n off d, Acts (.requestAreaWriteLocked · n off d) (fun c => n < 8 ∧ off < 512 ∧ off + d.length ≤ 512 ∧ d ≠ [] ∧ d.length ≤ 256 ∧ (c.host.mb n).state = .busy ∧ (c.host.mb n).lockRaised = true) (fun c =>
    c.onHost fun h => { h with counters := bump h.counters cntProtocol })) ∧
  (∀ n off d, Acts (.requestAreaWriteLocked · n off d) (fun c => n < 8 ∧ off < 512 ∧ off + d.length ≤ 512 ∧ d ≠ [] ∧ d.length ≤ 256 ∧ (c.host.mb n).state ≠ .busy) (fun c =>
    c.onMb n fun m => { m with request := m.request.write off d })) ∧
  (∀ n, Acts (.mbRelease · n) (fun c => (c.host.mb n).state = .done) (fun c => c.onMb n fun m => { m with state := .idle })) ∧
  (∀ n, Acts (.mbRelease · n) (fun c => (c.host.mb n).state ≠ .done) id)

/-- REGISTER_WRITE, REGISTER_ACCESS_ERROR, EV_ACK, NHIRQ_ENABLE_WRITE, SPI_FRAME, the MSI rows, the link rows, HEARTBEAT_TICK, TILE_SELF_CHECK_FAIL and PIN_EXPIRY (R23, R58,
R340–R364, R457). -/
def Obligations.HostEvents : Prop :=
  (∀ o d, Acts (.registerWrite · o d) (fun _ => accessOk true o d.length = false ∧ o < 0x2000) (fun c => c.onHost fun h => { h with counters := bump h.counters cntAccess })) ∧
  (∀ o d, Acts (.registerWrite · o d) (fun _ => d.length = 4 ∧ o % 4 = 0 ∧ o < 0x2000 ∧ ¬(0x800 ≤ o ∧ o < 0xA00)) (fun c => c.writeWord o (leNat d))) ∧
  (∀ n k d, Acts (.registerWrite · (0x8000 + 0x400 * n + k) d) (fun c => n < 8 ∧ 1 ≤ d.length ∧ d.length ≤ 256 ∧ k + d.length ≤ 512 ∧ (c.host.mb n).state ≠ .busy) (fun c =>
    c.onMb n fun m => { m with request := m.request.write k d })) ∧
  (∀ tag o len, Acts (.registerAccessError · (some tag) o len) (fun _ => accessOk false o len = false) (fun c => (c.badAccess o).emit (.completion tag (zeros len)))) ∧
  (∀ o len, Acts (.registerAccessError · none o len) (fun _ => accessOk true o len = false) (fun c => c.badAccess o)) ∧
  (∀ word v, Acts (.evAck · word v) (fun _ => word < 4) (fun c => (c.onHost fun h => { h with evStatus := h.evStatus &&& ~~~(v.setWidth 128 <<< (32 * word)) }).evalConds)) ∧
  (∀ v, Acts (.nhirqEnableWrite · v) (fun c => c.time.pulses12 = false) (fun c => c.onHost fun h => { h with nhirq := v.getLsbD 0 })) ∧
  (∀ mosi, Acts (.spiFrame · mosi) (fun c => c.portsUp = true ∧ 4 ≤ mosi.length ∧ (bAt mosi 0 4).testBit 31 = false ∧ (bAt mosi 0 4).testBit 30 = false ∧ (bAt mosi 0 4).testBit 1 = false ∧
      (bAt mosi 0 4).testBit 0 = false ∧ bits (bAt mosi 0 4) 29 16 + 1 ≤ 256 ∧ 4 + 4 * (bits (bAt mosi 0 4) 29 16 + 1) + 2 ≤ mosi.length ∧
      crc16 (mosi.take (4 + 4 * (bits (bAt mosi 0 4) 29 16 + 1))) = bAt mosi (4 + 4 * (bits (bAt mosi 0 4) 29 16 + 1)) 2) (fun c =>
    Chip.spiWrites (bits (bAt mosi 0 4) 15 2 * 4) ((mosi.take (4 + 4 * (bits (bAt mosi 0 4) 29 16 + 1))).drop 4)
      ((c.emit (.miso (padTo mosi.length (be 4 c.spiStatus)))).onHost fun h => { h with
        spiPrevError := false, spiFrameCount := (h.spiFrameCount + 1) % 256, spiSeen := true, counters := bump h.counters cntSpiFrames }))) ∧
  (∀ mosi, Acts (.spiFrame · mosi) (fun c => c.portsUp = true ∧ 4 ≤ mosi.length ∧ (bAt mosi 0 4).testBit 31 = false ∧ 4 + 4 * (bits (bAt mosi 0 4) 29 16 + 1) + 2 ≤ mosi.length ∧
      crc16 (mosi.take (4 + 4 * (bits (bAt mosi 0 4) 29 16 + 1))) ≠ bAt mosi (4 + 4 * (bits (bAt mosi 0 4) 29 16 + 1)) 2) (fun c =>
    (c.emit (.miso (padTo mosi.length (be 4 c.spiStatus)))).onHost fun h => { h with spiPrevError := true, counters := bump h.counters cntSpiErrors })) ∧
  Acts .pcieLinkDown (fun _ => True) (fun c =>
    ((c.host.copies.map (·.op)).foldl (fun d op => d.completeWaiting op 0x09) (((c.onHost fun h => { h with
      pcieUp := false, pcieWidth := 0, pcieSpeed := 0
      msi := { h.msi with busMaster := false, enable := false, intDisable := false, vecLog2 := 0, mask := 0, pending := 0, d3hot := false, bar0 := 0, bar2 := 0 } }).onEth fun e =>
        { e with rings := e.rings.map fun r => { r with enabled := false, owned := [] } }).onHost fun h => { h with copies := [] })).evalConds) ∧
  (∀ w v, Acts (.pcieLinkUp · w v) (fun c => c.portsUp = true ∧ (w = 1 ∨ w = 2) ∧ (v = 1 ∨ v = 2)) (fun c => c.onHost fun h => { h with pcieUp := true, pcieWidth := w, pcieSpeed := v })) ∧
  (∀ w v, Acts (.pcieLinkUp · w v) (fun c => c.portsUp = false) id) ∧
  (∀ mosi, Acts (.spiFrame · mosi) (fun c => c.portsUp = false) id) ∧
  (∀ bm en di k, Acts (.msiReenable · bm en di k) (fun c => (en && bm && !(c.host.msi.enable && c.host.msi.busMaster)) = false) (fun c =>
    (Ready.msiSet bm en di k c).evalConds)) ∧
  (∀ bm en di k, Acts (.msiReenable · bm en di k) (fun c => en = true ∧ bm = true ∧ (c.host.msi.enable && c.host.msi.busMaster) = false) (fun c =>
    let d := Ready.msiSet bm en di k c
    (List.range 32).foldl (fun x v => if d.host.conditions.getLsbD v then x.msiFor v else x) (d.onHost fun h => { h with msi := { h.msi with cond := d.host.conditions } }))) ∧
  (∀ mask, Acts (.msiUnmask · mask) (fun c => (c.host.msi.enable && c.host.msi.busMaster) = false ∨ c.host.msi.pending &&& ~~~mask = 0) (fun c =>
    c.onHost fun h => { h with msi := { h.msi with mask := mask, pending := h.msi.pending &&& mask } })) ∧
  Acts .heartbeatTick (fun c => c.boot.state = .ready ∨ c.boot.state = .service) (fun c => c.onHost fun h => { h with heartbeat := (h.heartbeat + 1) % 2 ^ 32 }) ∧
  Acts .heartbeatTick (fun c => c.boot.state ≠ .ready ∧ c.boot.state ≠ .service) id ∧
  (∀ i, Acts (.tileSelfCheckFail · .carBus i) (fun c => i < 24 ∧ c.tiles.carBus.getLsbD i = false) (fun c =>
    ({ c with tiles := { c.tiles with carBus := c.tiles.carBus ||| 1#24 <<< i } }).raisePort 61 (12 + i))) ∧
  (∀ i, Acts (.tileSelfCheckFail · .check i) (fun c => i < 16 ∧ c.tiles.check.getLsbD i = false) (fun c =>
    ({ c with tiles := { c.tiles with check := c.tiles.check ||| 1#16 <<< i } }).raiseD 87 7 i 0)) ∧
  (∀ i, Acts (.tileSelfCheckFail · .can i) (fun c => i < 12 ∧ c.tiles.can.getLsbD i = false) (fun c =>
    ({ c with tiles := { c.tiles with can := c.tiles.can ||| 1#12 <<< i } }).canIsolate i)) ∧
  (∀ h p, Acts (.pinExpiry · h) (fun c => c.dir.pin h = some p ∧ p.lastUse + 2000000000 ≤ c.clk.now) (fun c =>
    (c.onDir fun d => { d with pins := d.pins.filter fun q => q.handle != h }).raise 4)) ∧
  (∀ h p, Acts (.pinExpiry · h) (fun c => c.dir.pin h = some p ∧ c.clk.now < p.lastUse + 2000000000) id)

/-! Events of the Ethernet ports, the rings, the memory, the safety island, power and start-up. -/

/-- VEHICLE_FRAME_RX, PAUSE_EXPIRY, VEHICLE_EGRESS_DEQUEUE and VEHICLE_LINK_CHANGE (R312–R316, R319): the checks of a frame decide in their order; a frame in
order goes where its destination address says. -/
def Obligations.VehiclePortEvents : Prop :=
  (∀ p ps err f, Acts (.vehicleFrameRx · p ps err f) (fun c => c.vportOn p = false ∨ (c.vport p).linkUp = false) id) ∧
  (∀ p ps f, Acts (.vehicleFrameRx · p ps 2 f) (Ready.portUp p) (fun c => (c.macCount p macRxOverflow).raiseLimited 28 1 p 0 100000000)) ∧
  (∀ p ps err f l, Acts (.vehicleFrameRx · p ps err f) (fun c => Ready.portUp p c ∧ err ≠ 2 ∧ macFaults (u16 (c.vport p).config 8) err f = l ∧ l ≠ []) (fun c => c.macCounts p l)) ∧
  (∀ p ps f, Acts (.vehicleFrameRx · p ps 0 f) (fun c => Ready.portUp p c ∧ fcsGood f = false ∧ 64 ≤ f.length ∧ f.length ≤ u16 (c.vport p).config 8) (fun c => c.macCount p macRxFcs)) ∧
  (∀ p ps f, Acts (.vehicleFrameRx · p ps 0 f) (fun c => Ready.portUp p c ∧ fcsGood f = true ∧ f.length < 64 ∧ f.length ≤ u16 (c.vport p).config 8) (fun c => c.macCount p macRxRunts)) ∧
  (∀ p ps f, Acts (.vehicleFrameRx · p ps 0 f) (fun c => Ready.portUp p c ∧ fcsGood f = true ∧ 64 ≤ f.length ∧ u16 (c.vport p).config 8 < f.length) (fun c => c.macCount p macRxTooLong)) ∧
  (∀ p ps f, Acts (.vehicleFrameRx · p ps 1 f) (fun c => Ready.frameOk p f c) (fun c => c.macCount p macRxSymbol)) ∧
  (∀ p ps f, Acts (.vehicleFrameRx · p ps 0 f) (fun c => Ready.frameOk p f c ∧ bAt (f.take (f.length - 4)) 12 2 = 0x8808 ∧ bAt (f.take (f.length - 4)) 14 2 = 1) (fun c =>
    ((c.macCount p macRxFrames).macCountBy p macRxBytes f.length).pauseFrame p (bAt (f.take (f.length - 4)) 16 2))) ∧
  (∀ p ps f a, Acts (.vehicleFrameRx · p ps 0 f) (fun c => Ready.frameOk p f c ∧ bAt (f.take (f.length - 4)) 12 2 ≠ 0x8808 ∧ tagged (f.take (f.length - 4)) = false ∧
      ((c.vport p).addrs.find? fun a => u8 a 6 != 0 && a.take 6 == (f.take (f.length - 4)).take 6) = some a ∧ u8 a 6 = 1) (fun c =>
    (((c.macCount p macRxFrames).macCountBy p macRxBytes f.length).enqueue (u8 a 7) (f.take (f.length - 4))
      (({ kind := 3, trainTime := (c.rxStamp p ps).1, ps := (c.rxStamp p ps).2, timeValid := c.timeValid, tag := c.epochTag, port := p } : RxInfo)).bytes).2)) ∧
  (∀ p ps f, Acts (.vehicleFrameRx · p ps 0 f) (fun c => Ready.frameOk p f c ∧ bAt (f.take (f.length - 4)) 12 2 ≠ 0x8808 ∧
      ((c.vport p).addrs.find? fun a => u8 a 6 != 0 && a.take 6 == (f.take (f.length - 4)).take 6) = none ∧ u8 (c.vport p).config 4 = 0) (fun c =>
    ((c.macCount p macRxFrames).macCountBy p macRxBytes f.length).macCount p macRxUnmatched)) ∧
  (∀ p u, Acts (.pauseExpiry · p) (fun c => (c.vport p).pausedUntil = some u ∧ u ≤ c.clk.now ∧ (c.vport p).pauseLong = false) (fun c =>
    c.onVport p fun v => { v with pausedUntil := none, pauseLong := false })) ∧
  (∀ p u, Acts (.pauseExpiry · p) (fun c => (c.vport p).pausedUntil = some u ∧ u ≤ c.clk.now ∧ (c.vport p).pauseLong = true) (fun c =>
    (c.onVport p fun v => { v with pausedUntil := none, pauseLong := false }).raisePort 29 p)) ∧
  (∀ p k e es, Acts (.vehicleEgressDequeue · p k none) (fun c => Ready.portUp p c ∧ (c.vport p).paused c.clk.now = false ∧ (c.qm.queue (egressQueue p true)).entries = e :: es) (fun c =>
    (((c.dropHead (egressQueue p true)).macSent p e.data.length).emit (.frame p e.data)).stamped p e)) ∧
  (∀ p k e es, Acts (.vehicleEgressDequeue · p k none) (fun c => Ready.portUp p c ∧ (c.vport p).paused c.clk.now = false ∧ (c.qm.queue (egressQueue p true)).entries = [] ∧
      (c.qm.queue (egressQueue p false)).entries = e :: es ∧ (c.vport p).preempt = false) (fun c =>
    (((c.dropHead (egressQueue p false)).macSent p e.data.length).emit (.frame p e.data)).stamped p e)) ∧
  (∀ p k e es, Acts (.vehicleEgressDequeue · p k none) (fun c => Ready.portUp p c ∧ (c.vport p).paused c.clk.now = false ∧ (c.qm.queue (egressQueue p true)).entries = [] ∧
      (c.qm.queue (egressQueue p false)).entries = e :: es ∧ (c.vport p).preempt = true) (fun c =>
    ((((c.dropHead (egressQueue p false)).macSent p e.data.length).emit (.frame p e.data)).stamped p e).macCountBy p macTxFragments k)) ∧
  (∀ p k ecc, Acts (.vehicleEgressDequeue · p k ecc) (fun c => c.vportOn p = false ∨ (c.vport p).linkUp = false ∨ (c.vport p).paused c.clk.now = true) id) ∧
  (∀ p is100, Acts (.vehicleLinkChange · p true is100) (fun c => c.vportOn p = true ∧ (c.vport p).linkUp = false) (fun c =>
    (c.onVport p fun v => { v with linkUp := true, is100 := v.at100 p is100, preempt := false }).raisePort 26 p)) ∧
  (∀ p is100, Acts (.vehicleLinkChange · p false is100) (fun c => c.vportOn p = true ∧ (c.vport p).linkUp = true) (fun c =>
    ((c.onVport p fun v => { v with linkUp := false, is100 := false, preempt := false }).macCount p macLinkLosses).raisePort 26 p))

/-- RING_POLL, RX_RING_DELIVER, TX_CHAIN_PROCESS and the DDR4 rows (R326–R330, R334, R335). A frame is delivered only with as many descriptors owned as it
needs buffers; training and stopping complete the commands that wait for them. -/
def Obligations.RingMemoryEvents : Prop :=
  (∀ q descs, Acts (.ringPoll · q descs) (fun c => c.ringOn q = true) (fun c =>
    (c.onRing q fun x => { x with owned := (x.owned ++ (descs.map (padTo 64)).takeWhile descOwned).take 8 }).emit
      (.dmaRead ((c.eth.ring q).address + 64 * (((c.eth.ring q).next + (c.eth.ring q).owned.length) % (c.eth.ring q).count)) 64))) ∧
  (∀ q descs, Acts (.ringPoll · q descs) (fun c => c.ringOn q = false) id) ∧
  (∀ q e es, Acts (.rxRingDeliver · q none) (fun c => c.ringOn q = true ∧ isRx q = true ∧ (c.qm.queue q).entries = e :: es ∧
      (c.eth.ring q).owned.length < max 1 (ceilDiv e.data.length (c.eth.ring q).bufSize)) id) ∧
  (∀ q e es d ds, Acts (.rxRingDeliver · q none) (fun c => c.ringOn q = true ∧ isRx q = true ∧ (c.qm.queue q).entries = e :: es ∧ (c.qm.queue q).droppedSince = false ∧
      max 1 (ceilDiv e.data.length (c.eth.ring q).bufSize) = 1 ∧ (c.eth.ring q).owned = d :: ds ∧ pieces 1 (c.eth.ring q).bufSize e.data = [e.data]) (fun c =>
    ((((c.dropHead q).onQm fun m => m.upd q fun a => { a with droppedSince := false }).emits [.dma (u64 d 0) e.data, .dma ((c.eth.ring q).slotAddr 0)
      (padTo 64 (slice d 0 10 ++ le 1 6 ++ slice e.info 11 1 ++ le 2 e.data.length ++ le 2 e.data.length ++ e.info.drop 16))]).onRing q fun x => { x with
        owned := ds, next := (x.next + 1) % x.count }).ringEvent q 30 false)) ∧
  (∀ q more bufs failed d ds, Acts (.txChainProcess · q more bufs failed) (fun c => Ready.chain q more (d :: ds) c ∧ chainOk (d :: ds) = false) (fun c =>
    (((c.emit (.dma ((c.eth.ring q).slotAddr ((d :: ds).length - 1) + 40) (le 1 1 ++ zeros 1 ++ le 2 0 ++ zeros 4 ++ zeros 11 ++ zeros 5))).emits
      ((d :: ds).zipIdx.map fun x => Output.dma ((c.eth.ring q).slotAddr x.2 + 10) (le 1 (u8 x.1 10 / 2 * 2)))).onRing q fun x => { x with
        owned := ((Ready.descs q more c).drop (d :: ds).length).take 8, next := (x.next + (d :: ds).length) % x.count }).ringEvent q 31 true)) ∧
  (∀ q more bufs d ds c1, Acts (.txChainProcess · q more bufs false) (fun c => Ready.chainGood q more bufs d ds c1 c ∧ (u8 d 10).testBit 5 = false) (fun c =>
    let x := c.eth.ring q
    (((((Ready.chainPlaced bufs d ds c1).emits ((d :: ds).flatMap fun y => Output.dmaReads (u64 y 0) (u16 y 8))).onRing q fun y => { y with
        owned := ((Ready.descs q more c).drop (d :: ds).length).take 8, next := (y.next + (d :: ds).length) % y.count }).emit
      (.dma (x.slotAddr ds.length + 40) (le 1 0 ++ zeros 1 ++ le 2 (chainFrames d (Ready.chainData (d :: ds) bufs)).length ++ zeros 4 ++ zeros 16))).emits
      ((d :: ds).zipIdx.map fun y => Output.dma (x.slotAddr y.2 + 10) (le 1 (u8 y.1 10 / 2 * 2)))).ringEvent q 31 false)) ∧
  (∀ q more bufs d ds c1, Acts (.txChainProcess · q more bufs false) (fun c => Ready.chainGood q more bufs d ds c1 c ∧ (u8 d 10).testBit 5 = true) (fun c =>
    let x := c.eth.ring q
    (((Ready.chainPlaced bufs d ds c1).emits ((d :: ds).flatMap fun y => Output.dmaReads (u64 y 0) (u16 y 8))).onRing q fun y => { y with
        owned := ((Ready.descs q more c).drop (d :: ds).length).take 8, next := (y.next + (d :: ds).length) % y.count }).onEth fun e => { e with
      nextToken := c.eth.nextToken + 1
      waits := e.waits ++ [{ token := c.eth.nextToken, ring := q, last := x.slotAddr ds.length + 40, controls := (d :: ds).zipIdx.map fun y => (x.slotAddr y.2 + 10, u8 y.1 10 / 2 * 2)
                             head := le 1 0 ++ zeros 1 ++ le 2 (chainFrames d (Ready.chainData (d :: ds) bufs)).length ++ zeros 4 }] })) ∧
  (∀ q more bufs failed, Acts (.txChainProcess · q more bufs failed) (fun c => c.ringOn q = false ∨ isRx q = true ∨ (c.eth.waits.any fun w => w.ring == q) = true ∨
      takeChain 17 true (Ready.descs q more c) = []) id) ∧
  Acts (.ddrTrainingComplete · true) (fun c => c.mem.state = .training) (fun c =>
    ((c.onMem fun m => { m with state := .running }).raise 119).completeWaiting 0x080D 0 (le 1 MemSt.running.code ++ zeros 3)) ∧
  Acts (.ddrTrainingComplete · false) (fun c => c.mem.state = .training) (fun c =>
    ((c.onMem fun m => { m with state := .failed }).raise 119).completeWaiting 0x080D 0 (le 1 MemSt.failed.code ++ zeros 3)) ∧
  (∀ ok, Acts (.ddrTrainingComplete · ok) (fun c => c.mem.state ≠ .training) id) ∧
  Acts (.ddrScrubPass · 0 []) (fun c => c.mem.state = .running) (fun c => c.onMem fun m => { m with
    corrected := sat32 m.corrected, scrubPasses := sat32 (m.scrubPasses + 1), ces := m.ces.filter fun x => decide (c.clk.now < x.1 + 3600000000000) }) ∧
  (∀ n l, Acts (.ddrScrubPass · n l) (fun c => c.mem.state ≠ .running) id) ∧
  Acts .memStopDrained (fun c => c.mem.stopping = true ∧ c.memDrained = true) (fun c => c.memStopped.completeWaiting 0x080E 0) ∧
  Acts .memStopDrained (fun c => c.mem.stopping = false ∨ c.memDrained = false) id ∧
  Acts .memStopTimeout (fun c => c.mem.stopping = true ∧ (∀ q < 64, (c.qm.queue q).spilling = false)) (fun c => c.memStopped.completeWaiting 0x080E 0) ∧
  (∀ q < 64, Acts .memStopTimeout (fun c => c.mem.stopping = true ∧ (c.qm.queue q).spilling = true ∧ (∀ k < 64, k ≠ q → (c.qm.queue k).spilling = false) ∧ c.qm.queues.length = 64) (fun c =>
    ((c.onQm fun m => m.upd q fun a => { a with entries := a.entries.filter fun e => !e.inDdr, droppedSince := true
                                                dropped := sat32 (a.dropped + (a.entries.filter fun e => e.inDdr).length) }).raiseD 117 2 q 0).memStopped.completeWaiting 0x080E 0)) ∧
  Acts .memStopTimeout (fun c => c.mem.stopping = false) id

/-- NUTMEG_FRAME_TIMER, MACE_FRAME_RX, NUTMEG_ANSWER_RX, the link timeouts, LOCKSTEP_MISMATCH and MACE_CLOCK_MEASURE (R373–R375). -/
def Obligations.IslandLinkEvents : Prop :=
  (∀ t s, (s.chip.tick t).safe.nutmeg.on = true → (s.chip.tick t).safe.farewell ≠ some 0 →
    ∃ X fr, Leaves (.nutmegFrameTimer t) t s X ∧ X.safe.toMace = some fr ∧ fr.number = s.chip.safe.nextNumber ∧ X.safe.nextNumber = (s.chip.safe.nextNumber + 1) % 65536) ∧
  ActsAlways (.maceFrameRx · false) (fun c => c.safe.toMace.isSome = true ∧ c.safe.mace.on = true) (fun c => c.onSafe fun s =>
    { (SafeIsland.count { s with toMace := none } sfLinkErrors) with missed := true }) ∧
  (∀ fr, ActsAlways (.maceFrameRx · true) (fun c => c.safe.toMace = some fr ∧ c.safe.mace.on = true ∧ c.safe.last = none) (fun c => c.onSafe fun s =>
    let s' := SafeIsland.count { s with toMace := none } sfLinkErrors
    { s' with last := some fr.number, missed := false, toNutmeg := some (SafeIsland.frame { s' with last := some fr.number, missed := false } false fr.number none) })) ∧
  (∀ fr, ActsAlways (.nutmegAnswerRx · true) (fun c => Ready.answered fr c) (fun c =>
    let d := c.onSafe fun s => SafeIsland.nutmegTake { s with toNutmeg := none } fr
    if d.safe.redeliver && d.firmware then d.onSafe fun s => SafeIsland.deliver { s with redeliver := false } else d)) ∧
  (∀ fr t s, Ready.answered fr (s.chip.tick t) → (s.chip.tick t).safe.redeliver = false → fr.state = .safeStop → fr.safeStop = true → (s.chip.tick t).safe.nutmeg.state ≠ .safeStop →
    ∃ X, Leaves (.nutmegAnswerRx t true) t s X ∧ X.safe.toNutmeg = none ∧ X.safe.nutmeg.state = .safeStop ∧ X.safe.nutmeg.stopReason = 6) ∧
  (∀ fr good, ActsAlways (.nutmegAnswerRx · good) (fun c => c.safe.toNutmeg = some fr ∧ c.safe.nutmeg.on = true ∧ c.safe.redeliver = false ∧
      (good && c.safe.sent.any fun x => x.1 == fr.number && decide (c.clk.now ≤ x.2 + 2000000)) = false) (fun c =>
    c.onSafe fun s => SafeIsland.count { s with toNutmeg := none } sfLinkErrors)) ∧
  ActsAlways .maceLinkTimeout (fun c => c.safe.mace.on = true) (fun c => c.onSafe fun s => s.holdOn false) ∧
  ActsAlways .nutmegLinkTimeout (fun c => c.safe.nutmeg.on = true) (fun c => c.onSafe fun s => s.holdOn true) ∧
  ActsAlways .nutmegLinkTimeout (fun c => c.safe.nutmeg.on = false) id ∧
  (∀ t s, (s.chip.tick t).safe.mace.on = true → (s.chip.tick t).safe.mace.state = .running → ∃ X, Leaves (.maceLinkTimeout t) t s X ∧ X.safe.mace.state = .hold ∧
    X.safe.candidate = none ∧ ∀ y ∈ X.safe.mace.outs, y.demand = false) ∧
  (∀ t s, (s.chip.tick t).safe.nutmeg.on = true → (s.chip.tick t).safe.nutmeg.state ≠ .safeStop →
    ∃ X, Leaves (.lockstepMismatch t) t s X ∧ X.safe.nutmeg.state = .safeStop ∧ X.safe.nutmeg.stopReason = 1 ∧ X.safe.farewell = some 3 ∧ ∀ y ∈ X.safe.nutmeg.outs, y.demand = false) ∧
  (∀ w, ActsAlways (.maceClockMeasure · w) (fun c => c.safe.nutmeg.on = true ∧ 850000 ≤ w ∧ w ≤ 1150000) (fun c => c.onSafe fun s => { s with clockBad := 0 })) ∧
  (∀ w, ActsAlways (.maceClockMeasure · w) (fun c => c.safe.nutmeg.on = true ∧ ¬(850000 ≤ w ∧ w ≤ 1150000) ∧ c.safe.clockBad = 0) (fun c => c.onSafe fun s => { s with clockBad := 1 })) ∧
  (∀ w t s, (s.chip.tick t).safe.nutmeg.on = true → ¬(850000 ≤ w ∧ w ≤ 1150000) → 1 ≤ (s.chip.tick t).safe.clockBad → (s.chip.tick t).safe.nutmeg.state ≠ .safeStop →
    ∃ X, Leaves (.maceClockMeasure t w) t s X ∧ X.safe.nutmeg.state = .safeStop ∧ X.safe.nutmeg.stopReason = 4)

/-- SAFE_FUNCTION_EVAL, DISCREPANCY_TIMEOUT, INPUT_TEST_PULSE, OFF_PULSE_SLOT, BRAKE_FEEDBACK_DEADLINE and ACK_STUCK_TIMEOUT (R382–R393). -/
def Obligations.IslandChannelEvents : Prop :=
  (∀ n l rb, ActsAlways (.safeFunctionEval · n l rb) (fun c => (c.safe.chan n).on = false) (fun c => c.onSafe id)) ∧
  (∀ n l rb t s, ((s.chip.tick t).safe.chan n).on = true → ((s.chip.tick t).safe.chan n).set = none →
    ∃ X, Leaves (.safeFunctionEval t n l rb) t s X ∧ (X.safe.chan n).clk = (s.chip.safe.chan n).clk + 50 * l.length ∧ (X.safe.chan n).readback = rb ∧
      (∀ r, l.getLast? = some r → (X.safe.chan n).raw = r) ∧ (X.safe.chan n).state = (s.chip.safe.chan n).state ∧ (X.safe.chan n).outs = (s.chip.safe.chan n).outs) ∧
  (∀ n l rb t s, ((s.chip.tick t).safe.chan n).on = true →
    ∃ X, Leaves (.safeFunctionEval t n l rb) t s X ∧ (X.safe.chan n).clk = (s.chip.safe.chan n).clk + 50 * l.length ∧ (X.safe.chan n).readback = rb ∧
      (∀ r, l.getLast? = some r → (X.safe.chan n).raw = r) ∧ (X.safe.chan n).set = (s.chip.safe.chan n).set ∧ (X.safe.chan n).on = true) ∧
  (∀ n i, ActsAlways (.discrepancyTimeout · n i) (fun _ => True) (fun c => c.onSafe fun s => s.onChan n fun x => { x with
    ins := updAt x.ins i fun y => if x.set.isSome ∧ y.differ.isSome then { y with fault := if y.fault = 0 then 0x01 else y.fault, causeAt := x.clk } else y })) ∧
  (∀ j a b, ActsAlways (.inputTestPulse · j a b) (fun c => Ready.pulsed j c ∧ c.safe.nutmeg.on = true ∧ c.safe.nutmeg.set.isSome = true) (fun c => (Ready.pulse j c).onSafe fun s =>
    ((s.onChan false fun x => SafeChan.judgePulse { x with due := x.due &&& ~~~(1#16 <<< j) } j b).count sfInputPulses).onChan true fun x => x.judgePulse j a)) ∧
  (∀ j a b, ActsAlways (.inputTestPulse · j a b) (fun c => Ready.pulsed j c ∧ c.safe.nutmeg.on = false) (fun c => (Ready.pulse j c).onSafe fun s =>
    (s.onChan false fun x => SafeChan.judgePulse { x with due := x.due &&& ~~~(1#16 <<< j) } j b).count sfInputPulses)) ∧
  (∀ j a b, ActsAlways (.inputTestPulse · j a b) (fun c => c.safe.pulsesSource j = false) (fun c => c.onSafe id)) ∧
  (∀ k, ActsAlways (.offPulseSlot · k ⟨true, true⟩ ⟨true, true⟩ ⟨true, true⟩) (fun c => c.safe.pulses k = true) (fun c =>
    let quiet := fun (x : SafeChan) => { x with outs := updAt x.outs (k / 2) fun (y : SafeOut) => { y with quietUntil := x.clk + u16 x.params 0x24 + 10000 } }
    ((c.emit (.safeOut (k / 2) (k % 2 == 0) false)).emit (.safeOut (k / 2) (k % 2 == 0) true)).onSafe fun s => ((s.onChan true quiet).onChan false quiet).count sfOffPulses)) ∧
  (∀ k a b d, ActsAlways (.offPulseSlot · k a b d) (fun c => c.safe.pulses k = false) (fun c => c.onSafe id)) ∧
  (∀ n o, ActsAlways (.brakeFeedbackDeadline · n o) (fun c => (c.safe.chan n).set.isSome = true ∧ outFn (c.safe.chan n).params o = 3) (fun c => c.onSafe fun s => s.onChan n fun x =>
    { x with outs := updAt x.outs o fun y =>
        if y.settled ∨ y.fault ≠ 0 then y
        else if x.fnV (outFeedback x.params o) = y.demand then { y with settled := true }
        else y.fail (if y.demand then 0x14 else 0x13) x.clk (outManual x.params o) })) ∧
  (∀ at0, ActsAlways (.ackStuckTimeout · true) (fun c => c.safe.nutmeg.ack = .pressed at0) (fun c => c.onSafe fun s =>
    (s.onChan true fun x => { x with ack := .stuck }).countAck sfAckStuck)) ∧
  (∀ at0, ActsAlways (.ackStuckTimeout · false) (fun c => c.safe.mace.ack = .pressed at0) (fun c => c.onSafe fun s => s.onChan false fun x => { x with ack := .stuck }))

/-- STARTING_COMPLETE, COMPANION_POWER_UP, COMPANION_SUPPLY_LOW, PASSWORD_LOCKOUT_EXPIRY and AUTHORISATION_EXPIRY (R376, R377, R394, R399). -/
def Obligations.IslandLifeEvents : Prop :=
  (∀ n ok, ActsAlways (.startingComplete · n ok) (fun c => (c.safe.chan n).state ≠ .starting) (fun c => c.onSafe id)) ∧
  (∀ n t s, ((s.chip.tick t).safe.chan n).state = .starting → ∃ X, Leaves (.startingComplete t n false) t s X ∧ (X.safe.chan n).state = .safeStop ∧ (X.safe.chan n).stopReason = 5) ∧
  (∀ n t s, ((s.chip.tick t).safe.chan n).state = .starting → (s.chip.tick t).safe.nutmeg.set ≠ (s.chip.tick t).safe.mace.set →
    ∃ X, Leaves (.startingComplete t n true) t s X ∧ (X.safe.chan n).state = .safeStop ∧ (X.safe.chan n).stopReason = 3) ∧
  (∀ n t s, ((s.chip.tick t).safe.chan n).state = .starting → (s.chip.tick t).safe.nutmeg.set = (s.chip.tick t).safe.mace.set →
    (∀ j < 16, inKind ((s.chip.tick t).safe.chan n).params (j / 2) = 1 ∨ inKind ((s.chip.tick t).safe.chan n).params (j / 2) = 2 →
      ((s.chip.tick t).safe.chan n).pulsed.getLsbD j = true) → ∃ X, Leaves (.startingComplete t n true) t s X ∧ (X.safe.chan n).state = .running) ∧
  ActsAlways .companionPowerUp (fun c => c.clove.companionOff = true) id ∧
  ActsAlways .companionPowerUp (fun c => c.clove.companionOff = false ∧ c.safe.mace.on = false) (fun c => c.onSafe fun s => { s with mace := { on := true }, last := none, missed := false, toNutmeg := none }) ∧
  ActsAlways .companionPowerUp (fun c => c.clove.companionOff = false ∧ c.safe.mace.on = true) (fun c => c.onSafe id) ∧
  ActsAlways .companionSupplyLow (fun _ => True) (fun c => c.onSafe fun s => { s with mace := {}, toNutmeg := none }) ∧
  ActsAlways .passwordLockoutExpiry (fun _ => True) (fun c => c.onSafe fun s => { s with lockout := false }) ∧
  ActsAlways .authorisationExpiry (fun _ => True) (fun c => c.onSafe fun s => { s with authorised := false })

/-- The wake rows (R409, R410, R414): a wake source enabled in SLEEP starts WAKING with its cause and port; TRAIN_WAKE also latches a pulse of its own. -/
def Obligations.WakeEvents : Prop :=
  (∀ rear, ActsAlways (.trainWakePulseDetect · rear) (fun c => c.clove.powered = false ∨ c.pwr.trainWake rear = false) id) ∧
  (∀ rear, ActsAlways (.trainWakePulseDetect · rear) (fun c => c.clove.powered = true ∧ c.pwr.trainWake rear = true ∧ (c.clove.driving = true ∨ c.clk.now < c.clove.refractory)) (fun c =>
    c.tieWake (1 + b2n rear) (60 + b2n rear))) ∧
  (∀ rear, ActsAlways (.trainWakePulseDetect · rear) (fun c => c.clove.powered = true ∧ c.clove.driving = false ∧ c.clove.refractory ≤ c.clk.now ∧ c.pwr.trainWake rear = true ∧
      c.clove.state = .sleep) (fun c => (c.wakePulse.pwCount pwPulsesDetected).wakeUp (1 + b2n rear) (60 + b2n rear) 1)) ∧
  (∀ rear d, ActsAlways (.trainWakePulseDetect · rear) (fun c => c.clove.powered = true ∧ c.clove.driving = false ∧ c.clove.refractory ≤ c.clk.now ∧ c.pwr.trainWake rear = true ∧
      c.clove.state ≠ .sleep ∧ c.wakePulse.pwCount pwPulsesDetected = d) (fun _ =>
    ((if d.firmware then d.raisePort 110 (60 + b2n rear) else d).wakeRequest.2).tieWake (1 + b2n rear) (60 + b2n rear))) ∧
  ActsAlways .wakePulseEnd (fun c => c.clove.driving = true) (fun c => c.onClove fun k => { k with driving := false, refractory := c.clk.now + 100000000 }) ∧
  ActsAlways .wakePulseEnd (fun c => c.clove.driving = false) id ∧
  (∀ n, ActsAlways (.canWakeDetect · n) (fun c => c.pwr.canWake n = true ∧ c.clove.state = .sleep) (fun c => c.wakeUp 3 (36 + n) 1)) ∧
  (∀ n, ActsAlways (.canWakeDetect · n) (fun c => c.pwr.canWake n = true ∧ c.clove.state ≠ .sleep) (fun c => c.tieWake 3 (36 + n))) ∧
  (∀ n, ActsAlways (.canWakeDetect · n) (fun c => c.pwr.canWake n = false ∨ (c.clove.state ≠ .sleep ∧ c.clove.state ≠ .waking)) id) ∧
  (∀ p, ActsAlways (.carbusWakeDetect · p) (fun c => c.pwr.carBusWake p = true ∧ c.clove.state = .sleep) (fun c => c.wakeUp 4 p 1)) ∧
  (∀ p, ActsAlways (.carbusWakeDetect · p) (fun c => c.pwr.carBusWake p = true ∧ c.clove.state ≠ .sleep) (fun c => c.wakeRequest.2.tieWake 4 p)) ∧
  (∀ p, ActsAlways (.carbusWakeDetect · p) (fun c => c.pwr.carBusWake p = false) id) ∧
  ActsAlways .wakeAfterExpiry (fun c => c.pwr.wakeAfter ≠ 0 ∧ c.clove.state = .sleep) (fun c => c.wakeUp 5 0xFF 1) ∧
  (∀ t s, (s.chip.tick t).pwr.wakeAfter ≠ 0 → (s.chip.tick t).clove.state = .sleep → ∃ X, Leaves (.wakeAfterExpiry t) t s X ∧ X.clove.state = .waking ∧ X.clove.wakeCause = 5 ∧
    X.clove.wakePort = 0xFF ∧ X.clove.resetCause = 1 ∧ X.clove.latched = false) ∧
  ActsAlways .falseWakeTimeout (fun c => c.pwr.checking = true) (fun c => (((c.onPwr fun p => { p with checking := false }).raiseD 108 0 0xFFFF 0).pwCount pwFalseWakes).enterPrepare) ∧
  ActsAlways .falseWakeTimeout (fun c => c.pwr.checking = false) id

/-- The rows of the vote, the grant and the abort (R415–R417). A grant lets the train commit after 10 ms and 50 µs for each node, and sleep 2 ms and 40 µs for each node later. -/
def Obligations.SleepAgreementEvents : Prop :=
  Acts .sleepVoteTimer (fun c => c.rolling = true ∧ c.pwr.votes.isSome = true ∧ c.recordedLeader = false) (fun c => c.sendLease c.leaderEnd { c.leaseMsg 3 4 with grantor := 0 }) ∧
  Acts .sleepVoteTimer (fun c => c.rolling = false ∨ c.pwr.votes = none ∨ c.recordedLeader = true) id ∧
  (∀ p raw m d, Acts (.sleepVoteRx · p raw) (fun c => Ready.sleepMsg p raw m c ∧ m.request = true ∧ m.expiry = 0 ∧ c.recordedLeader = true ∧ m.epoch = c.epoch ∧ m.release = true ∧
      Ready.leaseCopy p raw c = (true, d)) (fun _ =>
    d.onPwr fun q => { q with held := (q.held.filter fun v => decide (d.clk.now ≤ v.last + 300000000)).filter fun v => v.node != m.holder })) ∧
  (∀ p raw m d, Acts (.sleepVoteRx · p raw) (fun c => Ready.sleepMsg p raw m c ∧ m.request = true ∧ m.expiry = 0 ∧ c.recordedLeader = true ∧ m.epoch = c.epoch ∧ m.release = false ∧
      Ready.leaseCopy p raw c = (true, d) ∧ ((d.pwr.held.filter fun v => decide (d.clk.now ≤ v.last + 300000000)).find? fun v => v.node == m.holder) = none) (fun _ =>
    d.onPwr fun q => { q with held := ((q.held.filter fun v => decide (d.clk.now ≤ v.last + 300000000)).filter fun v => v.node != m.holder) ++
      [{ node := m.holder, since := d.clk.now, last := d.clk.now }] })) ∧
  (∀ p raw m, Acts (.sleepVoteRx · p raw) (fun c => Ready.sleepMsg p raw m c ∧ m.request = true ∧ m.expiry = 0 ∧ c.recordedLeader = false) (fun c => c.relayLease p raw.outer m)) ∧
  (∀ p raw m, Acts (.sleepVoteRx · p raw) (fun c => Ready.sleepMsg p raw m c ∧ m.request = true ∧ m.expiry = 0 ∧ c.recordedLeader = true ∧ m.epoch ≠ c.epoch) id) ∧
  Acts .sleepVoteExpiry (fun _ => True) (fun c => c.onPwr fun p => { p with held := p.held.filter fun v => decide (c.clk.now ≤ v.last + 300000000) }) ∧
  Acts .sleepGrantIssue (fun c => c.rolling = true ∧ c.actsAsLeader = true ∧ c.timeValid = true ∧ (c.rc.state = .settled ∨ c.rc.state = .held) ∧ c.pwr.lastAbort = none ∧
      c.pwr.grant = none ∧ c.clove.state = .awake ∧ c.nodeCount ≠ 0 ∧ c.votersNeeded.all (c.voteHeld c.pwr.settle) = true) (fun c =>
    let tc := c.trainTime + 10000000 + 50000 * c.nodeCount
    let ts := tc + 2000000 + 40000 * c.nodeCount
    ((c.sendTwice [0, 1] { c.leaseMsg 3 1 with holder := 0, start := tc, expiry := ts }).armSleep { commit := tc, sleep := ts, epoch := c.epoch }).pwCount pwGrants) ∧
  Acts .sleepGrantIssue (fun c => c.rolling = false ∨ c.actsAsLeader = false ∨ c.votersNeeded.all (c.voteHeld c.pwr.settle) = false) id ∧
  (∀ p raw m d, Acts (.sleepGrantRx · p raw) (fun c => Ready.sleepMsg p raw m c ∧ m.request = false ∧ m.release = false ∧
      Ready.leaseCopy p raw (c.relayLease p raw.outer m) = (true, d)) (fun _ =>
    let d := d.heardSchedule m
    if !d.fromLeader p m ∨ !d.timeValid ∨ d.recordedLeader ∨ d.pwr.grant.isSome ∨ d.clove.state ≠ .awake ∨ m.start = d.pwr.cancelled ∨ m.expiry ≤ d.trainTime then d
    else (d.armSleep { commit := m.start, sleep := m.expiry, epoch := m.epoch }).raiseD 105 0 0xFFFF (10000 + 50 * d.nodeCount))) ∧
  (∀ p raw m d, Acts (.sleepGrantRx · p raw) (fun c => Ready.sleepMsg p raw m c ∧ m.request = false ∧ m.release = false ∧
      Ready.leaseCopy p raw (c.relayLease p raw.outer m) = (false, d)) (fun _ => d)) ∧
  (∀ p raw m, Acts (.abortRequestRx · p raw) (fun c => Ready.sleepMsg p raw m c ∧ m.request = true ∧ m.release = true ∧ m.expiry ≠ 0 ∧ c.recordedLeader = false) (fun c =>
    c.relayLease p raw.outer m)) ∧
  (∀ p raw m d g, Acts (.abortRequestRx · p raw) (fun c => Ready.sleepMsg p raw m c ∧ m.request = true ∧ m.release = true ∧ m.expiry ≠ 0 ∧ c.recordedLeader = true ∧
      Ready.leaseCopy p raw c = (true, d) ∧ d.pwr.grant = some g ∧ m.epoch = d.epoch ∧ m.expiry = g.sleep ∧ m.start < g.commit) (fun _ => d.floodAbort g)) ∧
  (∀ p raw m d g, Acts (.abortRequestRx · p raw) (fun c => Ready.sleepMsg p raw m c ∧ m.request = true ∧ m.release = true ∧ m.expiry ≠ 0 ∧ c.recordedLeader = true ∧
      Ready.leaseCopy p raw c = (true, d) ∧ d.pwr.grant = some g ∧ (m.epoch ≠ d.epoch ∨ m.expiry ≠ g.sleep ∨ g.commit ≤ m.start)) (fun _ => d)) ∧
  (∀ p raw m d g, Acts (.sleepAbortRx · p raw) (fun c => Ready.sleepMsg p raw m c ∧ m.request = false ∧ m.release = true ∧
      Ready.leaseCopy p raw (c.relayLease p raw.outer m) = (true, d) ∧ (d.heardSchedule m).pwr.grant = some g) (fun _ =>
    let d := d.heardSchedule m
    if d.fromLeader p m ∧ m.expiry = g.sleep ∧ d.trainTime < g.sleep then d.cancelGrant else d)) ∧
  (∀ p raw m d, Acts (.sleepAbortRx · p raw) (fun c => Ready.sleepMsg p raw m c ∧ m.request = false ∧ m.release = true ∧
      Ready.leaseCopy p raw (c.relayLease p raw.outer m) = (true, d) ∧ (d.heardSchedule m).pwr.grant = none) (fun _ =>
    let d := d.heardSchedule m
    if d.fromLeader p m then d.onPwr fun q => { q with cancelled := m.start } else d)) ∧
  (∀ p raw m d, Acts (.sleepAbortRx · p raw) (fun c => Ready.sleepMsg p raw m c ∧ m.request = false ∧ m.release = true ∧
      Ready.leaseCopy p raw (c.relayLease p raw.outer m) = (false, d)) (fun _ => d))

/-- The rows of the way into SLEEP and of Clove (R406, R412, R419, R426, R35, R445). -/
def Obligations.SleepEntryEvents : Prop :=
  (∀ g, Acts .sleepInstant (fun c => c.pwr.grant = some g ∧ c.clove.state = .armed) (fun c => c.enterPrepare)) ∧
  (∀ g, Acts .sleepInstant (fun c => c.pwr.grant = some g ∧ c.clove.state = .awake ∧ g.asked = true) (fun c =>
    ((c.onPwr fun p => { p with grant := none, cancelled := g.commit }).pwCount pwAborts).wakePulse)) ∧
  Acts .sleepInstant (fun c => c.pwr.grant = none) id ∧
  ActsAlways .cloveCountdownExpiry (fun c => c.clove.state = .armed ∧ c.clove.countdown.isSome = true) (fun c => c.enterPrepare) ∧
  ActsAlways .cloveCountdownExpiry (fun c => c.clove.state ≠ .armed ∨ c.clove.countdown = none) id ∧
  ActsAlways .sleepReady (fun c => c.clove.state = .prepare ∧ c.clove.switching = false ∧ c.firmware = true ∧
      (3 ≤ c.safe.plannedSent ∨ c.safe.nutmeg.on = false)) (fun c =>
    ((c.onPwr fun p => { p with savedCan := (List.range 12).filterMap fun n => if p.canWake n then some (n, (c.canCh n).bufs) else none }).drainRecorder).saveTimes.switchOff false) ∧
  ActsAlways .sleepReady (fun c => c.clove.state ≠ .prepare ∨ c.clove.switching = true ∨ c.firmware = false ∨ (c.safe.plannedSent < 3 ∧ c.safe.nutmeg.on = true)) id ∧
  ActsAlways .prepareFailsafeTimeout (fun c => c.clove.state = .prepare ∧ c.clove.switching = false) (fun c =>
    (c.onQm fun m => m.upd 60 fun a => { a with entries := [] }).switchOff true) ∧
  ActsAlways .prepareFailsafeTimeout (fun c => c.clove.state ≠ .prepare ∨ c.clove.switching = true) id ∧
  (∀ t s, (s.chip.tick t).clove.state = .prepare → (s.chip.tick t).clove.switching = true → (s.chip.tick t).clove.latched = false →
    ∃ X, Leaves (.sleepEntryComplete t) t s X ∧ X.clove.state = .sleep ∧ X.clove.switching = false ∧ X.clove.sleptAt = max s.chip.clk.now t ∧ X.mainDie = false ∧ X.fuses = s.chip.fuses ∧
      X.pwr.config = s.chip.pwr.config) ∧
  (∀ t s, (s.chip.tick t).clove.powered = true → (s.chip.tick t).clove.state = .awake → ∃ X, Leaves (.referenceLost t) t s X ∧ X.clove.refRunning = false ∧ X.clove.refLost = true ∧
    X.clove.resetCause = 3 ∧ X.mainDie = false) ∧
  ActsAlways .referenceReturn (fun _ => True) (fun c => c.onClove fun k => { k with refRunning := true }) ∧
  (∀ k : Clove, ∀ a, k.healthy a = true ↔ k.challenged = false ∨ ∃ n, a = some n ∧ n % 65536 = (k.challenge + 1) % 65536) ∧
  (∀ a, ActsAlways (.healthChallenge · a) (fun c => c.firmware = true ∧ c.clove.healthy a = true) (fun c => c.draw.2.onClove fun k => { k with
    challenge := c.draw.1 % 65536, challenged := true, answer := (a.getD k.answer) % 65536 })) ∧
  (∀ a, ActsAlways (.healthChallenge · a) (fun c => c.firmware = true ∧ c.clove.healthy a = false ∧ (c.clove.state = .awake ∨ c.clove.state = .waking ∨ c.clove.state = .sleep)) (fun c =>
    (Ready.sick a c).fwDown 5)) ∧
  (∀ a, ActsAlways (.healthChallenge · a) (fun c => c.firmware = true ∧ c.clove.healthy a = false ∧ c.clove.state = .armed) (fun c => (Ready.sick a c).failSafePath)) ∧
  (∀ a, ActsAlways (.healthChallenge · a) (fun c => c.firmware = true ∧ c.clove.healthy a = false ∧ c.clove.state = .prepare) (fun c =>
    if c.clove.switching then Ready.sick a c else (Ready.sick a c).failSafePath)) ∧
  (∀ a, ActsAlways (.healthChallenge · a) (fun c => c.firmware = false) id) ∧
  ActsAlways .optimeSave (fun c => c.clove.powered = false ∨ c.clove.state = .sleep ∨ c.log.state = .failed) id ∧
  ActsAlways .optimeSave (fun c => c.clove.powered = true ∧ c.clove.state ≠ .sleep ∧ c.log.state ≠ .failed) (fun c =>
    c.onLog fun r => { r with savedOp := r.opTime c.clk.now, savedAwake := r.awakeTime c.clk.now })

/-- The rows of power-up, the resets and the start (R442–R451, R467, R468), CRYSTAL_STABLE and CRYSTAL_LOST, and RECORD_STORE (R430–R433). -/
def Obligations.StartEvents : Prop :=
  ActsAlways .powerUp (fun c => c.clove.powered = true) id ∧
  (∀ t s, (s.chip.tick t).clove.powered = false → ∃ X, Leaves (.powerUp t) t s X ∧ X.clove = { powered := true, refRunning := s.chip.clove.refRunning, nrstHigh := s.chip.clove.nrstHigh, counted := true } ∧
    X.log.opMark = max s.chip.clk.now t ∧ X.log.powerCycles = s.chip.log.savedPower ∧ X.boot = s.chip.boot ∧ X.fuses = s.chip.fuses) ∧
  (∀ t s, ∃ X, Leaves (.alwaysOnLoss t) t s X ∧ X.clove.powered = false ∧ X.clove.refRunning = s.chip.clove.refRunning ∧ X.mainDie = false ∧ X.fuses = s.chip.fuses ∧
    X.boot.journal = s.chip.boot.journal ∧ X.pwr.config = pwrReset) ∧
  (∀ t s, (s.chip.tick t).clove.powered = true → (s.chip.tick t).clove.state ≠ .sleep →
    ∃ X, Leaves (.nrstAssert t) t s X ∧ X.clove.nrstHigh = false ∧ X.clove.resetCause = 2 ∧ X.mainDie = false ∧ X.fuses = s.chip.fuses ∧ X.clove.latched = false ∧
      X.bypassHigh = false ∧ X.qspiDriven = false ∧ ∀ p, X.gpioUse p = .input ∧ X.vportPowered p = false) ∧
  ActsAlways .nrstRelease (fun _ => True) (fun c => c.onClove fun k => { k with nrstHigh := true }) ∧
  (∀ hang fails, ActsAlways (.mainDieRelease · hang fails) (fun c => Ready.releasable c ∧ c.clove.waiting = false) (fun c =>
    Chip.runStart false hang fails { ((c.rebase.onLog fun r => { r with powerCycles := (r.powerCycles + 1) % 4294967296 }).onBoot fun b => { b with startCount := 1 }) with
      safe := c.safe.nutmegUp })) ∧
  (∀ hang fails, ActsAlways (.mainDieRelease · hang fails) (fun c => ¬Ready.releasable c ∨ c.clove.waiting = true) id) ∧
  (∀ t s, (s.chip.tick t).boot.state = .booting → ∃ X, Leaves (.bootStepWatchdog t) t s X ∧ X.clove.resetCause = 4 ∧ X.mainDie = false ∧ X.fuses = s.chip.fuses) ∧
  ActsAlways .bootStepWatchdog (fun c => c.boot.state ≠ .booting) id ∧
  (∀ hang fails, ActsAlways (.retryWaitExpiry · hang fails) (fun c => Ready.releasable c ∧ c.clove.waiting = true) (fun c =>
    let d := c.onClove fun k => { k with waiting := false }
    Chip.runStart false hang fails { ((d.rebase.onLog fun r => { r with powerCycles := (r.powerCycles + 1) % 4294967296 }).onBoot fun b => { b with startCount := 1 }) with
      safe := d.safe.nutmegUp })) ∧
  (∀ hang fails, ActsAlways (.retryWaitExpiry · hang fails) (fun c => c.clove.waiting = false) id) ∧
  (∀ hang fails t s, (s.chip.tick t).boot.restart = some 1 → ∃ X, Leaves (.firmwareRestart t hang fails) t s X ∧ X.clove.resetCause = 7 ∧ X.mainDie = false) ∧
  (∀ hang fails, ActsAlways (.firmwareRestart · hang fails) (fun c => c.boot.restart = some 0) (fun c => (c.fwDown 6).fwStart hang fails)) ∧
  (∀ hang fails, ActsAlways (.firmwareRestart · hang fails) (fun c => c.boot.restart = none ∧ c.boot.down = true) (fun c => c.fwStart hang fails)) ∧
  (∀ hang fails, ActsAlways (.firmwareRestart · hang fails) (fun c => c.boot.restart = none ∧ c.boot.down = false) id) ∧
  (∀ t s, (s.chip.tick t).firmware = true → ∃ X, Leaves (.firmwareFatalError t) t s X ∧ X.boot.state = .reset ∧ X.boot.down = true ∧ X.clove.resetCause = 8 ∧
    X.rc.state = .stopped ∧ X.br.running = false ∧ X.fuses = s.chip.fuses ∧ X.safe = s.chip.safe) ∧
  ActsAlways .firmwareFatalError (fun c => c.firmware = false) id ∧
  ActsAlways .crystalStable (fun _ => True) (fun c => c.onClove fun k => { k with crystal := k.powered }) ∧
  ActsAlways .crystalLost (fun _ => True) (fun c => c.onClove fun k => { k with crystal := false, crystalNote := true }) ∧
  (∀ l ecc, Acts (fun t => .recordStore ⟨t, ecc⟩ l) (fun c => c.log.state = .running ∧ (c.qm.queue 60).entries = []) (fun c => Ready.wornBy l c)) ∧
  (∀ e i ecc, Acts (fun t => .recordStore ⟨t, ecc⟩ []) (fun c => c.log.state = .running ∧ (c.takeHead 60 ecc).1 = some e ∧ (c.takeHead 60 ecc).2.log.choose e.data = some i ∧
      ((c.takeHead 60 ecc).2.log.slots.any fun x => x.1 == i) = false ∧ recSeverity e.data < u8 e.info 0) (fun c =>
    let d := (c.takeHead 60 ecc).2
    (d.draw.2.onLog fun r => { r.put i e.data with writing := some (i, d.clk.now + d.draw.1 % 20000) }).logCount recStored)) ∧
  (∀ e a, Acts (fun t => .recordStore ⟨t, some a⟩ []) (fun c => c.log.state = .running ∧ (c.qm.queue 60).entries.head? = some e ∧ e.inDdr = false ∧ a < 4294967296) (fun c =>
    (((c.dropHead 60).onQm fun m => m.upd 60 fun x => { x with eccDropped := sat32 (x.eccDropped + 1), droppedSince := true }).onQm fun m =>
      { m with retiredCells := m.retiredCells + 1 }).raiseD 118 2 60 0)) ∧
  (∀ e ecc, Acts (fun t => .recordStore ⟨t, ecc⟩ []) (fun c => c.log.state = .failed ∧ (c.takeHead 60 ecc).1 = some e) (fun c =>
    (c.takeHead 60 ecc).2.logCount recDroppedFull)) ∧
  (∀ l ecc, Acts (fun t => .recordStore ⟨t, ecc⟩ l) (fun c => c.log.state = .erasing) (fun c => (Ready.wornBy l c).eraseEnd))

/-! Rules of the whole block. -/

/-- The command at the front of the queue is the one that a step runs, on the state with the rest of the queue; every command answers a next state and
leaves the rest waiting; with none waiting only the core clock goes on, by one cycle of 5 ns. -/
def Obligations.StepRunsTheFrontCommand : Prop :=
  (∀ (i : Instr) (s : State), Machine.step { s with pending := i :: s.pending } = Machine.exec i s) ∧
  (∀ (i : Instr) (s : State), ∃ c, Machine.exec i s = .next { s with chip := c }) ∧
  (∀ s : State, s.pending = [] → Machine.step s = .next { s with chip := s.chip.tick (s.chip.clk.now + 5) })

/-- The block right after chip reset (R10, R99, R150, R175, R340, R349, R351, R364, R468). That the roll-call engine, the router, the bridge, the car bus' image, the
schedule and the vehicle ports are stopped or without an image, and that no snapshot is held, is the model's choice where the spec gives no reset value (log 1); so is
the reset instant itself, with the always-on supplies in range and the main die not yet released (log 34). -/
def Obligations.ResetState : Prop :=
  State.reset.pending = [] ∧ State.reset.chip.boot.state = .reset ∧ State.reset.chip.mainDie = false ∧ State.reset.chip.host.heartbeat = 0 ∧
  (∀ n < 8, (State.reset.chip.host.mb n).state = .offline) ∧ State.reset.chip.host.evStatus = 0 ∧ State.reset.chip.host.evEnable = 0 ∧
  State.reset.chip.host.msi.mask = 0 ∧ State.reset.chip.host.msi.pending = 0 ∧ State.reset.chip.rc.state = .stopped ∧ State.reset.chip.time.state = .free ∧
  State.reset.chip.errorBound = 0xFFFFFFFF ∧ State.reset.chip.dir.inForce = none ∧ State.reset.chip.bb.schedState = .none ∧ State.reset.chip.cb.state = .stopped ∧
  (∀ n < 12, (State.reset.chip.canCh n).state = .stopped) ∧ State.reset.chip.rt.running = false ∧ State.reset.chip.br.running = false ∧
  (∀ p, 4 ≤ p → p < 12 → (State.reset.chip.vport p).running = false) ∧ State.reset.chip.mem.state = .absent ∧ State.reset.chip.safe.nutmeg.on = false ∧
  State.reset.chip.safe.mace.on = false ∧ State.reset.chip.clove.powered = true ∧ State.reset.chip.fuses.identity = Config.nodeIdentity

/-- R320: a read of a port's counters answers every field, the first two of 8 bytes and the others of 4, and clears them all, in one command; a count saturates at
the field's width and touches no other field and no other port. -/
def Obligations.PortCounters : Prop :=
  (∀ s t d l, Served (s.chip.tick t) d 0x0806 → Ready.port 0 11 (rung s t d 0x0806) (asked s t d 0x0806) →
    (rung s t d 0x0806).eth.mac[u8 (asked s t d 0x0806) 0]? = some l →
    ∃ X : Chip, Leaves (.ethCounters t d) t s (X.complete d.mb 0 0 ((l.take 2).flatMap (le 8) ++ (l.drop 2).flatMap (le 4))) ∧
      X = { rung s t d 0x0806 with eth := X.eth } ∧ X.eth = { (rung s t d 0x0806).eth with mac := X.eth.mac } ∧
      X.eth.mac[u8 (asked s t d 0x0806) 0]? = some (List.replicate 18 0) ∧
      (∀ q, q ≠ u8 (asked s t d 0x0806) 0 → X.eth.mac[q]? = (rung s t d 0x0806).eth.mac[q]?)) ∧
  (∀ (c : Chip) p l i n, c.eth.mac[p]? = some l → i < l.length →
    ∃ k, (c.macCountBy p i n).eth.mac[p]? = some k ∧ k[i]? = some (min (l.getD i 0 + n) (if i < 2 then 0xFFFFFFFFFFFFFFFF else 0xFFFFFFFF)) ∧
      (∀ j, j ≠ i → k[j]? = l[j]?) ∧ (∀ q, q ≠ p → (c.macCountBy p i n).eth.mac[q]? = c.eth.mac[q]?) ∧
      { c.macCountBy p i n with eth := c.eth } = c)

/-- R86. The ANNOUNCE of COMPOSITION_COMPLETE names the switch instant; times are in nanoseconds of train time. -/
def Obligations.SwitchInstant : Prop :=
  ∀ f t s, (s.chip.tick t).mainDie = true → (s.chip.tick t).rc.state = .composing → (s.chip.tick t).reportsComplete = true → (s.chip.tick t).rc.facts = some f →
    ∃ X a sn, Leaves (.compositionComplete t) t s X ∧ X.rc.announce = some a ∧ X.rc.composed = some sn ∧
      sn.effective = a.switchInstant ∧ a.instantValid = (s.chip.tick t).timeValid ∧
      ((s.chip.tick t).timeValid = true → a.switchInstant % 250000 = 0 ∧ (s.chip.tick t).trainTime + 5000000 + 100000 * f.n ≤ a.switchInstant ∧
        a.switchInstant < (s.chip.tick t).trainTime + 5000000 + 100000 * f.n + 250000 ∧ a.lead = a.switchInstant - (s.chip.tick t).trainTime) ∧
      ((s.chip.tick t).timeValid = false → a.switchInstant = 0 ∧ a.lead = 5000000 + 100000 * f.n)

/-- R370: the opcodes of `mailboxRows` are those of the defined ranges, in their order; a doorbell with one of them is its row's command; every other opcode
is refused with status 0x03. -/
def Obligations.OpcodesDefined : Prop :=
  mailboxRows.map (·.1) = [(0x0100, 8), (0x0110, 8), (0x0200, 10), (0x0300, 10), (0x0400, 14), (0x0500, 15), (0x0600, 11), (0x0700, 16), (0x0800, 16), (0x0900, 11), (0x0A00, 9),
    (0x0B00, 9), (0x0C00, 11), (0x0D00, 5)].flatMap (fun g => (List.range g.2).map (g.1 + ·)) ∧
  (∀ row ∈ mailboxRows, ∀ t d s, Machine.exec (row.2 t d) s = Machine.exec (.undefinedOpcode t d row.1) s) ∧
  (∀ d op, op < 65536 → op ∉ mailboxRows.map (·.1) → ∀ t s, (s.chip.tick t).mainDie = true → d.mb < 8 →
    (((s.chip.tick t).host.mb d.mb).state = .idle ∨ ((s.chip.tick t).host.mb d.mb).state = .done) →
    (op / 256 = 0x0D ∨ (s.chip.tick t).host.heldBehind (op / 256) (s.chip.tick t).host.nextOrder = false) →
    Leaves (.undefinedOpcode t d op) t s ((rung s t d op).complete d.mb 0x03 0xFFFF []))

/-- A mailbox command whose request fails a check completes with the status of the first check that fails and changes nothing else: the layout's own checks by step and
then by offset, then the state's in their order (R355, R357). -/
def Obligations.RefusalChangesNothing : Prop :=
  ∀ row ∈ mailboxRows, ∀ m, cmdOf row.1 = some m → ∀ s t d, Served (s.chip.tick t) d row.1 →
    (∀ f, leastFail (m.form (rung s t d row.1) (asked s t d row.1)) = some f → Leaves (row.2 t d) t s ((rung s t d row.1).complete d.mb f.1 f.2 [])) ∧
    (∀ f, leastFail (m.form (rung s t d row.1) (asked s t d row.1)) = none → firstFail (m.state (rung s t d row.1) (asked s t d row.1)) = some f →
      Leaves (row.2 t d) t s ((rung s t d row.1).complete d.mb f.1 f.2 [])) ∧
    ((asked s t d row.1).length > 512 → ∃ n, Leaves (row.2 t d) t s ((rung s t d row.1).complete d.mb 0x01 n []))

/-- A completed command (R352, R354): the mailbox is DONE with its status, not waiting; the response area holds the header of R354 and at most 504 bytes behind
it; nothing outside the host interface, the recorder's intake and the count of open values changes. -/
def Obligations.CompletionWritten : Prop :=
  ∀ (c : Chip) n status detail payload, n < 8 → c.host.mailboxes.length = 8 → ((c.host.mb n).response).wf →
    ((c.complete n status detail payload).host.mb n).state = .done ∧ ((c.complete n status detail payload).host.mb n).status = status ∧
    ((c.complete n status detail payload).host.mb n).waiting = false ∧
    ((c.complete n status detail payload).host.mb n).response.read 0 (8 + (payload.take 504).length) =
      le 2 (c.host.mb n).opcode ++ le 1 status ++ le 1 ((c.host.mb n).tag % 16) ++ le 2 (payload.take 504).length ++ le 2 detail ++ payload.take 504 ∧
    (∀ k < 8, k ≠ n → (c.complete n status detail payload).host.mb k = c.host.mb k) ∧
    { c.complete n status detail payload with host := c.host, log := c.log, qm := c.qm, clk := c.clk } = { c with clk := c.clk, out := (c.complete n status detail payload).out }

/-- What raising an event and the firmware that follows a command leave alone. Raising writes the host interface, the recorder's counters, Q60 and the messages that
leave; what follows a command also serves the leader's waiting NOTICEs and first grants, the bridge, the backbone, power, the MAC counters and the rings whose chains wait
for a capture, and it changes nothing where no frame is held for a window, none of these waits and firmware is down or finds nothing new: the same snapshot, no grant, no
trigger, no door release, no wake to confirm and no vote that begins or ends. -/
def Obligations.FirmwareFrame : Prop :=
  (∀ (c : Chip) e kind arg detail, { c.raiseD e kind arg detail with host := c.host, log := c.log, qm := c.qm, out := c.out } = c) ∧
  (∀ (c : Chip) e kind arg detail, { (c.raiseD e kind arg detail).log with counters := c.log.counters } = c.log ∧
    (∀ q, q ≠ 60 → (c.raiseD e kind arg detail).qm.queue q = c.qm.queue q) ∧ (∀ n, (c.raiseD e kind arg detail).host.mb n = c.host.mb n)) ∧
  (∀ old c : Chip, (old.settled c).fuses = c.fuses ∧ (old.settled c).safe = c.safe ∧ (old.settled c).tiles = c.tiles ∧ (old.settled c).boot = c.boot ∧
    (old.settled c).cb = c.cb ∧ (old.settled c).can = c.can ∧ (old.settled c).rt = c.rt ∧ (old.settled c).mem = c.mem ∧ (old.settled c).stored = c.stored ∧
    (old.settled c).clk.now = c.clk.now) ∧
  (∀ old c : Chip, c.rc.notices = [] → c.bb.firstDue = false → (c.rolling = false ∨ c.namedLine = old.namedLine) →
    (old.settled c).rc = c.rc ∧ (old.settled c).dir = c.dir ∧ (old.settled c).time = c.time) ∧
  (∀ old c : Chip, c.bb.held = [] → c.eth.waits = [] → c.rc.notices = [] → c.bb.firstDue = false → (c.rolling = false ∨ c.namedLine = old.namedLine) →
    (c.firmware = false ∨ (c.dir.inForce = old.dir.inForce ∧ c.pwr.grant = none ∧ c.rc.triggers ≤ old.rc.triggers ∧
      (∀ o < 4, c.doorsReleased o = true → old.doorsReleased o = true) ∧ c.pwr.checking = false ∧ c.pwr.votes.isSome = c.mayVote)) → old.settled c = c)

/-- Fuses are only ever blown (R41, R461): no step changes the identity or the revoked keys, and the minimum security version rises by FW_SECURITY_ADVANCE alone. -/
def Obligations.FusesOnlyBlow : Prop :=
  (∀ s s', Machine.step s = .next s' → s.chip.fuses.after s'.chip.fuses) ∧
  (∀ i s s', mayAdvance i = false → Machine.exec i s = .next s' → s'.chip.fuses = s.chip.fuses)

/-- An invariant of the island (R376, R389, R394), kept by every step: a channel that is not RUNNING demands no output, and one that starts, runs or is being configured
holds a parameter set. -/
def Obligations.IslandOffUnlessRunning : Prop := ∀ s s', s.chip.islandQuiet → Machine.step s = .next s' → s'.chip.islandQuiet

/-- The invariant holds at reset. -/
def Obligations.IslandQuietAtReset : Prop := State.reset.chip.islandQuiet

/-- Only the evaluation of the safe functions energises an output (R388, R389): after any other command every demand that is on was on before. -/
def Obligations.OnlyEvaluationEnergises : Prop :=
  ∀ i s s', (∀ t n l rb, i ≠ .safeFunctionEval t n l rb) → Machine.exec i s = .next s' →
    ∀ n o, ((s'.chip.safe.chan n).outp o).demand = true → ((s.chip.safe.chan n).outp o).demand = true
end

