-- ==== Sys2Proof/Laws/Bytes.lean ====
section
/-! SUPPORT. What the fields of a byte string are bounded by, and how strings of zeros join. -/
namespace Sys2Proof.Machine

theorem leNat_lt (b : Bytes) : leNat b < 256 ^ b.length := by
  induction b with
  | nil => simp [leNat]
  | cons x b ih =>
    simp only [leNat, List.length_cons, Nat.pow_succ]
    have := x.isLt
    omega

theorem lAt_lt (b : Bytes) (off n : Nat) : lAt b off n < 256 ^ n := by
  refine Nat.lt_of_lt_of_le (leNat_lt _) (Nat.pow_le_pow_right (by decide) ?_)
  simp only [slice, List.length_take]
  omega

theorem u8_lt (b : Bytes) (off : Nat) : u8 b off < 256 := (b.getD off 0).isLt
theorem u16_lt (b : Bytes) (off : Nat) : u16 b off < 65536 := lAt_lt b off 2
theorem u32_lt (b : Bytes) (off : Nat) : u32 b off < 4294967296 := lAt_lt b off 4
theorem u64_lt (b : Bytes) (off : Nat) : u64 b off < 18446744073709551616 := lAt_lt b off 8

@[simp] theorem length_le (n v : Nat) : (le n v).length = n := by
  induction n generalizing v with
  | zero => rfl
  | succ n ih => simp [le, ih]

@[simp] theorem length_zeros (n : Nat) : (zeros n).length = n := by simp [zeros]

/-- A field of value 0 is zeros. -/
theorem le_zero (n : Nat) : le n 0 = zeros n := by
  induction n with
  | zero => rfl
  | succ n ih => simp only [le, Nat.zero_div, ih, zeros, List.replicate_succ]; rfl

theorem zeros_append (a b : Nat) : zeros a ++ zeros b = zeros (a + b) := by simp [zeros]
theorem zeros_append_append (a b : Nat) (x : Bytes) : zeros a ++ (zeros b ++ x) = zeros (a + b) ++ x := by rw [← List.append_assoc, zeros_append]

theorem leNat_le (n v : Nat) : leNat (le n v) = v % 256 ^ n := by
  induction n generalizing v with
  | zero => simp [le, leNat, Nat.mod_one]
  | succ n ih =>
    simp only [le, leNat, ih, BitVec.toNat_ofNat]
    rw [show 256 ^ (n + 1) = 256 * 256 ^ n by rw [Nat.pow_succ, Nat.mul_comm], Nat.mod_mul]

theorem reflectBits_lt (n v : Nat) : reflectBits n v < 2 ^ n := by
  have : ∀ (l : List Nat) (acc : Nat), acc < 2 ^ n → (∀ i ∈ l, i < n) →
      l.foldl (fun acc i => if v.testBit i then acc ||| (1 <<< (n - 1 - i)) else acc) acc < 2 ^ n := by
    intro l
    induction l with
    | nil => intro acc h _; exact h
    | cons i l ih =>
      intro acc h hl
      refine ih _ ?_ fun j hj => hl j (List.mem_cons_of_mem _ hj)
      show (if v.testBit i then acc ||| (1 <<< (n - 1 - i)) else acc) < 2 ^ n
      split
      · refine Nat.or_lt_two_pow h ?_
        rw [Nat.one_shiftLeft]
        have := hl i List.mem_cons_self
        exact Nat.pow_lt_pow_right (by decide) (by omega)
      · exact h
  exact this _ 0 (Nat.two_pow_pos n) fun i hi => List.mem_range.1 hi

theorem crc32c_lt (d : Bytes) : crc32c d < 4294967296 := by
  simp only [crc32c, crc, if_true]
  exact Nat.xor_lt_two_pow (n := 32) (reflectBits_lt 32 _) (by decide)

/-- An image whose check field holds the CRC-32C of the rest, as R56 takes it. -/
theorem imageCrc_sealed (pre post : Bytes) :
    imageCrc pre.length (pre ++ (le 4 (crc32c (pre ++ (zeros 4 ++ post))) ++ post)) = crc32c (pre ++ (zeros 4 ++ post)) := by
  have h (x : Bytes) (hx : x.length = 4) : splice (pre ++ (x ++ post)) pre.length (zeros 4) = pre ++ (zeros 4 ++ post) := by
    simp only [splice, length_zeros]
    rw [List.take_left' rfl, ← List.append_assoc pre x post, List.drop_left' (by simp [hx])]
    simp only [List.append_assoc]
    exact List.take_of_length_le (show (pre ++ (zeros 4 ++ post)).length ≤ (pre ++ (x ++ post)).length by simp [hx])
  rw [imageCrc, h _ (length_le _ _)]

theorem u32_sealed (pre post : Bytes) (v : Nat) (h : v < 4294967296) : u32 (pre ++ (le 4 v ++ post)) pre.length = v := by
  rw [u32, lAt, slice, List.drop_left' rfl, List.take_left' (length_le 4 v), leNat_le]
  exact Nat.mod_eq_of_lt h
end Sys2Proof.Machine
end

