-- ==== Sys2Proof/Laws/State.lean ====
section
/-! SUPPORT. What each update of one part of the chip does to every field: one lemma per field per update, all by definition. -/
namespace Sys2Proof.Machine

section onClk
variable (c : Chip) (f : Clock → Clock)
@[simp] theorem Chip.onClk_clk : (c.onClk f).clk = f c.clk := rfl
@[simp] theorem Chip.onClk_out : (c.onClk f).out = c.out := rfl
@[simp] theorem Chip.onClk_fuses : (c.onClk f).fuses = c.fuses := rfl
@[simp] theorem Chip.onClk_tiles : (c.onClk f).tiles = c.tiles := rfl
@[simp] theorem Chip.onClk_host : (c.onClk f).host = c.host := rfl
@[simp] theorem Chip.onClk_boot : (c.onClk f).boot = c.boot := rfl
@[simp] theorem Chip.onClk_dir : (c.onClk f).dir = c.dir := rfl
@[simp] theorem Chip.onClk_rc : (c.onClk f).rc = c.rc := rfl
@[simp] theorem Chip.onClk_bb : (c.onClk f).bb = c.bb := rfl
@[simp] theorem Chip.onClk_qm : (c.onClk f).qm = c.qm := rfl
@[simp] theorem Chip.onClk_time : (c.onClk f).time = c.time := rfl
@[simp] theorem Chip.onClk_eth : (c.onClk f).eth = c.eth := rfl
@[simp] theorem Chip.onClk_mem : (c.onClk f).mem = c.mem := rfl
@[simp] theorem Chip.onClk_cb : (c.onClk f).cb = c.cb := rfl
@[simp] theorem Chip.onClk_can : (c.onClk f).can = c.can := rfl
@[simp] theorem Chip.onClk_rt : (c.onClk f).rt = c.rt := rfl
@[simp] theorem Chip.onClk_br : (c.onClk f).br = c.br := rfl
@[simp] theorem Chip.onClk_safe : (c.onClk f).safe = c.safe := rfl
@[simp] theorem Chip.onClk_log : (c.onClk f).log = c.log := rfl
@[simp] theorem Chip.onClk_pwr : (c.onClk f).pwr = c.pwr := rfl
@[simp] theorem Chip.onClk_clove : (c.onClk f).clove = c.clove := rfl
@[simp] theorem Chip.onClk_stored : (c.onClk f).stored = c.stored := rfl
end onClk

section onHost
variable (c : Chip) (f : HostIf → HostIf)
@[simp] theorem Chip.onHost_clk : (c.onHost f).clk = c.clk := rfl
@[simp] theorem Chip.onHost_out : (c.onHost f).out = c.out := rfl
@[simp] theorem Chip.onHost_fuses : (c.onHost f).fuses = c.fuses := rfl
@[simp] theorem Chip.onHost_tiles : (c.onHost f).tiles = c.tiles := rfl
@[simp] theorem Chip.onHost_host : (c.onHost f).host = f c.host := rfl
@[simp] theorem Chip.onHost_boot : (c.onHost f).boot = c.boot := rfl
@[simp] theorem Chip.onHost_dir : (c.onHost f).dir = c.dir := rfl
@[simp] theorem Chip.onHost_rc : (c.onHost f).rc = c.rc := rfl
@[simp] theorem Chip.onHost_bb : (c.onHost f).bb = c.bb := rfl
@[simp] theorem Chip.onHost_qm : (c.onHost f).qm = c.qm := rfl
@[simp] theorem Chip.onHost_time : (c.onHost f).time = c.time := rfl
@[simp] theorem Chip.onHost_eth : (c.onHost f).eth = c.eth := rfl
@[simp] theorem Chip.onHost_mem : (c.onHost f).mem = c.mem := rfl
@[simp] theorem Chip.onHost_cb : (c.onHost f).cb = c.cb := rfl
@[simp] theorem Chip.onHost_can : (c.onHost f).can = c.can := rfl
@[simp] theorem Chip.onHost_rt : (c.onHost f).rt = c.rt := rfl
@[simp] theorem Chip.onHost_br : (c.onHost f).br = c.br := rfl
@[simp] theorem Chip.onHost_safe : (c.onHost f).safe = c.safe := rfl
@[simp] theorem Chip.onHost_log : (c.onHost f).log = c.log := rfl
@[simp] theorem Chip.onHost_pwr : (c.onHost f).pwr = c.pwr := rfl
@[simp] theorem Chip.onHost_clove : (c.onHost f).clove = c.clove := rfl
@[simp] theorem Chip.onHost_stored : (c.onHost f).stored = c.stored := rfl
end onHost

section onBoot
variable (c : Chip) (f : Boot → Boot)
@[simp] theorem Chip.onBoot_clk : (c.onBoot f).clk = c.clk := rfl
@[simp] theorem Chip.onBoot_out : (c.onBoot f).out = c.out := rfl
@[simp] theorem Chip.onBoot_fuses : (c.onBoot f).fuses = c.fuses := rfl
@[simp] theorem Chip.onBoot_tiles : (c.onBoot f).tiles = c.tiles := rfl
@[simp] theorem Chip.onBoot_host : (c.onBoot f).host = c.host := rfl
@[simp] theorem Chip.onBoot_boot : (c.onBoot f).boot = f c.boot := rfl
@[simp] theorem Chip.onBoot_dir : (c.onBoot f).dir = c.dir := rfl
@[simp] theorem Chip.onBoot_rc : (c.onBoot f).rc = c.rc := rfl
@[simp] theorem Chip.onBoot_bb : (c.onBoot f).bb = c.bb := rfl
@[simp] theorem Chip.onBoot_qm : (c.onBoot f).qm = c.qm := rfl
@[simp] theorem Chip.onBoot_time : (c.onBoot f).time = c.time := rfl
@[simp] theorem Chip.onBoot_eth : (c.onBoot f).eth = c.eth := rfl
@[simp] theorem Chip.onBoot_mem : (c.onBoot f).mem = c.mem := rfl
@[simp] theorem Chip.onBoot_cb : (c.onBoot f).cb = c.cb := rfl
@[simp] theorem Chip.onBoot_can : (c.onBoot f).can = c.can := rfl
@[simp] theorem Chip.onBoot_rt : (c.onBoot f).rt = c.rt := rfl
@[simp] theorem Chip.onBoot_br : (c.onBoot f).br = c.br := rfl
@[simp] theorem Chip.onBoot_safe : (c.onBoot f).safe = c.safe := rfl
@[simp] theorem Chip.onBoot_log : (c.onBoot f).log = c.log := rfl
@[simp] theorem Chip.onBoot_pwr : (c.onBoot f).pwr = c.pwr := rfl
@[simp] theorem Chip.onBoot_clove : (c.onBoot f).clove = c.clove := rfl
@[simp] theorem Chip.onBoot_stored : (c.onBoot f).stored = c.stored := rfl
end onBoot

section onDir
variable (c : Chip) (f : Directory → Directory)
@[simp] theorem Chip.onDir_clk : (c.onDir f).clk = c.clk := rfl
@[simp] theorem Chip.onDir_out : (c.onDir f).out = c.out := rfl
@[simp] theorem Chip.onDir_fuses : (c.onDir f).fuses = c.fuses := rfl
@[simp] theorem Chip.onDir_tiles : (c.onDir f).tiles = c.tiles := rfl
@[simp] theorem Chip.onDir_host : (c.onDir f).host = c.host := rfl
@[simp] theorem Chip.onDir_boot : (c.onDir f).boot = c.boot := rfl
@[simp] theorem Chip.onDir_dir : (c.onDir f).dir = f c.dir := rfl
@[simp] theorem Chip.onDir_rc : (c.onDir f).rc = c.rc := rfl
@[simp] theorem Chip.onDir_bb : (c.onDir f).bb = c.bb := rfl
@[simp] theorem Chip.onDir_qm : (c.onDir f).qm = c.qm := rfl
@[simp] theorem Chip.onDir_time : (c.onDir f).time = c.time := rfl
@[simp] theorem Chip.onDir_eth : (c.onDir f).eth = c.eth := rfl
@[simp] theorem Chip.onDir_mem : (c.onDir f).mem = c.mem := rfl
@[simp] theorem Chip.onDir_cb : (c.onDir f).cb = c.cb := rfl
@[simp] theorem Chip.onDir_can : (c.onDir f).can = c.can := rfl
@[simp] theorem Chip.onDir_rt : (c.onDir f).rt = c.rt := rfl
@[simp] theorem Chip.onDir_br : (c.onDir f).br = c.br := rfl
@[simp] theorem Chip.onDir_safe : (c.onDir f).safe = c.safe := rfl
@[simp] theorem Chip.onDir_log : (c.onDir f).log = c.log := rfl
@[simp] theorem Chip.onDir_pwr : (c.onDir f).pwr = c.pwr := rfl
@[simp] theorem Chip.onDir_clove : (c.onDir f).clove = c.clove := rfl
@[simp] theorem Chip.onDir_stored : (c.onDir f).stored = c.stored := rfl
end onDir

section onRc
variable (c : Chip) (f : RollCall → RollCall)
@[simp] theorem Chip.onRc_clk : (c.onRc f).clk = c.clk := rfl
@[simp] theorem Chip.onRc_out : (c.onRc f).out = c.out := rfl
@[simp] theorem Chip.onRc_fuses : (c.onRc f).fuses = c.fuses := rfl
@[simp] theorem Chip.onRc_tiles : (c.onRc f).tiles = c.tiles := rfl
@[simp] theorem Chip.onRc_host : (c.onRc f).host = c.host := rfl
@[simp] theorem Chip.onRc_boot : (c.onRc f).boot = c.boot := rfl
@[simp] theorem Chip.onRc_dir : (c.onRc f).dir = c.dir := rfl
@[simp] theorem Chip.onRc_rc : (c.onRc f).rc = f c.rc := rfl
@[simp] theorem Chip.onRc_bb : (c.onRc f).bb = c.bb := rfl
@[simp] theorem Chip.onRc_qm : (c.onRc f).qm = c.qm := rfl
@[simp] theorem Chip.onRc_time : (c.onRc f).time = c.time := rfl
@[simp] theorem Chip.onRc_eth : (c.onRc f).eth = c.eth := rfl
@[simp] theorem Chip.onRc_mem : (c.onRc f).mem = c.mem := rfl
@[simp] theorem Chip.onRc_cb : (c.onRc f).cb = c.cb := rfl
@[simp] theorem Chip.onRc_can : (c.onRc f).can = c.can := rfl
@[simp] theorem Chip.onRc_rt : (c.onRc f).rt = c.rt := rfl
@[simp] theorem Chip.onRc_br : (c.onRc f).br = c.br := rfl
@[simp] theorem Chip.onRc_safe : (c.onRc f).safe = c.safe := rfl
@[simp] theorem Chip.onRc_log : (c.onRc f).log = c.log := rfl
@[simp] theorem Chip.onRc_pwr : (c.onRc f).pwr = c.pwr := rfl
@[simp] theorem Chip.onRc_clove : (c.onRc f).clove = c.clove := rfl
@[simp] theorem Chip.onRc_stored : (c.onRc f).stored = c.stored := rfl
end onRc

section onBb
variable (c : Chip) (f : Backbone → Backbone)
@[simp] theorem Chip.onBb_clk : (c.onBb f).clk = c.clk := rfl
@[simp] theorem Chip.onBb_out : (c.onBb f).out = c.out := rfl
@[simp] theorem Chip.onBb_fuses : (c.onBb f).fuses = c.fuses := rfl
@[simp] theorem Chip.onBb_tiles : (c.onBb f).tiles = c.tiles := rfl
@[simp] theorem Chip.onBb_host : (c.onBb f).host = c.host := rfl
@[simp] theorem Chip.onBb_boot : (c.onBb f).boot = c.boot := rfl
@[simp] theorem Chip.onBb_dir : (c.onBb f).dir = c.dir := rfl
@[simp] theorem Chip.onBb_rc : (c.onBb f).rc = c.rc := rfl
@[simp] theorem Chip.onBb_bb : (c.onBb f).bb = f c.bb := rfl
@[simp] theorem Chip.onBb_qm : (c.onBb f).qm = c.qm := rfl
@[simp] theorem Chip.onBb_time : (c.onBb f).time = c.time := rfl
@[simp] theorem Chip.onBb_eth : (c.onBb f).eth = c.eth := rfl
@[simp] theorem Chip.onBb_mem : (c.onBb f).mem = c.mem := rfl
@[simp] theorem Chip.onBb_cb : (c.onBb f).cb = c.cb := rfl
@[simp] theorem Chip.onBb_can : (c.onBb f).can = c.can := rfl
@[simp] theorem Chip.onBb_rt : (c.onBb f).rt = c.rt := rfl
@[simp] theorem Chip.onBb_br : (c.onBb f).br = c.br := rfl
@[simp] theorem Chip.onBb_safe : (c.onBb f).safe = c.safe := rfl
@[simp] theorem Chip.onBb_log : (c.onBb f).log = c.log := rfl
@[simp] theorem Chip.onBb_pwr : (c.onBb f).pwr = c.pwr := rfl
@[simp] theorem Chip.onBb_clove : (c.onBb f).clove = c.clove := rfl
@[simp] theorem Chip.onBb_stored : (c.onBb f).stored = c.stored := rfl
end onBb

section onQm
variable (c : Chip) (f : QueueMgr → QueueMgr)
@[simp] theorem Chip.onQm_clk : (c.onQm f).clk = c.clk := rfl
@[simp] theorem Chip.onQm_out : (c.onQm f).out = c.out := rfl
@[simp] theorem Chip.onQm_fuses : (c.onQm f).fuses = c.fuses := rfl
@[simp] theorem Chip.onQm_tiles : (c.onQm f).tiles = c.tiles := rfl
@[simp] theorem Chip.onQm_host : (c.onQm f).host = c.host := rfl
@[simp] theorem Chip.onQm_boot : (c.onQm f).boot = c.boot := rfl
@[simp] theorem Chip.onQm_dir : (c.onQm f).dir = c.dir := rfl
@[simp] theorem Chip.onQm_rc : (c.onQm f).rc = c.rc := rfl
@[simp] theorem Chip.onQm_bb : (c.onQm f).bb = c.bb := rfl
@[simp] theorem Chip.onQm_qm : (c.onQm f).qm = f c.qm := rfl
@[simp] theorem Chip.onQm_time : (c.onQm f).time = c.time := rfl
@[simp] theorem Chip.onQm_eth : (c.onQm f).eth = c.eth := rfl
@[simp] theorem Chip.onQm_mem : (c.onQm f).mem = c.mem := rfl
@[simp] theorem Chip.onQm_cb : (c.onQm f).cb = c.cb := rfl
@[simp] theorem Chip.onQm_can : (c.onQm f).can = c.can := rfl
@[simp] theorem Chip.onQm_rt : (c.onQm f).rt = c.rt := rfl
@[simp] theorem Chip.onQm_br : (c.onQm f).br = c.br := rfl
@[simp] theorem Chip.onQm_safe : (c.onQm f).safe = c.safe := rfl
@[simp] theorem Chip.onQm_log : (c.onQm f).log = c.log := rfl
@[simp] theorem Chip.onQm_pwr : (c.onQm f).pwr = c.pwr := rfl
@[simp] theorem Chip.onQm_clove : (c.onQm f).clove = c.clove := rfl
@[simp] theorem Chip.onQm_stored : (c.onQm f).stored = c.stored := rfl
end onQm

section onEth
variable (c : Chip) (f : EthState → EthState)
@[simp] theorem Chip.onEth_clk : (c.onEth f).clk = c.clk := rfl
@[simp] theorem Chip.onEth_out : (c.onEth f).out = c.out := rfl
@[simp] theorem Chip.onEth_fuses : (c.onEth f).fuses = c.fuses := rfl
@[simp] theorem Chip.onEth_tiles : (c.onEth f).tiles = c.tiles := rfl
@[simp] theorem Chip.onEth_host : (c.onEth f).host = c.host := rfl
@[simp] theorem Chip.onEth_boot : (c.onEth f).boot = c.boot := rfl
@[simp] theorem Chip.onEth_dir : (c.onEth f).dir = c.dir := rfl
@[simp] theorem Chip.onEth_rc : (c.onEth f).rc = c.rc := rfl
@[simp] theorem Chip.onEth_bb : (c.onEth f).bb = c.bb := rfl
@[simp] theorem Chip.onEth_qm : (c.onEth f).qm = c.qm := rfl
@[simp] theorem Chip.onEth_time : (c.onEth f).time = c.time := rfl
@[simp] theorem Chip.onEth_eth : (c.onEth f).eth = f c.eth := rfl
@[simp] theorem Chip.onEth_mem : (c.onEth f).mem = c.mem := rfl
@[simp] theorem Chip.onEth_cb : (c.onEth f).cb = c.cb := rfl
@[simp] theorem Chip.onEth_can : (c.onEth f).can = c.can := rfl
@[simp] theorem Chip.onEth_rt : (c.onEth f).rt = c.rt := rfl
@[simp] theorem Chip.onEth_br : (c.onEth f).br = c.br := rfl
@[simp] theorem Chip.onEth_safe : (c.onEth f).safe = c.safe := rfl
@[simp] theorem Chip.onEth_log : (c.onEth f).log = c.log := rfl
@[simp] theorem Chip.onEth_pwr : (c.onEth f).pwr = c.pwr := rfl
@[simp] theorem Chip.onEth_clove : (c.onEth f).clove = c.clove := rfl
@[simp] theorem Chip.onEth_stored : (c.onEth f).stored = c.stored := rfl
end onEth

section onMem
variable (c : Chip) (f : MemCtl → MemCtl)
@[simp] theorem Chip.onMem_clk : (c.onMem f).clk = c.clk := rfl
@[simp] theorem Chip.onMem_out : (c.onMem f).out = c.out := rfl
@[simp] theorem Chip.onMem_fuses : (c.onMem f).fuses = c.fuses := rfl
@[simp] theorem Chip.onMem_tiles : (c.onMem f).tiles = c.tiles := rfl
@[simp] theorem Chip.onMem_host : (c.onMem f).host = c.host := rfl
@[simp] theorem Chip.onMem_boot : (c.onMem f).boot = c.boot := rfl
@[simp] theorem Chip.onMem_dir : (c.onMem f).dir = c.dir := rfl
@[simp] theorem Chip.onMem_rc : (c.onMem f).rc = c.rc := rfl
@[simp] theorem Chip.onMem_bb : (c.onMem f).bb = c.bb := rfl
@[simp] theorem Chip.onMem_qm : (c.onMem f).qm = c.qm := rfl
@[simp] theorem Chip.onMem_time : (c.onMem f).time = c.time := rfl
@[simp] theorem Chip.onMem_eth : (c.onMem f).eth = c.eth := rfl
@[simp] theorem Chip.onMem_mem : (c.onMem f).mem = f c.mem := rfl
@[simp] theorem Chip.onMem_cb : (c.onMem f).cb = c.cb := rfl
@[simp] theorem Chip.onMem_can : (c.onMem f).can = c.can := rfl
@[simp] theorem Chip.onMem_rt : (c.onMem f).rt = c.rt := rfl
@[simp] theorem Chip.onMem_br : (c.onMem f).br = c.br := rfl
@[simp] theorem Chip.onMem_safe : (c.onMem f).safe = c.safe := rfl
@[simp] theorem Chip.onMem_log : (c.onMem f).log = c.log := rfl
@[simp] theorem Chip.onMem_pwr : (c.onMem f).pwr = c.pwr := rfl
@[simp] theorem Chip.onMem_clove : (c.onMem f).clove = c.clove := rfl
@[simp] theorem Chip.onMem_stored : (c.onMem f).stored = c.stored := rfl
end onMem

section onCb
variable (c : Chip) (f : CarBus → CarBus)
@[simp] theorem Chip.onCb_clk : (c.onCb f).clk = c.clk := rfl
@[simp] theorem Chip.onCb_out : (c.onCb f).out = c.out := rfl
@[simp] theorem Chip.onCb_fuses : (c.onCb f).fuses = c.fuses := rfl
@[simp] theorem Chip.onCb_tiles : (c.onCb f).tiles = c.tiles := rfl
@[simp] theorem Chip.onCb_host : (c.onCb f).host = c.host := rfl
@[simp] theorem Chip.onCb_boot : (c.onCb f).boot = c.boot := rfl
@[simp] theorem Chip.onCb_dir : (c.onCb f).dir = c.dir := rfl
@[simp] theorem Chip.onCb_rc : (c.onCb f).rc = c.rc := rfl
@[simp] theorem Chip.onCb_bb : (c.onCb f).bb = c.bb := rfl
@[simp] theorem Chip.onCb_qm : (c.onCb f).qm = c.qm := rfl
@[simp] theorem Chip.onCb_time : (c.onCb f).time = c.time := rfl
@[simp] theorem Chip.onCb_eth : (c.onCb f).eth = c.eth := rfl
@[simp] theorem Chip.onCb_mem : (c.onCb f).mem = c.mem := rfl
@[simp] theorem Chip.onCb_cb : (c.onCb f).cb = f c.cb := rfl
@[simp] theorem Chip.onCb_can : (c.onCb f).can = c.can := rfl
@[simp] theorem Chip.onCb_rt : (c.onCb f).rt = c.rt := rfl
@[simp] theorem Chip.onCb_br : (c.onCb f).br = c.br := rfl
@[simp] theorem Chip.onCb_safe : (c.onCb f).safe = c.safe := rfl
@[simp] theorem Chip.onCb_log : (c.onCb f).log = c.log := rfl
@[simp] theorem Chip.onCb_pwr : (c.onCb f).pwr = c.pwr := rfl
@[simp] theorem Chip.onCb_clove : (c.onCb f).clove = c.clove := rfl
@[simp] theorem Chip.onCb_stored : (c.onCb f).stored = c.stored := rfl
end onCb

section onRt
variable (c : Chip) (f : Router → Router)
@[simp] theorem Chip.onRt_clk : (c.onRt f).clk = c.clk := rfl
@[simp] theorem Chip.onRt_out : (c.onRt f).out = c.out := rfl
@[simp] theorem Chip.onRt_fuses : (c.onRt f).fuses = c.fuses := rfl
@[simp] theorem Chip.onRt_tiles : (c.onRt f).tiles = c.tiles := rfl
@[simp] theorem Chip.onRt_host : (c.onRt f).host = c.host := rfl
@[simp] theorem Chip.onRt_boot : (c.onRt f).boot = c.boot := rfl
@[simp] theorem Chip.onRt_dir : (c.onRt f).dir = c.dir := rfl
@[simp] theorem Chip.onRt_rc : (c.onRt f).rc = c.rc := rfl
@[simp] theorem Chip.onRt_bb : (c.onRt f).bb = c.bb := rfl
@[simp] theorem Chip.onRt_qm : (c.onRt f).qm = c.qm := rfl
@[simp] theorem Chip.onRt_time : (c.onRt f).time = c.time := rfl
@[simp] theorem Chip.onRt_eth : (c.onRt f).eth = c.eth := rfl
@[simp] theorem Chip.onRt_mem : (c.onRt f).mem = c.mem := rfl
@[simp] theorem Chip.onRt_cb : (c.onRt f).cb = c.cb := rfl
@[simp] theorem Chip.onRt_can : (c.onRt f).can = c.can := rfl
@[simp] theorem Chip.onRt_rt : (c.onRt f).rt = f c.rt := rfl
@[simp] theorem Chip.onRt_br : (c.onRt f).br = c.br := rfl
@[simp] theorem Chip.onRt_safe : (c.onRt f).safe = c.safe := rfl
@[simp] theorem Chip.onRt_log : (c.onRt f).log = c.log := rfl
@[simp] theorem Chip.onRt_pwr : (c.onRt f).pwr = c.pwr := rfl
@[simp] theorem Chip.onRt_clove : (c.onRt f).clove = c.clove := rfl
@[simp] theorem Chip.onRt_stored : (c.onRt f).stored = c.stored := rfl
end onRt

section onLog
variable (c : Chip) (f : Recorder → Recorder)
@[simp] theorem Chip.onLog_clk : (c.onLog f).clk = c.clk := rfl
@[simp] theorem Chip.onLog_out : (c.onLog f).out = c.out := rfl
@[simp] theorem Chip.onLog_fuses : (c.onLog f).fuses = c.fuses := rfl
@[simp] theorem Chip.onLog_tiles : (c.onLog f).tiles = c.tiles := rfl
@[simp] theorem Chip.onLog_host : (c.onLog f).host = c.host := rfl
@[simp] theorem Chip.onLog_boot : (c.onLog f).boot = c.boot := rfl
@[simp] theorem Chip.onLog_dir : (c.onLog f).dir = c.dir := rfl
@[simp] theorem Chip.onLog_rc : (c.onLog f).rc = c.rc := rfl
@[simp] theorem Chip.onLog_bb : (c.onLog f).bb = c.bb := rfl
@[simp] theorem Chip.onLog_qm : (c.onLog f).qm = c.qm := rfl
@[simp] theorem Chip.onLog_time : (c.onLog f).time = c.time := rfl
@[simp] theorem Chip.onLog_eth : (c.onLog f).eth = c.eth := rfl
@[simp] theorem Chip.onLog_mem : (c.onLog f).mem = c.mem := rfl
@[simp] theorem Chip.onLog_cb : (c.onLog f).cb = c.cb := rfl
@[simp] theorem Chip.onLog_can : (c.onLog f).can = c.can := rfl
@[simp] theorem Chip.onLog_rt : (c.onLog f).rt = c.rt := rfl
@[simp] theorem Chip.onLog_br : (c.onLog f).br = c.br := rfl
@[simp] theorem Chip.onLog_safe : (c.onLog f).safe = c.safe := rfl
@[simp] theorem Chip.onLog_log : (c.onLog f).log = f c.log := rfl
@[simp] theorem Chip.onLog_pwr : (c.onLog f).pwr = c.pwr := rfl
@[simp] theorem Chip.onLog_clove : (c.onLog f).clove = c.clove := rfl
@[simp] theorem Chip.onLog_stored : (c.onLog f).stored = c.stored := rfl
end onLog

section onBr
variable (c : Chip) (f : Bridge → Bridge)
@[simp] theorem Chip.onBr_clk : (c.onBr f).clk = c.clk := rfl
@[simp] theorem Chip.onBr_out : (c.onBr f).out = c.out := rfl
@[simp] theorem Chip.onBr_fuses : (c.onBr f).fuses = c.fuses := rfl
@[simp] theorem Chip.onBr_tiles : (c.onBr f).tiles = c.tiles := rfl
@[simp] theorem Chip.onBr_host : (c.onBr f).host = c.host := rfl
@[simp] theorem Chip.onBr_boot : (c.onBr f).boot = c.boot := rfl
@[simp] theorem Chip.onBr_dir : (c.onBr f).dir = c.dir := rfl
@[simp] theorem Chip.onBr_rc : (c.onBr f).rc = c.rc := rfl
@[simp] theorem Chip.onBr_bb : (c.onBr f).bb = c.bb := rfl
@[simp] theorem Chip.onBr_qm : (c.onBr f).qm = c.qm := rfl
@[simp] theorem Chip.onBr_time : (c.onBr f).time = c.time := rfl
@[simp] theorem Chip.onBr_eth : (c.onBr f).eth = c.eth := rfl
@[simp] theorem Chip.onBr_mem : (c.onBr f).mem = c.mem := rfl
@[simp] theorem Chip.onBr_cb : (c.onBr f).cb = c.cb := rfl
@[simp] theorem Chip.onBr_can : (c.onBr f).can = c.can := rfl
@[simp] theorem Chip.onBr_rt : (c.onBr f).rt = c.rt := rfl
@[simp] theorem Chip.onBr_br : (c.onBr f).br = f c.br := rfl
@[simp] theorem Chip.onBr_safe : (c.onBr f).safe = c.safe := rfl
@[simp] theorem Chip.onBr_log : (c.onBr f).log = c.log := rfl
@[simp] theorem Chip.onBr_pwr : (c.onBr f).pwr = c.pwr := rfl
@[simp] theorem Chip.onBr_clove : (c.onBr f).clove = c.clove := rfl
@[simp] theorem Chip.onBr_stored : (c.onBr f).stored = c.stored := rfl
end onBr

section onPwr
variable (c : Chip) (f : Power → Power)
@[simp] theorem Chip.onPwr_clk : (c.onPwr f).clk = c.clk := rfl
@[simp] theorem Chip.onPwr_out : (c.onPwr f).out = c.out := rfl
@[simp] theorem Chip.onPwr_fuses : (c.onPwr f).fuses = c.fuses := rfl
@[simp] theorem Chip.onPwr_tiles : (c.onPwr f).tiles = c.tiles := rfl
@[simp] theorem Chip.onPwr_host : (c.onPwr f).host = c.host := rfl
@[simp] theorem Chip.onPwr_boot : (c.onPwr f).boot = c.boot := rfl
@[simp] theorem Chip.onPwr_dir : (c.onPwr f).dir = c.dir := rfl
@[simp] theorem Chip.onPwr_rc : (c.onPwr f).rc = c.rc := rfl
@[simp] theorem Chip.onPwr_bb : (c.onPwr f).bb = c.bb := rfl
@[simp] theorem Chip.onPwr_qm : (c.onPwr f).qm = c.qm := rfl
@[simp] theorem Chip.onPwr_time : (c.onPwr f).time = c.time := rfl
@[simp] theorem Chip.onPwr_eth : (c.onPwr f).eth = c.eth := rfl
@[simp] theorem Chip.onPwr_mem : (c.onPwr f).mem = c.mem := rfl
@[simp] theorem Chip.onPwr_cb : (c.onPwr f).cb = c.cb := rfl
@[simp] theorem Chip.onPwr_can : (c.onPwr f).can = c.can := rfl
@[simp] theorem Chip.onPwr_rt : (c.onPwr f).rt = c.rt := rfl
@[simp] theorem Chip.onPwr_br : (c.onPwr f).br = c.br := rfl
@[simp] theorem Chip.onPwr_safe : (c.onPwr f).safe = c.safe := rfl
@[simp] theorem Chip.onPwr_log : (c.onPwr f).log = c.log := rfl
@[simp] theorem Chip.onPwr_pwr : (c.onPwr f).pwr = f c.pwr := rfl
@[simp] theorem Chip.onPwr_clove : (c.onPwr f).clove = c.clove := rfl
@[simp] theorem Chip.onPwr_stored : (c.onPwr f).stored = c.stored := rfl
end onPwr

section onClove
variable (c : Chip) (f : Clove → Clove)
@[simp] theorem Chip.onClove_clk : (c.onClove f).clk = c.clk := rfl
@[simp] theorem Chip.onClove_out : (c.onClove f).out = c.out := rfl
@[simp] theorem Chip.onClove_fuses : (c.onClove f).fuses = c.fuses := rfl
@[simp] theorem Chip.onClove_tiles : (c.onClove f).tiles = c.tiles := rfl
@[simp] theorem Chip.onClove_host : (c.onClove f).host = c.host := rfl
@[simp] theorem Chip.onClove_boot : (c.onClove f).boot = c.boot := rfl
@[simp] theorem Chip.onClove_dir : (c.onClove f).dir = c.dir := rfl
@[simp] theorem Chip.onClove_rc : (c.onClove f).rc = c.rc := rfl
@[simp] theorem Chip.onClove_bb : (c.onClove f).bb = c.bb := rfl
@[simp] theorem Chip.onClove_qm : (c.onClove f).qm = c.qm := rfl
@[simp] theorem Chip.onClove_time : (c.onClove f).time = c.time := rfl
@[simp] theorem Chip.onClove_eth : (c.onClove f).eth = c.eth := rfl
@[simp] theorem Chip.onClove_mem : (c.onClove f).mem = c.mem := rfl
@[simp] theorem Chip.onClove_cb : (c.onClove f).cb = c.cb := rfl
@[simp] theorem Chip.onClove_can : (c.onClove f).can = c.can := rfl
@[simp] theorem Chip.onClove_rt : (c.onClove f).rt = c.rt := rfl
@[simp] theorem Chip.onClove_br : (c.onClove f).br = c.br := rfl
@[simp] theorem Chip.onClove_safe : (c.onClove f).safe = c.safe := rfl
@[simp] theorem Chip.onClove_log : (c.onClove f).log = c.log := rfl
@[simp] theorem Chip.onClove_pwr : (c.onClove f).pwr = c.pwr := rfl
@[simp] theorem Chip.onClove_clove : (c.onClove f).clove = f c.clove := rfl
@[simp] theorem Chip.onClove_stored : (c.onClove f).stored = c.stored := rfl
end onClove

section onTime
variable (c : Chip) (f : Saffron → Saffron)
@[simp] theorem Chip.onTime_clk : (c.onTime f).clk = c.clk := rfl
@[simp] theorem Chip.onTime_out : (c.onTime f).out = c.out := rfl
@[simp] theorem Chip.onTime_fuses : (c.onTime f).fuses = c.fuses := rfl
@[simp] theorem Chip.onTime_tiles : (c.onTime f).tiles = c.tiles := rfl
@[simp] theorem Chip.onTime_host : (c.onTime f).host = c.host := rfl
@[simp] theorem Chip.onTime_boot : (c.onTime f).boot = c.boot := rfl
@[simp] theorem Chip.onTime_dir : (c.onTime f).dir = c.dir := rfl
@[simp] theorem Chip.onTime_rc : (c.onTime f).rc = c.rc := rfl
@[simp] theorem Chip.onTime_bb : (c.onTime f).bb = c.bb := rfl
@[simp] theorem Chip.onTime_qm : (c.onTime f).qm = c.qm := rfl
@[simp] theorem Chip.onTime_time : (c.onTime f).time = f c.time := rfl
@[simp] theorem Chip.onTime_eth : (c.onTime f).eth = c.eth := rfl
@[simp] theorem Chip.onTime_mem : (c.onTime f).mem = c.mem := rfl
@[simp] theorem Chip.onTime_cb : (c.onTime f).cb = c.cb := rfl
@[simp] theorem Chip.onTime_can : (c.onTime f).can = c.can := rfl
@[simp] theorem Chip.onTime_rt : (c.onTime f).rt = c.rt := rfl
@[simp] theorem Chip.onTime_br : (c.onTime f).br = c.br := rfl
@[simp] theorem Chip.onTime_safe : (c.onTime f).safe = c.safe := rfl
@[simp] theorem Chip.onTime_log : (c.onTime f).log = c.log := rfl
@[simp] theorem Chip.onTime_pwr : (c.onTime f).pwr = c.pwr := rfl
@[simp] theorem Chip.onTime_clove : (c.onTime f).clove = c.clove := rfl
@[simp] theorem Chip.onTime_stored : (c.onTime f).stored = c.stored := rfl
end onTime

section onJournal
variable (c : Chip) (f : Journal → Journal)
@[simp] theorem Chip.onJournal_clk : (c.onJournal f).clk = c.clk := rfl
@[simp] theorem Chip.onJournal_out : (c.onJournal f).out = c.out := rfl
@[simp] theorem Chip.onJournal_fuses : (c.onJournal f).fuses = c.fuses := rfl
@[simp] theorem Chip.onJournal_tiles : (c.onJournal f).tiles = c.tiles := rfl
@[simp] theorem Chip.onJournal_host : (c.onJournal f).host = c.host := rfl
@[simp] theorem Chip.onJournal_dir : (c.onJournal f).dir = c.dir := rfl
@[simp] theorem Chip.onJournal_rc : (c.onJournal f).rc = c.rc := rfl
@[simp] theorem Chip.onJournal_bb : (c.onJournal f).bb = c.bb := rfl
@[simp] theorem Chip.onJournal_qm : (c.onJournal f).qm = c.qm := rfl
@[simp] theorem Chip.onJournal_time : (c.onJournal f).time = c.time := rfl
@[simp] theorem Chip.onJournal_eth : (c.onJournal f).eth = c.eth := rfl
@[simp] theorem Chip.onJournal_mem : (c.onJournal f).mem = c.mem := rfl
@[simp] theorem Chip.onJournal_cb : (c.onJournal f).cb = c.cb := rfl
@[simp] theorem Chip.onJournal_can : (c.onJournal f).can = c.can := rfl
@[simp] theorem Chip.onJournal_rt : (c.onJournal f).rt = c.rt := rfl
@[simp] theorem Chip.onJournal_br : (c.onJournal f).br = c.br := rfl
@[simp] theorem Chip.onJournal_safe : (c.onJournal f).safe = c.safe := rfl
@[simp] theorem Chip.onJournal_log : (c.onJournal f).log = c.log := rfl
@[simp] theorem Chip.onJournal_pwr : (c.onJournal f).pwr = c.pwr := rfl
@[simp] theorem Chip.onJournal_clove : (c.onJournal f).clove = c.clove := rfl
@[simp] theorem Chip.onJournal_stored : (c.onJournal f).stored = c.stored := rfl
@[simp] theorem Chip.onJournal_boot : (c.onJournal f).boot = { c.boot with journal := f c.boot.journal } := rfl
end onJournal

section onCan
variable (c : Chip) (n : Nat) (f : CanChan → CanChan)
@[simp] theorem Chip.onCan_clk : (c.onCan n f).clk = c.clk := rfl
@[simp] theorem Chip.onCan_out : (c.onCan n f).out = c.out := rfl
@[simp] theorem Chip.onCan_fuses : (c.onCan n f).fuses = c.fuses := rfl
@[simp] theorem Chip.onCan_tiles : (c.onCan n f).tiles = c.tiles := rfl
@[simp] theorem Chip.onCan_host : (c.onCan n f).host = c.host := rfl
@[simp] theorem Chip.onCan_boot : (c.onCan n f).boot = c.boot := rfl
@[simp] theorem Chip.onCan_dir : (c.onCan n f).dir = c.dir := rfl
@[simp] theorem Chip.onCan_rc : (c.onCan n f).rc = c.rc := rfl
@[simp] theorem Chip.onCan_bb : (c.onCan n f).bb = c.bb := rfl
@[simp] theorem Chip.onCan_qm : (c.onCan n f).qm = c.qm := rfl
@[simp] theorem Chip.onCan_time : (c.onCan n f).time = c.time := rfl
@[simp] theorem Chip.onCan_eth : (c.onCan n f).eth = c.eth := rfl
@[simp] theorem Chip.onCan_mem : (c.onCan n f).mem = c.mem := rfl
@[simp] theorem Chip.onCan_cb : (c.onCan n f).cb = c.cb := rfl
@[simp] theorem Chip.onCan_rt : (c.onCan n f).rt = c.rt := rfl
@[simp] theorem Chip.onCan_br : (c.onCan n f).br = c.br := rfl
@[simp] theorem Chip.onCan_safe : (c.onCan n f).safe = c.safe := rfl
@[simp] theorem Chip.onCan_log : (c.onCan n f).log = c.log := rfl
@[simp] theorem Chip.onCan_pwr : (c.onCan n f).pwr = c.pwr := rfl
@[simp] theorem Chip.onCan_clove : (c.onCan n f).clove = c.clove := rfl
@[simp] theorem Chip.onCan_stored : (c.onCan n f).stored = c.stored := rfl
@[simp] theorem Chip.onCan_can : (c.onCan n f).can = updAt c.can n f := rfl
end onCan

section safeSet
variable (c : Chip) (x : SafeIsland)
@[simp] theorem Chip.safeSet_clk : (c.safeSet x).clk = c.clk := rfl
@[simp] theorem Chip.safeSet_out : (c.safeSet x).out = c.out := rfl
@[simp] theorem Chip.safeSet_fuses : (c.safeSet x).fuses = c.fuses := rfl
@[simp] theorem Chip.safeSet_tiles : (c.safeSet x).tiles = c.tiles := rfl
@[simp] theorem Chip.safeSet_host : (c.safeSet x).host = c.host := rfl
@[simp] theorem Chip.safeSet_boot : (c.safeSet x).boot = c.boot := rfl
@[simp] theorem Chip.safeSet_dir : (c.safeSet x).dir = c.dir := rfl
@[simp] theorem Chip.safeSet_rc : (c.safeSet x).rc = c.rc := rfl
@[simp] theorem Chip.safeSet_bb : (c.safeSet x).bb = c.bb := rfl
@[simp] theorem Chip.safeSet_qm : (c.safeSet x).qm = c.qm := rfl
@[simp] theorem Chip.safeSet_time : (c.safeSet x).time = c.time := rfl
@[simp] theorem Chip.safeSet_eth : (c.safeSet x).eth = c.eth := rfl
@[simp] theorem Chip.safeSet_mem : (c.safeSet x).mem = c.mem := rfl
@[simp] theorem Chip.safeSet_cb : (c.safeSet x).cb = c.cb := rfl
@[simp] theorem Chip.safeSet_can : (c.safeSet x).can = c.can := rfl
@[simp] theorem Chip.safeSet_rt : (c.safeSet x).rt = c.rt := rfl
@[simp] theorem Chip.safeSet_br : (c.safeSet x).br = c.br := rfl
@[simp] theorem Chip.safeSet_log : (c.safeSet x).log = c.log := rfl
@[simp] theorem Chip.safeSet_pwr : (c.safeSet x).pwr = c.pwr := rfl
@[simp] theorem Chip.safeSet_clove : (c.safeSet x).clove = c.clove := rfl
@[simp] theorem Chip.safeSet_stored : (c.safeSet x).stored = c.stored := rfl
@[simp] theorem Chip.safeSet_safe : (c.safeSet x).safe = x := rfl
end safeSet

section emit
variable (c : Chip) (o : Output)
@[simp] theorem Chip.emit_clk : (c.emit o).clk = c.clk := rfl
@[simp] theorem Chip.emit_fuses : (c.emit o).fuses = c.fuses := rfl
@[simp] theorem Chip.emit_tiles : (c.emit o).tiles = c.tiles := rfl
@[simp] theorem Chip.emit_host : (c.emit o).host = c.host := rfl
@[simp] theorem Chip.emit_boot : (c.emit o).boot = c.boot := rfl
@[simp] theorem Chip.emit_dir : (c.emit o).dir = c.dir := rfl
@[simp] theorem Chip.emit_rc : (c.emit o).rc = c.rc := rfl
@[simp] theorem Chip.emit_bb : (c.emit o).bb = c.bb := rfl
@[simp] theorem Chip.emit_qm : (c.emit o).qm = c.qm := rfl
@[simp] theorem Chip.emit_time : (c.emit o).time = c.time := rfl
@[simp] theorem Chip.emit_eth : (c.emit o).eth = c.eth := rfl
@[simp] theorem Chip.emit_mem : (c.emit o).mem = c.mem := rfl
@[simp] theorem Chip.emit_cb : (c.emit o).cb = c.cb := rfl
@[simp] theorem Chip.emit_can : (c.emit o).can = c.can := rfl
@[simp] theorem Chip.emit_rt : (c.emit o).rt = c.rt := rfl
@[simp] theorem Chip.emit_br : (c.emit o).br = c.br := rfl
@[simp] theorem Chip.emit_safe : (c.emit o).safe = c.safe := rfl
@[simp] theorem Chip.emit_log : (c.emit o).log = c.log := rfl
@[simp] theorem Chip.emit_pwr : (c.emit o).pwr = c.pwr := rfl
@[simp] theorem Chip.emit_clove : (c.emit o).clove = c.clove := rfl
@[simp] theorem Chip.emit_stored : (c.emit o).stored = c.stored := rfl
@[simp] theorem Chip.emit_out : (c.emit o).out = o :: c.out := rfl
end emit

section advance
variable (c : Chip) (t : Nat)
@[simp] theorem Chip.advance_out : (c.advance t).out = c.out := rfl
@[simp] theorem Chip.advance_fuses : (c.advance t).fuses = c.fuses := rfl
@[simp] theorem Chip.advance_tiles : (c.advance t).tiles = c.tiles := rfl
@[simp] theorem Chip.advance_host : (c.advance t).host = c.host := rfl
@[simp] theorem Chip.advance_boot : (c.advance t).boot = c.boot := rfl
@[simp] theorem Chip.advance_dir : (c.advance t).dir = c.dir := rfl
@[simp] theorem Chip.advance_rc : (c.advance t).rc = c.rc := rfl
@[simp] theorem Chip.advance_bb : (c.advance t).bb = c.bb := rfl
@[simp] theorem Chip.advance_qm : (c.advance t).qm = c.qm := rfl
@[simp] theorem Chip.advance_time : (c.advance t).time = c.time := rfl
@[simp] theorem Chip.advance_eth : (c.advance t).eth = c.eth := rfl
@[simp] theorem Chip.advance_mem : (c.advance t).mem = c.mem := rfl
@[simp] theorem Chip.advance_cb : (c.advance t).cb = c.cb := rfl
@[simp] theorem Chip.advance_can : (c.advance t).can = c.can := rfl
@[simp] theorem Chip.advance_rt : (c.advance t).rt = c.rt := rfl
@[simp] theorem Chip.advance_br : (c.advance t).br = c.br := rfl
@[simp] theorem Chip.advance_safe : (c.advance t).safe = c.safe := rfl
@[simp] theorem Chip.advance_log : (c.advance t).log = c.log := rfl
@[simp] theorem Chip.advance_pwr : (c.advance t).pwr = c.pwr := rfl
@[simp] theorem Chip.advance_clove : (c.advance t).clove = c.clove := rfl
@[simp] theorem Chip.advance_stored : (c.advance t).stored = c.stored := rfl
@[simp] theorem Chip.advance_clk : (c.advance t).clk = { c.clk with now := max c.clk.now t } := rfl
end advance

section rcRemember
variable (c : Chip) (p : Nat) (m : RcMsg)
@[simp] theorem Chip.rcRemember_clk : (c.rcRemember p m).clk = c.clk := rfl
@[simp] theorem Chip.rcRemember_out : (c.rcRemember p m).out = c.out := rfl
@[simp] theorem Chip.rcRemember_fuses : (c.rcRemember p m).fuses = c.fuses := rfl
@[simp] theorem Chip.rcRemember_tiles : (c.rcRemember p m).tiles = c.tiles := rfl
@[simp] theorem Chip.rcRemember_host : (c.rcRemember p m).host = c.host := rfl
@[simp] theorem Chip.rcRemember_boot : (c.rcRemember p m).boot = c.boot := rfl
@[simp] theorem Chip.rcRemember_dir : (c.rcRemember p m).dir = c.dir := rfl
@[simp] theorem Chip.rcRemember_bb : (c.rcRemember p m).bb = c.bb := rfl
@[simp] theorem Chip.rcRemember_qm : (c.rcRemember p m).qm = c.qm := rfl
@[simp] theorem Chip.rcRemember_time : (c.rcRemember p m).time = c.time := rfl
@[simp] theorem Chip.rcRemember_eth : (c.rcRemember p m).eth = c.eth := rfl
@[simp] theorem Chip.rcRemember_mem : (c.rcRemember p m).mem = c.mem := rfl
@[simp] theorem Chip.rcRemember_cb : (c.rcRemember p m).cb = c.cb := rfl
@[simp] theorem Chip.rcRemember_can : (c.rcRemember p m).can = c.can := rfl
@[simp] theorem Chip.rcRemember_rt : (c.rcRemember p m).rt = c.rt := rfl
@[simp] theorem Chip.rcRemember_br : (c.rcRemember p m).br = c.br := rfl
@[simp] theorem Chip.rcRemember_safe : (c.rcRemember p m).safe = c.safe := rfl
@[simp] theorem Chip.rcRemember_log : (c.rcRemember p m).log = c.log := rfl
@[simp] theorem Chip.rcRemember_pwr : (c.rcRemember p m).pwr = c.pwr := rfl
@[simp] theorem Chip.rcRemember_clove : (c.rcRemember p m).clove = c.clove := rfl
@[simp] theorem Chip.rcRemember_stored : (c.rcRemember p m).stored = c.stored := rfl
@[simp] theorem Chip.rcRemember_rc : (c.rcRemember p m).rc = { c.rc with seen := (p / 2, m.norm, c.clk.now) :: c.rcRecent.take 31 } := rfl
end rcRemember

section draw
variable (c : Chip)
@[simp] theorem Chip.draw_out : c.draw.2.out = c.out := rfl
@[simp] theorem Chip.draw_fuses : c.draw.2.fuses = c.fuses := rfl
@[simp] theorem Chip.draw_tiles : c.draw.2.tiles = c.tiles := rfl
@[simp] theorem Chip.draw_host : c.draw.2.host = c.host := rfl
@[simp] theorem Chip.draw_boot : c.draw.2.boot = c.boot := rfl
@[simp] theorem Chip.draw_dir : c.draw.2.dir = c.dir := rfl
@[simp] theorem Chip.draw_rc : c.draw.2.rc = c.rc := rfl
@[simp] theorem Chip.draw_bb : c.draw.2.bb = c.bb := rfl
@[simp] theorem Chip.draw_qm : c.draw.2.qm = c.qm := rfl
@[simp] theorem Chip.draw_time : c.draw.2.time = c.time := rfl
@[simp] theorem Chip.draw_eth : c.draw.2.eth = c.eth := rfl
@[simp] theorem Chip.draw_mem : c.draw.2.mem = c.mem := rfl
@[simp] theorem Chip.draw_cb : c.draw.2.cb = c.cb := rfl
@[simp] theorem Chip.draw_can : c.draw.2.can = c.can := rfl
@[simp] theorem Chip.draw_rt : c.draw.2.rt = c.rt := rfl
@[simp] theorem Chip.draw_br : c.draw.2.br = c.br := rfl
@[simp] theorem Chip.draw_safe : c.draw.2.safe = c.safe := rfl
@[simp] theorem Chip.draw_log : c.draw.2.log = c.log := rfl
@[simp] theorem Chip.draw_pwr : c.draw.2.pwr = c.pwr := rfl
@[simp] theorem Chip.draw_clove : c.draw.2.clove = c.clove := rfl
@[simp] theorem Chip.draw_stored : c.draw.2.stored = c.stored := rfl
@[simp] theorem Chip.draw_now : c.draw.2.clk.now = c.clk.now := rfl
end draw

end Sys2Proof.Machine
end

