-- ==== Sys2Proof/Laws/Claims.lean ====
section
/-! SUPPORT. How each form of claim is proved: from the meaning's one equation, once for all rows. -/
namespace Sys2Proof
open Machine

/-- What stands in a list after an update. -/
theorem getElem?_updAt {α : Type} (f : α → α) (l : List α) (n k : Nat) : (updAt l n f)[k]? = if k = n then l[k]?.map f else l[k]? := by
  simp only [updAt, List.getElem?_mapIdx]
  split <;> cases l[k]? <;> rfl

theorem getD_updAt_self {α : Type} (f : α → α) (d : α) (l : List α) (n : Nat) (h : n < l.length) : (updAt l n f).getD n d = f (l.getD n d) := by
  simp [List.getD, getElem?_updAt, h]

theorem getD_updAt_ne {α : Type} (f : α → α) (d : α) (l : List α) (n k : Nat) (h : k ≠ n) : (updAt l n f).getD k d = l.getD k d := by
  simp [List.getD, getElem?_updAt, h]

@[simp] theorem length_updAt {α : Type} (f : α → α) (l : List α) (n : Nat) : (updAt l n f).length = l.length := by simp [updAt]

theorem actMain_of_up {t : Nat} {s : State} {f : Chip → Chip} (h : (s.chip.tick t).mainDie = true) : actMain t s f = act t s f := by
  simp [actMain, act, Chip.command, h]

/-- An event of the main die does what its meaning does. -/
theorem acts_of {i : Nat → Instr} {ready : Chip → Prop} {work : Chip → Chip} (f : Chip → Chip) (he : ∀ t s, Machine.exec (i t) s = actMain t s f)
    (h : ∀ c, c.mainDie = true → ready c → f c = work c) : Acts i ready work := by
  intro t s hm hr
  rw [Leaves, he, actMain_of_up hm, act, Chip.command, h _ hm hr]

theorem actsAlways_of {i : Nat → Instr} {ready : Chip → Prop} {work : Chip → Chip} (f : Chip → Chip) (he : ∀ t s, Machine.exec (i t) s = act t s f)
    (h : ∀ c, ready c → f c = work c) : ActsAlways i ready work := by
  intro t s hr
  rw [Leaves, he, act, Chip.command, h _ hr]

/-- What one event of the main die leaves. -/
theorem leaves_of {i : Instr} {t : Nat} {s : State} (f : Chip → Chip) (he : Machine.exec i s = actMain t s f) (hm : (s.chip.tick t).mainDie = true) :
    Leaves i t s (f (s.chip.tick t)) := by
  rw [Leaves, he, actMain_of_up hm, act, Chip.command]

theorem leavesAlways_of {i : Instr} {t : Nat} {s : State} (f : Chip → Chip) (he : Machine.exec i s = act t s f) : Leaves i t s (f (s.chip.tick t)) := by
  rw [Leaves, he, act, Chip.command]

/-- A doorbell that is taken runs its command on the request as it stands. -/
theorem doorbell_served {c : Chip} {d : Doorbell} {op : Nat} (m : Cmd) (h : Served c d op) :
    c.doorbell d op (some m) =
      (m.run (c.ring d op false) ((c.ring d op false).host.request d.mb d.length)).settle d.mb := by
  obtain ⟨hm, hb, hs, hh, hsv, ht, hu, hp⟩ := h
  have hlen : d.mb < c.host.mailboxes.length := by
    refine Decidable.byContradiction fun hn => ?_
    have : c.host.mb d.mb = { state := .offline } := by
      unfold HostIf.mb
      simp [List.getD, List.getElem?_eq_none (Nat.le_of_not_lt hn)]
    rw [this] at hs
    simp at hs
  have hheld : (decide (op / 256 ≠ 0x0D ∧ c.host.heldBehind (op / 256) c.host.nextOrder = true)) = false := by
    rcases hh with hh | hh <;> simp [hh]
  have hheld' : ¬(op / 256 ≠ 0x0D ∧ c.host.heldBehind (op / 256) c.host.nextOrder = true) := by simpa using hheld
  have hlen' : ((c.ring d op false).host.mb d.mb).length = d.length := by
    simp only [Chip.ring, Chip.onMb, HostIf.mb, Chip.onHost]
    rw [getD_updAt_self _ _ _ _ (by simpa using hlen)]
  have run : c.doorbell d op (some m) = (c.ring d op false).runCmd d.mb op m := by
    unfold Chip.doorbell
    have : ¬(8 ≤ d.mb ∨ (!c.mainDie) = true) := by simp [hm]; omega
    rw [if_neg this]
    rcases hs with hs | hs <;> simp only [hs, hheld, if_neg hheld']
  rw [run, Chip.runCmd]
  have hsv' : ¬(((c.ring d op false).boot.state = .service ∧ op / 256 ≠ 0x0C ∧ op / 256 ≠ 0x0D) ∨ (c.ring d op false).tiles.allIsolated op = true ∨ (c.ring d op false).unstarted op = true) := by
    have : (c.ring d op false).boot = c.boot := rfl
    have : (c.ring d op false).tiles = c.tiles := rfl
    have : (c.ring d op false).unstarted op = c.unstarted op := rfl
    simp only [*]
    rintro (⟨h1, h2, h3⟩ | h1 | h1)
    · rcases hsv with h | h | h <;> contradiction
    · simp at h1
    · simp at h1
  rw [if_neg hsv', hlen']
  congr 1
  unfold Cmd.run
  cases leastFail (m.form (c.ring d op false) ((c.ring d op false).host.request d.mb d.length)) with
  | some f => rfl
  | none =>
    have hpre : (c.ring d op false).preparing op = none := by
      have : (c.ring d op false).clove = c.clove := rfl
      simp only [Chip.preparing, need, this]
      rcases hp with h | h | h <;> simp [h]
    simp only [hpre, firstFail]

/-- A mailbox command that completes. -/
theorem serves_of {i : Nat → Doorbell → Instr} {op : Nat} {ready : Chip → Bytes → Prop} {work : Chip → Bytes → Chip × Bytes} (m : Cmd)
    (he : ∀ t d s, Machine.exec (i t d) s = act t s fun c => c.doorbell d op (some m))
    (h : ∀ c r, ready c r → leastFail (m.form c r) = none ∧ firstFail (m.state c r) = none ∧ m.act c r = (work c r).1.ok (work c r).2) : Serves i op ready work := by
  intro s t d hs hr
  obtain ⟨h1, h2, h3⟩ := h _ _ hr
  rw [Leaves, he, act, Chip.command, doorbell_served m hs]
  have : (m.run (rung s t d op) (asked s t d op)).settle d.mb =
      (work (rung s t d op) (asked s t d op)).1.complete d.mb 0 0 (work (rung s t d op) (asked s t d op)).2 := by
    simp only [Cmd.run, h1, h2, h3, Reply.settle, Chip.ok, Bool.false_eq_true, if_false]
  exact congrArg (fun x => Host.Outcome.next { s with chip := (s.chip.tick t).settled x }) this

/-- A mailbox command that stays BUSY. -/
theorem begins_of {i : Nat → Doorbell → Instr} {op : Nat} {ready : Chip → Bytes → Prop} {work : Chip → Bytes → Chip} (m : Cmd)
    (he : ∀ t d s, Machine.exec (i t d) s = act t s fun c => c.doorbell d op (some m))
    (h : ∀ c r, ready c r → leastFail (m.form c r) = none ∧ firstFail (m.state c r) = none ∧ (m.act c r).busy = true ∧ (m.act c r).chip = work c r) : Begins i op ready work := by
  intro s t d hs hr
  obtain ⟨h1, h2, h3, h4⟩ := h _ _ hr
  rw [Leaves, he, act, Chip.command, doorbell_served m hs]
  have : (m.run (rung s t d op) (asked s t d op)).settle d.mb = work (rung s t d op) (asked s t d op) := by
    simp only [Cmd.run, h1, h2, Reply.settle, h3, h4, if_true]
  exact congrArg (fun x => Host.Outcome.next { s with chip := (s.chip.tick t).settled x }) this

/-! The checks of a command, one by one. -/

@[simp] theorem leastFail_nil : leastFail [] = none := rfl
@[simp] theorem leastFail_none (l : List Check) : leastFail (none :: l) = leastFail l := rfl
@[simp] theorem firstFail_nil : firstFail [] = none := rfl
@[simp] theorem firstFail_none (l : List Check) : firstFail (none :: l) = firstFail l := rfl

theorem leastFail_eq_none {l : List Check} : leastFail l = none ↔ ∀ x ∈ l, x = none := by
  induction l with
  | nil => simp
  | cons a l ih =>
    cases a with
    | none => simp [ih]
    | some f =>
      simp only [leastFail, List.mem_cons, forall_eq_or_imp, reduceCtorEq, false_and, iff_false]
      cases leastFail l <;> simp
      split <;> simp

theorem firstFail_eq_none {l : List Check} : firstFail l = none ↔ ∀ x ∈ l, x = none := by
  induction l with
  | nil => simp
  | cons a l ih => cases a <;> simp [firstFail, ih]

@[simp] theorem lenIs_eq_none {r : Bytes} {n : Nat} : lenIs r n = none ↔ r.length = n := by simp [lenIs]
@[simp] theorem lenData_eq_none {r : Bytes} {a b : Nat} : lenData r a b = none ↔ r.length = a + b ∧ r.length ≤ 512 := by
  simp only [lenData]
  split
  · simp; omega
  · split
    · simp_all; omega
    · simp_all
@[simp] theorem rsv_eq_none {r : Bytes} {a b : Nat} : rsv r a b = none ↔ isZero (slice r a b) = true := by simp [rsv]
@[simp] theorem enc_eq_none {b : Bool} {n : Nat} : enc b n = none ↔ b = true := by simp [enc]
@[simp] theorem rng_eq_none {b : Bool} {n : Nat} : rng b n = none ↔ b = true := by simp [rng]
@[simp] theorem need_eq_none {b : Bool} {n : Nat} : need b n = none ↔ b = true := by simp [need]

/-- A roll-call telegram that is taken goes to its row's handling (R72, R76). -/
theorem rcTake_of_taken {p k : Nat} {src : Outer} {raw : Bytes} {m : RcMsg} {c : Chip} (h : Ready.taken p k src raw m c) (f : Chip → RcMsg → Chip) :
    c.rcTake p k src raw f = f (Ready.took p src raw m c) m := by
  obtain ⟨h1, h2, h3, h4, h5, h6⟩ := h
  simp [Chip.rcTake, h1, h2, h3, h4, h5, h6]

/-- A right password passes (R399). -/
theorem judgePassword_of_passes {c : Chip} {pw : Bytes} (h : Ready.passes c pw) : c.judgePassword pw = (true, c.safeSet { c.safe with wrong := 0 }) := by
  obtain ⟨h1, h2⟩ := h
  have : c.safe.password.isNone = false := by
    cases hp : c.safe.password <;> simp_all [SafeIsland.passwordIs]
  simp [Chip.judgePassword, h1, this, h2]

theorem passwordForm_of_password {r : Bytes} {o : Nat} (h : Ready.password r o) : ∀ x ∈ passwordForm r o, x = none := by
  obtain ⟨a, b, c, d, e⟩ := h
  have : min (u8 r o) 16 = u8 r o := by omega
  simp only [passwordForm, this, List.mem_cons, forall_eq_or_imp, rsv_eq_none, rng_eq_none, List.not_mem_nil, false_implies, implies_true, and_true]
  refine ⟨a, ?_, by simp [b, c], e⟩
  rw [if_pos d]

end Sys2Proof
end

