-- ==== Sys2Proof/Laws/Frames.lean ====
section
/-! SUPPORT. What the shared operations over the whole chip can change: raising events, counting, sending telegrams. -/
namespace Sys2Proof.Machine

/-- `b` differs from `a` at most in what reports events: the host block, the queues, the log's counters and the outputs. -/
structure Chip.Reports (a b : Chip) : Prop where
  clk : b.clk = a.clk
  fuses : b.fuses = a.fuses
  tiles : b.tiles = a.tiles
  boot : b.boot = a.boot
  dir : b.dir = a.dir
  rc : b.rc = a.rc
  bb : b.bb = a.bb
  time : b.time = a.time
  eth : b.eth = a.eth
  mem : b.mem = a.mem
  cb : b.cb = a.cb
  can : b.can = a.can
  rt : b.rt = a.rt
  br : b.br = a.br
  safe : b.safe = a.safe
  pwr : b.pwr = a.pwr
  clove : b.clove = a.clove
  stored : b.stored = a.stored
  log : b.log = { a.log with counters := b.log.counters }

theorem Chip.Reports.refl (a : Chip) : Chip.Reports a a := by constructor <;> rfl
theorem Chip.Reports.trans {a b c : Chip} (h : Chip.Reports a b) (k : Chip.Reports b c) : Chip.Reports a c := by
  constructor
  · rw [k.clk, h.clk]
  · rw [k.fuses, h.fuses]
  · rw [k.tiles, h.tiles]
  · rw [k.boot, h.boot]
  · rw [k.dir, h.dir]
  · rw [k.rc, h.rc]
  · rw [k.bb, h.bb]
  · rw [k.time, h.time]
  · rw [k.eth, h.eth]
  · rw [k.mem, h.mem]
  · rw [k.cb, h.cb]
  · rw [k.can, h.can]
  · rw [k.rt, h.rt]
  · rw [k.br, h.br]
  · rw [k.safe, h.safe]
  · rw [k.pwr, h.pwr]
  · rw [k.clove, h.clove]
  · rw [k.stored, h.stored]
  · rw [k.log, h.log]

theorem Chip.reports_onHost (c : Chip) (f : HostIf → HostIf) : Chip.Reports c (c.onHost f) := by constructor <;> rfl
theorem Chip.reports_emit (c : Chip) (o : Output) : Chip.Reports c (c.emit o) := by constructor <;> rfl
theorem Chip.reports_onQm (c : Chip) (f : QueueMgr → QueueMgr) : Chip.Reports c (c.onQm f) := by constructor <;> rfl
theorem Chip.reports_logCount (c : Chip) (i : Nat) : Chip.Reports c (c.logCount i) := by constructor <;> rfl
theorem Chip.reports_sendMsi (c : Chip) (v : Nat) : Chip.Reports c (c.sendMsi v) := by constructor <;> rfl

/-- A loop of such steps is such a step. -/
theorem Chip.reports_foldl {α : Type} (f : Chip → α → Chip) (h : ∀ c x, Chip.Reports c (f c x)) (l : List α) (c : Chip) : Chip.Reports c (l.foldl f c) := by
  induction l generalizing c with
  | nil => exact .refl c
  | cons x l ih => exact (h c x).trans (ih _)

theorem Chip.reports_evalConds (c : Chip) : Chip.Reports c c.evalConds := by
  unfold Chip.evalConds
  dsimp only
  split
  · exact c.reports_onHost _
  · split
    · refine (c.reports_onHost _).trans (Chip.reports_foldl _ (fun c v => ?_) _ _)
      split
      · split
        · exact c.reports_onHost _
        · exact c.reports_sendMsi v
      · exact .refl c
    · exact c.reports_onHost _

theorem Chip.reports_raiseRaw (c : Chip) (e kind arg detail : Nat) : Chip.Reports c (c.raiseRaw e kind arg detail).1 := by
  unfold Chip.raiseRaw
  dsimp only
  split <;> exact (c.reports_onHost fun _ => _).trans (Chip.reports_evalConds _)

theorem Chip.reports_intake (c : Chip) (r : Bytes) : Chip.Reports c (c.intake r).1 := by
  unfold Chip.intake
  dsimp only
  split
  · exact (c.reports_onQm fun _ => _).trans (Chip.reports_logCount _ _)
  · exact c.reports_onQm fun _ => _

theorem Chip.reports_intakeEvent (c : Chip) (e kind arg detail : Nat) : Chip.Reports c (c.intakeEvent e kind arg detail).1 := by
  unfold Chip.intakeEvent
  dsimp only
  split
  · exact .refl c
  · exact c.reports_intake _

theorem Chip.reports_raiseStep (c : Chip) (e kind arg detail : Nat) : Chip.Reports c (c.raiseStep e kind arg detail).1 :=
  (c.reports_raiseRaw e kind arg detail).trans (Chip.reports_intakeEvent _ _ _ _ _)

theorem Chip.reports_noteDrop (c : Chip) (d : Option Nat) : Chip.Reports c (c.noteDrop d).1 := by
  unfold Chip.noteDrop
  split
  · split
    · exact .refl c
    · exact (c.reports_onHost _).trans (Chip.reports_raiseStep _ _ _ _ _)
  · exact .refl c

/-- Raising an event (R359, R364, R425) changes only what reports it. -/
theorem Chip.reports_raiseD (c : Chip) (e kind arg detail : Nat) : Chip.Reports c (c.raiseD e kind arg detail) := by
  unfold Chip.raiseD
  split
  · exact .refl c
  · dsimp only
    split
    · exact ((((c.reports_raiseStep e kind arg detail).trans (Chip.reports_noteDrop _ _)).trans (Chip.reports_onHost _ _)).trans (Chip.reports_raiseStep _ _ _ _ _)).trans
        (Chip.reports_noteDrop _ _)
    · exact (c.reports_raiseStep e kind arg detail).trans (Chip.reports_noteDrop _ _)

theorem Chip.reports_raiseLimited (c : Chip) (e kind arg detail period : Nat) : Chip.Reports c (c.raiseLimited e kind arg detail period) := by
  unfold Chip.raiseLimited
  split
  · exact .refl c
  · exact (c.reports_onHost _).trans (Chip.reports_raiseD _ _ _ _ _)

theorem Chip.reports_raiseKeyed (c : Chip) (e key kind arg detail period : Nat) : Chip.Reports c (c.raiseKeyed e key kind arg detail period) := by
  unfold Chip.raiseKeyed
  split
  · exact .refl c
  · exact (c.reports_onHost _).trans (Chip.reports_raiseD _ _ _ _ _)

theorem Chip.reports_dropHead (c : Chip) (q : Nat) : Chip.Reports c (c.dropHead q) := by
  unfold Chip.dropHead
  dsimp only
  split
  · exact (c.reports_onQm _).trans (Chip.reports_raiseD _ _ _ _ _)
  · exact c.reports_onQm _

theorem Chip.reports_burstCorrected (c : Chip) (q : Nat) : Chip.Reports c (c.burstCorrected q) := by
  unfold Chip.burstCorrected
  dsimp only
  split
  · exact (c.reports_onQm _).trans (Chip.reports_raiseD _ _ _ _ _)
  · exact c.reports_onQm _

/-- Taking a frame that lies in the burst buffer (R325) changes only the queues and what reports an error; one in DDR4 also changes the memory controller. -/
theorem Chip.reports_takeHead (c : Chip) (q : Nat) (ecc : Option Nat) (h : ∀ e ∈ (c.qm.queue q).entries, e.inDdr = false) : Chip.Reports c (c.takeHead q ecc).2 := by
  unfold Chip.takeHead
  split
  · exact .refl c
  · exact c.reports_dropHead q
  · rename_i e es a he
    have hd : e.inDdr = false := h e (by rw [he]; exact List.mem_cons_self)
    simp only [hd, Bool.false_eq_true, if_false]
    split
    · exact (c.reports_dropHead q).trans (Chip.reports_burstCorrected _ q)
    · exact (((c.reports_dropHead q).trans (Chip.reports_onQm _ _)).trans (Chip.reports_onQm _ _)).trans (Chip.reports_raiseD _ _ _ _ _)

/-- Reading a head that may stay where it is (R325): as taking it. -/
theorem Chip.reports_headRead (c : Chip) (q : Nat) (ecc : Option Nat) (h : ∀ e ∈ (c.qm.queue q).entries, e.inDdr = false) : Chip.Reports c (c.headRead q ecc) := by
  unfold Chip.headRead
  split
  · rename_i e es a he
    have hd : e.inDdr = false := h e (by rw [he]; exact List.mem_cons_self)
    simp only [hd, Bool.false_eq_true, if_false]
    split
    · exact c.reports_burstCorrected q
    · exact c.reports_takeHead q _ h
  · exact .refl c

/-- A command that ends (R351, R354) changes besides only the count of free values. -/
theorem Chip.reports_complete (c : Chip) (n status detail : Nat) (payload : Bytes) : Chip.Reports c.draw.2 (c.complete n status detail payload) := by
  unfold Chip.complete
  dsimp only
  have h1 : ∀ f g, Chip.Reports c.draw.2 ((c.draw.2.onMb n f).onHost g) := fun f g => (c.draw.2.reports_onHost _).trans (Chip.reports_onHost _ _)
  split
  · split
    · exact (h1 _ _).trans ((Chip.reports_raiseD _ _ _ _ _).trans (Chip.reports_raiseD _ _ _ _ _))
    · exact (h1 _ _).trans (Chip.reports_raiseD _ _ _ _ _)
  · split
    · exact (h1 _ _).trans (Chip.reports_raiseD _ _ _ _ _)
    · exact h1 _ _

section raiseD
variable (c : Chip) (e kind arg detail : Nat)
@[simp] theorem Chip.raiseD_clk : (c.raiseD e kind arg detail).clk = c.clk := (c.reports_raiseD _ _ _ _).clk
@[simp] theorem Chip.raiseD_fuses : (c.raiseD e kind arg detail).fuses = c.fuses := (c.reports_raiseD _ _ _ _).fuses
@[simp] theorem Chip.raiseD_tiles : (c.raiseD e kind arg detail).tiles = c.tiles := (c.reports_raiseD _ _ _ _).tiles
@[simp] theorem Chip.raiseD_boot : (c.raiseD e kind arg detail).boot = c.boot := (c.reports_raiseD _ _ _ _).boot
@[simp] theorem Chip.raiseD_dir : (c.raiseD e kind arg detail).dir = c.dir := (c.reports_raiseD _ _ _ _).dir
@[simp] theorem Chip.raiseD_rc : (c.raiseD e kind arg detail).rc = c.rc := (c.reports_raiseD _ _ _ _).rc
@[simp] theorem Chip.raiseD_bb : (c.raiseD e kind arg detail).bb = c.bb := (c.reports_raiseD _ _ _ _).bb
@[simp] theorem Chip.raiseD_time : (c.raiseD e kind arg detail).time = c.time := (c.reports_raiseD _ _ _ _).time
@[simp] theorem Chip.raiseD_eth : (c.raiseD e kind arg detail).eth = c.eth := (c.reports_raiseD _ _ _ _).eth
@[simp] theorem Chip.raiseD_mem : (c.raiseD e kind arg detail).mem = c.mem := (c.reports_raiseD _ _ _ _).mem
@[simp] theorem Chip.raiseD_cb : (c.raiseD e kind arg detail).cb = c.cb := (c.reports_raiseD _ _ _ _).cb
@[simp] theorem Chip.raiseD_can : (c.raiseD e kind arg detail).can = c.can := (c.reports_raiseD _ _ _ _).can
@[simp] theorem Chip.raiseD_rt : (c.raiseD e kind arg detail).rt = c.rt := (c.reports_raiseD _ _ _ _).rt
@[simp] theorem Chip.raiseD_br : (c.raiseD e kind arg detail).br = c.br := (c.reports_raiseD _ _ _ _).br
@[simp] theorem Chip.raiseD_safe : (c.raiseD e kind arg detail).safe = c.safe := (c.reports_raiseD _ _ _ _).safe
@[simp] theorem Chip.raiseD_pwr : (c.raiseD e kind arg detail).pwr = c.pwr := (c.reports_raiseD _ _ _ _).pwr
@[simp] theorem Chip.raiseD_clove : (c.raiseD e kind arg detail).clove = c.clove := (c.reports_raiseD _ _ _ _).clove
@[simp] theorem Chip.raiseD_stored : (c.raiseD e kind arg detail).stored = c.stored := (c.reports_raiseD _ _ _ _).stored
end raiseD

section raise
variable (c : Chip) (e : Nat)
@[simp] theorem Chip.raise_clk : (c.raise e).clk = c.clk := (c.reports_raiseD _ _ _ _).clk
@[simp] theorem Chip.raise_fuses : (c.raise e).fuses = c.fuses := (c.reports_raiseD _ _ _ _).fuses
@[simp] theorem Chip.raise_tiles : (c.raise e).tiles = c.tiles := (c.reports_raiseD _ _ _ _).tiles
@[simp] theorem Chip.raise_boot : (c.raise e).boot = c.boot := (c.reports_raiseD _ _ _ _).boot
@[simp] theorem Chip.raise_dir : (c.raise e).dir = c.dir := (c.reports_raiseD _ _ _ _).dir
@[simp] theorem Chip.raise_rc : (c.raise e).rc = c.rc := (c.reports_raiseD _ _ _ _).rc
@[simp] theorem Chip.raise_bb : (c.raise e).bb = c.bb := (c.reports_raiseD _ _ _ _).bb
@[simp] theorem Chip.raise_time : (c.raise e).time = c.time := (c.reports_raiseD _ _ _ _).time
@[simp] theorem Chip.raise_eth : (c.raise e).eth = c.eth := (c.reports_raiseD _ _ _ _).eth
@[simp] theorem Chip.raise_mem : (c.raise e).mem = c.mem := (c.reports_raiseD _ _ _ _).mem
@[simp] theorem Chip.raise_cb : (c.raise e).cb = c.cb := (c.reports_raiseD _ _ _ _).cb
@[simp] theorem Chip.raise_can : (c.raise e).can = c.can := (c.reports_raiseD _ _ _ _).can
@[simp] theorem Chip.raise_rt : (c.raise e).rt = c.rt := (c.reports_raiseD _ _ _ _).rt
@[simp] theorem Chip.raise_br : (c.raise e).br = c.br := (c.reports_raiseD _ _ _ _).br
@[simp] theorem Chip.raise_safe : (c.raise e).safe = c.safe := (c.reports_raiseD _ _ _ _).safe
@[simp] theorem Chip.raise_pwr : (c.raise e).pwr = c.pwr := (c.reports_raiseD _ _ _ _).pwr
@[simp] theorem Chip.raise_clove : (c.raise e).clove = c.clove := (c.reports_raiseD _ _ _ _).clove
@[simp] theorem Chip.raise_stored : (c.raise e).stored = c.stored := (c.reports_raiseD _ _ _ _).stored
end raise

section raisePort
variable (c : Chip) (e port : Nat)
@[simp] theorem Chip.raisePort_clk : (c.raisePort e port).clk = c.clk := (c.reports_raiseD _ _ _ _).clk
@[simp] theorem Chip.raisePort_fuses : (c.raisePort e port).fuses = c.fuses := (c.reports_raiseD _ _ _ _).fuses
@[simp] theorem Chip.raisePort_tiles : (c.raisePort e port).tiles = c.tiles := (c.reports_raiseD _ _ _ _).tiles
@[simp] theorem Chip.raisePort_boot : (c.raisePort e port).boot = c.boot := (c.reports_raiseD _ _ _ _).boot
@[simp] theorem Chip.raisePort_dir : (c.raisePort e port).dir = c.dir := (c.reports_raiseD _ _ _ _).dir
@[simp] theorem Chip.raisePort_rc : (c.raisePort e port).rc = c.rc := (c.reports_raiseD _ _ _ _).rc
@[simp] theorem Chip.raisePort_bb : (c.raisePort e port).bb = c.bb := (c.reports_raiseD _ _ _ _).bb
@[simp] theorem Chip.raisePort_time : (c.raisePort e port).time = c.time := (c.reports_raiseD _ _ _ _).time
@[simp] theorem Chip.raisePort_eth : (c.raisePort e port).eth = c.eth := (c.reports_raiseD _ _ _ _).eth
@[simp] theorem Chip.raisePort_mem : (c.raisePort e port).mem = c.mem := (c.reports_raiseD _ _ _ _).mem
@[simp] theorem Chip.raisePort_cb : (c.raisePort e port).cb = c.cb := (c.reports_raiseD _ _ _ _).cb
@[simp] theorem Chip.raisePort_can : (c.raisePort e port).can = c.can := (c.reports_raiseD _ _ _ _).can
@[simp] theorem Chip.raisePort_rt : (c.raisePort e port).rt = c.rt := (c.reports_raiseD _ _ _ _).rt
@[simp] theorem Chip.raisePort_br : (c.raisePort e port).br = c.br := (c.reports_raiseD _ _ _ _).br
@[simp] theorem Chip.raisePort_safe : (c.raisePort e port).safe = c.safe := (c.reports_raiseD _ _ _ _).safe
@[simp] theorem Chip.raisePort_pwr : (c.raisePort e port).pwr = c.pwr := (c.reports_raiseD _ _ _ _).pwr
@[simp] theorem Chip.raisePort_clove : (c.raisePort e port).clove = c.clove := (c.reports_raiseD _ _ _ _).clove
@[simp] theorem Chip.raisePort_stored : (c.raisePort e port).stored = c.stored := (c.reports_raiseD _ _ _ _).stored
end raisePort

section raiseLimited
variable (c : Chip) (e kind arg detail period : Nat)
@[simp] theorem Chip.raiseLimited_clk : (c.raiseLimited e kind arg detail period).clk = c.clk := (c.reports_raiseLimited _ _ _ _ _).clk
@[simp] theorem Chip.raiseLimited_fuses : (c.raiseLimited e kind arg detail period).fuses = c.fuses := (c.reports_raiseLimited _ _ _ _ _).fuses
@[simp] theorem Chip.raiseLimited_tiles : (c.raiseLimited e kind arg detail period).tiles = c.tiles := (c.reports_raiseLimited _ _ _ _ _).tiles
@[simp] theorem Chip.raiseLimited_boot : (c.raiseLimited e kind arg detail period).boot = c.boot := (c.reports_raiseLimited _ _ _ _ _).boot
@[simp] theorem Chip.raiseLimited_dir : (c.raiseLimited e kind arg detail period).dir = c.dir := (c.reports_raiseLimited _ _ _ _ _).dir
@[simp] theorem Chip.raiseLimited_rc : (c.raiseLimited e kind arg detail period).rc = c.rc := (c.reports_raiseLimited _ _ _ _ _).rc
@[simp] theorem Chip.raiseLimited_bb : (c.raiseLimited e kind arg detail period).bb = c.bb := (c.reports_raiseLimited _ _ _ _ _).bb
@[simp] theorem Chip.raiseLimited_time : (c.raiseLimited e kind arg detail period).time = c.time := (c.reports_raiseLimited _ _ _ _ _).time
@[simp] theorem Chip.raiseLimited_eth : (c.raiseLimited e kind arg detail period).eth = c.eth := (c.reports_raiseLimited _ _ _ _ _).eth
@[simp] theorem Chip.raiseLimited_mem : (c.raiseLimited e kind arg detail period).mem = c.mem := (c.reports_raiseLimited _ _ _ _ _).mem
@[simp] theorem Chip.raiseLimited_cb : (c.raiseLimited e kind arg detail period).cb = c.cb := (c.reports_raiseLimited _ _ _ _ _).cb
@[simp] theorem Chip.raiseLimited_can : (c.raiseLimited e kind arg detail period).can = c.can := (c.reports_raiseLimited _ _ _ _ _).can
@[simp] theorem Chip.raiseLimited_rt : (c.raiseLimited e kind arg detail period).rt = c.rt := (c.reports_raiseLimited _ _ _ _ _).rt
@[simp] theorem Chip.raiseLimited_br : (c.raiseLimited e kind arg detail period).br = c.br := (c.reports_raiseLimited _ _ _ _ _).br
@[simp] theorem Chip.raiseLimited_safe : (c.raiseLimited e kind arg detail period).safe = c.safe := (c.reports_raiseLimited _ _ _ _ _).safe
@[simp] theorem Chip.raiseLimited_pwr : (c.raiseLimited e kind arg detail period).pwr = c.pwr := (c.reports_raiseLimited _ _ _ _ _).pwr
@[simp] theorem Chip.raiseLimited_clove : (c.raiseLimited e kind arg detail period).clove = c.clove := (c.reports_raiseLimited _ _ _ _ _).clove
@[simp] theorem Chip.raiseLimited_stored : (c.raiseLimited e kind arg detail period).stored = c.stored := (c.reports_raiseLimited _ _ _ _ _).stored
end raiseLimited

section dropHead
variable (c : Chip) (q : Nat)
@[simp] theorem Chip.dropHead_clk : (c.dropHead q).clk = c.clk := (c.reports_dropHead _).clk
@[simp] theorem Chip.dropHead_fuses : (c.dropHead q).fuses = c.fuses := (c.reports_dropHead _).fuses
@[simp] theorem Chip.dropHead_tiles : (c.dropHead q).tiles = c.tiles := (c.reports_dropHead _).tiles
@[simp] theorem Chip.dropHead_boot : (c.dropHead q).boot = c.boot := (c.reports_dropHead _).boot
@[simp] theorem Chip.dropHead_dir : (c.dropHead q).dir = c.dir := (c.reports_dropHead _).dir
@[simp] theorem Chip.dropHead_rc : (c.dropHead q).rc = c.rc := (c.reports_dropHead _).rc
@[simp] theorem Chip.dropHead_bb : (c.dropHead q).bb = c.bb := (c.reports_dropHead _).bb
@[simp] theorem Chip.dropHead_time : (c.dropHead q).time = c.time := (c.reports_dropHead _).time
@[simp] theorem Chip.dropHead_eth : (c.dropHead q).eth = c.eth := (c.reports_dropHead _).eth
@[simp] theorem Chip.dropHead_mem : (c.dropHead q).mem = c.mem := (c.reports_dropHead _).mem
@[simp] theorem Chip.dropHead_cb : (c.dropHead q).cb = c.cb := (c.reports_dropHead _).cb
@[simp] theorem Chip.dropHead_can : (c.dropHead q).can = c.can := (c.reports_dropHead _).can
@[simp] theorem Chip.dropHead_rt : (c.dropHead q).rt = c.rt := (c.reports_dropHead _).rt
@[simp] theorem Chip.dropHead_br : (c.dropHead q).br = c.br := (c.reports_dropHead _).br
@[simp] theorem Chip.dropHead_safe : (c.dropHead q).safe = c.safe := (c.reports_dropHead _).safe
@[simp] theorem Chip.dropHead_pwr : (c.dropHead q).pwr = c.pwr := (c.reports_dropHead _).pwr
@[simp] theorem Chip.dropHead_clove : (c.dropHead q).clove = c.clove := (c.reports_dropHead _).clove
@[simp] theorem Chip.dropHead_stored : (c.dropHead q).stored = c.stored := (c.reports_dropHead _).stored
end dropHead

/-! Sending telegrams (R105, R112). -/

/-- `b` differs from `a` at most in what sending on the backbone touches: its ports and streams, the MAC counts, the free values drawn and the outputs. -/
structure Chip.Sends (a b : Chip) : Prop where
  fuses : b.fuses = a.fuses
  tiles : b.tiles = a.tiles
  host : b.host = a.host
  boot : b.boot = a.boot
  dir : b.dir = a.dir
  rc : b.rc = a.rc
  qm : b.qm = a.qm
  time : b.time = a.time
  mem : b.mem = a.mem
  cb : b.cb = a.cb
  can : b.can = a.can
  rt : b.rt = a.rt
  br : b.br = a.br
  safe : b.safe = a.safe
  log : b.log = a.log
  pwr : b.pwr = a.pwr
  clove : b.clove = a.clove
  stored : b.stored = a.stored
  now : b.clk.now = a.clk.now

theorem Chip.Sends.refl (a : Chip) : Chip.Sends a a := by constructor <;> rfl
theorem Chip.Sends.trans {a b c : Chip} (h : Chip.Sends a b) (k : Chip.Sends b c) : Chip.Sends a c := by
  constructor
  · rw [k.fuses, h.fuses]
  · rw [k.tiles, h.tiles]
  · rw [k.host, h.host]
  · rw [k.boot, h.boot]
  · rw [k.dir, h.dir]
  · rw [k.rc, h.rc]
  · rw [k.qm, h.qm]
  · rw [k.time, h.time]
  · rw [k.mem, h.mem]
  · rw [k.cb, h.cb]
  · rw [k.can, h.can]
  · rw [k.rt, h.rt]
  · rw [k.br, h.br]
  · rw [k.safe, h.safe]
  · rw [k.log, h.log]
  · rw [k.pwr, h.pwr]
  · rw [k.clove, h.clove]
  · rw [k.stored, h.stored]
  · rw [k.now, h.now]

theorem Chip.sends_foldl {α : Type} (f : Chip → α → Chip) (h : ∀ c x, Chip.Sends c (f c x)) (l : List α) (c : Chip) : Chip.Sends c (l.foldl f c) := by
  induction l generalizing c with
  | nil => exact .refl c
  | cons x l ih => exact (h c x).trans (ih _)

theorem Chip.sends_onBb (c : Chip) (f : Backbone → Backbone) : Chip.Sends c (c.onBb f) := by constructor <;> rfl
theorem Chip.sends_transmit (c : Chip) (p : Nat) (f : Bytes) : Chip.Sends c (c.transmit p f) := by constructor <;> rfl

/-- What is counted when a frame of a low class starts, or gives way (R127, R146). -/
theorem Chip.sends_sendsLow (c : Chip) (p n : Nat) : Chip.Sends c (c.sendsLow p n) := by
  unfold Chip.sendsLow
  split <;> constructor <;> rfl
theorem Chip.sends_preempts (c : Chip) (p : Nat) : Chip.Sends c (c.preempts p) := by
  unfold Chip.preempts
  split
  · constructor <;> rfl
  · exact .refl c

theorem Chip.sends_sendOn (c : Chip) (p : Nat) (t : Telegram) : Chip.Sends c (c.sendOn p t) := by
  unfold Chip.sendOn
  dsimp only
  split
  · exact c.sends_onBb _
  · split
    · exact (c.sends_sendsLow _ _).trans (Chip.sends_transmit _ _ _)
    · exact (c.sends_preempts _).trans (Chip.sends_transmit _ _ _)

/-- The frames that leave once their window is over (R127). -/
theorem Chip.sends_releaseHeld (c : Chip) : Chip.Sends c c.releaseHeld := by
  unfold Chip.releaseHeld
  split
  · exact .refl c
  · exact (c.sends_onBb _).trans (Chip.sends_foldl _ (fun c x => (c.sends_preempts _).trans (Chip.sends_transmit _ _ _)) _ _)
theorem Chip.sends_sendEnd (c : Chip) (e : Nat) (t : Telegram) : Chip.Sends c (c.sendEnd e t) := Chip.sends_foldl _ (fun c p => c.sends_sendOn p t) _ _

theorem Chip.sends_takeSequence {c c' : Chip} {a b d tc i q : Nat} (h : c.takeSequence a b d tc = some (i, q, c')) : Chip.Sends c c' := by
  unfold Chip.takeSequence at h
  dsimp only at h
  split at h
  · simp only [Option.some.injEq, Prod.mk.injEq] at h
    obtain ⟨-, -, rfl⟩ := h
    exact c.sends_onBb _
  · split at h
    · simp only [Option.some.injEq, Prod.mk.injEq] at h
      obtain ⟨-, -, rfl⟩ := h
      exact c.sends_onBb _
    · split at h
      · simp only [Option.some.injEq, Prod.mk.injEq] at h
        obtain ⟨-, -, rfl⟩ := h
        exact c.sends_onBb _
      · simp at h

theorem Chip.sends_originate {c c' : Chip} {t t' : Telegram} (h : c.originate t = some (t', c')) : Chip.Sends c c' := by
  unfold Chip.originate at h
  split at h
  · simp at h
  · rename_i hs
    simp only [Option.some.injEq, Prod.mk.injEq] at h
    obtain ⟨-, rfl⟩ := h
    exact Chip.sends_takeSequence hs

theorem Chip.sends_draw (c : Chip) : Chip.Sends c c.draw.2 := by constructor <;> rfl

/-- A roll-call telegram sent, or passed on (R73, R76). -/
theorem Chip.sends_sendCopies (c : Chip) (e : Nat) (t : Telegram) (m : RcMsg) : Chip.Sends c (c.sendCopies e t m) :=
  Chip.sends_foldl _ (fun _ _ => Chip.sends_foldl _ (fun d p => d.sends_sendOn p _) _ _) _ _
theorem Chip.sends_sendRc (c : Chip) (e : Nat) (m : RcMsg) : Chip.Sends c (c.sendRc e m) := by
  unfold Chip.sendRc
  split
  · exact .refl c
  · rename_i h
    exact ((c.sends_draw).trans (Chip.sends_originate h)).trans (Chip.sends_sendCopies _ _ _ _)
theorem Chip.sends_relayRc (c : Chip) (p : Nat) (o : Outer) (e : Nat) (m : RcMsg) : Chip.Sends c (c.relayRc p o e m) := by
  unfold Chip.relayRc
  split
  · constructor <;> rfl
  · exact (c.sends_draw).trans (Chip.sends_sendCopies _ _ _ _)

section sendOn
variable (c : Chip) (p : Nat) (t : Telegram)
@[simp] theorem Chip.sendOn_fuses : (c.sendOn p t).fuses = c.fuses := (c.sends_sendOn _ _).fuses
@[simp] theorem Chip.sendOn_tiles : (c.sendOn p t).tiles = c.tiles := (c.sends_sendOn _ _).tiles
@[simp] theorem Chip.sendOn_host : (c.sendOn p t).host = c.host := (c.sends_sendOn _ _).host
@[simp] theorem Chip.sendOn_boot : (c.sendOn p t).boot = c.boot := (c.sends_sendOn _ _).boot
@[simp] theorem Chip.sendOn_dir : (c.sendOn p t).dir = c.dir := (c.sends_sendOn _ _).dir
@[simp] theorem Chip.sendOn_rc : (c.sendOn p t).rc = c.rc := (c.sends_sendOn _ _).rc
@[simp] theorem Chip.sendOn_qm : (c.sendOn p t).qm = c.qm := (c.sends_sendOn _ _).qm
@[simp] theorem Chip.sendOn_time : (c.sendOn p t).time = c.time := (c.sends_sendOn _ _).time
@[simp] theorem Chip.sendOn_mem : (c.sendOn p t).mem = c.mem := (c.sends_sendOn _ _).mem
@[simp] theorem Chip.sendOn_cb : (c.sendOn p t).cb = c.cb := (c.sends_sendOn _ _).cb
@[simp] theorem Chip.sendOn_can : (c.sendOn p t).can = c.can := (c.sends_sendOn _ _).can
@[simp] theorem Chip.sendOn_rt : (c.sendOn p t).rt = c.rt := (c.sends_sendOn _ _).rt
@[simp] theorem Chip.sendOn_br : (c.sendOn p t).br = c.br := (c.sends_sendOn _ _).br
@[simp] theorem Chip.sendOn_safe : (c.sendOn p t).safe = c.safe := (c.sends_sendOn _ _).safe
@[simp] theorem Chip.sendOn_log : (c.sendOn p t).log = c.log := (c.sends_sendOn _ _).log
@[simp] theorem Chip.sendOn_pwr : (c.sendOn p t).pwr = c.pwr := (c.sends_sendOn _ _).pwr
@[simp] theorem Chip.sendOn_clove : (c.sendOn p t).clove = c.clove := (c.sends_sendOn _ _).clove
@[simp] theorem Chip.sendOn_stored : (c.sendOn p t).stored = c.stored := (c.sends_sendOn _ _).stored
@[simp] theorem Chip.sendOn_now : (c.sendOn p t).clk.now = c.clk.now := (c.sends_sendOn _ _).now
end sendOn

section relayRc
variable (c : Chip) (p : Nat) (o : Outer) (e : Nat) (m : RcMsg)
@[simp] theorem Chip.relayRc_fuses : (c.relayRc p o e m).fuses = c.fuses := (c.sends_relayRc _ _ _ _).fuses
@[simp] theorem Chip.relayRc_tiles : (c.relayRc p o e m).tiles = c.tiles := (c.sends_relayRc _ _ _ _).tiles
@[simp] theorem Chip.relayRc_host : (c.relayRc p o e m).host = c.host := (c.sends_relayRc _ _ _ _).host
@[simp] theorem Chip.relayRc_boot : (c.relayRc p o e m).boot = c.boot := (c.sends_relayRc _ _ _ _).boot
@[simp] theorem Chip.relayRc_dir : (c.relayRc p o e m).dir = c.dir := (c.sends_relayRc _ _ _ _).dir
@[simp] theorem Chip.relayRc_rc : (c.relayRc p o e m).rc = c.rc := (c.sends_relayRc _ _ _ _).rc
@[simp] theorem Chip.relayRc_qm : (c.relayRc p o e m).qm = c.qm := (c.sends_relayRc _ _ _ _).qm
@[simp] theorem Chip.relayRc_time : (c.relayRc p o e m).time = c.time := (c.sends_relayRc _ _ _ _).time
@[simp] theorem Chip.relayRc_mem : (c.relayRc p o e m).mem = c.mem := (c.sends_relayRc _ _ _ _).mem
@[simp] theorem Chip.relayRc_cb : (c.relayRc p o e m).cb = c.cb := (c.sends_relayRc _ _ _ _).cb
@[simp] theorem Chip.relayRc_can : (c.relayRc p o e m).can = c.can := (c.sends_relayRc _ _ _ _).can
@[simp] theorem Chip.relayRc_rt : (c.relayRc p o e m).rt = c.rt := (c.sends_relayRc _ _ _ _).rt
@[simp] theorem Chip.relayRc_br : (c.relayRc p o e m).br = c.br := (c.sends_relayRc _ _ _ _).br
@[simp] theorem Chip.relayRc_safe : (c.relayRc p o e m).safe = c.safe := (c.sends_relayRc _ _ _ _).safe
@[simp] theorem Chip.relayRc_log : (c.relayRc p o e m).log = c.log := (c.sends_relayRc _ _ _ _).log
@[simp] theorem Chip.relayRc_pwr : (c.relayRc p o e m).pwr = c.pwr := (c.sends_relayRc _ _ _ _).pwr
@[simp] theorem Chip.relayRc_clove : (c.relayRc p o e m).clove = c.clove := (c.sends_relayRc _ _ _ _).clove
@[simp] theorem Chip.relayRc_stored : (c.relayRc p o e m).stored = c.stored := (c.sends_relayRc _ _ _ _).stored
@[simp] theorem Chip.relayRc_now : (c.relayRc p o e m).clk.now = c.clk.now := (c.sends_relayRc _ _ _ _).now
end relayRc

section sendRc
variable (c : Chip) (e : Nat) (m : RcMsg)
@[simp] theorem Chip.sendRc_fuses : (c.sendRc e m).fuses = c.fuses := (c.sends_sendRc _ _).fuses
@[simp] theorem Chip.sendRc_tiles : (c.sendRc e m).tiles = c.tiles := (c.sends_sendRc _ _).tiles
@[simp] theorem Chip.sendRc_host : (c.sendRc e m).host = c.host := (c.sends_sendRc _ _).host
@[simp] theorem Chip.sendRc_boot : (c.sendRc e m).boot = c.boot := (c.sends_sendRc _ _).boot
@[simp] theorem Chip.sendRc_dir : (c.sendRc e m).dir = c.dir := (c.sends_sendRc _ _).dir
@[simp] theorem Chip.sendRc_rc : (c.sendRc e m).rc = c.rc := (c.sends_sendRc _ _).rc
@[simp] theorem Chip.sendRc_qm : (c.sendRc e m).qm = c.qm := (c.sends_sendRc _ _).qm
@[simp] theorem Chip.sendRc_time : (c.sendRc e m).time = c.time := (c.sends_sendRc _ _).time
@[simp] theorem Chip.sendRc_mem : (c.sendRc e m).mem = c.mem := (c.sends_sendRc _ _).mem
@[simp] theorem Chip.sendRc_cb : (c.sendRc e m).cb = c.cb := (c.sends_sendRc _ _).cb
@[simp] theorem Chip.sendRc_can : (c.sendRc e m).can = c.can := (c.sends_sendRc _ _).can
@[simp] theorem Chip.sendRc_rt : (c.sendRc e m).rt = c.rt := (c.sends_sendRc _ _).rt
@[simp] theorem Chip.sendRc_br : (c.sendRc e m).br = c.br := (c.sends_sendRc _ _).br
@[simp] theorem Chip.sendRc_safe : (c.sendRc e m).safe = c.safe := (c.sends_sendRc _ _).safe
@[simp] theorem Chip.sendRc_log : (c.sendRc e m).log = c.log := (c.sends_sendRc _ _).log
@[simp] theorem Chip.sendRc_pwr : (c.sendRc e m).pwr = c.pwr := (c.sends_sendRc _ _).pwr
@[simp] theorem Chip.sendRc_clove : (c.sendRc e m).clove = c.clove := (c.sends_sendRc _ _).clove
@[simp] theorem Chip.sendRc_stored : (c.sendRc e m).stored = c.stored := (c.sends_sendRc _ _).stored
@[simp] theorem Chip.sendRc_now : (c.sendRc e m).clk.now = c.clk.now := (c.sends_sendRc _ _).now
end sendRc

/-- Copies out of ports, each sent or counted as without egress (R113). -/
theorem Chip.sends_copiesOut (c : Chip) (p : Nat) (ports : List Nat) (out : Chip → Nat → Chip) (h : ∀ c q, Chip.Sends c (out c q)) :
    Chip.Sends c (c.copiesOut p ports out) := by
  unfold Chip.copiesOut
  refine Chip.sends_foldl _ (fun c q => ?_) _ _
  split
  · exact h c q
  · constructor <;> rfl
/-- A LEASE passed on (R132). -/
theorem Chip.sends_relayLease (c : Chip) (p : Nat) (o : Outer) (m : LeaseMsg) : Chip.Sends c (c.relayLease p o m) := by
  unfold Chip.relayLease
  dsimp only
  split
  · constructor <;> rfl
  · exact (c.sends_draw).trans (Chip.sends_copiesOut _ _ _ _ fun c q => c.sends_sendOn q _)

/-- Outputs one after the other. -/
theorem Chip.emits_eq (c : Chip) (os : List Output) : c.emits os = { c with out := os.reverse ++ c.out } := by
  induction os generalizing c with
  | nil => rfl
  | cons o os ih => rw [Chip.emits, List.foldl_cons, ← Chip.emits, ih]; simp [Chip.emit]

/-- `b` differs from `a` at most in what reports events and in the free values drawn. -/
def Chip.Completes (a b : Chip) : Prop := Chip.Reports { a with clk := b.clk } b ∧ b.clk.now = a.clk.now
theorem Chip.Completes.refl (a : Chip) : Chip.Completes a a := ⟨.refl a, rfl⟩
theorem Chip.Completes.trans {a b c : Chip} (h : Chip.Completes a b) (k : Chip.Completes b c) : Chip.Completes a c := by
  refine ⟨?_, k.2.trans h.2⟩
  have h1 := h.1
  have k1 := k.1
  constructor
  · rfl
  · exact k1.fuses.trans h1.fuses
  · exact k1.tiles.trans h1.tiles
  · exact k1.boot.trans h1.boot
  · exact k1.dir.trans h1.dir
  · exact k1.rc.trans h1.rc
  · exact k1.bb.trans h1.bb
  · exact k1.time.trans h1.time
  · exact k1.eth.trans h1.eth
  · exact k1.mem.trans h1.mem
  · exact k1.cb.trans h1.cb
  · exact k1.can.trans h1.can
  · exact k1.rt.trans h1.rt
  · exact k1.br.trans h1.br
  · exact k1.safe.trans h1.safe
  · exact k1.pwr.trans h1.pwr
  · exact k1.clove.trans h1.clove
  · exact k1.stored.trans h1.stored
  · rw [k1.log, h1.log]
theorem Chip.Reports.completes {a b : Chip} (h : Chip.Reports a b) : Chip.Completes a b := by
  refine ⟨?_, by rw [h.clk]⟩
  have : ({ a with clk := b.clk } : Chip) = a := by rw [h.clk]
  rw [this]
  exact h

/-- A mailbox command that completes, and the copies whose data stand (R342): nothing changes but the host's side, the queues and the counters. -/
theorem Chip.completes_complete (c : Chip) (n status detail : Nat) (payload : Bytes) : Chip.Completes c (c.complete n status detail payload) :=
  Chip.Completes.trans (b := c.draw.2) ⟨by constructor <;> rfl, rfl⟩ (c.reports_complete n status detail payload).completes
theorem Chip.completes_completeWaiting (c : Chip) (op status : Nat) (payload : Bytes) : Chip.Completes c (c.completeWaiting op status payload) := by
  unfold Chip.completeWaiting
  split
  · exact c.completes_complete _ _ _ _
  · exact .refl c
theorem Chip.completes_copies (l : List CopyJob) (c : Chip) :
    Chip.Completes c (l.foldl (fun c j => (c.emits (Output.dmaWrites j.address j.data)).completeWaiting j.op 0 j.payload) c) := by
  induction l generalizing c with
  | nil => exact .refl c
  | cons j l ih =>
    refine Chip.Completes.trans (Chip.Completes.trans (b := c.emits (Output.dmaWrites j.address j.data)) ?_ (Chip.completes_completeWaiting _ _ _ _)) (ih _)
    rw [Chip.emits_eq]
    exact Chip.Reports.completes (by constructor <;> rfl)
theorem Chip.completes_copiesDone (c : Chip) : Chip.Completes c c.copiesDone := by
  unfold Chip.copiesDone
  split
  · exact .refl c
  · exact ((c.reports_onHost _).completes).trans (Chip.completes_copies _ _)
theorem Chip.completes_tick (c : Chip) (t : Nat) : Chip.Completes (c.advance t) (c.tick t) := (c.advance t).completes_copiesDone

/-- While no copy is under way, only the clock goes on. -/
theorem Chip.tick_eq_advance {c : Chip} (h : c.host.copies = []) (t : Nat) : c.tick t = c.advance t := by
  simp [Chip.tick, Chip.copiesDone, h]

section tick
variable (c : Chip) (t : Nat)
@[simp] theorem Chip.tick_now : (c.tick t).clk.now = max c.clk.now t := (c.completes_tick t).2
@[simp] theorem Chip.tick_fuses : (c.tick t).fuses = c.fuses := (c.completes_tick t).1.fuses
@[simp] theorem Chip.tick_tiles : (c.tick t).tiles = c.tiles := (c.completes_tick t).1.tiles
@[simp] theorem Chip.tick_boot : (c.tick t).boot = c.boot := (c.completes_tick t).1.boot
@[simp] theorem Chip.tick_dir : (c.tick t).dir = c.dir := (c.completes_tick t).1.dir
@[simp] theorem Chip.tick_rc : (c.tick t).rc = c.rc := (c.completes_tick t).1.rc
@[simp] theorem Chip.tick_bb : (c.tick t).bb = c.bb := (c.completes_tick t).1.bb
@[simp] theorem Chip.tick_time : (c.tick t).time = c.time := (c.completes_tick t).1.time
@[simp] theorem Chip.tick_eth : (c.tick t).eth = c.eth := (c.completes_tick t).1.eth
@[simp] theorem Chip.tick_mem : (c.tick t).mem = c.mem := (c.completes_tick t).1.mem
@[simp] theorem Chip.tick_cb : (c.tick t).cb = c.cb := (c.completes_tick t).1.cb
@[simp] theorem Chip.tick_can : (c.tick t).can = c.can := (c.completes_tick t).1.can
@[simp] theorem Chip.tick_rt : (c.tick t).rt = c.rt := (c.completes_tick t).1.rt
@[simp] theorem Chip.tick_br : (c.tick t).br = c.br := (c.completes_tick t).1.br
@[simp] theorem Chip.tick_safe : (c.tick t).safe = c.safe := (c.completes_tick t).1.safe
@[simp] theorem Chip.tick_pwr : (c.tick t).pwr = c.pwr := (c.completes_tick t).1.pwr
@[simp] theorem Chip.tick_clove : (c.tick t).clove = c.clove := (c.completes_tick t).1.clove
@[simp] theorem Chip.tick_stored : (c.tick t).stored = c.stored := (c.completes_tick t).1.stored
end tick

end Sys2Proof.Machine
end

