-- ==== Sys2Proof/Laws/Memory.lean ====
section
/-! SUPPORT. Every write keeps the canonical form of a memory; what a read finds after a write. -/
namespace Sys2Proof.Machine

theorem mem_cellsFrom {c : Host.Cell} : ∀ {d : Bytes} {a : Nat}, c ∈ cellsFrom a d → a ≤ c.1 ∧ c.1 < a + d.length ∧ c.2 ≠ 0
  | [], _, h => by simp [cellsFrom] at h
  | b :: bs, a, h => by
    unfold cellsFrom at h
    split at h
    · obtain ⟨h1, h2, h3⟩ := mem_cellsFrom h
      simp only [List.length_cons]
      exact ⟨by omega, by omega, h3⟩
    · rename_i hb
      rcases List.mem_cons.1 h with rfl | h
      · exact ⟨Nat.le_refl _, by simp, hb⟩
      · obtain ⟨h1, h2, h3⟩ := mem_cellsFrom h
        simp only [List.length_cons]
        exact ⟨by omega, by omega, h3⟩

theorem cellsFrom_rising : ∀ (d : Bytes) (a : Nat), (cellsFrom a d).Pairwise fun x y => x.1 < y.1
  | [], _ => List.Pairwise.nil
  | b :: bs, a => by
    unfold cellsFrom
    split
    · exact cellsFrom_rising bs (a + 1)
    · refine List.Pairwise.cons (fun x hx => ?_) (cellsFrom_rising bs (a + 1))
      have := (mem_cellsFrom hx).1
      simp only
      omega

theorem Memory.wf_iff {m : Memory} : m.wf = true ↔ (∀ c ∈ m, c.2 ≠ 0) ∧ m.Pairwise fun a b => a.1 < b.1 := by
  simp [Memory.wf]

@[simp] theorem Memory.wf_nil : Memory.wf [] = true := rfl

/-- A write keeps the canonical form. -/
theorem Memory.write_wf {m : Memory} (a : Nat) (d : Bytes) (h : m.wf = true) : (m.write a d).wf = true := by
  rw [Memory.wf_iff] at h ⊢
  obtain ⟨h0, hr⟩ := h
  constructor
  · intro c hc
    simp only [Memory.write, List.mem_append, List.mem_filter] at hc
    rcases hc with (⟨hc, _⟩ | hc) | ⟨hc, _⟩
    · exact h0 c hc
    · exact (mem_cellsFrom hc).2.2
    · exact h0 c hc
  · simp only [Memory.write]
    refine List.pairwise_append.2 ⟨List.pairwise_append.2 ⟨hr.filter _, cellsFrom_rising _ _, ?_⟩, hr.filter _, ?_⟩
    · intro x hx y hy
      have h1 := (List.mem_filter.1 hx).2
      have h2 := (mem_cellsFrom hy).1
      simp only [decide_eq_true_eq] at h1
      omega
    · intro x hx y hy
      have h2 := (List.mem_filter.1 hy).2
      simp only [decide_eq_true_eq] at h2
      rcases List.mem_append.1 hx with hx | hx
      · have h1 := (List.mem_filter.1 hx).2
        simp only [decide_eq_true_eq] at h1
        omega
      · have h1 := (mem_cellsFrom hx).2.1
        omega

theorem readFrom_cellsFrom (rest : Memory) : ∀ (d : Bytes) (a : Nat), (∀ c ∈ rest, a + d.length ≤ c.1) → readFrom (cellsFrom a d ++ rest) a d.length = d
  | [], a, _ => by cases rest <;> simp [cellsFrom, readFrom]
  | b :: bs, a, h => by
    have h' : ∀ c ∈ rest, a + 1 + bs.length ≤ c.1 := fun c hc => by have := h c hc; simp only [List.length_cons] at this; omega
    have ih := readFrom_cellsFrom rest bs (a + 1) h'
    unfold cellsFrom
    split
    · rename_i hb
      cases hm : cellsFrom (a + 1) bs ++ rest with
      | nil => rw [hm] at ih; simp [readFrom, ih, hb]
      | cons x xs =>
        rw [hm] at ih
        have hx : x ∈ cellsFrom (a + 1) bs ++ rest := by rw [hm]; simp
        have : a < x.1 := by
          rcases List.mem_append.1 hx with hx | hx
          · have := (mem_cellsFrom hx).1; omega
          · have := h' x hx; omega
        simp [readFrom, ih, hb, show ¬x.1 = a by omega]
    · simp [readFrom, ih]

theorem dropWhile_filter_append (a : Nat) (y : Memory) (hy : ∀ c ∈ y, a ≤ c.1) :
    ∀ x : Memory, (x.filter (fun c => decide (c.1 < a)) ++ y).dropWhile (fun c => decide (c.1 < a)) = y
  | [] => by
    cases y with
    | nil => rfl
    | cons z zs => simp [hy z (by simp)]
  | z :: zs => by
    by_cases hz : z.1 < a
    · simp [hz, dropWhile_filter_append a y hy zs]
    · simp [hz, dropWhile_filter_append a y hy zs]

/-- What has been written is read back. -/
theorem Memory.read_write (m : Memory) (a : Nat) (d : Bytes) : (m.write a d).read a d.length = d := by
  have hy : ∀ c ∈ cellsFrom a d ++ m.filter (fun c => decide (a + d.length ≤ c.1)), a ≤ c.1 := by
    intro c hc
    rcases List.mem_append.1 hc with hc | hc
    · exact (mem_cellsFrom hc).1
    · have := (List.mem_filter.1 hc).2
      simp only [decide_eq_true_eq] at this
      omega
  have hr : ∀ c ∈ m.filter (fun c => decide (a + d.length ≤ c.1)), a + d.length ≤ c.1 := fun c hc => by
    have := (List.mem_filter.1 hc).2
    simpa only [decide_eq_true_eq] using this
  rw [Memory.read, Memory.write, List.append_assoc, dropWhile_filter_append a _ hy]
  exact readFrom_cellsFrom _ d a hr

/-- A write leaves every other byte alone. -/
theorem Memory.get_write_other (m : Memory) (a : Nat) (d : Bytes) (k : Nat) (h : k < a ∨ a + d.length ≤ k) : (m.write a d).get k = m.get k := by
  have none_in : (cellsFrom a d).find? (fun c => c.1 == k) = none := List.find?_eq_none.2 fun c hc => by
    have := mem_cellsFrom hc
    simp only [beq_iff_eq]
    omega
  have low : ∀ x : Memory, (x.filter (fun c => decide (c.1 < a))).find? (fun c => c.1 == k) = if k < a then x.find? (fun c => c.1 == k) else none := by
    intro x
    rw [List.find?_filter]
    split
    · rename_i hk
      congr 1
      funext c
      by_cases hc : c.1 = k <;> simp [hc, hk]
    · rename_i hk
      refine List.find?_eq_none.2 fun c _ => ?_
      simp only [decide_eq_true_eq, beq_iff_eq]
      omega
  have high : ∀ x : Memory, (x.filter (fun c => decide (a + d.length ≤ c.1))).find? (fun c => c.1 == k) = if a + d.length ≤ k then x.find? (fun c => c.1 == k) else none := by
    intro x
    rw [List.find?_filter]
    split
    · rename_i hk
      congr 1
      funext c
      by_cases hc : c.1 = k <;> simp [hc, hk]
    · rename_i hk
      refine List.find?_eq_none.2 fun c _ => ?_
      simp only [decide_eq_true_eq, beq_iff_eq]
      omega
  unfold Memory.get Memory.write
  rw [List.find?_append, List.find?_append, none_in, low, high]
  rcases h with h | h
  · simp [h, show ¬a + d.length ≤ k by omega]
  · simp [h, show ¬k < a by omega]

theorem cellsFrom_append : ∀ (x y : Bytes) (a : Nat), cellsFrom a (x ++ y) = cellsFrom a x ++ cellsFrom (a + x.length) y
  | [], _, a => by simp [cellsFrom]
  | b :: bs, y, a => by
    have ih := cellsFrom_append bs y (a + 1)
    have e : a + (b :: bs).length = a + 1 + bs.length := by simp only [List.length_cons]; omega
    rw [e]
    simp only [List.cons_append, cellsFrom, ih]
    split <;> simp

/-- Part of a run of bytes written to an empty area reads back. -/
theorem Memory.read_inner (d : Bytes) (a k n : Nat) (h : k + n ≤ d.length) : (Memory.write [] a d).read (a + k) n = slice d k n := by
  have hd : d = d.take k ++ d.drop k := (List.take_append_drop k d).symm
  have he : d.drop k = (d.drop k).take n ++ (d.drop k).drop n := (List.take_append_drop n _).symm
  have hk : (d.take k).length = k := by simp only [List.length_take]; omega
  have hn : ((d.drop k).take n).length = n := by simp only [List.length_take, List.length_drop]; omega
  have hw : Memory.write [] a d = cellsFrom a (d.take k) ++ cellsFrom (a + k) (d.drop k) := by
    simp only [Memory.write, List.filter_nil, List.nil_append, List.append_nil]
    conv => lhs; rw [hd, cellsFrom_append, hk]
  have hc : (cellsFrom a (d.take k) ++ cellsFrom (a + k) (d.drop k)).dropWhile (fun c => decide (c.1 < a + k)) = cellsFrom (a + k) (d.drop k) := by
    rw [List.dropWhile_append]
    have h1 : (cellsFrom a (d.take k)).dropWhile (fun c => decide (c.1 < a + k)) = [] := by
      have h2 : ∀ c ∈ cellsFrom a (d.take k), decide (c.1 < a + k) = true := fun c hc => by
        have := mem_cellsFrom hc
        simp only [decide_eq_true_eq]; omega
      generalize cellsFrom a (d.take k) = z at h2
      induction z with
      | nil => rfl
      | cons c z ih => simp only [List.dropWhile_cons, h2 c List.mem_cons_self, if_true]; exact ih fun x hx => h2 x (List.mem_cons_of_mem _ hx)
    simp only [h1, List.isEmpty_nil, if_true]
    generalize hz : cellsFrom (a + k) (d.drop k) = z
    cases z with
    | nil => rfl
    | cons c z =>
      have := mem_cellsFrom (c := c) (d := d.drop k) (a := a + k) (by rw [hz]; exact List.mem_cons_self)
      rw [List.dropWhile_cons_of_neg]
      simp only [decide_eq_true_eq]; omega
  rw [Memory.read, hw, hc, slice]
  conv => lhs; rw [he, cellsFrom_append, hn]
  have := readFrom_cellsFrom (cellsFrom (a + k + n) ((d.drop k).drop n)) ((d.drop k).take n) (a + k) (fun c hc => by have := mem_cellsFrom hc; omega)
  rwa [hn] at this

end Sys2Proof.Machine
end

