-- ==== Sys2Proof/Tests/Slice0.lean ====
section
/-! SUPPORT. Small tests: what is ill formed, what the spec's worked examples give, and for every statement a state and operands that meet its hypotheses. -/
namespace Sys2Proof.Tests
open Machine
set_option maxRecDepth 20000
set_option Elab.async false

/-! Witnesses: for every statement with hypotheses, clause by clause, a state and operands that meet them. -/

/-- A mailbox command is served and its conditions hold. -/
abbrev Meets (op : Nat) (ready : Chip → Bytes → Prop) : Prop :=
  ∃ (s : State) (t : Nat) (d : Doorbell), Served (s.chip.tick t) d op ∧ ready (rung s t d op) (asked s t d op)

/-- An event of the main die meets its conditions. -/
abbrev Occurs (ready : Chip → Prop) : Prop := ∃ (t : Nat) (s : State), (s.chip.tick t).mainDie = true ∧ ready (s.chip.tick t)

/-- Any event meets its conditions. -/
abbrev Happens (ready : Chip → Prop) : Prop := ∃ (t : Nat) (s : State), ready (s.chip.tick t)

/-- The chip with a request in mailbox 0. -/
def asking (c : Chip) (r : Bytes) : State := { chip := c.onMb 0 fun m => { m with request := Memory.write [] 0 r }, pending := [] }
/-- Its doorbell. -/
def bell (r : Bytes) : Doorbell := { mb := 0, tag := 0, length := r.length }

theorem meets (c : Chip) (r : Bytes) {op : Nat} {ready : Chip → Bytes → Prop}
    (h : Served ((asking c r).chip.tick 0) (bell r) op ∧ ready (rung (asking c r) 0 (bell r) op) (asked (asking c r) 0 (bell r) op)) : Meets op ready := ⟨_, _, _, h⟩
theorem occurs (c : Chip) {ready : Chip → Prop} (h : (c.tick 0).mainDie = true ∧ ready (c.tick 0)) : Occurs ready := ⟨0, ⟨c, []⟩, h⟩
theorem happens (c : Chip) {ready : Chip → Prop} (h : ready (c.tick 0)) : Happens ready := ⟨0, ⟨c, []⟩, h⟩

/-- A node that has started, its mailboxes free; nothing else has happened. -/
def up : Chip := { boot := { state := .ready }, host := { mailboxes := List.replicate 8 { state := .idle }, pcieUp := true }, fuses := { identity := 0x11 } }
def nodeA : NodeEntry := { identity := 0x11, number := 1, position := 1, segment := 1, nodeIndex := 1, leader := true }
def nodeB : NodeEntry := { identity := 0x22, number := 2, position := 2, segment := 1, nodeIndex := 1 }
/-- A train of two vehicles with a node each; node 1 leads. -/
def train : Snapshot :=
  { epoch := 1, generation := 1, leaderNode := 1, leaderIdentity := 0x11, nodes := [nodeA, nodeB]
    vehicles := [{ identity := 0x11, position := 1, firstNode := 1, nodes := 1 }, { identity := 0x22, position := 2, firstNode := 2, nodes := 1 }]
    segments := [{ number := 1, first := 1, last := 2, holdsLeader := true }] }
/-- The node in that train, its directory in force. -/
def inTrain : Chip := { up with dir := { inForce := some train }, rc := { state := .settled }, bb := { ports := List.replicate 4 { link := .up, phyUp := true } } }
def pin0 : Pin := { handle := 0, snap := train, lastUse := 0 }
/-! Ill-formed commands, one for each check of `Instr.wf`. -/
theorem test_ill_formed_1 : ∀ i ∈ ([
    .dirStatus 0 { mb := 8, tag := 0, length := 0 }, .dirStatus 0 { mb := 0, tag := 16, length := 0 },
    .dirStatus 0 { mb := 0, tag := 0, length := 1024 }, .undefinedOpcode 0 { mb := 8, tag := 0, length := 0 } 0,
    .undefinedOpcode 0 { mb := 0, tag := 0, length := 0 } 65536, .heldCommandStart 0 8, .doorbellIgnored 0 { mb := 8, tag := 0, length := 0 } 0,
    .doorbellIgnored 0 { mb := 0, tag := 0, length := 0 } 65536, .requestAreaWriteLocked 0 8 0 [0], .requestAreaWriteLocked 0 0 512 [0],
    .requestAreaWriteLocked 0 0 0 [], .requestAreaWriteLocked 0 0 0 (zeros 257), .mbRelease 0 8, .evAck 0 4 0, .registerWrite 0 65536 [0], .registerWrite 0 0 [],
    .registerAccessError 0 none 65536 1, .fenceRead 0 0 64 0 1, .fenceRead 0 0 0 8 1, .fenceRead 0 0 0 0 0, .fenceRead 0 0 0 7 2,
    .remoteIrqWrite 0 64 0 1, .remoteIrqWrite 0 0 0 0, .semRead 0 0 16, .semReleaseWrite 0 16 0, .windowRead 0 0 0x20000000 1, .windowRead 0 0 0 0,
    .windowWrite 0 0x20000000 [0], .windowWrite 0 0 [], .msiReenable 0 false false false { vectors := 6 }, .msiReenable 0 false false false { bar0 := 2 ^ 32 }, .tileSelfCheckFail 0 .mram 1, .phyLinkLoss 0 4,
    .linkRxTimeout 0 4, .linkProvisional 0 4, .linkIdleTimer 0 4, .delayBurstEnd 0 4, .delayRequestTimer 0 4] : List Instr), i.wf = false := by decide
theorem test_ill_formed_2 : ∀ i ∈ ([
    .tdreqRx 0 4 [], .tdrespRx 0 4 0 [], .delaySampleTimeout 0 4, .latencyTempCorrection 0 4 0 0, .probeRx 0 4 {}, .probeReplyRx 0 4 {},
    .probeReplyTimeout 0 2, .couplerSenseChange 0 2 false, .couplerDisagreeTimeout 0 2, .startRx 0 4 {}, .startOuterTimeout 0 2, .countRx 0 4 {},
    .reportRx 0 4 {} [], .announceRx 0 4 {}, .dirsegRx 0 4 {} [], .segreqRx 0 4 {} [], .noticeRx 0 4 {} [], .beaconRx 0 4 {} [], .leaseRx 0 4 {},
    .bbTelegramRx 0 4 0 0 0 [], .bbEgressDequeue 0 16 none, .fallbackReturnTimer 0 2, .preemptVerifyComplete 0 12 false, .tsyncRx 0 4 0 [],
    .cepFire 0 16, .cbFrameRx 0 11 { start := 0 } false false [], .cbFrameRx 0 36 { start := 0 } false false [], .cbWindowClose 0 11 0 none, .cbWindowClose 0 36 0 none,
    .cbForeignActivity 0 { port := 11, seen := { start := 0 } }, .cbForeignActivity 0 { port := 36, seen := { start := 0 } }, .cbGrantResponseTimeout 0 11, .cbGrantResponseTimeout 0 36, .cbBeaconRx 0 11 { start := 0 } [],
    .cbBeaconRx 0 36 { start := 0 } [], .cbPointFire 0 8] : List Instr), i.wf = false := by decide
theorem test_ill_formed_3 : ∀ i ∈ ([
    .canIntegrated 0 12, .canFrameRx 0 12 0 [], .canTxStart ⟨0, none⟩ 12, .canTxComplete 0 12 none, .canError 0 12 0 false false {},
    .canError 0 0 9 false false {}, .canRecoveryComplete 0 12, .canAloneRetry 0 12, .canCellStart 0 12 false, .canCheckCellEnd 0 { channel := 12 },
    .canMatrixResume 0 12, .readReqRx 0 4 [], .writeRx 0 4 [], .irqRx 0 4 [], .semAcquireRx 0 4 [], .semReleaseRx 0 4 [], .readReplyRx 0 12 [],
    .writeAckRx 0 12 [], .writeFaultRx 0 12 [], .semReplyRx 0 12 [], .semAttemptTimeout 0 16, .prefetchLineExpiry 0 64 0, .windowDisableComplete 0 64,
    .vehicleFrameRx 0 3 0 0 [], .vehicleFrameRx 0 12 0 0 [], .pauseExpiry 0 3, .pauseExpiry 0 12, .vehicleEgressDequeue 0 3 0 none,
    .vehicleEgressDequeue 0 12 0 none, .vehicleLinkChange 0 3 false false, .vehicleLinkChange 0 12 false false, .ringPoll 0 47 [], .ringPoll 0 60 [],
    .rxRingDeliver 0 47 none, .rxRingDeliver 0 56 none, .txChainProcess 0 55 [] [] false] : List Instr), i.wf = false := by decide
theorem test_ill_formed_4 : ∀ i ∈ ([
    .txChainProcess 0 60 [] [] false, .safeFunctionEval 0 false [] 0, .discrepancyTimeout 0 false 8, .inputTestPulse 0 16 0 0,
    .offPulseSlot 0 8 ⟨false, false⟩ ⟨false, false⟩ ⟨false, false⟩, .healthChallenge 0 (some 65536), .brakeFeedbackDeadline 0 false 4, .canWakeDetect 0 12, .carbusWakeDetect 0 11, .carbusWakeDetect 0 36,
    .sleepVoteRx 0 4 {}, .sleepGrantRx 0 4 {}, .abortRequestRx 0 4 {}, .sleepAbortRx 0 4 {}, .mainDieRelease 0 16 [], .mainDieRelease 0 1 [15],
    .retryWaitExpiry 0 16 [], .retryWaitExpiry 0 1 [15], .firmwareRestart 0 16 [], .firmwareRestart 0 1 [15], .recordStore ⟨0, none⟩ [(65536, 0)], .recordStore ⟨0, none⟩ [(0, 8)], .pinExpiry 0 256,
    .pcieLinkUp 0 4 1, .pcieLinkUp 0 1 3, .phyEnergyDetect 0 4] : List Instr), i.wf = false := by decide
/-- Put the CRC-32C of an image where it belongs. -/
def sealed (off : Nat) (b : Bytes) : Bytes := splice b off (le 4 (imageCrc off b))
/-- A schedule without slots. -/
def sched0 : Bytes := sealed 0x14 (le 4 0x5A4B5342 ++ le 2 1 ++ le 2 64 ++ le 4 1 ++ zeros 4 ++ le 4 64 ++ zeros 44)
/-- A schedule whose one slot is this node's. -/
def sched1 : Bytes :=
  sealed 0x14 (le 4 0x5A4B5342 ++ le 2 1 ++ le 2 64 ++ le 4 1 ++ zeros 2 ++ le 2 1 ++ le 4 96 ++ zeros 44 ++ zeros 4 ++ [7, 0] ++ zeros 2 ++ le 8 0x11 ++ [0, 4] ++ zeros 14)
/-- A car-bus schedule without slots, and one whose one slot is the star's. -/
def cb0 : Bytes := sealed 0x14 (le 4 0x5A4B4342 ++ le 2 1 ++ le 2 64 ++ le 4 1 ++ [1, 0] ++ le 2 12 ++ le 4 64 ++ zeros 16 ++ List.replicate 12 0xFF ++ zeros 16)
def cb1 : Bytes := zeros 13 ++ [1] ++ zeros 50 ++ [0x80, 1, 4, 0, 0, 0, 0, 0]
/-- One whose one slot is an end node's on branch 0. -/
def cb2 : Bytes := zeros 13 ++ [1] ++ zeros 50 ++ [0, 1, 4, 0, 0, 0, 0, 0]
/-- An image between whose parts its CRC-32C stands. -/
def checked (pre post : Bytes) : Bytes := pre ++ (le 4 (crc32c (pre ++ (zeros 4 ++ post))) ++ post)
theorem checked_ok (pre post : Bytes) (h : pre.length = 20) : (imageCrc 0x14 (checked pre post) == u32 (checked pre post) 0x14) = true := by
  have h1 := imageCrc_sealed pre post
  have h2 := u32_sealed pre post _ (crc32c_lt (pre ++ (zeros 4 ++ post)))
  rw [h] at h1 h2
  rw [checked, h1, h2, beq_self_eq_true]
/-- A matrix of one column without cells. -/
def matrix0 : Bytes :=
  checked (le 4 0x5A4B4D58 ++ le 2 1 ++ le 2 64 ++ le 4 1 ++ [0, 1, 0, 0] ++ le 4 2176) (zeros 44 ++ (List.replicate 60 0xFF ++ zeros 2048))
/-- A router image without entries, one with an entry whose check is verified, one with a check-value unit. -/
def router0 : Bytes := checked (le 4 0x5A4B5254 ++ le 2 1 ++ le 2 64 ++ le 4 1 ++ zeros 4 ++ le 4 1856) (zeros 1832)
theorem slice_zeros (x : Bytes) (n off k : Nat) (h : x.length ≤ off) : slice (x ++ zeros n) off k = zeros (min k (n - (off - x.length))) := by
  rw [slice, List.drop_append, List.drop_eq_nil_of_le h]
  simp [zeros, List.take_replicate, List.drop_replicate]
theorem isZero_zeros (n : Nat) : isZero (zeros n) = true := by simp [isZero, zeros]
theorem router0_zero (off k : Nat) (h : 24 ≤ off) : isZero (slice router0 off k) = true := by
  rw [router0, checked, ← List.append_assoc, slice_zeros _ _ _ _ (by simp only [List.length_append, length_le, length_zeros]; omega), isZero_zeros]
theorem router0_ok : routerOk router0 = true := by
  have hc := checked_ok (le 4 0x5A4B5254 ++ le 2 1 ++ le 2 64 ++ le 4 1 ++ zeros 4 ++ le 4 1856) (zeros 1832) (by decide)
  change (imageCrc 0x14 router0 == u32 router0 0x14) = true at hc
  have hu : ∀ u, unitOn router0 u = false := fun u => by rw [unitOn, show u16 router0 0x20 = 0 by decide]; simp
  have ha : u8 router0 14 = 0 := by decide
  simp only [routerOk, Bool.and_eq_true, hc, hu, ha, rtUnit, rtAddr, Bool.false_eq_true, if_false, Nat.not_lt_zero, List.all_eq_true]
  have h1 : ∀ u, isZero (slice router0 (0x40 + 48 * u) 48) = true := fun u => router0_zero _ _ (by omega)
  have h2 : ∀ a, isZero (slice router0 (0x340 + 16 * a) 16) = true := fun a => router0_zero _ _ (by omega)
  simp only [h1, h2, router0_zero 0x22 30 (by decide), implies_true]
  decide +kernel
theorem router0_staged : (Memory.write [] 0 router0).read 0 (max 1856 (min 264000 (leNat ((Memory.write [] 0 router0).read 0x10 4)))) = router0 := by
  rw [Memory.read_inner router0 0 0x10 4 (by decide +kernel), show max 1856 (min 264000 (leNat (slice router0 0x10 4))) = router0.length by decide +kernel, Memory.read_write]
def router1 : Bytes := zeros 12 ++ [1, 0] ++ zeros 1842 ++ [2] ++ zeros 63
def router2 : Bytes := zeros 32 ++ [1, 0] ++ zeros 30 ++ zeros 48
/-- A parameter set without functions. -/
def params : Bytes :=
  let z := le 4 0x5A4B5346 ++ le 2 1 ++ le 2 64 ++ le 4 1 ++ le 4 256 ++ zeros 16 ++ le 2 200 ++ le 2 500 ++ le 2 200 ++ le 2 50 ++ zeros 24 ++
    (List.range 8).flatMap (fun _ => [0, 0, 1, 0, 10] ++ zeros 11) ++ (List.range 4).flatMap (fun _ => [0, 0, 0xFF, 0xFF, 0, 0xFF] ++ zeros 10)
  splice z 0x10 (le 4 (crc32c z) ++ le 4 (fcs z))
/-- A password field, and a node on which it is set. -/
def pwField : Bytes := [8, 0, 0, 0] ++ List.replicate 8 0x41 ++ zeros 8
def locked : SafeIsland := { password := some ([], (Config.pbkdf2 [] (List.replicate 8 0x41)).toNat) }
/-- The node with one CAN channel as given. -/
def withCan (x : CanChan) : Chip := { up with can := [x] }
def rxBuf : CanBuf := { config := 1 :: zeros 15 }
def txBuf : CanBuf := { config := 2 :: zeros 15 }
/-- The node, its bridge running with window 0 as given. -/
def withWindow (w : BrWindow) : Chip := { inTrain with br := { running := true, windows := [w] } }
/-- A window to node 2, 4 KiB, of a mode. -/
def winTo (mode : Nat) (target : Option Nat) : BrWindow :=
  { desc := le 1 mode ++ zeros 31 ++ le 4 4096 ++ le 2 1 ++ le 2 1 ++ zeros 24, isSet := true, enabled := true, target := target }
/-- The node with a queue's entries as given. -/
def withQueue (q : Nat) (es : List QEntry) (c : Chip) : Chip := c.onQm fun m => m.upd q fun a => { a with entries := es }
def sendingTx : CanTx := { buffer := none, cell := false, frame := {} }
/-- The node with its DDR4 controller in a state. -/
def withMem (st : MemSt) : Chip := { up with mem := { state := st } }
theorem leNat_zeros (n : Nat) : leNat (zeros n) = 0 := by rw [← le_zero, leNat_le, Nat.zero_mod]
theorem matrix0_ok (x : CanChan) : x.imageOk matrix0 = true := by
  have hc := checked_ok (le 4 0x5A4B4D58 ++ le 2 1 ++ le 2 64 ++ le 4 1 ++ [0, 1, 0, 0] ++ le 4 2176) (zeros 44 ++ (List.replicate 60 0xFF ++ zeros 2048)) (by decide)
  change (imageCrc 0x14 matrix0 == u32 matrix0 0x14) = true at hc
  have hl : matrix0.length = 2176 := by simp [matrix0, checked]
  have hz : ∀ b i, cellCode matrix0 b i = 0 := fun b i => by
    rw [cellCode, u16, lAt, matrix0, checked, ← List.append_assoc, ← List.append_assoc, ← List.append_assoc,
      slice_zeros _ _ _ _ (by simp only [List.length_append, length_le, length_zeros, List.length_replicate, List.length_cons, List.length_nil]; omega), leNat_zeros]
  simp only [CanChan.imageOk, Bool.and_eq_true, hz, List.take_of_length_le (Nat.le_of_eq hl), hc]
  decide +kernel
theorem matrix0_staged : (Memory.write [] 0 matrix0).read 0 2176 = matrix0 := by
  rw [show 2176 = matrix0.length by simp [matrix0, checked], Memory.read_write]
/-- A roll-call telegram of node 2, of run 1 of its wave. -/
def msg (mtype : Nat) (body : Bytes) : RcMsg := { mtype := mtype, epoch := 1, sender := 0x22, origin := 0x22, nonce := 1, body := body }
/-- The node with a roll-call engine as given. -/
def withRc (r : RollCall) : Chip := { inTrain with rc := r }
/-- In a state of the run that `msg` belongs to. -/
def inRun (st : RcState) : RollCall := { state := st, wave := { origin := 0x22, nonce := 1 } }
/-- Node 1 holds the leader lease of its epoch. -/
def ownLease : Lease := { holder := 0x11, expiry := 1000000000, epoch := 1, timed := false }
def leading : Chip := { inTrain with bb := { ports := List.replicate 4 { link := .up, phyUp := true }, leaderLease := some ownLease }, clk := { now := 500000000 } }
/-- Node 2 holds it. -/
def otherLease : Lease := { ownLease with holder := 0x22 }
def following : Chip := { inTrain with bb := { ports := List.replicate 4 { link := .up, phyUp := true }, leaderLease := some otherLease } }
/-- An acknowledged place in a run of two nodes, the leader at end 1 of this node. -/
def facts : RunFacts := { n := 2, leader := 0x22, towards := some 1, e1 := 0x11, index := 1 }
def tsync0 : Tsync := { origin := 0, ps := 0, steps := 0, hops := 0, flags := 1, oscillator := 0, domain := 0x22, errorBase := 0, utc := 0, tai := 0 }
def tsyncBytes : Bytes := zeros 14 ++ [1, 0] ++ be 8 0x22 ++ zeros 24
def isOk (x : Except Discard Telegram) (t : Telegram) : Bool := match x with | .ok u => decide (u = t) | .error _ => false
theorem ok_of {x : Except Discard Telegram} {t : Telegram} (h : isOk x t = true) : x = .ok t := by
  cases x with
  | ok u => exact congrArg _ (of_decide_eq_true h)
  | error e => cases h
/-- A process-data telegram of node 2 to every node, and its frame. -/
def tele : Telegram := { type := 4, tc := 3, srcNode := 2, source := 0x22, payload := zeros 20 }
def frame0 : Bytes := inTrain.frameOf tele
theorem fcsGood_sealed (b : Bytes) : fcsGood (b ++ le 4 (fcs b)) = true := by
  have h : fcs b < 4294967296 := by
    simp only [fcs, crc, if_true]
    exact Nat.xor_lt_two_pow (n := 32) (reflectBits_lt 32 _) (by decide)
  have hn : (b ++ le 4 (fcs b)).length - 4 = b.length := by simp
  rw [fcsGood, hn, List.take_left' rfl, List.drop_left' rfl, leNat_le]
  exact decide_eq_true (Nat.mod_eq_of_lt h).symm
/-- A frame longer than any the backbone carries. -/
def longFrame : Bytes := zeros 2000 ++ le 4 (fcs (zeros 2000))
/-- The car-bus star, branch 0 fitted on both channels. -/
def cbConf : Bytes := [0, 1, 0, 0, 1, 0, 1, 0] ++ up.cb.config.drop 8
/-- A star in a cycle under a schedule image. -/
def starOf (img : Bytes) : CarBus := { state := .free, begun := true, config := cbConf, image := { cur := some img } }
def withCb (b : CarBus) (t : Nat) : Chip := { up with cb := b, clk := { now := t } }
def cbFrame (h : Bytes) : Bytes := h ++ be 4 (crc32c h)
/-- The frame of slot 1 in cycle 0, and a beacon of star A. -/
def slotFrame : Bytes := cbFrame ([0x20, 1, 0, 0, 4, 0, 0, 0] ++ zeros 4)
def beacon0 (flags : Byte) : Bytes := cbFrame ([0x10, 0, 0x80, 0xFF, 24] ++ zeros 21 ++ [flags] ++ zeros 5)
def cbSl1 : Bytes := [0x80, 1, 4, 0, 0, 0, 0, 0]
def cbSl2 : Bytes := [0, 1, 4, 0, 0, 0, 0, 0]
/-- Matrices of one column, the second with a check cell. -/
def column1 : Bytes := zeros 13 ++ [1]
def column2 : Bytes := zeros 13 ++ [1] ++ zeros 114 ++ [0, 0x30]
/-- Router images of one entry: exact for CAN key 0 of port 36; verified by unit 0, which has a timeout. -/
def router3 : Bytes := zeros 12 ++ [1, 0] ++ zeros 1842 ++ [1, 1, 36, 0xFF] ++ le 4 0 ++ le 4 0x3FFFFFFF ++ zeros 52
def router4 : Bytes := zeros 12 ++ [1, 0] ++ zeros 82 ++ [1, 0] ++ zeros 1758 ++ [3] ++ zeros 63
def field0 : FieldFrame := { kind := 1, port := 36, key := 0, payload := [], trainTime := 0, timeValid := false }
/-- A bridge telegram of this node to itself, and its frame. -/
def own (op status : Nat) : BrMsg := { op := op, source := 0x11, session := 0, sequence := 0, tag := 0, exportId := 0, flags := 0, length := 0, address := 0, status := status, data := zeros 4 }
def ownFrame (op status : Nat) : Bytes := inTrain.frameOf { type := 6, tc := 2, dstKind := 2, dstValue := 0x11, source := 0x11, selector := op, payload := (own op status).bytes }
/-- The node with a bridge as given. -/
def withBr (b : Bridge) : Chip := { inTrain with br := b }
def req (op : Nat) : BrReq := { tag := 0, op := op, far := 0x11, source := 0, sequence := some 0 }
/-- What the node is after taking that frame. -/
def took (b : Bridge) (op status : Nat) : Chip := (((withBr b).tick 0).bridgeTake 62 op (ownFrame op status)).2
theorem took_eq {x : Option BrMsg × Chip} {m : BrMsg} (h : x.1 = some m) : x = (some m, x.2) := by cases x; cases h; rfl
/-- An access under way for a stream of node 2. -/
def stream0 : BrStream := { source := 0x22, session := 0, queue := [own 1 0], active := true }
/-- The node with mailbox 0 as given. -/
def withMb (m : Mailbox) : Chip := { up with host := { up.host with mailboxes := [m] } }
/-- A frame with its frame check sequence; the node with its vehicle ports, its rings, its island, its power agreement and Clove as given. -/
def withFcs (b : Bytes) : Bytes := b ++ le 4 (fcs b)
def withPort (v : VPort) : Chip := { up with eth := { vports := List.replicate 8 v } }
def portUp : VPort := { running := true, linkUp := true }
def withRing (r : Ring) : Chip := { up with eth := { rings := List.replicate 12 r } }
def withIsland (s : SafeIsland) : Chip := { up with safe := s }
def withClove (x : Clove) : Chip := { up with clove := x }
def withPwr (p : Power) (c : Chip) : Chip := { c with pwr := p }
def withBoot (b : Boot) : Chip := { up with boot := b }
def chanIn (st : IslSt) : SafeChan := { on := true, state := st }
def safeFrame : SafeFrame :=
  { number := 0, state := .hold, ins := [], outs := [], ack := false, setId := 0, check := 0, inPos := 0, outPos := 0, safeStop := false, plannedSleep := false, slot := none, manuals := [], ackState := .idle }
/-- Parameter sets: source 15 a pulsed contact, output 3 with an off-pulse, output 3 with brake feedback. -/
def set15 : Bytes := zeros 0xB0 ++ [1] ++ zeros 79
def setPulse : Bytes := zeros 0xF1 ++ [1] ++ zeros 14
def setBrake : Bytes := zeros 0xF0 ++ [3] ++ zeros 15
def energised : SafeChan := { chanIn .running with set := some setPulse, outs := List.replicate 4 { demand := true } }
/-- A descriptor of one frame of 64 bytes for vehicle port 11, and a node that has it before a transmit ring. -/
def txDesc (ctl : Byte) : Bytes := zeros 8 ++ [64, 0, ctl, 1, 11, 1] ++ zeros 50
def ringPort (d : Bytes) : Chip := { up with eth := { vports := List.replicate 8 portUp, rings := List.replicate 12 { enabled := true, owned := [d] } } }
def okOf (x : Except Nat Chip) : Chip := match x with | .ok c => c | .error _ => up
theorem okOf_eq {x : Except Nat Chip} (h : x.toOption.isSome = true) : x = .ok (okOf x) := by
  cases x with
  | ok c => rfl
  | error e => cases h
/-- A LEASE telegram of role 3 from node 2. -/
def sleepMsg (flags start expiry : Nat) : LeaseMsg := { role := 3, flags := flags, holder := 0x22, epoch := 1, start := start, expiry := expiry }
def grant0 : SleepGrant := { commit := 2, sleep := 5, epoch := 1, asked := true }
/-- Both nodes of the train vote to sleep, and node 1 leads it. -/
def agreed : Chip :=
  { leading with clk := { now := 2500000000 }, bb := { leading.bb with leaderLease := some { ownLease with expiry := 5000000000 } }, time := { state := .grandmaster }
                 pwr := { votes := some 0, held := [{ node := 0x22, since := 0, last := 2500000000 }] } }
/-- What the node is once a LEASE copy has passed the duplicate check, and once it has been re-sent before that. -/
def copyOf (c : Chip) (p : Nat) (raw : Sourced) : Chip := (Ready.leaseCopy p raw (c.tick 0)).2
def relayOf (c : Chip) (p : Nat) (raw : Sourced) (m : LeaseMsg) : Chip := (Ready.leaseCopy p raw ((c.tick 0).relayLease p raw.outer m)).2
theorem copy_eq {x : Bool × Chip} {b : Bool} (h : x.1 = b) : x = (b, x.2) := by cases x; cases h; rfl
/-! Worked examples and tables of the spec. -/
/-- The check values over "123456789" under R270. -/
theorem test_check_values :
    let m := (List.range 9).map fun i => BitVec.ofNat 8 (0x31 + i)
    crc 8 0x2F 0xFF false false 0xFF m = 0xDF ∧ crc 16 0x1021 0xFFFF false false 0 m = 0x29B1 ∧ crc 32 0x04C11DB7 0xFFFFFFFF true true 0xFFFFFFFF m = 0xCBF43926 ∧
      crc32c m = 0xE3069283 ∧ crc 64 0x42F0E1EBA9EA3693 (2 ^ 64 - 1) true true (2 ^ 64 - 1) m = 0x995DC9BBDF1939FA := by decide +kernel
/-- The snapshot of the example of chapter 02: 8 node, 7 vehicle, 2 consist and 1 segment entries make 592 bytes. -/
theorem test_snapshot_size :
    ({ train with nodes := List.replicate 8 nodeA, vehicles := List.replicate 7 {}, consists := List.replicate 2 {}, segments := [{}] } : Snapshot).totalSize = 592 := by decide
/-- The example under R109: node 1 sends S1 (Offset 100 µs, PayloadLength 70), d = 110 ns, G = 1.2 µs; its window on nodes 1 and 2 in ps. -/
theorem test_protect_window :
    let s := { train with nodes := [{ nodeA with delayHigher := 110000 }, { nodeB with delayHigher := 110000 }, { nodeB with number := 3, position := 3, identity := 0x33 }] }
    let slot := le 4 100 ++ zeros 2 ++ le 2 70 ++ le 8 0x11 ++ [1, 4] ++ zeros 14
    s.window 1200 slot 1 true = some (98800000, 101188000) ∧ s.window 1200 slot 2 true = some (99710000, 102198000) := by decide +kernel
/-- R133's own example of chapter 04: a bound of 2 ns makes M = 1.002 µs. -/
theorem test_lease_margin : ({ up with time := { state := .locked, errorBase := 2000 } } : Chip).margin true = 1002 := by decide +kernel
/-- The bridge example: a peer 12 hops away on 20 m cables, ServiceMax 10 µs: RTT_max = 540.64 µs. -/
theorem test_round_trip :
    let s := { train with nodes := (List.range 13).map fun i => { nodeA with number := i + 1, identity := 0x11 + i, delayHigher := 110000 } }
    ({ inTrain with dir := { inForce := some s } } : Chip).brRtt { desc := zeros 36 ++ le 2 10 ++ zeros 26, target := some (0x11 + 12) } = some (12, 540640000) := by decide +kernel
/-- R287: two bytes at window offset 0x6 with LaneWidth 8 go to far offsets 0x1 and 0x0. -/
theorem test_mirrored_lane :
    let w : BrWindow := { desc := [0, 2, 8, 8] ++ zeros 60 }
    w.farStart 6 2 = 0 ∧ w.toFar 6 2 [0xAA, 0xBB] = [0xBB, 0xAA] := by decide +kernel
/-- The sleep example: six nodes; T_c = G + 10.3 ms and T_s = G + 12.54 ms. -/
theorem test_grant_times :
    let c := (agreed.onDir fun d => { d with inForce := some { train with nodes := train.nodes ++ (List.range 4).map fun i => { nodeB with number := 3 + i, identity := 0x30 + i, dark := true } } })
    (sleepGrantIssue c).pwr.grant = some { commit := c.trainTime + 10300000, sleep := c.trainTime + 12540000, epoch := 1 } := by decide +kernel
/-- The large-send example: segments 1 and 6 carry these Total Length, Identification, Sequence Number and flags. -/
theorem test_large_send :
    let h := zeros 12 ++ [8, 0, 0x45] ++ zeros 3 ++ [0x3A, 0x10] ++ zeros 3 ++ [6] ++ zeros 14 ++ [0x10, 0, 0, 0] ++ zeros 4 ++ [0x50, 0x18] ++ zeros 6
    let see := fun f => (bAt f 16 2, bAt f 18 2, bAt f 38 4, u8 f 47)
    see (segmentFrame 1 1448 1 false h (zeros 1448)) = (1488, 0x3A11, 0x100005A8, 0x10) ∧ see (segmentFrame 1 1448 6 true h (zeros 312)) = (352, 0x3A16, 0x100021F0, 0x18) := by decide +kernel
/-- The ACK example of chapter 07: the 16th ACK error brings TEC from 120 to 128, ERROR_PASSIVE. -/
theorem test_ack_error_passive :
    let c := canError 0 4 false false {} (withCan { state := .errorActive, tec := 120, sending := some { sendingTx with buffer := some 0 } })
    (c.canCh 0).tec = 128 ∧ (c.canCh 0).state = .errorActive ∧ ((canError 0 8 false false {} c).canCh 0).state = .errorPassive := by decide +kernel
/-- The mailbox example: MB1's BB_STATUS waits while MB0's BB_SCHED_COMMIT is BUSY. -/
theorem test_same_group_waits :
    (match Machine.exec (.bbStatus 2000 { mb := 1, tag := 2, length := 0 })
        ⟨{ up with host := { up.host with nextOrder := 1, mailboxes := { state := .busy, opcode := 0x0204 } :: List.replicate 7 { state := .idle } } }, []⟩ with
      | .next s => ((s.chip.host.mb 1).state, (s.chip.host.mb 1).waiting)
      | _ => (.offline, false)) = (.busy, true) := by decide +kernel
/-- The router's example: alive values as received, whether the check value passes; the state, the errors, the skips and the alive value after each frame. -/
theorem test_guard_sequence :
    let u : Bytes := [1, 0, 4, 2, 2, 3, 4, 0, 0xFF, 0xFF] ++ zeros 38
    let pay := fun (a : Byte) (good : Bool) => be 2 (guardValue u 0x142 0 (zeros 2 ++ [a] ++ zeros 5) + b2n (!good)) ++ [a] ++ zeros 5
    ([(5, true), (6, true), (8, true), (8, true), (8, true), (8, true), (9, false), (12, true), (13, true), (14, true), (15, true), (0, true)].foldl
      (fun (x : Guard × List (GuardSt × Nat × Nat × Nat)) y => let g := (x.1.judge u 0x142 0 0 (pay y.1 y.2)).guard; (g, x.2 ++ [(g.state, g.errors, g.skipped, g.alive)]))
      ({}, [])).2 = [(.ok, 0, 0, 5), (.ok, 0, 0, 6), (.ok, 0, 1, 8), (.ok, 0, 1, 8), (.ok, 0, 1, 8), (.ok, 1, 1, 8), (.ok, 2, 1, 8), (.failed, 3, 1, 12), (.failed, 3, 1, 13),
        (.failed, 3, 1, 14), (.failed, 3, 1, 15), (.ok, 3, 1, 0)] := by decide +kernel
theorem witness_DirectoryCommands :
    Meets 0x0100 Ready.noSnapshot ∧
    (∃ sn, Meets 0x0100 (Ready.snapshot sn)) ∧
    (∃ sn, Meets 0x0101 (Ready.dirPin sn)) ∧
    (∃ p, Meets 0x0102 (Ready.dirReadPage p)) ∧
    (∃ p, Meets 0x0103 (Ready.dirUnpin p)) ∧
    (∃ sn, Meets 0x0104 (Ready.dirCopy sn)) ∧
    (∃ (c : Chip) (j : CopyJob) (t : Nat), c.host.copies = [j] ∧ j.due ≤ max c.clk.now t) ∧
    (∃ sn, ∃ n, Meets 0x0105 (Ready.dirResolve sn n)) ∧
    Meets 0x0106 Ready.vehicleConfigSet ∧
    Meets 0x0107 Ready.noRequest :=
  ⟨meets (up) ([]) (by decide +kernel),
   ⟨train, meets (inTrain) ([]) (by decide +kernel)⟩,
   ⟨train, meets (inTrain) ([]) (by decide +kernel)⟩,
   ⟨pin0, meets ({ inTrain with dir := { inForce := some train, pins := [pin0] } }) (zeros 4) (by decide +kernel)⟩,
   ⟨pin0, meets ({ inTrain with dir := { inForce := some train, pins := [pin0] } }) (zeros 4) (by decide +kernel)⟩,
   ⟨train, meets (inTrain) (zeros 8 ++ le 4 0xFFFFFFFF) (by decide +kernel)⟩,
   ⟨{ up with host := { up.host with copies := [{ op := 0x0104, due := 1, address := 0, data := [], payload := [] }] } }, _, 1, rfl, by decide⟩,
   ⟨train, nodeB, meets (inTrain) ([2] ++ zeros 7 ++ le 8 0x22) (by decide +kernel)⟩,
   meets (up) (le 8 1 ++ le 8 1 ++ [1, 0, 1, 0] ++ zeros 12) (by decide +kernel),
   meets (up) ([]) (by decide +kernel)⟩

theorem witness_RollcallCommands :
    Meets 0x0110 Ready.stopped ∧
    Meets 0x0111 Ready.rolling ∧
    Meets 0x0112 Ready.rolling ∧
    Meets 0x0113 Ready.noRequest ∧
    Meets 0x0114 Ready.cabSame ∧
    Meets 0x0114 Ready.cabChanged ∧
    Meets 0x0115 (fun c r => Ready.rollcallConfigSet c r ∧ c.rolling = true) ∧
    Meets 0x0115 (fun c r => Ready.rollcallConfigSet c r ∧ c.rolling = false) ∧
    Meets 0x0116 Ready.noRequest ∧
    Meets 0x0117 Ready.noRequest :=
  ⟨meets (up) ([]) (by decide +kernel),
   meets (inTrain) ([]) (by decide +kernel),
   meets (inTrain) ([]) (by decide +kernel),
   meets (up) ([]) (by decide +kernel),
   meets (up) (zeros 4) (by decide +kernel),
   meets (up) ([1, 0, 0, 0]) (by decide +kernel),
   meets (inTrain) (zeros 8) (by decide +kernel),
   meets (up) (zeros 8) (by decide +kernel),
   meets (up) ([]) (by decide +kernel),
   meets (up) ([]) (by decide +kernel)⟩

theorem witness_BackboneCommands :
    Meets 0x0200 Ready.noRequest ∧
    Meets 0x0201 Ready.bbConfigSet ∧
    Meets 0x0202 Ready.noRequest ∧
    Meets 0x0203 (Ready.stage 131136) ∧
    Meets 0x0204 (Ready.bbSchedCommit true) ∧
    Meets 0x0204 (Ready.bbSchedCommit false) ∧
    (∃ sl, Meets 0x0205 (Ready.pdWrite sl)) ∧
    Meets 0x0206 Ready.pdReadNone ∧
    (∃ x, Meets 0x0206 (Ready.pdRead x)) ∧
    (∃ o, Meets 0x0207 (Ready.msgSend o)) ∧
    Meets 0x0208 Ready.noRequest ∧
    Meets 0x0209 (Ready.port 0 3) :=
  ⟨meets (up) ([]) (by decide +kernel),
   meets (up) (up.bb.config) (by decide +kernel),
   meets (up) ([]) (by decide +kernel),
   meets (up) (zeros 4 ++ [1, 0, 0, 0, 9]) (by decide +kernel),
   meets ({ inTrain with bb := { stage := Memory.write [] 0 sched0 } }) ([]) (by decide +kernel),
   meets ({ up with bb := { stage := Memory.write [] 0 sched0 } }) ([]) (by decide +kernel),
   ⟨schedSlot sched1 0, meets ({ up with bb := { image := { cur := some sched1 } } }) ([7, 0, 0, 0, 0, 0, 0, 0]) (by decide +kernel)⟩,
   meets (up) (zeros 8) (by decide +kernel),
   ⟨{ dataId := 0, payload := [], sequence := 0, source := 0, cycle := 0 }, meets ({ up with bb := { recvs := [{ dataId := 0, payload := [], sequence := 0, source := 0, cycle := 0 }] } }) (zeros 8) (by decide +kernel)⟩,
   ⟨_, meets (inTrain) ([4] ++ zeros 23) (⟨by decide, by decide, by decide, by decide, by decide, by decide, by decide, by decide, by decide, by decide, by decide, rfl⟩)⟩,
   meets (up) ([]) (by decide +kernel),
   meets (up) ([3, 0, 0, 0]) (by decide +kernel)⟩

theorem witness_TrainTimeCommands :
    Meets 0x0300 Ready.noRequest ∧
    Meets 0x0301 (fun c r => Ready.timeConfigSet c r ∧ c.rolling = true) ∧
    Meets 0x0301 (fun c r => Ready.timeConfigSet c r ∧ c.rolling = false) ∧
    Meets 0x0302 Ready.noRequest ∧
    (∃ (s : State) (t : Nat) (d : Doorbell), Served (s.chip.tick t) d 0x0303 ∧ asked s t d 0x0303 = [] ∧ (rung s t d 0x0303).host.busyWith 0x0303 = some d.mb) ∧
    Meets 0x0304 Ready.timeRefTod ∧
    Meets 0x0305 (fun c r => Ready.cepSet c r ∧ c.rolling = true) ∧
    Meets 0x0305 (fun c r => Ready.cepSet c r ∧ c.rolling = false) ∧
    Meets 0x0306 (Ready.index 15) ∧
    Meets 0x0307 Ready.noRequest ∧
    Meets 0x0308 (Ready.port 0 3) ∧
    Meets 0x0309 Ready.noRequest :=
  ⟨meets (up) ([]) (by decide +kernel),
   meets (inTrain) (inTrain.time.config) (by decide +kernel),
   meets (up) (up.time.config) (by decide +kernel),
   meets (up) ([]) (by decide +kernel),
   ⟨asking up [], 0, bell [], by decide⟩,
   meets ({ up with time := { state := .grandmaster, refLocked := true } }) (zeros 16) (by decide +kernel),
   meets (inTrain) (zeros 4 ++ [1, 0, 2, 15] ++ zeros 4 ++ le 4 10 ++ zeros 4) (by decide +kernel),
   meets (up) (zeros 4 ++ [1, 0, 2, 15] ++ zeros 4 ++ le 4 10 ++ zeros 4) (by decide +kernel),
   meets (up) ([15, 0, 0, 0]) (by decide +kernel),
   meets (up) ([]) (by decide +kernel),
   meets (up) ([3, 0, 0, 0]) (by decide +kernel),
   meets (up) ([]) (by decide +kernel)⟩

theorem witness_CarBusCommands :
    Meets 0x0400 Ready.noRequest ∧
    Meets 0x0401 Ready.cbConfigSet ∧
    Meets 0x0402 Ready.noRequest ∧
    (∃ img, Meets 0x0403 (Ready.cbStart img)) ∧
    Meets 0x0404 (Ready.cbStop false) ∧
    Meets 0x0404 (Ready.cbStop true) ∧
    Meets 0x0405 (Ready.stage 832) ∧
    Meets 0x0406 (fun c r => Ready.cbCommit c r ∧ c.cb.state = .stopped) ∧
    Meets 0x0406 (fun c r => Ready.cbCommit c r ∧ c.cb.state ≠ .stopped) ∧
    (∃ sl, Meets 0x0407 (Ready.cbTxWrite sl)) ∧
    Meets 0x0408 Ready.cbRxNone ∧
    (∃ x, Meets 0x0408 (Ready.cbRxRead x)) ∧
    (∃ o, Meets 0x0409 (Ready.cbEventSend o)) ∧
    Meets 0x040A (fun c => Ready.noEvent (c.mailRead 0x040A 47)) ∧
    (∃ e, ∃ es, Meets 0x040A (fun c => Ready.anEvent e es (c.mailRead 0x040A 47))) ∧
    (∃ sl, Meets 0x040B (Ready.cbSlotStatus sl)) ∧
    Meets 0x040C (fun c r => Ready.cbPointSet c r ∧ c.cb.state = .stopped) ∧
    Meets 0x040C (fun c r => Ready.cbPointSet c r ∧ c.cb.state ≠ .stopped) ∧
    Meets 0x040D (Ready.port 12 35) ∧
    Meets 0x040D (Ready.port 0xFF 0xFF) :=
  ⟨meets (up) ([]) (by decide +kernel),
   meets (up) (up.cb.config) (by decide +kernel),
   meets (up) ([]) (by decide +kernel),
   ⟨cb0, meets ({ up with cb := { image := { cur := some cb0 } } }) ([]) (by decide +kernel)⟩,
   meets ({ up with cb := { state := .free } }) ([]) (by decide +kernel),
   meets ({ up with cb := { state := .free, begun := true } }) ([]) (by decide +kernel),
   meets (up) (zeros 8) (by decide +kernel),
   meets ({ up with cb := { stage := Memory.write [] 0 cb0 } }) ([]) (by decide +kernel),
   meets ({ up with cb := { stage := Memory.write [] 0 cb0, state := .free } }) ([]) (by decide +kernel),
   ⟨[0x80, 1, 4, 0, 0, 0, 0, 0], meets ({ up with cb := { image := { cur := some cb1 } } }) ([1, 0, 4, 0, 0, 0, 0, 0, 1, 2, 3, 4]) (by decide +kernel)⟩,
   meets ({ up with cb := { image := { cur := some cb2 } } }) ([1, 0, 0, 0]) (by decide +kernel),
   ⟨{ slot := 1 }, meets ({ up with cb := { image := { cur := some cb2 }, rx := [{ slot := 1 }] } }) ([1, 0, 0, 0]) (by decide +kernel)⟩,
   ⟨_, meets (up) (zeros 4) (⟨by decide, by decide, by decide, by decide, by decide, by decide, rfl⟩)⟩,
   meets (up) ([]) (by decide +kernel),
   ⟨{ data := [] }, [], meets (withQueue 47 [{ data := [] }] up) ([]) (by decide +kernel)⟩,
   ⟨[0x80, 1, 4, 0, 0, 0, 0, 0], meets ({ up with cb := { image := { cur := some cb1 } } }) ([1, 0, 0, 0]) (by decide +kernel)⟩,
   meets (up) ([7, 1] ++ zeros 6) (by decide +kernel),
   meets ({ up with cb := { state := .free } }) ([7, 1] ++ zeros 6) (by decide +kernel),
   meets (up) ([35, 0, 0, 0]) (by decide +kernel),
   meets (up) ([255, 0, 0, 0]) (by decide +kernel)⟩

theorem witness_CanChannelCommands :
    Meets 0x0500 Ready.channel ∧
    Meets 0x0501 Ready.canConfigSet ∧
    Meets 0x0502 Ready.channel ∧
    Meets 0x0503 (Ready.canStart false false) ∧
    Meets 0x0503 (Ready.canStart false true) ∧
    ((Config.freeWord 0).toNat % 2 = 0 → Meets 0x0503 (fun c r => Ready.canStart true false c r ∧ c.draw.1 % 2 = 0)) ∧
    ((Config.freeWord 0).toNat % 2 = 0 → Meets 0x0503 (fun c r => Ready.canStart true true c r ∧ c.draw.1 % 2 = 0)) ∧
    ((Config.freeWord 0).toNat % 2 = 1 → ∃ b, Meets 0x0503 (fun c r => Ready.canStart true b c r ∧ c.draw.1 % 2 = 1)) ∧
    (∃ d, Meets 0x0504 (Ready.canStop false d)) ∧
    (∃ d, Meets 0x0504 (Ready.canStop true d)) ∧
    Meets 0x0505 Ready.canRecover ∧
    Meets 0x0506 Ready.canBufSet ∧
    Meets 0x0507 Ready.buffer :=
  ⟨meets (up) ([11, 0, 0, 0]) (by decide +kernel),
   meets (up) ([11, 0, 0, 0] ++ ({} : CanChan).config) (by decide +kernel),
   meets (up) ([11, 0, 0, 0]) (by decide +kernel),
   meets (up) (zeros 4) (⟨by decide, by decide, by decide, by decide, fun _ h => (Option.some_ne_none _ h.symm).elim, by decide, by decide⟩),
   meets (withCan { stoppedBusOff := true }) (zeros 4) (⟨by decide, by decide, by decide, by decide, fun _ h => (Option.some_ne_none _ h.symm).elim, by decide, by decide⟩),
   fun h => meets { up with tiles := { can := 1 } } (zeros 4) ⟨by decide, ⟨by decide, by decide, by decide, fun _ h => (Option.some_ne_none _ h.symm).elim, by decide, by decide⟩, h⟩,
   fun h => meets { withCan { stoppedBusOff := true } with tiles := { can := 1 } } (zeros 4) ⟨by decide, ⟨by decide, by decide, by decide, fun _ h => (Option.some_ne_none _ h.symm).elim, by decide, by decide⟩, h⟩,
   fun h => ⟨false, meets { up with tiles := { can := 1 } } (zeros 4) ⟨by decide, ⟨by decide, by decide, by decide, fun _ h => (Option.some_ne_none _ h.symm).elim, by decide, by decide⟩, h⟩⟩,
   ⟨rung (asking (withCan { state := .busOff }) (zeros 4)) 0 (bell (zeros 4)) 0x0504, meets (withCan { state := .busOff }) (zeros 4) (by decide +kernel)⟩,
   ⟨rung (asking (withCan { state := .errorActive, sending := some sendingTx }) (zeros 4)) 0 (bell (zeros 4)) 0x0504, meets (withCan { state := .errorActive, sending := some sendingTx }) (zeros 4) (by decide +kernel)⟩,
   meets (withCan { state := .busOff }) (zeros 4) (by decide +kernel),
   meets (up) ([11, 63] ++ zeros 18) (by decide +kernel),
   meets (up) ([11, 63, 0, 0]) (by decide +kernel)⟩

theorem witness_CanFrameCommands :
    Meets 0x0508 Ready.canTxWrite ∧
    Meets 0x0509 Ready.canRxNone ∧
    (∃ f, ∃ tt, ∃ valid, Meets 0x0509 (Ready.canRxRead f tt valid)) ∧
    (∃ c', Meets 0x050A (Ready.canSend c')) ∧
    Meets 0x050B Ready.canMatrixStage ∧
    Meets 0x050C (fun c r => Ready.canCommit c r ∧ (c.canCh (u8 r 0)).state = .stopped) ∧
    Meets 0x050C (fun c r => Ready.canCommit c r ∧ (c.canCh (u8 r 0)).state ≠ .stopped ∧ (c.canCh (u8 r 0)).image.cur = none) ∧
    (∃ img, Meets 0x050C (fun c r => Ready.canCommit c r ∧ (c.canCh (u8 r 0)).state ≠ .stopped ∧ (c.canCh (u8 r 0)).image.cur = some img ∧ ((c.canCh (u8 r 0)).matrix ≠ 2 ∨ c.timeValid = false))) ∧
    (∃ img, ∃ b1 : Nat × Nat, ∃ b2 : Nat × Nat, Meets 0x050C (fun c r => Ready.canCommit c r ∧ (c.canCh (u8 r 0)).state ≠ .stopped ∧ (c.canCh (u8 r 0)).image.cur = some img ∧ c.canBoundaries (u8 r 0) (basicNs img) = (b1, b2))) ∧
    Meets 0x050D Ready.canFifoResume ∧
    Meets 0x050D Ready.canBufResume ∧
    Meets 0x050E Ready.channel :=
  ⟨meets (withCan { bufs := [txBuf] }) (zeros 8) (by decide +kernel),
   meets (withCan { bufs := [rxBuf] }) (zeros 4) (by decide +kernel),
   ⟨{}, 0, true, meets (withCan { bufs := [{ rxBuf with front := some ({}, 0, true) }] }) (zeros 4) (by decide +kernel)⟩,
   ⟨_, meets (withCan { state := .errorActive }) (zeros 8) (⟨by decide, by decide, by decide, by decide, by decide, by decide, by decide, by decide, by decide, by decide, by decide, by decide, rfl⟩)⟩,
   meets (up) (zeros 12) (by decide +kernel),
   meets (withCan { stage := Memory.write [] 0 matrix0 }) (zeros 4) (⟨by decide, ⟨⟨by decide, by decide, by decide⟩, (congrArg _ matrix0_staged).trans (matrix0_ok _)⟩, by decide⟩),
   meets (withCan { state := .errorActive, stage := Memory.write [] 0 matrix0 }) (zeros 4) (⟨by decide, ⟨⟨by decide, by decide, by decide⟩, (congrArg _ matrix0_staged).trans (matrix0_ok _)⟩, by decide⟩),
   ⟨[], meets (withCan { state := .errorActive, stage := Memory.write [] 0 matrix0, image := { cur := some [] } }) (zeros 4) (⟨by decide, ⟨⟨by decide, by decide, by decide⟩, (congrArg _ matrix0_staged).trans (matrix0_ok _)⟩, by decide⟩)⟩,
   ⟨[], (16000000, 1), (32000000, 2), meets (withCan { state := .errorActive, stage := Memory.write [] 0 matrix0, image := { cur := some [] } }) (zeros 4) (⟨by decide, ⟨⟨by decide, by decide, by decide⟩, (congrArg _ matrix0_staged).trans (matrix0_ok _)⟩, by decide⟩)⟩,
   meets (withCan { fifoSuspended := true }) ([0, 255, 0, 0]) (by decide +kernel),
   meets (withCan { bufs := [{ txBuf with suspended := true }] }) (zeros 4) (by decide +kernel),
   meets (up) ([11, 0, 0, 0]) (by decide +kernel)⟩

theorem witness_RouterCommands :
    (∃ o : Option Bytes, Meets 0x0600 (fun c r => Ready.noRequest c r ∧ c.rt.image.cur = o)) ∧
    Meets 0x0601 Ready.routeStopped ∧
    Meets 0x0602 Ready.routeRunning ∧
    Meets 0x0603 (Ready.stage 264000) ∧
    Meets 0x0604 (Ready.routeCommit true) ∧
    Meets 0x0604 (Ready.routeCommit false) ∧
    (∃ img, Meets 0x0605 (Ready.routeEntry img)) ∧
    (∃ img, Meets 0x0606 (Ready.routeEntryEnable img)) ∧
    Meets 0x0607 Ready.guard ∧
    Meets 0x0608 Ready.guard ∧
    Meets 0x0609 Ready.noRequest ∧
    (∃ img, Meets 0x060A (Ready.guardCompute 1 img)) ∧
    (∃ img, Meets 0x060A (Ready.guardCompute 0 img)) :=
  ⟨⟨none, meets (up) ([]) (by decide +kernel)⟩,
   meets (up) ([]) (by decide +kernel),
   meets ({ up with rt := { running := true } }) ([]) (by decide +kernel),
   meets (up) (zeros 8) (by decide +kernel),
   meets ({ up with rt := { running := true, stage := Memory.write [] 0 router0 } }) ([]) (⟨by decide, by decide, (congrArg routerOk router0_staged).trans router0_ok, by decide⟩),
   meets ({ up with rt := { stage := Memory.write [] 0 router0 } }) ([]) (⟨by decide, by decide, (congrArg routerOk router0_staged).trans router0_ok, by decide⟩),
   ⟨router1, meets ({ up with rt := { image := { cur := some router1 } } }) (zeros 4) (by decide +kernel)⟩,
   ⟨router1, meets ({ up with rt := { image := { cur := some router1 } } }) ([0, 0, 1, 0]) (by decide +kernel)⟩,
   meets ({ up with rt := { image := { cur := some router1 } } }) (zeros 4) (by decide +kernel),
   meets ({ up with rt := { image := { cur := some router1 } } }) (zeros 4) (by decide +kernel),
   meets (up) ([]) (by decide +kernel),
   ⟨router2, meets ({ up with rt := { image := { cur := some router2 } } }) ([0, 1] ++ zeros 6) (by decide +kernel)⟩,
   ⟨router2, meets ({ up with rt := { image := { cur := some router2 } } }) (zeros 6 ++ [8, 0] ++ zeros 8) (by decide +kernel)⟩⟩

theorem witness_BridgeSetupCommands :
    Meets 0x0700 Ready.noRequest ∧
    Meets 0x0701 (fun c r => Ready.brConfigSet c r ∧ c.br.running = true) ∧
    Meets 0x0701 (fun c r => Ready.brConfigSet c r ∧ c.br.running = false) ∧
    Meets 0x0702 Ready.noRequest ∧
    Meets 0x0703 Ready.brStopped ∧
    Meets 0x0704 (Ready.brRunning true) ∧
    Meets 0x0704 (Ready.brRunning false) ∧
    Meets 0x0705 Ready.brWindowSet ∧
    Meets 0x0706 (fun c r => Ready.brWindowEnable 1 c r ∧ (Ready.windowAt c r).isSet = true ∧ (Ready.windowAt c r).enabled = false) ∧
    Meets 0x0706 (fun c r => Ready.brWindowEnable 1 c r ∧ (Ready.windowAt c r).isSet = true ∧ (Ready.windowAt c r).enabled = true) ∧
    Meets 0x0706 (fun c r => Ready.brWindowEnable 0 c r ∧ (Ready.windowAt c r).enabled = false) ∧
    Meets 0x0706 (fun c r => Ready.brWindowEnable 0 c r ∧ (Ready.windowAt c r).enabled = true ∧ c.br.settled (u8 r 0) = true) ∧
    Meets 0x0706 (fun c r => Ready.brWindowEnable 0 c r ∧ (Ready.windowAt c r).enabled = true ∧ c.br.settled (u8 r 0) = false) ∧
    (∃ hr, ∃ k, Meets 0x0707 (fun c r => Ready.window c r ∧ let c := c.retarget (u8 r 0); (c.brRtt (Ready.windowAt c r)).getD (0, 0) = hr ∧ (if (Ready.windowAt c r).isSet then c.brReach (Ready.windowAt c r) else none) = k)) ∧
    Meets 0x0708 Ready.brExportSet ∧
    Meets 0x0708 Ready.brExportGet :=
  ⟨meets (up) ([]) (by decide +kernel),
   meets (withBr { running := true }) (up.br.config) (by decide +kernel),
   meets (up) (up.br.config) (by decide +kernel),
   meets (up) ([]) (by decide +kernel),
   meets (up) ([]) (by decide +kernel),
   meets ({ up with br := { running := true } }) ([]) (by decide +kernel),
   meets ({ withWindow (winTo 1 (some 0x22)) with br := { running := true, windows := [winTo 1 (some 0x22)], held := [{ hostTag := 0, window := 0, parts := [] }] } }) ([]) (by decide +kernel),
   meets (inTrain) (zeros 4 ++ [2, 4, 1] ++ zeros 5 ++ [2] ++ zeros 7 ++ le 8 0x22 ++ zeros 8 ++ le 4 4096 ++ le 2 1 ++ le 2 1 ++ le 4 10 ++ zeros 20) (by decide +kernel),
   meets (withWindow { winTo 1 (some 0x22) with enabled := false }) ([0, 1, 0, 0]) (by decide +kernel),
   meets (withWindow (winTo 1 (some 0x22))) ([0, 1, 0, 0]) (by decide +kernel),
   meets (withWindow { winTo 1 (some 0x22) with enabled := false }) ([0, 0, 0, 0]) (by decide +kernel),
   meets (withWindow (winTo 1 (some 0x22))) ([0, 0, 0, 0]) (by decide +kernel),
   meets ({ withWindow (winTo 1 (some 0x22)) with br := { running := true, windows := [winTo 1 (some 0x22)], held := [{ hostTag := 0, window := 0, parts := [] }] } }) ([0, 0, 0, 0]) (by decide +kernel),
   ⟨(0, 0), none, meets (up) ([63, 0, 0, 0]) (by decide +kernel)⟩,
   meets (up) ([15, 0, 0, 0, 1] ++ zeros 15 ++ le 8 4096 ++ zeros 8) (by decide +kernel),
   meets (up) ([15, 1] ++ zeros 34) (by decide +kernel)⟩

theorem witness_BridgeTransferCommands :
    (∃ k, Meets 0x0709 (Ready.brRead (some k))) ∧
    Meets 0x0709 (Ready.brRead none) ∧
    Meets 0x070A (fun c => Ready.queueEmpty 61 (c.mailRead 0x070A 61)) ∧
    (∃ e, ∃ es, Meets 0x070A (fun c => Ready.queueHead 61 e es (c.mailRead 0x070A 61))) ∧
    Meets 0x070B (fun c => Ready.queueEmpty 62 (c.mailRead 0x070B 62)) ∧
    (∃ e, ∃ es, Meets 0x070B (fun c => Ready.queueHead 62 e es (c.mailRead 0x070B 62))) ∧
    Meets 0x070C Ready.strandedNone ∧
    (∃ e, ∃ es, Meets 0x070C (Ready.strandedSome e es)) ∧
    (∃ x, Meets 0x070D (Ready.brPrefetch 0 x)) ∧
    (∃ n, ∃ k, Meets 0x070D (Ready.brPrefetch (n + 1) (some k))) ∧
    (∃ n, Meets 0x070D (Ready.brPrefetch (n + 1) none)) ∧
    (∃ n, Meets 0x070E (Ready.semBind n)) ∧
    Meets 0x070E (Ready.semControl 1) ∧
    Meets 0x070E (fun c r => Ready.semControl 2 c r ∧ (c.br.homes.getD (u8 r 0) none).isSome = true) ∧
    Meets 0x070E (fun c r => Ready.semControl 2 c r ∧ c.br.homes.getD (u8 r 0) none = none) ∧
    Meets 0x070E (Ready.semControl 3) ∧
    Meets 0x070F Ready.noRequest :=
  ⟨⟨3, meets (withWindow (winTo 1 (some 0x33))) ([0, 0, 0, 1] ++ zeros 8) (by decide +kernel)⟩,
   meets (withWindow (winTo 1 (some 0x22))) ([0, 0, 0, 1] ++ zeros 8) (by decide +kernel),
   meets (up) ([]) (by decide +kernel),
   ⟨{ data := [] }, [], meets (withQueue 61 [{ data := [] }] up) ([]) (by decide +kernel)⟩,
   meets (up) ([]) (by decide +kernel),
   ⟨{ data := [] }, [], meets (withQueue 62 [{ data := [] }] up) ([]) (by decide +kernel)⟩,
   meets (up) ([]) (by decide +kernel),
   ⟨[], [], meets ({ up with br := { stranded := [[]] } }) ([]) (by decide +kernel)⟩,
   ⟨none, meets (withWindow (winTo 2 (some 0x22))) (zeros 12) (by decide +kernel)⟩,
   ⟨16383, 3, meets (withWindow (winTo 2 (some 0x33))) (zeros 8 ++ le 4 16384) (by decide +kernel)⟩,
   ⟨0, meets (withWindow (winTo 2 (some 0x22))) (zeros 8 ++ le 4 1) (by decide +kernel)⟩,
   ⟨nodeB, meets (inTrain) ([15, 0, 0, 0, 2] ++ zeros 7 ++ le 8 0x22 ++ [15, 0, 0, 0]) (by decide +kernel)⟩,
   meets (inTrain) ([15, 1] ++ zeros 22) (by decide +kernel),
   meets ({ up with br := { homes := List.replicate 16 (some (1, 1)) } }) ([15, 2] ++ zeros 22) (by decide +kernel),
   meets (up) ([15, 2] ++ zeros 22) (by decide +kernel),
   meets (up) ([15, 3] ++ zeros 22) (by decide +kernel),
   meets (up) ([]) (by decide +kernel)⟩

theorem witness_EthernetCommands :
    Meets 0x0800 (Ready.port 0 3) ∧
    Meets 0x0800 (Ready.port 4 11) ∧
    Meets 0x0801 Ready.ethConfigSet ∧
    Meets 0x0802 (Ready.port 4 11) ∧
    Meets 0x0803 Ready.portStopped ∧
    Meets 0x0804 Ready.portRunning ∧
    Meets 0x0805 Ready.ethAddrGet ∧
    Meets 0x0805 Ready.ethAddrSet ∧
    Meets 0x0806 (Ready.port 0 11) :=
  ⟨meets (up) ([3, 0, 0, 0]) (by decide +kernel),
   meets (up) ([11, 0, 0, 0]) (by decide +kernel),
   meets (up) ([11, 0, 0, 0] ++ ({} : VPort).config) (by decide +kernel),
   meets (up) ([11, 0, 0, 0]) (by decide +kernel),
   meets (up) ([4, 0, 0, 0]) (by decide +kernel),
   meets ({ up with eth := { vports := [{ running := true }] } }) ([4, 0, 0, 0]) (by decide +kernel),
   meets (up) ([11, 7, 1] ++ zeros 33) (by decide +kernel),
   meets (up) ([11, 7, 0] ++ zeros 7 ++ [3, 55, 1] ++ zeros 7 ++ [4] ++ zeros 15) (by decide +kernel),
   meets (up) ([11, 0, 0, 0]) (by decide +kernel)⟩

theorem witness_QueueRingMemoryCommands :
    Meets 0x0807 Ready.queueGet ∧
    Meets 0x0807 Ready.queueSet ∧
    Meets 0x0808 (Ready.port 0 63) ∧
    Meets 0x0809 Ready.ringSet ∧
    Meets 0x080A (Ready.ringEnable 1) ∧
    Meets 0x080A (Ready.ringEnable 0) ∧
    Meets 0x080B (fun c r => Ready.memConfigSet c r ∧ c.mem.state = .absent ∧ u32 r 0 ≠ 0) ∧
    Meets 0x080B (fun c r => Ready.memConfigSet c r ∧ c.mem.state = .stopped ∧ u32 r 0 = 0) ∧
    Meets 0x080B (fun c r => Ready.memConfigSet c r ∧ ¬(c.mem.state = .absent ∧ u32 r 0 ≠ 0) ∧ ¬(c.mem.state = .stopped ∧ u32 r 0 = 0)) ∧
    Meets 0x080C Ready.noRequest ∧
    Meets 0x080D Ready.memStart ∧
    Meets 0x080E (Ready.memStop true) ∧
    Meets 0x080E (Ready.memStop false) ∧
    Meets 0x080F Ready.noRequest :=
  ⟨meets (up) ([60, 1] ++ zeros 18) (by decide +kernel),
   meets (up) ([16, 0, 0, 0] ++ le 4 16 ++ le 4 256 ++ le 4 65536 ++ le 2 65535 ++ zeros 2) (by decide +kernel),
   meets (up) ([63, 0, 0, 0]) (by decide +kernel),
   meets (up) ([48, 0, 0, 0] ++ zeros 8 ++ le 2 4096 ++ le 2 16384 ++ le 2 2 ++ zeros 2) (by decide +kernel),
   meets ({ up with eth := { rings := [{ isSet := true }] } }) ([48, 1, 0, 0]) (by decide +kernel),
   meets ({ up with eth := { rings := [{ isSet := true }] } }) ([48, 0, 0, 0]) (by decide +kernel),
   meets (up) (le 4 512 ++ up.mem.config.drop 4) (by decide +kernel),
   meets (withMem .stopped) (up.mem.config) (by decide +kernel),
   meets (withMem .stopped) (le 4 512 ++ up.mem.config.drop 4) (by decide +kernel),
   meets (up) ([]) (by decide +kernel),
   meets (withMem .stopped) ([]) (by decide +kernel),
   meets (withMem .running) ([]) (by decide +kernel),
   meets (withQueue 16 [{ data := [], inDdr := true }] (withMem .running)) ([]) (by decide +kernel),
   meets (up) ([]) (by decide +kernel)⟩

theorem witness_SafetyCommands :
    Meets 0x0900 Ready.noRequest ∧
    Meets 0x0901 Ready.noRequest ∧
    Meets 0x0902 Ready.safeParamStage ∧
    Meets 0x0903 Ready.safeParamCommit ∧
    (∃ img, Meets 0x0904 (Ready.safeParamRead img)) ∧
    Meets 0x0905 (Ready.safeConfigEnter 0) ∧
    Meets 0x0905 (Ready.safeConfigEnter 1) ∧
    (∃ b, Meets 0x0906 (fun c r => Ready.safeParamConfirm b c r ∧ c.safe.nutmeg.state = .unconfigured)) ∧
    (∃ b, Meets 0x0906 (fun c r => Ready.safeParamConfirm b c r ∧ c.safe.nutmeg.state ≠ .unconfigured)) ∧
    Meets 0x0907 Ready.candidate ∧
    Meets 0x0908 Ready.firstPassword ∧
    Meets 0x0908 Ready.newPassword ∧
    Meets 0x0909 Ready.safeLogRead ∧
    Meets 0x090A Ready.noRequest :=
  ⟨meets (up) ([]) (by decide +kernel),
   meets (up) ([]) (by decide +kernel),
   meets ({ up with safe := { authorised := true } }) ([0, 0, 0, 1] ++ zeros 256) (by decide +kernel),
   meets ({ up with safe := { authorised := true, nutmeg := { on := true, state := .configuration }, mace := { on := true, state := .configuration }, stage := Memory.write [] 0 params } }) ([]) (by decide +kernel),
   ⟨params, meets ({ up with safe := { candidate := some params } }) ([1, 0, 0, 0]) (⟨by decide, by decide, by decide, by decide, rfl⟩)⟩,
   meets ({ up with safe := { locked with nutmeg := { on := true, state := .configuration }, mace := { on := true, state := .configuration } } }) (zeros 4 ++ pwField) (⟨by decide, by decide, by decide, by decide, by decide, by decide, by decide, by decide, beq_self_eq_true _⟩),
   meets ({ up with safe := locked }) ([1, 0, 0, 0] ++ pwField) (⟨by decide, by decide, by decide, by decide, by decide, by decide, by decide, by decide, beq_self_eq_true _⟩),
   ⟨zeros 256, meets ({ up with safe := { locked with candidate := some (zeros 256), nutmeg := { on := true, state := .unconfigured }, mace := { on := true, state := .configuration } } }) (zeros 8 ++ pwField) (⟨by decide, ⟨by decide, by decide, rfl, by decide, by decide, by decide, by decide, beq_self_eq_true _⟩, by decide⟩)⟩,
   ⟨zeros 256, meets ({ up with safe := { locked with candidate := some (zeros 256), nutmeg := { on := true, state := .configuration }, mace := { on := true, state := .configuration } } }) (zeros 8 ++ pwField) (⟨by decide, ⟨by decide, by decide, rfl, by decide, by decide, by decide, by decide, beq_self_eq_true _⟩, by decide⟩)⟩,
   meets ({ up with safe := { candidate := some [] } }) ([]) (by decide +kernel),
   meets (up) (zeros 20 ++ pwField) (by decide +kernel),
   meets ({ up with safe := locked }) (pwField ++ pwField) (⟨by decide, by decide, by decide, by decide, by decide, beq_self_eq_true _⟩),
   meets (up) (zeros 4 ++ [15, 0, 0, 0]) (by decide +kernel),
   meets (up) ([]) (by decide +kernel)⟩

theorem witness_PowerCommands :
    (∃ g : Option SleepGrant, Meets 0x0A00 (fun c r => Ready.noRequest c r ∧ c.pwr.grant = g)) ∧
    Meets 0x0A01 Ready.pwrConfigSet ∧
    Meets 0x0A02 Ready.noRequest ∧
    Meets 0x0A03 (Ready.pwrVote 1) ∧
    Meets 0x0A03 (Ready.pwrVote 0) ∧
    Meets 0x0A04 Ready.noRequest ∧
    Meets 0x0A05 Ready.pwrSleepLocal ∧
    Meets 0x0A06 Ready.pwrPnGet ∧
    Meets 0x0A06 Ready.pwrPnSet ∧
    Meets 0x0A07 (fun c r => Ready.pnMode 0 c r ∧ (c.canCh (u8 r 0)).state = .ignoring) ∧
    Meets 0x0A07 (fun c r => Ready.pnMode 1 c r ∧ (c.canCh (u8 r 0)).state = .ignoring) ∧
    (∃ d, Meets 0x0A07 (fun c r => Ready.pnMode 1 c r ∧ (c.canCh (u8 r 0)).state ≠ .ignoring ∧ c.canBusy (u8 r 0) = (true, d))) ∧
    (∃ d, Meets 0x0A07 (fun c r => Ready.pnMode 1 c r ∧ (c.canCh (u8 r 0)).state ≠ .ignoring ∧ c.canBusy (u8 r 0) = (false, d))) ∧
    Meets 0x0A08 Ready.noRequest :=
  ⟨⟨none, meets (up) ([]) (by decide +kernel)⟩,
   meets (up) (up.pwr.config) (by decide +kernel),
   meets (up) ([]) (by decide +kernel),
   meets (up) ([1, 0, 0, 0]) (by decide +kernel),
   meets (up) (zeros 4) (by decide +kernel),
   meets (up) ([]) (by decide +kernel),
   meets (up) ([]) (by decide +kernel),
   meets (up) ([11, 3, 1] ++ zeros 17) (by decide +kernel),
   meets (up) ([11, 3, 0, 0, 2] ++ zeros 15) (by decide +kernel),
   meets (withCan { state := .ignoring }) (zeros 4) (by decide +kernel),
   meets (withCan { state := .ignoring }) ([0, 1, 0, 0]) (by decide +kernel),
   ⟨rung (asking (withCan { state := .errorActive, sending := some sendingTx }) [0, 1, 0, 0]) 0 (bell [0, 1, 0, 0]) 0x0A07, meets (withCan { state := .errorActive, sending := some sendingTx }) ([0, 1, 0, 0]) (by decide +kernel)⟩,
   ⟨rung (asking (withCan { state := .busOff }) [0, 1, 0, 0]) 0 (bell [0, 1, 0, 0]) 0x0A07, meets (withCan { state := .busOff }) ([0, 1, 0, 0]) (by decide +kernel)⟩,
   meets (up) ([]) (by decide +kernel)⟩

theorem witness_RecorderCommands :
    Meets 0x0B00 Ready.noRequest ∧
    Meets 0x0B01 Ready.recConfigSet ∧
    Meets 0x0B02 Ready.noRequest ∧
    Meets 0x0B03 (Ready.slots 7) ∧
    Meets 0x0B04 Ready.recCopy ∧
    Meets 0x0B05 (Ready.slots 120) ∧
    Meets 0x0B06 (Ready.recWrite none) ∧
    (∃ q, Meets 0x0B06 (Ready.recWrite (some (q, false)))) ∧
    Meets 0x0B07 Ready.recErase ∧
    Meets 0x0B08 Ready.noRequest :=
  ⟨meets (up) ([]) (by decide +kernel),
   meets (up) (up.log.config.take 116 ++ [255, 255] ++ up.log.config.drop 118) (by decide +kernel),
   meets (up) ([]) (by decide +kernel),
   meets (up) ([255, 255, 1, 0]) (by decide +kernel),
   meets (up) (zeros 12 ++ le 4 1 ++ le 4 64) (by decide +kernel),
   meets (up) (zeros 2 ++ [120, 0]) (by decide +kernel),
   meets ({ up with log := { state := .running } }) (zeros 8) (by decide +kernel),
   ⟨0, meets ({ (up.onQm fun m => m.upd 60 fun a => { a with entries := [{ data := zeros 64 }], maxEntries := 1 }) with log := { state := .running } }) ([7] ++ zeros 7) (by decide +kernel)⟩,
   meets ({ up with log := { state := .running } }) (zeros 4) (by decide +kernel),
   meets (up) ([]) (by decide +kernel)⟩

theorem witness_BootCommands :
    Meets 0x0C00 Ready.noRequest ∧
    Meets 0x0C01 Ready.bootJournalRead ∧
    Meets 0x0C02 Ready.bootJournalClear ∧
    Meets 0x0C03 Ready.bootConfigSet ∧
    Meets 0x0C04 Ready.noRequest ∧
    Meets 0x0C05 Ready.fwBegin ∧
    (∃ done, Meets 0x0C06 (Ready.fwWrite done)) ∧
    (∀ x : FlashSlot, ({ up with boot := { state := .ready, slotB := x } } : Chip).headerOk 1 = true → ({ up with boot := { state := .ready, slotB := x } } : Chip).bodyOk 1 = true → Meets 0x0C07 Ready.fwActivate) ∧
    Meets 0x0C08 Ready.fwConfirm ∧
    Meets 0x0C09 Ready.fwRestart ∧
    Meets 0x0C0A Ready.fwSecurityAdvance :=
  ⟨meets (up) ([]) (by decide +kernel),
   meets (up) (zeros 4 ++ [15, 0, 0, 0]) (by decide +kernel),
   meets (up) ([3, 0, 0, 0]) (by decide +kernel),
   meets (up) ([1, 1, 1] ++ zeros 5) (by decide +kernel),
   meets (up) ([]) (by decide +kernel),
   meets (up) ([]) (by decide +kernel),
   ⟨[], meets ({ up with boot := { state := .ready, begun := some [] } }) (le 4 8388128 ++ le 2 480 ++ zeros 2 ++ zeros 480) (by decide +kernel)⟩,
   fun x h k => meets { up with boot := { state := .ready, slotB := x } } [] ⟨⟨rfl, by decide, Or.inl rfl, Or.inr rfl, Or.inr (Or.inl rfl), rfl, rfl, Or.inl (show ClSt.awake ≠ ClSt.prepare by decide)⟩, rfl, rfl, h, k⟩,
   meets ({ up with boot := { state := .ready, onTrial := true } }) ([]) (by decide +kernel),
   meets (up) ([1, 0, 0, 0]) (by decide +kernel),
   meets (up) (zeros 4) (by decide +kernel)⟩

theorem witness_InterfaceCommands :
    Meets 0x0D00 Ready.noRequest ∧
    Meets 0x0D01 Ready.echo ∧
    Meets 0x0D02 Ready.noRequest ∧
    Meets 0x0D03 Ready.evRecordRead ∧
    Meets 0x0D04 Ready.noRequest :=
  ⟨meets (up) ([]) (by decide +kernel),
   meets (up) (zeros 504) (by decide +kernel),
   meets (up) ([]) (by decide +kernel),
   meets (up) ([15, 0, 0, 0]) (by decide +kernel),
   meets (up) ([]) (by decide +kernel)⟩

theorem witness_WaveEvents :
    Occurs (fun c => c.rc.state = .holdoff) ∧
    (∃ p, ∃ raw : Sourced, ∃ m, Occurs (Ready.rc p 3 raw.outer raw.bytes m fun c => (Ready.atRest c ∨ c.rc.state = .holdoff))) ∧
    (∃ p, ∃ raw : Sourced, ∃ m, Occurs (Ready.rc p 3 raw.outer raw.bytes m fun c => Ready.running c ∧ Ready.ofRun m c)) ∧
    (∃ p, ∃ raw : Sourced, ∃ m, Occurs (Ready.rc p 3 raw.outer raw.bytes m fun c => Ready.running c ∧ ¬Ready.ofRun m c ∧ c.joinsWave (p / 2) (c.readWave p m) m = true)) ∧
    (∃ p, ∃ raw : Sourced, ∃ m, Occurs (Ready.rc p 3 raw.outer raw.bytes m fun c => Ready.running c ∧ ¬Ready.ofRun m c ∧ c.joinsWave (p / 2) (c.readWave p m) m = false)) ∧
    (∃ p, ∃ raw : Sourced, ∃ m, Occurs (Ready.rc p 3 raw.outer raw.bytes m fun c => c.rc.state = .armed ∧ ¬Ready.ofRun m c)) ∧
    (∃ e, Occurs (fun c => c.rc.state = .wave ∧ e < 2 ∧ (c.rc.ends.getD e {}).startSeen = false)) ∧
    (∃ p, ∃ raw : Sourced, ∃ m, Occurs (Ready.rc p 4 raw.outer raw.bytes m fun c => c.rc.state = .wave ∧ Ready.ofRun m c)) ∧
    Occurs (fun c => c.rc.state = .uninaugurated ∧ c.clove.state ≠ .prepare ∧ c.rc.barredUntil ≤ c.clk.now) :=
  ⟨occurs (withRc { state := .holdoff }) (by decide +kernel),
   ⟨0, { bytes := (msg 3 (zeros 16)).bytes }, msg 3 (zeros 16), occurs (inTrain) (by decide +kernel)⟩,
   ⟨0, { bytes := (msg 3 (zeros 16)).bytes }, msg 3 (zeros 16), occurs (withRc (inRun .wave)) (by decide +kernel)⟩,
   ⟨3, { bytes := (msg 3 (zeros 16)).bytes }, msg 3 (zeros 16), occurs (withRc { state := .wave, wave := { origin := 0x22 } }) (by decide +kernel)⟩,
   ⟨3, { bytes := (msg 3 (zeros 16)).bytes }, msg 3 (zeros 16), occurs (withRc { state := .wave, wave := { origin := 0x22, nonce := 2 } }) (by decide +kernel)⟩,
   ⟨0, { bytes := (msg 3 (zeros 16)).bytes }, msg 3 (zeros 16), occurs (withRc { state := .armed }) (by decide +kernel)⟩,
   ⟨1, occurs (withRc { state := .wave }) (by decide +kernel)⟩,
   ⟨0, { bytes := (msg 4 (zeros 48)).bytes }, msg 4 (zeros 48), occurs (withRc (inRun .wave)) (by decide +kernel)⟩,
   occurs ({ up with rc := { state := .uninaugurated } }) (by decide +kernel)⟩

theorem witness_ComposeEvents :
    (∃ p, ∃ src : Outer, ∃ raw : Bytes, ∃ m, ∃ f, ∃ e, Occurs (Ready.rc p 5 src raw m fun c => Ready.ofRun m c ∧ c.rc.facts = some f ∧ f.towards = some e)) ∧
    (∃ p, ∃ src : Outer, ∃ raw : Bytes, ∃ m, ∃ f, Occurs (Ready.rc p 5 src raw m fun c => Ready.ofRun m c ∧ c.rc.facts = some f ∧ f.towards = none ∧ c.rc.state = .composing ∧ 1 ≤ (readReport src.source m).index ∧ (readReport src.source m).index ≤ f.n)) ∧
    Occurs (fun c => c.rc.state = .composing ∧ c.reportsComplete = false) ∧
    (∃ f, Occurs (fun c => c.rc.state = .composing ∧ c.reportsComplete = true ∧ c.rc.facts = some f)) ∧
    (∃ (p : Nat) (raw : Sourced) (m : RcMsg) (f : RunFacts), Occurs (Ready.rc p 6 raw.outer raw.bytes m fun c => Ready.ofRun m c ∧ c.rc.state = .reported ∧ c.rc.facts = some f ∧ raw.outer.source = f.leader)) ∧
    Occurs Ready.running ∧
    Occurs (fun c => Ready.atRest c ∨ c.rc.state = .stopped ∨ c.rc.state = .holdoff ∨ c.rc.state = .armed) :=
  ⟨⟨0, {}, (msg 5 (zeros 64)).bytes, msg 5 (zeros 64), facts, 1, occurs (withRc { inRun .reported with facts := some facts }) (by decide +kernel)⟩,
   ⟨0, { source := 0x22 }, (msg 5 (zeros 33 ++ [2] ++ zeros 30)).bytes, msg 5 (zeros 33 ++ [2] ++ zeros 30), { facts with towards := none }, occurs (withRc { inRun .composing with facts := some { facts with towards := none } }) (by decide +kernel)⟩,
   occurs (withRc { state := .composing, facts := some facts }) (by decide +kernel),
   ⟨facts, occurs (withRc { state := .composing, facts := some facts, reports := [{ index := 1 }, { index := 2 }] }) (by decide +kernel)⟩,
   ⟨0, { outer := { source := 0x22 }, bytes := (msg 6 (zeros 26 ++ [1] ++ zeros 45)).bytes }, msg 6 (zeros 26 ++ [1] ++ zeros 45), facts, occurs (withRc { inRun .reported with facts := some facts }) (by decide +kernel)⟩,
   occurs (withRc { state := .reported }) (by decide +kernel),
   occurs (withRc { state := .armed }) (by decide +kernel)⟩

theorem witness_SwitchEvents :
    (∃ p, ∃ src : Outer, ∃ raw : Bytes, ∃ m, ∃ a, Occurs (Ready.rc p 7 src raw m fun c => c.rc.state = .armed ∧ c.rc.announce = some a ∧ c.rc.composed = none ∧ c.rc.incomplete = false ∧ bAt m.body 0 4 = a.newGeneration ∧ src.source = a.leader)) ∧
    (∃ a, ∃ f, ∃ first, ∃ rest, ∃ e, Occurs (fun c => c.rc.state = .armed ∧ c.rc.announce = some a ∧ c.rc.composed = none ∧ c.rc.facts = some f ∧ f.towards = some e ∧ ((List.range (ceilDiv a.size 1024)).filter fun i => !(c.rc.segments.any fun s => s.1 == i)) = first :: rest)) ∧
    (∃ p, ∃ src : Outer, ∃ raw : Bytes, ∃ m, ∃ f, ∃ sn, ∃ a, Occurs (Ready.rc p 8 src raw m fun c => c.rc.facts = some f ∧ f.towards = none ∧ c.rc.composed = some sn ∧ c.rc.announce = some a ∧ c.rc.state = .armed ∧ bAt m.body 0 4 = a.newGeneration)) ∧
    (∃ p, ∃ src : Outer, ∃ raw : Bytes, ∃ m, ∃ f, ∃ e, Occurs (Ready.rc p 8 src raw m fun c => c.rc.facts = some f ∧ f.towards = some e)) ∧
    (∃ p, ∃ src : Outer, ∃ raw : Bytes, ∃ m, ∃ a, Occurs (Ready.rc p 7 src raw m fun c => c.rc.state = .armed ∧ c.rc.announce = some a ∧ (bAt m.body 0 4 ≠ a.newGeneration ∨ (src.source = a.leader ∧ (c.rc.composed.isSome = true ∨ c.rc.incomplete = true))))) ∧
    (∃ p, ∃ src : Outer, ∃ raw : Bytes, ∃ m, ∃ a, Occurs (Ready.rc p 7 src raw m fun c => c.rc.state = .armed ∧ c.rc.announce = some a ∧ bAt m.body 0 4 = a.newGeneration ∧ src.source ≠ a.leader)) ∧
    (∃ p, ∃ src : Outer, ∃ raw : Bytes, ∃ m, ∃ sn, Occurs (Ready.rc p 7 src raw m fun c => c.rc.state ≠ .armed ∧ (joinSegments ((Ready.gathered c m).map fun x => (x.2.1, x.2.2.2)) (bAt m.body 6 2)).bind Snapshot.parse = sn)) ∧
    Occurs (fun c => c.rc.state ≠ .armed ∨ c.rc.announce = none ∨ c.rc.composed.isSome = true ∨ c.rc.facts = none) ∧
    Occurs (fun c => c.rc.state ≠ .armed ∨ c.rc.composed.isSome = true ∨ c.rc.incomplete = true) ∧
    Occurs (fun c => c.rc.state = .armed ∧ c.rc.composed = none ∧ c.rc.incomplete = false) ∧
    (∃ a, Occurs (fun c => c.rc.state = .armed ∧ c.rc.announce = some a ∧ c.rc.composed = none ∧ c.rc.incomplete = true)) ∧
    (∃ a, Occurs (fun c => c.rc.state = .armed ∧ c.rc.announce = some a ∧ c.rc.composed = none ∧ c.rc.incomplete = false)) ∧
    Occurs (fun c => c.rc.state ≠ .armed) ∧
    (∃ a sn, Occurs (fun c => c.rc.state = .armed ∧ c.rc.announce = some a ∧ c.rc.composed = some sn ∧ c.rc.heldTrigger = false ∧ a.noSwitch = false ∧ a.leader ≠ c.fuses.identity)) ∧
    (∃ a sn, Occurs (fun c => c.rc.state = .armed ∧ c.rc.announce = some a ∧ c.rc.composed = some sn ∧ c.rc.heldTrigger = false)) ∧
    (∃ sn, ∃ rest, Occurs (fun c => c.dir.coming = sn :: rest ∧ (sn.effective ≤ c.trainTime ∨ c.timeValid = false))) ∧
    (∃ sn, ∃ rest, Occurs (fun c => c.dir.coming = sn :: rest ∧ c.trainTime < sn.effective ∧ c.timeValid = true)) :=
  ⟨⟨0, {}, (msg 7 (zeros 12)).bytes, msg 7 (zeros 12), {}, occurs (withRc { state := .armed, announce := some {} }) (by decide +kernel)⟩,
   ⟨{ size := 2048 }, facts, 0, [1], 1, occurs (withRc { state := .armed, announce := some { size := 2048 }, facts := some facts }) (by decide +kernel)⟩,
   ⟨0, {}, (msg 8 (zeros 8)).bytes, msg 8 (zeros 8), { facts with towards := none }, train, {}, occurs (withRc { state := .armed, announce := some {}, composed := some train, facts := some { facts with towards := none } }) (by decide +kernel)⟩,
   ⟨0, {}, (msg 8 (zeros 8)).bytes, msg 8 (zeros 8), facts, 1, occurs (withRc { state := .armed, facts := some facts }) (by decide +kernel)⟩,
   ⟨0, {}, (msg 7 (zeros 12)).bytes, msg 7 (zeros 12), { newGeneration := 5 }, occurs (withRc { state := .armed, announce := some { newGeneration := 5 } }) (by decide +kernel)⟩,
   ⟨0, { source := 0x33 }, (msg 7 (zeros 12)).bytes, msg 7 (zeros 12), {}, occurs (withRc { state := .armed, announce := some {} }) (by decide +kernel)⟩,
   ⟨0, {}, (msg 7 (zeros 6 ++ [0, 2] ++ zeros 4)).bytes, msg 7 (zeros 6 ++ [0, 2] ++ zeros 4), none, occurs (withRc { state := .settled }) (by decide +kernel)⟩,
   occurs (withRc {}) (by decide +kernel),
   occurs (withRc {}) (by decide +kernel),
   occurs (withRc { state := .armed }) (by decide +kernel),
   ⟨{}, occurs (withRc { state := .armed, announce := some {}, incomplete := true }) (by decide +kernel)⟩,
   ⟨{}, occurs (withRc { state := .armed, announce := some {} }) (by decide +kernel)⟩,
   occurs (withRc {}) (by decide +kernel),
   ⟨{}, train, occurs (withRc { state := .armed, announce := some {}, composed := some train }) (by decide +kernel)⟩,
   ⟨{}, train, occurs (withRc { state := .armed, announce := some {}, composed := some train }) (by decide +kernel)⟩,
   ⟨train, [], occurs ({ inTrain with dir := { inForce := some train, coming := [train] } }) (by decide +kernel)⟩,
   ⟨{ train with effective := 1000 }, [], occurs ({ inTrain with dir := { inForce := some train, coming := [{ train with effective := 1000 }] }, time := { state := .locked } }) (by decide +kernel)⟩⟩

theorem witness_LeaderEvents :
    (∃ p, ∃ src : Outer, ∃ raw : Bytes, ∃ m, Occurs (Ready.rc p 10 src raw m fun c => c.recordedLeader = true ∧ (c.onBb fun b => { b with evidence := Ready.leaderGone c m || b.evidence }).actsAsLeader = true)) ∧
    (∃ p, ∃ src : Outer, ∃ raw : Bytes, ∃ m, Occurs (Ready.rc p 10 src raw m fun c => c.recordedLeader = true ∧ (c.onBb fun b => { b with evidence := Ready.leaderGone c m || b.evidence }).actsAsLeader = false)) ∧
    (∃ p, ∃ src : Outer, ∃ raw : Bytes, ∃ m, Occurs (Ready.rc p 10 src raw m fun c => c.recordedLeader = false)) ∧
    (∃ num, ∃ e, ∃ at0, ∃ sn, ∃ n, Occurs (fun c => c.actsAsLeader = true ∧ (c.dir.bridging.find? fun x => x.1 == num) = some (num, e, at0) ∧ c.newest = some sn ∧ sn.nextLive (decide (sn.leaderNode < num)) sn.nodes.length num = some n ∧ (sn.node n.number).any (·.unreachable) = false ∧ (sn.node num).any (·.dark) = true)) ∧
    Occurs (fun c => c.rolling = true ∧ c.actsAsLeader = true) ∧
    Occurs (fun c => c.rolling = false ∨ c.actsAsLeader = false) ∧
    (∃ p, ∃ src : Outer, ∃ raw : Bytes, ∃ m, Occurs (Ready.rc p 9 src raw m fun c => bAt m.body 0 4 = c.epoch ∧ src.source = bAt m.body 8 8 ∧ c.fromHolder (bAt m.body 8 8) (c.linkDelay p + m.age) = true ∧ c.recordedLeader = false)) ∧
    (∃ p, ∃ src : Outer, ∃ raw : Bytes, ∃ m, Occurs (Ready.rc p 9 src raw m fun c => bAt m.body 0 4 ≠ c.epoch)) ∧
    Occurs (fun c => c.rc.state = .settled ∧ c.recordedLeader = false) ∧
    Occurs (fun c => c.rc.state = .held ∧ c.clove.state ≠ .prepare ∧ c.rc.barredUntil ≤ c.clk.now) :=
  ⟨⟨0, {}, (msg 10 ([1] ++ zeros 15)).bytes, msg 10 ([1] ++ zeros 15), occurs (leading) (by decide +kernel)⟩,
   ⟨0, {}, (msg 10 ([1] ++ zeros 15)).bytes, msg 10 ([1] ++ zeros 15), occurs ({ leading with clk := {} }) (by decide +kernel)⟩,
   ⟨0, {}, (msg 10 ([1] ++ zeros 15)).bytes, msg 10 ([1] ++ zeros 15), occurs (following) (by decide +kernel)⟩,
   ⟨1, 0, 5, { train with leaderNode := 0, nodes := [{ nodeA with dark := true }, nodeB] }, nodeB, occurs ({ leading with dir := { inForce := some { train with leaderNode := 0, nodes := [{ nodeA with dark := true }, nodeB] }, bridging := [(1, 0, 5)] } }) (by decide +kernel)⟩,
   occurs (leading) (by decide +kernel),
   occurs (following) (by decide +kernel),
   ⟨0, { source := 0x22 }, (msg 9 (be 4 1 ++ zeros 4 ++ be 8 0x22 ++ zeros 32)).bytes, msg 9 (be 4 1 ++ zeros 4 ++ be 8 0x22 ++ zeros 32), occurs (following) (by decide +kernel)⟩,
   ⟨0, {}, (msg 9 (zeros 48)).bytes, msg 9 (zeros 48), occurs (following) (by decide +kernel)⟩,
   occurs (following) (by decide +kernel),
   occurs (withRc { state := .held }) (by decide +kernel)⟩

theorem witness_NeighbourEvents :
    (∃ p, ∃ raw : Sourced, ∃ m, Occurs (Ready.rc p 1 raw.outer raw.bytes m fun _ => True)) ∧
    (∃ p, ∃ raw : Sourced, ∃ m, Occurs (Ready.rc p 2 raw.outer raw.bytes m fun c => c.rc.probing.getD (p / 2) false = false)) ∧
    (∃ p, ∃ raw : Sourced, ∃ m, Occurs (Ready.rc p 2 raw.outer raw.bytes m fun c => c.rc.probing.getD (p / 2) false = true ∧ c.rc.state = .uninaugurated)) ∧
    (∃ p, ∃ raw : Sourced, ∃ m, ∃ n, Occurs (Ready.rc p 2 raw.outer raw.bytes m fun c => c.rc.probing.getD (p / 2) false = true ∧ (c.rc.state = .settled ∨ c.rc.state = .held) ∧ c.nextAlong (p / 2) true = some n ∧ n.identity = m.sender ∧ m.epoch = c.epoch)) ∧
    (∃ p, ∃ raw : Sourced, ∃ m, Occurs (Ready.rc p 2 raw.outer raw.bytes m fun c => c.rc.probing.getD (p / 2) false = true ∧ (c.rc.state = .settled ∨ c.rc.state = .held) ∧ c.nextAlong (p / 2) true = none ∧ c.nextAlong (p / 2) false = none)) ∧
    Occurs (fun _ => True) ∧
    (∃ e, Occurs (fun c => e < 2 ∧ c.rolling = false)) ∧
    (∃ e, ∃ high, Occurs (fun c => e < 2 ∧ c.rolling = true ∧ c.endUp e = true ∧ (c.onRc fun r => { r with couplers := updAt r.couplers e fun _ => high }).coupled e = some false)) ∧
    (∃ e, Occurs (fun c => c.rolling = true ∧ e < 2 ∧ c.coupled e = some true ∧ c.endUp e = false)) ∧
    (∃ l, Occurs (fun c => c.rolling = true ∧ 0 < c.deputyRank ∧ c.bb.evidence = true ∧ c.bb.leaderLease = some l ∧ l.holder ≠ c.fuses.identity ∧ l.epoch = c.epoch ∧ l.expiry + c.margin l.timed + (c.deputyRank - 1) * 20000000 ≤ c.leaseNow l)) :=
  ⟨⟨3, { bytes := (msg 1 (zeros 8)).bytes }, msg 1 (zeros 8), occurs (inTrain) (by decide +kernel)⟩,
   ⟨3, { bytes := (msg 2 (zeros 8)).bytes }, msg 2 (zeros 8), occurs (inTrain) (by decide +kernel)⟩,
   ⟨3, { bytes := (msg 2 (zeros 8)).bytes }, msg 2 (zeros 8), occurs (withRc { state := .uninaugurated, probing := [true, true] }) (by decide +kernel)⟩,
   ⟨3, { bytes := (msg 2 (zeros 8)).bytes }, msg 2 (zeros 8), nodeB, occurs (withRc { state := .settled, probing := [true, true] }) (by decide +kernel)⟩,
   ⟨0, { bytes := (msg 2 (zeros 8)).bytes }, msg 2 (zeros 8), occurs (withRc { state := .settled, probing := [true, true] }) (by decide +kernel)⟩,
   occurs (up) (by decide +kernel),
   ⟨1, occurs (up) (by decide +kernel)⟩,
   ⟨1, false, occurs (withRc { state := .settled, config := [8, 1, 1, 1, 0, 0, 0, 0], couplers := [true, true] }) (by decide +kernel)⟩,
   ⟨1, occurs ({ withRc { state := .settled, config := [8, 1, 1, 1, 0, 0, 0, 0], couplers := [true, true] } with bb := {} }) (by decide +kernel)⟩,
   ⟨otherLease, occurs { following with rc := { state := .settled, deputies := [0x11] }, bb := { leaderLease := some otherLease, evidence := true }, clk := { now := 1000100000 } } (by decide +kernel)⟩⟩

theorem witness_LinkEvents :
    Occurs (fun _ => True) ∧
    (∃ p, Occurs (fun c => (c.bb.port p).link ≠ .down)) ∧
    (∃ p, Occurs (fun c => (c.bb.port p).link = .down)) ∧
    (∃ p, Occurs (fun c => c.rolling = true ∧ p < 4 ∧ (c.bb.port p).link = .down ∧ c.tiles.portSound p = true)) ∧
    (∃ p, ∃ o, Occurs (fun c => c.rolling = true ∧ p < 4 ∧ c.tiles.portSound p = true ∧ c.originate { type := 8, tc := 3 } = some o)) ∧
    (∃ p, Occurs (fun c => c.rolling = true ∧ p < 4 ∧ c.tiles.portSound p = true ∧ c.originate { type := 8, tc := 3 } = none)) ∧
    (∃ p, ∃ ok, Occurs (fun c => p < 4 ∧ ¬(ok = true ∧ (c.bb.port p).verified = true))) ∧
    (∃ p, ∃ ok, Occurs (fun c => p < 4 ∧ ok = true ∧ (c.bb.port p).verified = true)) ∧
    (∃ e, Occurs (fun c => e < 2 ∧ (c.bb.ends.getD e {}).fallback = true ∧ (c.bb.port (2 * e + c.namedLine)).link = .up ∧ (c.bb.port (2 * e + c.namedLine)).upSince + 1000000000 ≤ c.clk.now ∧ (c.bb.ends.getD e {}).egress ≠ c.namedLine)) ∧
    (∃ seg, ∃ sn, ∃ g, Occurs (fun c => c.actsAsLeader = true ∧ c.newest = some sn ∧ sn.segmentOf seg = some g ∧ sn.lineDown g g.line = true ∧ sn.lineDown g (1 - g.line) = false)) :=
  ⟨occurs (up) (by decide +kernel),
   ⟨0, occurs (inTrain) (by decide +kernel)⟩,
   ⟨0, occurs (up) (by decide +kernel)⟩,
   ⟨3, occurs ({ inTrain with bb := {} }) (by decide +kernel)⟩,
   ⟨3, _, occurs (inTrain) (⟨by decide, by decide, by decide, by decide, rfl⟩)⟩,
   ⟨3, occurs ({ inTrain with bb := { streams := List.replicate 1024 { dstKind := 0, dstIndex := 0, dstValue := 0, tc := 0, sequence := 0, lastUse := 0 } } }) (by decide +kernel)⟩,
   ⟨3, false, occurs (inTrain) (by decide +kernel)⟩,
   ⟨3, true, occurs (inTrain) (by decide +kernel)⟩,
   ⟨0, occurs ({ inTrain with bb := { ports := List.replicate 4 { link := .up, phyUp := true }, ends := [{ fallback := true, egress := 1 }, {}] }, clk := { now := 1000000000 } }) (by decide +kernel)⟩,
   ⟨1, { train with nodes := [{ nodeA with rearLinks := 2 }, { nodeB with frontLinks := 2 }] }, { number := 1, first := 1, last := 2, holdsLeader := true }, occurs ({ leading with dir := { inForce := some { train with nodes := [{ nodeA with rearLinks := 2 }, { nodeB with frontLinks := 2 }] } } }) (by decide +kernel)⟩⟩

theorem witness_DelayEvents :
    (∃ p, ∃ raw : Bytes, Occurs (fun c => c.hopRuns p = true ∧ raw.length = 16 ∧ isZero (raw.drop 4) = true)) ∧
    (∃ p, ∃ raw : Bytes, Occurs (fun c => c.hopRuns p = true ∧ ¬(raw.length = 16 ∧ isZero (raw.drop 4) = true))) ∧
    (∃ p, ∃ ps, ∃ raw : Bytes, ∃ id, ∃ t1, Occurs (fun c => c.hopRuns p = true ∧ raw.length = 16 ∧ isZero (slice raw 4 4) = true ∧ (c.time.tile p).outstanding = some (id, t1) ∧ bAt raw 0 4 = id ∧ c.arrival p ps ≤ t1 + 100000000 ∧ (c.time.tile p).samples = [] ∧ (c.time.tile p).inBurst = true)) ∧
    (∃ p, ∃ raw : Bytes, Occurs (fun c => c.hopRuns p = true ∧ raw.length = 16 ∧ isZero (slice raw 4 4) = true ∧ (c.time.tile p).outstanding = none)) ∧
    (∃ p, Occurs (fun c => c.hopRuns p = true ∧ (c.time.tile p).inBurst = true ∧ (c.time.tile p).burstCount < 8)) ∧
    (∃ p, Occurs (fun c => c.hopRuns p = true ∧ (c.time.tile p).inBurst = false ∧ (c.time.tile p).valid = true ∧ ((c.bb.port p).link = .up ∨ c.clk.now < (c.time.tile p).burstAt + 1000000000))) ∧
    (∃ p, Occurs (fun c => c.hopRuns p = true ∧ (c.time.tile p).inBurst = true ∧ (c.time.tile p).burstAccepted < 4)) ∧
    (∃ p, Occurs (fun c => c.hopRuns p = true ∧ (c.time.tile p).inBurst = true ∧ 4 ≤ (c.time.tile p).burstAccepted)) ∧
    (∃ p, Occurs (fun c => (c.time.tile p).outstanding.isSome = true)) ∧
    Occurs (fun _ => True) :=
  ⟨⟨3, zeros 16, occurs (inTrain) (by decide +kernel)⟩,
   ⟨3, zeros 15, occurs (inTrain) (by decide +kernel)⟩,
   ⟨0, 0, zeros 16, 0, 0, occurs ({ inTrain with time := { tiles := [{ outstanding := some (0, 0), inBurst := true }] } }) (by decide +kernel)⟩,
   ⟨3, zeros 16, occurs (inTrain) (by decide +kernel)⟩,
   ⟨0, occurs ({ inTrain with time := { tiles := [{ inBurst := true, burstCount := 7 }] } }) (by decide +kernel)⟩,
   ⟨0, occurs ({ inTrain with time := { tiles := List.replicate 4 { valid := true } } }) (by decide +kernel)⟩,
   ⟨0, occurs ({ inTrain with time := { tiles := [{ inBurst := true, burstAccepted := 3 }] } }) (by decide +kernel)⟩,
   ⟨0, occurs ({ inTrain with time := { tiles := [{ inBurst := true, burstAccepted := 4 }] } }) (by decide +kernel)⟩,
   ⟨0, occurs ({ inTrain with time := { tiles := [{ outstanding := some (0, 0) }] } }) (by decide +kernel)⟩,
   occurs (up) (by decide +kernel)⟩

theorem witness_TimeTreeEvents :
    (∃ p, ∃ raw : Bytes, ∃ m, Occurs (fun c => c.rolling = true ∧ c.bb.isUp p = true ∧ c.tiles.saffron.getLsbD p = false ∧ Tsync.parse raw = some m ∧ c.takesTsync p m = false)) ∧
    (∃ p, ∃ raw : Bytes, ∃ m, Occurs (fun c => c.rolling = true ∧ c.bb.isUp p = true ∧ c.tiles.saffron.getLsbD p = false ∧ Tsync.parse raw = some m ∧ c.takesTsync p m = true ∧ c.usesCopy p = true)) ∧
    (∃ p, ∃ raw : Bytes, ∃ m, Occurs (fun c => c.rolling = true ∧ c.bb.isUp p = true ∧ c.tiles.saffron.getLsbD p = false ∧ Tsync.parse raw = some m ∧ c.takesTsync p m = true ∧ c.usesCopy p = false)) ∧
    Occurs (fun c => c.rolling = true ∧ c.time.state = .grandmaster) ∧
    Occurs (fun c => c.rolling = true ∧ c.time.state = .holdover) ∧
    Occurs (fun c => c.time.state = .locked) ∧
    Occurs (fun c => c.time.state = .locked) ∧
    Occurs (fun c => c.time.state = .holdover ∧ u32 c.time.config 4 * 1000 < c.errorBound) ∧
    Occurs (fun c => (c.trainTime + 125000) / 250000 % 4 = 0 ∧ (c.time.state = .grandmaster ∨ (c.clk.now < c.time.lastAccept + 1000000 ∧ c.clk.now < c.time.heard + 1000000))) :=
  ⟨⟨2, tsyncBytes, tsync0, occurs (inTrain) (by decide +kernel)⟩,
   ⟨2, tsyncBytes, tsync0, occurs ({ following with dir := { inForce := some { train with leaderNode := 2, leaderIdentity := 0x22 } } }) (by decide +kernel)⟩,
   ⟨3, tsyncBytes, tsync0, occurs ({ following with dir := { inForce := some { train with leaderNode := 2, leaderIdentity := 0x22 } }, time := { tiles := List.replicate 4 { lastAccept := some 0 } } }) (by decide +kernel)⟩,
   occurs ({ inTrain with time := { state := .grandmaster } }) (by decide +kernel),
   occurs ({ inTrain with time := { state := .holdover } }) (by decide +kernel),
   occurs ({ inTrain with time := { state := .locked } }) (by decide +kernel),
   occurs { inTrain with time := { state := .locked } } (by decide +kernel),
   occurs { inTrain with time := { state := .holdover, holdE0 := 1000001 } } (by decide +kernel),
   occurs (inTrain) (by decide +kernel)⟩

theorem witness_ReferenceEvents :
    Occurs (fun c => u8 c.time.config 1 = 0) ∧
    (∃ l, Occurs (fun c => u8 c.time.config 1 ≠ 0 ∧ c.time.refLast = some l ∧ ¬(l + 999900000 ≤ c.clk.now ∧ c.clk.now ≤ l + 1000100000))) ∧
    Occurs (fun c => u8 c.time.config 1 ≠ 0 ∧ c.time.refLast = none ∧ c.time.refLocked = false ∧ c.time.refGood = 0 ∧ c.time.todWaiting = none ∧ c.time.state ≠ .grandmaster) ∧
    Occurs (fun c => u8 c.time.config 1 ≠ 0) ∧
    Occurs (fun c => u8 c.time.config 1 = 0) ∧
    Occurs (fun c => u8 c.time.config 2 = 1 ∧ c.timeValid = true) ∧
    Occurs (fun c => u8 c.time.config 2 ≠ 1 ∨ c.timeValid = false) ∧
    (∃ n, Occurs (fun c => n < 16 ∧ u8 (c.time.ceps.getD n {}).config.cur 0 = 1 ∧ (∀ q ∈ c.time.ceps, ∀ t, q.lastFired = some t → t ≤ c.trainTime) ∧ (∀ t, (c.time.ceps.getD n {}).lastFired = some t → t < c.trainTime))) ∧
    (∃ n, Occurs (fun c => u8 (c.time.ceps.getD n {}).config.cur 0 ≠ 1)) :=
  ⟨occurs (up) (by decide +kernel),
   ⟨0, occurs ({ up with time := { config := [0, 1], refLast := some 0 } }) (by decide +kernel)⟩,
   occurs ({ up with time := { config := [0, 1] } }) (by decide +kernel),
   occurs ({ up with time := { config := [0, 1] } }) (by decide +kernel),
   occurs (up) (by decide +kernel),
   occurs ({ up with time := { config := [0, 0, 1], state := .locked } }) (by decide +kernel),
   occurs (up) (by decide +kernel),
   ⟨0, occurs ({ up with time := { ceps := [{ config := { cur := [1, 0, 3, 5] } }] } }) (⟨by decide, by decide, by decide, fun q h t k => by cases List.mem_singleton.1 (show q ∈ [({ config := { cur := [1, 0, 3, 5] } } : Cep)] from h); exact (Option.some_ne_none t k.symm).elim, fun t k => (Option.some_ne_none t k.symm).elim⟩)⟩,
   ⟨0, occurs (up) (by decide +kernel)⟩⟩

theorem witness_LeaseEvents :
    ((ceilDiv 2000 1000 + 1000 : Nat) = 1002) ∧
    (∃ p, ∃ raw : Sourced, ∃ m, Occurs (fun c => Ready.leaseIn p raw m c ∧ m.role ≠ 3 ∧ m.request = false ∧ (Ready.leaseCopy p raw (c.relayLease p raw.outer m)).1 = true)) ∧
    (∃ p, ∃ raw : Sourced, ∃ m, Occurs (fun c => Ready.leaseIn p raw m c ∧ m.role ≠ 3 ∧ m.request = false ∧ (Ready.leaseCopy p raw (c.relayLease p raw.outer m)).1 = false)) ∧
    (∃ p, ∃ raw : Sourced, ∃ m, Occurs (fun c => Ready.leaseIn p raw m c ∧ m.role ≠ 3 ∧ m.request = true ∧ c.recordedLeader = false)) ∧
    (∃ p, ∃ raw : Sourced, ∃ m, Occurs (fun c => Ready.leaseIn p raw m c ∧ m.role ≠ 3 ∧ m.request = true ∧ c.recordedLeader = true ∧ m.epoch = c.epoch ∧ (Ready.leaseCopy p raw c).1 = true)) ∧
    (∃ p, ∃ raw : Sourced, Occurs (fun c => c.rolling = true ∧ c.bb.isUp p = true ∧ LeaseMsg.parse raw.bytes = none)) ∧
    (∃ l, Occurs (fun c => c.rolling = true ∧ c.recordedLeader = true ∧ c.bb.leaderLease = some l ∧ c.leaseNow l + c.margin l.timed ≤ l.expiry)) ∧
    (∃ l, Occurs (fun c => c.recordedLeader = true ∧ c.bb.leaderLease = some l ∧ l.expiry < c.leaseNow l + c.margin l.timed)) ∧
    (∃ v, ∃ l, Occurs (fun c => v ≠ 0 ∧ c.bb.gateways.lookup v = some l ∧ l.holder ≠ 0 ∧ l.expiry < c.leaseNow l + c.margin l.timed ∧ l.holder ≠ c.fuses.identity ∧ c.recordedLeader = false)) ∧
    Occurs (fun c => c.rolling = true ∧ c.gatewayEligible = true ∧ c.timeValid = true ∧ c.recordedLeader = false) ∧
    Occurs (fun c => c.rolling = true ∧ c.gatewayEligible = true ∧ c.timeValid = true ∧ c.recordedLeader = true) :=
  ⟨by decide,
   ⟨0, { bytes := ({ role := 1 } : LeaseMsg).bytes }, { role := 1 }, occurs (inTrain) (by decide +kernel)⟩,
   ⟨0, { outer := { source := 0x22 }, bytes := ({ role := 1 } : LeaseMsg).bytes }, { role := 1 }, occurs ({ inTrain with bb := { inTrain.bb with dups := [{ source := 0x22, session := 0, stream := 0, tc := 3, highest := 0, map := 1, lastUse := 0 }] } }) (by decide +kernel)⟩,
   ⟨0, { bytes := ({ role := 1, flags := 4 } : LeaseMsg).bytes }, { role := 1, flags := 4 }, occurs (inTrain) (by decide +kernel)⟩,
   ⟨0, { bytes := ({ role := 2, flags := 4, epoch := 1 } : LeaseMsg).bytes }, { role := 2, flags := 4, epoch := 1 }, occurs (leading) (by decide +kernel)⟩,
   ⟨0, {}, occurs (inTrain) (by decide +kernel)⟩,
   ⟨ownLease, occurs (leading) (by decide +kernel)⟩,
   ⟨ownLease, occurs ({ leading with clk := { now := 1000000000 } }) (by decide +kernel)⟩,
   ⟨0x11, otherLease, occurs ({ inTrain with bb := { gateways := [(0x11, otherLease)] }, clk := { now := 1000000000 } }) (by decide +kernel)⟩,
   occurs ({ following with dir := { inForce := some train, vehicle := { cur := some (le 8 0x11 ++ le 8 1 ++ [1, 0, 1, 1] ++ zeros 12) } }, time := { state := .locked } }) (by decide +kernel),
   occurs ({ leading with dir := { inForce := some train, vehicle := { cur := some (le 8 0x11 ++ le 8 1 ++ [1, 0, 1, 1] ++ zeros 12) } }, time := { state := .locked } }) (by decide +kernel)⟩

theorem witness_TelegramEvents :
    (∃ p, Occurs (Ready.frameIn p)) ∧
    (∃ p, ∃ err : Nat, ∃ f, Occurs (fun c => Ready.frameIn p c ∧ err ≠ 2 ∧ f ≠ [] ∧ fcsGood f = false)) ∧
    (∃ p, ∃ f, Occurs (fun c => Ready.frameIn p c ∧ (f = [] ∨ (fcsGood f = true ∧ 64 ≤ f.length ∧ f.length ≤ 2000)))) ∧
    (∃ p, ∃ f, Occurs (fun c => Ready.frameIn p c ∧ fcsGood f = true ∧ f.length < 64)) ∧
    (∃ p, ∃ f, Occurs (fun c => Ready.frameIn p c ∧ fcsGood f = true ∧ 2000 < f.length)) ∧
    (∃ p, ∃ f, ∃ tg, Occurs (fun c => Ready.frameIn p c ∧ fcsGood f = true ∧ 64 ≤ f.length ∧ f.length ≤ 2000 ∧ c.bb.isUp p = true ∧ (((Ready.heard p c).macCount p macRxFrames).macCountBy p macRxBytes f.length).parseBody f = .ok tg ∧ 4 ≤ tg.type ∧ tg.type ≤ 7)) ∧
    (∃ q, ∃ e, ∃ es, ∃ tg, Occurs (fun c => c.rolling = true ∧ q < 16 ∧ c.bb.isUp (q / 4) = true ∧ (c.qm.queue q).entries = e :: es ∧ c.parseBody e.data = .ok tg ∧ c.clearOf (q / 4) tg = true ∧ (c.dropHead q).parseBody e.data = .ok tg ∧ e.since + (c.dropHead q).residence tg.tc < (c.dropHead q).clk.now)) ∧
    (∃ q, ∃ e, ∃ es, ∃ tg, Occurs (fun c => c.rolling = true ∧ q < 16 ∧ c.bb.isUp (q / 4) = true ∧ (c.qm.queue q).entries = e :: es ∧ c.parseBody e.data = .ok tg ∧ c.clearOf (q / 4) tg = true ∧ (c.dropHead q).parseBody e.data = .ok tg ∧ (c.dropHead q).clk.now ≤ e.since + (c.dropHead q).residence tg.tc ∧ (c.dropHead q).oldTag tg = false ∧ (c.dropHead q).wayOf tg ≠ .unresolvable)) ∧
    Occurs (fun _ => True) ∧
    (∃ i, ∃ b, Occurs (fun c => c.bb.image.cur = some b ∧ c.rolling = true ∧ i < schedSlots b ∧ c.ownSlot (schedSlot b i) = true ∧ c.bb.schedState ≠ .none ∧ c.cycleNow (schedCycle b) % 2 ^ u8 (schedSlot b i) 0x13 = u8 (schedSlot b i) 0x14 ∧ (c.bb.pub (u16 (schedSlot b i) 4)).bind (·.publish) = none)) ∧
    (∃ i, ∃ b, ∃ x, ∃ pay, Occurs (fun c => c.bb.image.cur = some b ∧ c.rolling = true ∧ i < schedSlots b ∧ c.ownSlot (schedSlot b i) = true ∧ c.bb.schedState ≠ .none ∧ c.cycleNow (schedCycle b) % 2 ^ u8 (schedSlot b i) 0x13 = u8 (schedSlot b i) 0x14 ∧ c.bb.pub (u16 (schedSlot b i) 4) = some x ∧ x.publish = some pay)) ∧
    (∃ p, Occurs (fun _ => p < 4)) ∧
    (∃ p, Occurs (fun _ => 4 ≤ p)) :=
  ⟨⟨3, occurs (inTrain) (by decide +kernel)⟩,
   ⟨3, 0, zeros 8, occurs (inTrain) (by decide +kernel)⟩,
   ⟨3, [], occurs (inTrain) (by decide +kernel)⟩,
   ⟨3, le 4 (fcs []), occurs (inTrain) (by decide +kernel)⟩,
   ⟨3, longFrame, occurs (inTrain) (⟨by decide, by decide, fcsGood_sealed _, by simp [longFrame]⟩)⟩,
   ⟨3, frame0, tele, occurs (inTrain) (⟨by decide, by decide, by decide +kernel, by decide +kernel, by decide +kernel, by decide, ok_of (by decide +kernel), by decide, by decide⟩)⟩,
   ⟨0, { data := frame0 }, [], tele, occurs ({ (withQueue 0 [{ data := frame0 }] inTrain) with clk := { now := 10000000000 } }) (⟨by decide, by decide, by decide, by decide, rfl, ok_of (by decide +kernel), by decide, ok_of (by decide +kernel), by decide⟩)⟩,
   ⟨0, { data := frame0 }, [], tele, occurs (withQueue 0 [{ data := frame0 }] inTrain) (⟨by decide, by decide, by decide, by decide, rfl, ok_of (by decide +kernel), by decide, ok_of (by decide +kernel), by decide, by decide, by decide⟩)⟩,
   occurs (up) (by decide +kernel),
   ⟨0, sched1, occurs ({ inTrain with bb := { image := { cur := some sched1 }, schedState := .aligned } }) (⟨by decide, rfl, by decide, by decide, by decide, by decide, by decide, by decide⟩)⟩,
   ⟨0, sched1, { dataId := 7, staging := [], publish := some [], sequence := 0 }, [], occurs ({ inTrain with bb := { image := { cur := some sched1 }, schedState := .aligned, pubs := [{ dataId := 7, staging := [], publish := some [], sequence := 0 }] } }) (⟨by decide, rfl, by decide, by decide, by decide, by decide, by decide, by decide, by decide⟩)⟩,
   ⟨3, occurs (up) (by decide +kernel)⟩,
   ⟨4, occurs (up) (by decide +kernel)⟩⟩

theorem witness_StarEvents :
    Occurs (fun c => c.cb.stopping = true) ∧
    Occurs (fun c => c.cb.stopping = false ∧ c.cb.beating = false) ∧
    Occurs (fun c => c.cb.stopping = false ∧ c.cb.beating = true ∧ c.cb.begun = false ∧ c.cb.state ≠ .aligned) ∧
    Occurs (fun c => c.cb.stopping = false ∧ c.cb.begun = false ∧ c.cb.state = .aligned ∧ c.timeValid = true) ∧
    Occurs (fun c => c.cb.stopping = false ∧ c.cb.begun = false ∧ c.cb.state = .aligned ∧ c.timeValid = false) ∧
    Occurs (fun c => c.cb.stopping = false ∧ c.cb.beating = true ∧ c.cb.begun = true ∧ c.cbReference = .free) ∧
    Occurs (fun c => c.cb.stopping = false ∧ c.cb.beating = true ∧ c.cb.begun = true ∧ c.cbReference = c.cb.state ∧ c.cb.state ≠ .free ∧ c.cbKeepsStep c.cb.state = true ∧ (c.cbRefNow c.cb.state).2.natAbs ≤ 5) ∧
    Occurs (fun c => c.cb.stopping = false ∧ c.cb.beating = true ∧ c.cb.begun = true ∧ c.cbReference ≠ .free ∧ c.cbReference ≠ .aligned ∧ c.cb.state = .aligned ∧ c.cbKeepsStep c.cbReference = false) ∧
    Occurs (fun c => c.cb.stopping = false ∧ c.cb.beating = true ∧ c.cb.begun = true ∧ c.cb.coasting = false ∧ c.cbReference ≠ .free ∧ (c.cb.state = .aligned → c.cbReference = .aligned) ∧ c.cbKeepsStep c.cbReference = false ∧ (c.cbRefNow c.cbReference).2.natAbs ≤ 5 ∧ c.cb.cycleStart + c.cb.cycleNs ≤ c.clk.now) ∧
    (∃ k, ∃ sl, ∃ img, Occurs (fun c => Ready.ownSlot k sl img c ∧ c.cb.cross = none ∧ c.cb.other.sent = [] ∧ (c.cb.tx.find? fun x => x.slot == k) = none ∧ (u8 sl 3).testBit 0 = true)) ∧
    (∃ k, ∃ sl, ∃ img, ∃ x, ∃ at0, ∃ pay, Occurs (fun c => Ready.ownSlot k sl img c ∧ c.cb.cross = none ∧ c.cb.other.sent = [] ∧ (c.cb.tx.find? fun x => x.slot == k) = some x ∧ x.taken = none ∧ x.latched c.clk.now = some (at0, pay) ∧ ((u8 sl 3).testBit 0 = true → x.lastSent ≠ some at0))) ∧
    (∃ k, ∃ sl, ∃ img, ∃ x, ∃ at0, ∃ pay, ∃ p, Occurs (fun c => c.cb.slot k = some sl ∧ c.cb.image.cur = some img ∧ c.cb.beating = true ∧ c.cb.begun = true ∧ slotOwner sl = c.cb.self ∧ c.cb.dueSlot sl = false ∧ c.cb.cross = some p ∧ (u8 sl 1).testBit ((p - 12) % 2) = true ∧ c.cbCrossReady k sl p = true ∧ (c.cb.tx.find? fun x => x.slot == k) = some x ∧ x.taken = none ∧ x.latched c.clk.now = some (at0, pay) ∧ ((u8 sl 3).testBit 0 = true → x.lastSent ≠ some at0))) ∧
    (∃ img, ∃ e, ∃ es, ∃ ecc, Occurs (fun c => c.cb.image.cur = some img ∧ c.cb.beating = true ∧ c.cb.begun = true ∧ c.cb.cycleStart + eventStartNs img ≤ c.clk.now ∧ ((c.cbEventHead img ecc).qm.queue 44).entries = e :: es ∧ c.cb.eventsSent < u8 img 0x21 ∧ c.cb.grant = none ∧ c.clk.now + frameNs (u8 e.data 4) + 1000 ≤ c.cb.cycleStart + c.cb.cycleNs - 5000)) ∧
    (∃ img, Occurs (fun c => c.cb.image.cur = some img ∧ c.cb.beating = true ∧ c.cb.begun = true ∧ c.cb.cycleStart + eventStartNs img ≤ c.clk.now ∧ (c.qm.queue 44).entries = [] ∧ (c.qm.queue 45).entries = [])) ∧
    Occurs (fun c => c.cb.state = .listen) ∧
    Occurs (fun c => c.cb.state ≠ .listen) ∧
    Occurs (fun c => c.cb.other.heard = true) ∧
    Occurs (fun c => c.cb.other.heard = false) ∧
    (∃ n, Occurs (fun c => n < 8 ∧ c.cb.beating = true ∧ c.cb.begun = true ∧ u8 (c.cb.points.getD n { cur := [] }).cur 1 ≠ 0)) :=
  ⟨occurs (withCb { starOf cb0 with stopping := true } 0) (by decide +kernel),
   occurs (withCb {} 0) (by decide +kernel),
   occurs (withCb { starOf cb0 with begun := false } 0) (by decide +kernel),
   occurs ({ withCb { starOf cb0 with state := .aligned, begun := false } 0 with time := { state := .locked } }) (by decide +kernel),
   occurs (withCb { starOf cb0 with state := .aligned, begun := false } 0) (by decide +kernel),
   occurs (withCb (starOf cb0) 0) (by decide +kernel),
   occurs ({ withCb { starOf cb0 with state := .aligned } 1000000 with time := { state := .locked } }) (by decide +kernel),
   occurs (withCb { starOf cb0 with state := .aligned, config := 2 :: cbConf.drop 1, other := { heard := true }, cycleCount := 7 } 500000) (by decide +kernel),
   occurs ({ withCb { starOf cb0 with state := .aligned, cycleCount := 7 } 1000000 with time := { state := .locked } }) (by decide +kernel),
   ⟨1, [0x80, 1, 4, 1, 0, 0, 0, 0], zeros 13 ++ [1] ++ zeros 50 ++ [0x80, 1, 4, 1, 0, 0, 0, 0], occurs (withCb (starOf (zeros 13 ++ [1] ++ zeros 50 ++ [0x80, 1, 4, 1, 0, 0, 0, 0])) 28000) (by decide +kernel)⟩,
   ⟨1, cbSl1, cb1, { slot := 1, staging := [], pubs := [(0, [])] }, 0, [], occurs (withCb { starOf cb1 with tx := [{ slot := 1, staging := [], pubs := [(0, [])] }] } 28000) (by decide +kernel)⟩,
   ⟨1, [0x80, 3, 4, 0, 1, 1, 0, 0], zeros 13 ++ [1] ++ zeros 50 ++ [0x80, 3, 4, 0, 1, 1, 0, 0], { slot := 1, staging := [], pubs := [(0, [])] }, 0, [], 35, occurs (withCb { starOf (zeros 13 ++ [1] ++ zeros 50 ++ [0x80, 3, 4, 0, 1, 1, 0, 0]) with config := 1 :: cbConf.drop 1, other := { heard := true, integrated := true, cycle := 1 }, tx := [{ slot := 1, staging := [], pubs := [(0, [])] }] } 28000) (by decide +kernel)⟩,
   ⟨zeros 33 ++ [1], { data := zeros 8 }, [], some 0, occurs (withQueue 44 [{ data := [] }, { data := zeros 8 }] (withCb (starOf (zeros 33 ++ [1])) 28000)) (by decide +kernel)⟩,
   ⟨cb0, occurs (withCb (starOf cb0) 28000) (by decide +kernel)⟩,
   occurs (withCb { state := .listen } 0) (by decide +kernel),
   occurs (up) (by decide +kernel),
   occurs (withCb { other := { heard := true } } 0) (by decide +kernel),
   occurs (up) (by decide +kernel),
   ⟨7, occurs (withCb { starOf cb0 with points := List.replicate 8 { cur := [7, 1] } } 0) (by decide +kernel)⟩⟩

theorem witness_BranchEvents :
    (∃ p, ∃ x, ∃ start : Nat, Occurs (fun c => Ready.onBranch p c ∧ c.cbShown p x = some start ∧ (c.cb.served.contains ((p - 12) % 2) = false ∨ branchBit (u32 c.cb.config 4) ((p - 12) / 2) ((p - 12) % 2) = false ∨ branchBit (c.cb.muteAt start) ((p - 12) / 2) ((p - 12) % 2) = true) ∧ (c.cb.port p).stray ≠ some start)) ∧
    (∃ p, ∃ x, Occurs (fun c => c.cbShown p x = none)) ∧
    (∃ p, ∃ x, ∃ idle, ∃ k, ∃ sl, ∃ img, Occurs (fun c => Ready.ofSlot p x k sl img c ∧ (x.start + c.cb.margin < c.cb.cycleStart + slotStart img k ∨ idle = false))) ∧
    (∃ p, ∃ x, ∃ k, ∃ sl, ∃ img, Occurs (fun c => Ready.ofSlot p x k sl img c ∧ c.cb.cycleStart + slotStart img k ≤ x.start + c.cb.margin ∧ Ready.closes k img c < x.start)) ∧
    (∃ p, ∃ x, ∃ k, ∃ sl, ∃ img, Occurs (fun c => Ready.ofSlot p x k sl img c ∧ c.cb.cycleStart + slotStart img k ≤ x.start + c.cb.margin ∧ x.start ≤ Ready.closes k img c ∧ Ready.closes k img c + frameNs (slotMax sl) < c.clk.now)) ∧
    (∃ p, ∃ x, ∃ f, ∃ decodes, ∃ k, ∃ sl, ∃ img, Occurs (fun c => Ready.inWindow p x k sl img c ∧ (c.cbRelay ((p - 12) / 2) ((p - 12) % 2) x.start f).cb.checkSlot k ((p - 12) % 2) sl f decodes = 0)) ∧
    (∃ p, ∃ x, ∃ f, ∃ decodes, ∃ k, ∃ sl, ∃ img, ∃ r, Occurs (fun c => Ready.inWindow p x k sl img c ∧ (c.cbRelay ((p - 12) / 2) ((p - 12) % 2) x.start f).cb.checkSlot k ((p - 12) % 2) sl f decodes = r ∧ r ≠ 0)) ∧
    (∃ p, ∃ k, ∃ sl, Occurs (fun c => Ready.windowOpen p k sl c ∧ c.cb.cross = some p)) ∧
    (∃ p, ∃ k, ∃ sl, Occurs (fun c => Ready.windowOpen p k sl c ∧ c.cb.sender sl = some ((p - 12) / 2))) ∧
    (∃ p, ∃ k, ∃ sl, ∃ start, Occurs (fun c => Ready.windowOpen p k sl c ∧ c.cb.cross ≠ some p ∧ c.cb.sender sl = some ((p - 12) / 2) ∧ c.cbLive ((p - 12) / 2) ((p - 12) % 2) start = false)) ∧
    (∃ p, ∃ k, ∃ sl, ∃ img, ∃ start, ∃ idle, Occurs (fun c => Ready.windowOpen p k sl c ∧ c.cb.cross ≠ some p ∧ c.cb.sender sl = some ((p - 12) / 2) ∧ c.cbLive ((p - 12) / 2) ((p - 12) % 2) start = true ∧ c.cb.image.cur = some img ∧ (start + c.cb.margin < c.cb.cycleStart + slotStart img k ∨ idle = false))) ∧
    (∃ p, ∃ k, ∃ sl, ∃ img, ∃ start, Occurs (fun c => Ready.windowOpen p k sl c ∧ c.cb.cross ≠ some p ∧ c.cb.sender sl = some ((p - 12) / 2) ∧ c.cbLive ((p - 12) / 2) ((p - 12) % 2) start = true ∧ c.cb.image.cur = some img ∧ c.cb.cycleStart + slotStart img k ≤ start + c.cb.margin)) ∧
    (∃ x : CbStray, ∃ start, Occurs (fun c => 12 ≤ x.port ∧ x.port ≤ 35 ∧ c.tiles.carBus.getLsbD (x.port - 12) = false ∧ c.cbShown x.port x.seen = some start ∧ (c.cb.port x.port).stray ≠ some start)) ∧
    (∃ x : CbStray, Occurs (fun c => c.tiles.carBus.getLsbD (x.port - 12) = true ∨ c.cbShown x.port x.seen = none)) ∧
    (∃ p, ∃ g, Occurs (fun c => c.cb.openGrant ((p - 12) / 2) ((p - 12) % 2) = some g)) ∧
    (∃ p, Occurs (fun c => c.cb.openGrant ((p - 12) / 2) ((p - 12) % 2) = none)) ∧
    (∃ p, ∃ x, ∃ f, Occurs (fun c => Ready.beacon p x f c ∧ (c.cb.mode = 0 ∨ c.cb.cross ≠ some p ∨ bits (u8 f 0x1A) 2 2 + 1 = c.cb.mode))) ∧
    (∃ (p : Nat) (x : CbSeen) (f : Bytes), Occurs (fun c => Ready.beacon p x f c ∧ c.cb.mode ≠ 0 ∧ c.cb.cross = some p ∧ bits (u8 f 0x1A) 2 2 + 1 ≠ c.cb.mode)) :=
  ⟨⟨34, { start := 0 }, 0, occurs (withCb { starOf cb0 with config := 0 :: 1 :: zeros 30 } 0) (by decide +kernel)⟩,
   ⟨12, { start := 0 }, occurs (withCb { starOf cb0 with ports := List.replicate 24 { drivenTo := 1 } } 0) (by decide +kernel)⟩,
   ⟨12, { start := 28000 }, false, 1, cbSl2, cb2, occurs (withCb (starOf cb2) 40000) (by decide +kernel)⟩,
   ⟨12, { start := 28000 + 2 * (starOf cb2).delayMax + 501 }, 1, cbSl2, cb2, occurs (withCb (starOf cb2) 40000) (by decide +kernel)⟩,
   ⟨12, { start := 28000 }, 1, cbSl2, cb2, occurs (withCb (starOf cb2) 60000) (by decide +kernel)⟩,
   ⟨12, { start := 28000 }, slotFrame, true, 1, cbSl2, cb2, occurs (withCb (starOf cb2) 40000) (by decide +kernel)⟩,
   ⟨12, { start := 28000 }, slotFrame, false, 1, cbSl2, cb2, 5, occurs (withCb (starOf cb2) 40000) (by decide +kernel)⟩,
   ⟨35, 1, [0, 2, 4, 0, 0, 0, 0, 0], occurs (withCb { starOf (zeros 13 ++ [1] ++ zeros 50 ++ [0, 2, 4, 0, 0, 0, 0, 0]) with config := 1 :: cbConf.drop 1 } 0) (by decide +kernel)⟩,
   ⟨12, 1, cbSl2, occurs (withCb (starOf cb2) 0) (by decide +kernel)⟩,
   ⟨12, 1, cbSl2, 0, occurs (withCb { starOf cb2 with config := 0 :: 1 :: zeros 30 } 0) (by decide +kernel)⟩,
   ⟨12, 1, cbSl2, cb2, 0, false, occurs (withCb (starOf cb2) 0) (by decide +kernel)⟩,
   ⟨12, 1, cbSl2, cb2, 28000, occurs (withCb (starOf cb2) 0) (by decide +kernel)⟩,
   ⟨{ port := 35, seen := { start := 0 } }, 0, occurs (withCb (starOf cb0) 0) (by decide +kernel)⟩,
   ⟨{ port := 12, seen := { start := 0 } }, occurs (withCb { starOf cb0 with ports := List.replicate 24 { drivenTo := 1 } } 0) (by decide +kernel)⟩,
   ⟨35, { branch := 11, channels := [1], start := 0 }, occurs (withCb { starOf cb0 with grant := some { branch := 11, channels := [1], start := 0 } } 0) (by decide +kernel)⟩,
   ⟨35, occurs (withCb (starOf cb0) 0) (by decide +kernel)⟩,
   ⟨12, { start := 0 }, beacon0 0, occurs (withCb (starOf cb0) 0) (by decide +kernel)⟩,
   ⟨35, { start := 0 }, cbFrame ([0x11, 0, 0x80, 0xFF, 24] ++ zeros 21 ++ [4] ++ zeros 5), occurs (withCb { starOf cb0 with config := 1 :: cbConf.drop 1 } 0) (by decide +kernel)⟩⟩

theorem witness_CanBusEvents :
    (∃ n, Occurs (fun c => n < 12 ∧ (c.canCh n).state = .integrating)) ∧
    (∃ n, Occurs (fun c => (c.canCh n).state ≠ .integrating)) ∧
    (∃ n, ∃ raw : Bytes, Occurs (fun c => Ready.canActive n c ∧ ((CanFrame.ofBytes raw).fd = false ∨ u8 (c.canCh n).config 1 ≠ 0))) ∧
    (∃ n, ∃ raw : Bytes, Occurs (fun c => Ready.canActive n c ∧ (CanFrame.ofBytes raw).fd = true ∧ u8 (c.canCh n).config 1 = 0 ∧ u8 (c.canCh n).config 2 ≠ 0 ∧ (c.canCh n).sending = none)) ∧
    (∃ n, ∃ raw : Bytes, Occurs (fun c => n < 12 ∧ (c.canCh n).state = .ignoring ∧ ((CanFrame.ofBytes raw).fd = false ∨ u8 (c.canCh n).config 1 ≠ 0))) ∧
    (∃ n, Occurs (fun c => (c.canCh n).state = .stopped ∨ (c.canCh n).state = .integrating ∨ (c.canCh n).state = .busOff ∨ (c.canCh n).state = .recovering)) ∧
    (∃ n, ∃ src : Option Nat, ∃ f, ∃ ecc, Occurs (fun c => Ready.canSender n c ∧ (c.canCh n).cellWait = none ∧ (c.canCh n).alone = false ∧ (c.canHeadRead n ecc).canBest n = some (src, f) ∧ (src = none → ((c.canHeadRead n ecc).canCh n).fifoTried = false) ∧ (c.canHeadRead n ecc).canAllows n (f.worst ((c.canHeadRead n ecc).canCh n).config) = true)) ∧
    (∃ n, Occurs (fun c => Ready.canSender n c ∧ (c.canCh n).cellWait = none ∧ (c.canCh n).alone = false)) ∧
    (∃ n, ∃ i, ∃ at0, Occurs (fun c => Ready.canSender n c ∧ (c.canCh n).cellWait = some (i, at0) ∧ c.clk.now + ((c.canCh n).buf i).worst (c.canCh n).config ≤ (c.canCh n).columnEnd)) ∧
    (∃ n, ∃ i, ∃ at0, Occurs (fun c => Ready.canSender n c ∧ (c.canCh n).cellWait = some (i, at0) ∧ (c.canCh n).columnEnd < c.clk.now + ((c.canCh n).buf i).worst (c.canCh n).config)) ∧
    (∃ n, ∃ x, Occurs (fun c => n < 12 ∧ (c.canCh n).sending = some x ∧ x.buffer = none)) ∧
    (∃ n, ∃ x, ∃ i, Occurs (fun c => n < 12 ∧ (c.canCh n).sending = some x ∧ x.buffer = some i)) ∧
    (∀ e ∈ [(0, CanErr.bit), (1, CanErr.stuff), (2, CanErr.form), (3, CanErr.crc)], Occurs (fun c => (c.canCh 0).onBus = true ∧ (c.canCh 0).sending = none ∧ CanErr.parse e.1 = some e.2)) ∧
    (∃ n, Occurs (fun c => (c.canCh n).onBus = true ∧ (c.canCh n).sending = none ∧ (c.canCh n).errFrame ≠ some true)) ∧
    (∃ n, ∃ steps, Occurs (fun c => (c.canCh n).onBus = true ∧ (c.canCh n).sending = none ∧ (c.canCh n).errFrame = some true ∧ (c.canCh n).tec + 8 + 8 * steps ≤ 255)) ∧
    (∀ e ∈ [(0, CanErr.bit), (1, CanErr.stuff), (2, CanErr.form), (3, CanErr.crc)], Occurs (fun c => (c.canCh 0).onBus = true ∧ (c.canCh 0).sending = some sendingTx ∧ sendingTx.cell = false ∧ CanErr.parse e.1 = some e.2)) ∧
    (∃ n, ∃ kind, Occurs (fun c => (c.canCh n).onBus = true ∧ CanErr.parse kind = some .frameEnd ∧ (c.canCh n).errFrame = some true)) ∧
    (∃ n, Occurs (fun c => (c.canCh n).onBus = false)) ∧
    (∃ n, Occurs (fun c => n < 12 ∧ (c.canCh n).state = .recovering ∧ (c.canCh n).warning = false)) ∧
    (∃ n, Occurs (fun c => (c.canCh n).state ≠ .recovering)) ∧
    (∃ n, Occurs (fun c => Ready.canSender n c ∧ (c.canCh n).alone = true ∧ (c.canCh n).lastEnd + u16 (c.canCh n).config 18 * 1000000 ≤ c.clk.now)) ∧
    (∃ n, Occurs (fun c => (c.canCh n).alone = false ∨ c.clk.now < (c.canCh n).lastEnd + u16 (c.canCh n).config 18 * 1000000)) :=
  ⟨⟨0, occurs (withCan { state := .integrating }) (by decide +kernel)⟩,
   ⟨11, occurs (up) (by decide +kernel)⟩,
   ⟨0, ({} : CanFrame).bytes, occurs (withCan { state := .errorPassive }) (by decide +kernel)⟩,
   ⟨0, ({ fd := true } : CanFrame).bytes, occurs (withCan { state := .errorActive, config := [0, 0, 1] ++ zeros 29 }) (by decide +kernel)⟩,
   ⟨0, ({} : CanFrame).bytes, occurs (withCan { state := .ignoring }) (by decide +kernel)⟩,
   ⟨11, occurs (up) (by decide +kernel)⟩,
   ⟨0, none, {}, some 0, occurs (withQueue 32 [{ data := [] }, { data := ({} : CanFrame).bytes }] (withCan { state := .errorActive })) (by decide +kernel)⟩,
   ⟨0, occurs (withCan { state := .errorActive }) (by decide +kernel)⟩,
   ⟨0, 0, 0, occurs (withCan { state := .errorActive, cellWait := some (0, 0), bufs := [{ txBuf with pubs := [(0, [])] }], image := { cur := some column1 } }) (by decide +kernel)⟩,
   ⟨0, 0, 0, occurs (withCan { state := .errorActive, cellWait := some (0, 0) }) (by decide +kernel)⟩,
   ⟨0, sendingTx, occurs (withCan { state := .errorActive, sending := some sendingTx }) (by decide +kernel)⟩,
   ⟨0, { sendingTx with buffer := some 0 }, 0, occurs (withCan { state := .errorActive, sending := some { sendingTx with buffer := some 0 } }) (by decide +kernel)⟩,
   fun e he => occurs (withCan { state := .errorActive }) ⟨rfl, by decide +kernel, by decide +kernel, (show ∀ e ∈ [(0, CanErr.bit), (1, CanErr.stuff), (2, CanErr.form), (3, CanErr.crc)], CanErr.parse e.1 = some e.2 by decide) e he⟩,
   ⟨0, occurs (withCan { state := .errorActive }) (by decide +kernel)⟩,
   ⟨0, 0, occurs (withCan { state := .errorActive, errFrame := some true }) (by decide +kernel)⟩,
   fun e he => occurs (withCan { state := .errorActive, sending := some sendingTx }) ⟨rfl, by decide +kernel, by decide +kernel, by decide +kernel, (show ∀ e ∈ [(0, CanErr.bit), (1, CanErr.stuff), (2, CanErr.form), (3, CanErr.crc)], CanErr.parse e.1 = some e.2 by decide) e he⟩,
   ⟨0, 8, occurs (withCan { state := .errorActive, errFrame := some true }) (by decide +kernel)⟩,
   ⟨11, occurs (up) (by decide +kernel)⟩,
   ⟨0, occurs (withCan { state := .recovering }) (by decide +kernel)⟩,
   ⟨0, occurs (withCan { state := .errorActive }) (by decide +kernel)⟩,
   ⟨0, occurs ({ withCan { state := .errorActive, alone := true } with clk := { now := 10000000 } }) (by decide +kernel)⟩,
   ⟨11, occurs (up) (by decide +kernel)⟩⟩

theorem witness_MatrixRouterEvents :
    (∃ n, ∃ img, ∃ b, ∃ cyc, ∃ col, ∃ start, Occurs (fun c => n < 12 ∧ (c.canCh n).image.cur = some img ∧ (c.canCh n).state ≠ .stopped ∧ (c.canCh n).matrix ≠ 0 ∧ (c.canCh n).resuming = false ∧ (c.canCh n).cellWait = none ∧ c.canPlace n img = some (b, cyc, col, start) ∧ cyc = (c.canCh n).matrixCycle ∧ cellCode img b col / 4096 ≠ 2)) ∧
    (∃ n, ∃ img, ∃ b, ∃ cyc, ∃ col, ∃ start, Occurs (fun c => n < 12 ∧ (c.canCh n).image.cur = some img ∧ (c.canCh n).state ≠ .stopped ∧ (c.canCh n).matrix = 2 ∧ (c.canCh n).resuming = false ∧ (c.canCh n).cellWait = none ∧ c.canPlace n img = some (b, cyc, col, start) ∧ cyc ≠ (c.canCh n).matrixCycle ∧ (c.canCh n).image.due ((c.canCh n).cycleIndex + 1) = false ∧ cellCode img b col / 4096 ≠ 2)) ∧
    (∃ n, ∃ img, Occurs (fun c => (c.canCh n).image.cur = some img ∧ (c.canCh n).errFrame = none ∧ (c.canCh n).stopping = false ∧ (c.canCh n).ignoring = false ∧ (c.canCh n).matrix = 0)) ∧
    (∃ n, ∃ img, Occurs (fun c => n < 12 ∧ (c.canCh n).image.cur = some img ∧ (c.canCh n).errFrame = none ∧ (c.canCh n).stopping = false ∧ (c.canCh n).ignoring = false ∧ (c.canCh n).state ≠ .stopped ∧ (c.canCh n).matrix ≠ 0 ∧ (c.canCh n).resuming = false ∧ (c.canCh n).cellWait = none ∧ c.canPlace n img = none)) ∧
    (∃ e : CheckEnd, ∃ cell, Occurs (fun c => (c.canCh e.channel).cell = some cell ∧ cell / 4096 = 3 ∧ (c.canCh e.channel).state ≠ .stopped ∧ (e.running = false ∨ (c.canCh e.channel).tookIn (cell % 64) (c.canCh e.channel).columnStart (c.canCh e.channel).columnEnd = true))) ∧
    (∃ e : CheckEnd, ∃ cell, Occurs (fun c => (c.canCh e.channel).cell = some cell ∧ cell / 4096 = 3 ∧ (c.canCh e.channel).state ≠ .stopped ∧ e.running = true ∧ (c.canCh e.channel).tookIn (cell % 64) (c.canCh e.channel).columnStart (c.canCh e.channel).columnEnd = false)) ∧
    (∃ n, ∃ img, Occurs (fun c => (c.canCh n).image.cur = some img ∧ (c.canCh n).state ≠ .stopped ∧ (c.canCh n).matrix = 2 ∧ c.timeValid = true ∧ ((c.canCh n).resuming = true ∨ (c.canCh n).basicStart + basicNs img ≤ c.clk.now) ∧ (c.canCh n).basicIndex + (c.clk.now - (c.canCh n).basicStart) / basicNs img < 64 ∧ (c.trainTime + basicNs img / 2) / basicNs img % 64 ≠ 0)) ∧
    Occurs (fun c => c.rt.running = false ∨ c.rt.waiting = []) ∧
    (∃ f, ∃ rest, Occurs (fun c => c.rt.running = true ∧ c.rt.waiting = f :: rest ∧ f.kind ≠ 3 ∧ (((c.onRt fun r => { r with waiting := rest }).rtCount rtLookups).rt.lookup f = none))) ∧
    (∃ f, ∃ rest, ∃ i, ∃ img, Occurs (fun c => c.rt.running = true ∧ c.rt.waiting = f :: rest ∧ f.kind ≠ 3 ∧ c.rt.image.cur = some img ∧ entVerify (rtEntry img i) = false ∧ (((c.onRt fun r => { r with waiting := rest }).rtCount rtLookups).rt.lookup f = some (i, true)))) ∧
    (∃ i, ∃ img, Occurs (fun c => c.rt.image.cur = some img ∧ c.rt.running = true ∧ i < rtEntries img ∧ c.rt.enabled img i = true ∧ entVerify (rtEntry img i) = true ∧ u16 (rtUnit img (u8 (rtEntry img i) 3)) 32 ≠ 0 ∧ c.tiles.check.getLsbD (u8 (rtEntry img i) 3) = false)) :=
  ⟨⟨0, column1, 1, 0, 0, 250000, occurs ({ withCan { state := .errorActive, matrix := 1, image := { cur := some column1 } } with time := { state := .locked }, clk := { now := 250000 } }) (by decide +kernel)⟩,
   ⟨0, column1, 0, 1, 0, 250000, occurs ({ withCan { state := .errorActive, matrix := 2, basicIndex := 63, image := { cur := some column1 } } with clk := { now := 250000 } }) (by decide +kernel)⟩,
   ⟨0, column1, occurs (withCan { image := { cur := some column1 } }) (by decide +kernel)⟩,
   ⟨0, column1, occurs ({ withCan { state := .errorActive, matrix := 2, image := { cur := some column1 } } with time := { state := .locked }, clk := { now := 900000000 } }) (by decide +kernel)⟩,
   ⟨{ channel := 0 }, 0x3000, occurs (withCan { state := .errorActive, matrix := 1, image := { cur := some column2 } }) (by decide +kernel)⟩,
   ⟨{ channel := 0, running := true }, 0x3000, occurs (withCan { state := .errorActive, matrix := 1, image := { cur := some column2 } }) (by decide +kernel)⟩,
   ⟨0, column1, occurs ({ withCan { state := .errorActive, matrix := 2, resuming := true, basicStart := 1000000000, image := { cur := some column1 } } with time := { state := .locked }, clk := { now := 1000000000 } }) (by decide +kernel)⟩,
   occurs (up) (by decide +kernel),
   ⟨field0, [], occurs ({ up with rt := { running := true, waiting := [field0] } }) (by decide +kernel)⟩,
   ⟨field0, [], 0, router3, occurs ({ up with rt := { running := true, waiting := [field0], image := { cur := some router3 } } }) (by decide +kernel)⟩,
   ⟨0, router4, occurs ({ up with rt := { running := true, image := { cur := some router4 } } }) (by decide +kernel)⟩⟩

theorem witness_FarRequestEvents : ((∃ p : Nat, 4 ≤ p ∧ p < 12) ∧ ∀ op ∈ [1, 3, 9, 6, 8], (∃ p f d, Occurs (fun c => ¬(4 ≤ p ∧ p < 12) ∧ c.bridgeTake p op f = (none, d))) ∧ ∃ p f m d, Occurs (fun c => ¬(4 ≤ p ∧ p < 12) ∧ c.bridgeTake p op f = (some m, d))) := ⟨⟨4, by decide⟩, fun op h => ⟨⟨63, [], _, occurs inTrain ⟨rfl, by decide, rfl⟩⟩, ⟨62, ownFrame op 0, own op 0, _, occurs inTrain ⟨rfl, by decide, took_eq ((show ∀ op ∈ [1, 3, 9, 6, 8], ((inTrain.tick 0).bridgeTake 62 op (ownFrame op 0)).1 = some (own op 0) by decide +kernel) op h)⟩⟩⟩⟩

theorem witness_ExportEvents :
    (∃ source, ∃ x, ∃ m, ∃ ms, Occurs (fun c => Ready.access source x m ms c)) ∧
    (∃ source, ∃ x, ∃ m, ∃ ms, Occurs (fun c => Ready.access source x m ms c ∧ u8 (m.entryIn c.br) 2 ≠ 1)) ∧
    (∃ source, ∃ x, ∃ m, ∃ ms, Occurs (fun c => Ready.access source x m ms c ∧ u8 (m.entryIn c.br) 2 = 1)) ∧
    (∃ source, ∃ x, ∃ m, ∃ ms, Occurs (fun c => Ready.access source x m ms c)) ∧
    (∃ source, Occurs (fun c => (c.br.streams.find? fun x => x.source == source && x.active) = none)) ∧
    (∃ source, ∃ x, ∃ m, ∃ ms, Occurs (fun c => Ready.access source x m ms c)) ∧
    Occurs (fun _ => True) :=
  ⟨⟨0x22, stream0, own 1 0, [], occurs (withBr { streams := [stream0] }) (by decide +kernel)⟩,
   ⟨0x22, stream0, own 1 0, [], occurs (withBr { streams := [stream0] }) (by decide +kernel)⟩,
   ⟨0x22, { stream0 with queue := [{ own 1 0 with entry := some ([0, 0, 1] ++ zeros 29) }] }, { own 1 0 with entry := some ([0, 0, 1] ++ zeros 29) }, [], occurs (withBr { streams := [{ stream0 with queue := [{ own 1 0 with entry := some ([0, 0, 1] ++ zeros 29) }] }] }) (by decide +kernel)⟩,
   ⟨0x22, stream0, own 1 0, [], occurs (withBr { streams := [stream0] }) (by decide +kernel)⟩,
   ⟨0x22, occurs (inTrain) (by decide +kernel)⟩,
   ⟨0x22, stream0, own 1 0, [], occurs (withBr { streams := [stream0] }) (by decide +kernel)⟩,
   occurs (up) (by decide +kernel)⟩

theorem witness_ReplyEvents :
    (∃ p, ∃ f, ∃ m, ∃ d, ∃ q, Occurs (fun c => c.bridgeTake p 2 f = (some m, d) ∧ m.status = 0 ∧ ((d.seeSession m).br.requests.find? fun x => x.op == 1 && x.tag == m.tag && x.far == m.source) = some q ∧ q.late = false ∧ q.isLine = false)) ∧
    (∃ p, ∃ f, ∃ m, ∃ d, ∃ q, Occurs (fun c => c.bridgeTake p 2 f = (some m, d) ∧ m.status ≠ 0 ∧ ((d.seeSession m).br.requests.find? fun x => x.op == 1 && x.tag == m.tag && x.far == m.source) = some q ∧ q.late = false ∧ q.isLine = false)) ∧
    (∃ p, ∃ f, ∃ m, ∃ d, ∃ q, Occurs (fun c => c.bridgeTake p 2 f = (some m, d) ∧ m.status ≠ 0 ∧ ((d.seeSession m).br.requests.find? fun x => x.op == 1 && x.tag == m.tag && x.far == m.source) = some q ∧ q.late = true ∧ q.isLine = false)) ∧
    (∃ p, ∃ f, ∃ m, ∃ d, ∃ q, Occurs (fun c => c.bridgeTake p 2 f = (some m, d) ∧ m.status = 0 ∧ ((d.seeSession m).br.requests.find? fun x => x.op == 1 && x.tag == m.tag && x.far == m.source) = some q ∧ q.late = true ∧ q.isLine = false ∧ (q.isAsync = true ∨ m.flags.testBit 1 = false ∨ m.flags.testBit 2 = false))) ∧
    (∃ p, ∃ f, ∃ m, ∃ d, ∃ q, Occurs (fun c => c.bridgeTake p 2 f = (some m, d) ∧ ((d.seeSession m).br.requests.find? fun x => x.op == 1 && x.tag == m.tag && x.far == m.source) = some q ∧ q.late = false ∧ q.isLine = true)) ∧
    (∃ p, ∃ f, ∃ m, ∃ d, Occurs (fun c => c.bridgeTake p 4 f = (some m, d))) ∧
    (∃ p, ∃ f, ∃ m, ∃ d, ∃ q, Occurs (fun c => c.bridgeTake p 5 f = (some m, d) ∧ ((d.seeSession m).br.requests.find? fun x => x.posted && x.far == m.source && x.sequence == some m.ack) = some q)) ∧
    (∃ p, ∃ f, ∃ m, ∃ d, ∃ n, Occurs (fun c => c.bridgeTake p 7 f = (some m, d) ∧ m.status = 0 ∧ ((List.range 16).find? fun i => let r := (d.seeSession m).br.sem i; r.state == .pending && r.tag == m.tag && r.home == m.source) = some n)) ∧
    (∃ p, ∃ f, ∃ m, ∃ d, ∃ n, Occurs (fun c => c.bridgeTake p 7 f = (some m, d) ∧ m.status = 7 ∧ ((List.range 16).find? fun i => let r := (d.seeSession m).br.sem i; r.state == .pending && r.tag == m.tag && r.home == m.source) = some n)) :=
  ⟨⟨62, ownFrame 2 0, own 2 0, took { requests := [req 1] } 2 0, req 1, occurs (withBr { requests := [req 1] }) (⟨rfl, took_eq (by decide +kernel), by decide +kernel, by decide +kernel, by decide +kernel, by decide +kernel⟩)⟩,
   ⟨62, ownFrame 2 1, own 2 1, took { requests := [req 1] } 2 1, req 1, occurs (withBr { requests := [req 1] }) (⟨rfl, took_eq (by decide +kernel), by decide +kernel, by decide +kernel, by decide +kernel, by decide +kernel⟩)⟩,
   ⟨62, ownFrame 2 1, own 2 1, took { requests := [{ req 1 with late := true }] } 2 1, { req 1 with late := true }, occurs (withBr { requests := [{ req 1 with late := true }] }) (⟨rfl, took_eq (by decide +kernel), by decide +kernel, by decide +kernel, by decide +kernel⟩)⟩,
   ⟨62, ownFrame 2 0, own 2 0, took { requests := [{ req 1 with late := true }] } 2 0, { req 1 with late := true }, occurs (withBr { requests := [{ req 1 with late := true }] }) (⟨rfl, took_eq (by decide +kernel), by decide +kernel, by decide +kernel, by decide +kernel, by decide +kernel, by decide +kernel⟩)⟩,
   ⟨62, ownFrame 2 0, own 2 0, took { requests := [{ req 1 with isLine := true }] } 2 0, { req 1 with isLine := true }, occurs (withBr { requests := [{ req 1 with isLine := true }] }) (⟨rfl, took_eq (by decide +kernel), by decide +kernel, by decide +kernel, by decide +kernel⟩)⟩,
   ⟨62, ownFrame 4 0, own 4 0, took {} 4 0, occurs (withBr {}) (⟨rfl, took_eq (by decide +kernel)⟩)⟩,
   ⟨62, ownFrame 5 0, own 5 0, took { requests := [req 3] } 5 0, req 3, occurs (withBr { requests := [req 3] }) (⟨rfl, took_eq (by decide +kernel), by decide +kernel⟩)⟩,
   ⟨62, ownFrame 7 0, own 7 0, took { sems := [{ state := .pending, home := 0x11 }] } 7 0, 0, occurs (withBr { sems := [{ state := .pending, home := 0x11 }] }) (⟨rfl, took_eq (by decide +kernel), by decide +kernel, by decide +kernel⟩)⟩,
   ⟨62, ownFrame 7 7, own 7 7, took { sems := [{ state := .pending, home := 0x11 }] } 7 7, 0, occurs (withBr { sems := [{ state := .pending, home := 0x11 }] }) (⟨rfl, took_eq (by decide +kernel), by decide +kernel, by decide +kernel⟩)⟩⟩

theorem witness_BridgeTimeouts :
    (∃ tag, ∃ h, Occurs (fun c => (c.br.held.find? fun x => x.hostTag == tag) = some h)) ∧
    (∃ tag, Occurs (fun c => (c.br.held.find? fun x => x.hostTag == tag) = none)) ∧
    (∃ tag, ∃ f, Occurs (fun c => (c.br.fences.find? fun x => x.hostTag == tag) = some f)) ∧
    (∃ tag, Occurs (fun c => (c.br.fences.find? fun x => x.hostTag == tag) = none)) ∧
    (∃ tag, Occurs (fun c => (c.br.semReads.any fun r => r.1 == tag) = true)) ∧
    (∃ tag, Occurs (fun c => (c.br.semReads.any fun r => r.1 == tag) = false)) ∧
    (∃ n, Occurs (fun c => n < 16 ∧ (c.br.sem n).state = .pending)) ∧
    (∃ n, Occurs (fun c => 16 ≤ n ∨ (c.br.sem n).state ≠ .pending)) ∧
    (∃ tag, ∃ a, Occurs (fun c => (c.br.asyncs.find? fun x => x.parts.any fun p => p.tag == some tag && !p.done) = some a)) ∧
    (∃ tag, Occurs (fun c => (c.br.asyncs.find? fun x => x.parts.any fun p => p.tag == some tag && !p.done) = none)) ∧
    (∃ tag, ∃ q, Occurs (fun c => (c.br.requests.find? fun x => x.tag == tag && x.posted && x.waits.isEmpty) = some q)) ∧
    (∃ tag, Occurs (fun c => (c.br.requests.find? fun x => x.tag == tag && x.posted && x.waits.isEmpty) = none)) ∧
    Occurs (fun _ => True) ∧
    (∃ n, Occurs (fun c => c.br.disabling = some n ∧ c.br.settled n = true)) ∧
    (∃ n, Occurs (fun c => c.br.disabling ≠ some n ∧ c.br.stopping = true ∧ c.br.allSettled = true)) ∧
    (∃ n, Occurs (fun c => c.br.disabling ≠ some n ∧ (c.br.stopping = false ∨ c.br.allSettled = false))) :=
  ⟨⟨0, { hostTag := 0, window := 0, parts := [] }, occurs (withBr { held := [{ hostTag := 0, window := 0, parts := [] }] }) (by decide +kernel)⟩,
   ⟨0, occurs (withBr {}) (by decide +kernel)⟩,
   ⟨0, { hostTag := 0, window := 0, wide := true, waits := [] }, occurs (withBr { fences := [{ hostTag := 0, window := 0, wide := true, waits := [] }] }) (by decide +kernel)⟩,
   ⟨0, occurs (withBr {}) (by decide +kernel)⟩,
   ⟨0, occurs (withBr { semReads := [(0, 0)] }) (by decide +kernel)⟩,
   ⟨0, occurs (withBr {}) (by decide +kernel)⟩,
   ⟨15, occurs (withBr { sems := List.replicate 16 { state := .pending } }) (by decide +kernel)⟩,
   ⟨16, occurs (up) (by decide +kernel)⟩,
   ⟨0, { window := 0, hostTag := 0, length := 0, parts := [{ offset := 0, length := 0, tag := some 0 }] }, occurs (withBr { asyncs := [{ window := 0, hostTag := 0, length := 0, parts := [{ offset := 0, length := 0, tag := some 0 }] }] }) (by decide +kernel)⟩,
   ⟨0, occurs (withBr {}) (by decide +kernel)⟩,
   ⟨0, req 3, occurs (withBr { requests := [req 3] }) (by decide +kernel)⟩,
   ⟨0, occurs (withBr {}) (by decide +kernel)⟩,
   occurs (up) (by decide +kernel),
   ⟨63, occurs (withBr { disabling := some 63 }) (by decide +kernel)⟩,
   ⟨63, occurs (withBr { stopping := true }) (by decide +kernel)⟩,
   ⟨63, occurs (withBr {}) (by decide +kernel)⟩⟩

theorem witness_WindowAccesses :
    (∃ off, ∃ len, Occurs (fun c => off < 64 * 0x800000 ∧ len ≠ 0 ∧ c.br.heldNow < 8 ∧ c.br.waiting = [])) ∧
    (∃ off, ∃ len, Occurs (fun c => off < 64 * 0x800000 ∧ len ≠ 0 ∧ ¬(c.br.heldNow < 8 ∧ c.br.waiting = []))) ∧
    (∃ off, ∃ d : Bytes, Occurs (fun c => off < 64 * 0x800000 ∧ d ≠ [] ∧ c.br.open (off / 0x800000) = false)) ∧
    (∃ off, ∃ d : Bytes, Occurs (fun c => off < 64 * 0x800000 ∧ d ≠ [] ∧ d.length ≤ 256 ∧ c.br.open (off / 0x800000) = true)) ∧
    (∃ n, ∃ off, ∃ len, Occurs (fun c => n < 64 ∧ ((off = 0 ∧ (len = 4 ∨ len = 8)) ∨ (off = 4 ∧ len = 4)) ∧ c.br.heldNow < 8 ∧ c.br.waiting = [])) ∧
    (∃ n, ∃ off, ∃ len, Occurs (fun _ => n < 64 ∧ ¬((off = 0 ∧ (len = 4 ∨ len = 8)) ∨ (off = 4 ∧ len = 4)))) ∧
    (∃ n, Occurs (fun c => n < 16 ∧ c.br.heldNow < 8 ∧ c.br.waiting = [])) ∧
    (∃ n, ∃ v : BitVec 32, Occurs (fun c => n < 16 ∧ v.getLsbD 0 = true ∧ (c.br.sem n).state ≠ .acquired)) ∧
    (∃ n, ∃ v : BitVec 32, Occurs (fun c => n < 16 ∧ v.getLsbD 0 = true ∧ (c.br.sem n).state = .acquired)) ∧
    (∃ v : BitVec 32, Occurs (fun _ => v.getLsbD 0 = false)) ∧
    (∃ n, ∃ en, Occurs (fun c => 64 ≤ n ∨ en = 0 ∨ c.br.open n = false)) ∧
    (∃ n, ∃ k, ∃ d, Occurs (fun c => n < 64 ∧ c.br.open n = true ∧ c.retarget n = d ∧ d.brReach (d.br.window n) = some k)) ∧
    (∃ n, ∃ d, Occurs (fun c => n < 64 ∧ c.br.open n = true ∧ c.retarget n = d ∧ d.brReach (d.br.window n) = none)) ∧
    (∃ w, ∃ ws, Occurs (fun c => c.br.waiting = w :: ws ∧ c.br.heldNow < 8)) ∧
    Occurs (fun c => c.br.waiting = [] ∨ 8 ≤ c.br.heldNow) :=
  ⟨⟨64 * 0x800000 - 1, 1, occurs (up) (by decide +kernel)⟩,
   ⟨64 * 0x800000 - 1, 1, occurs (withBr { waiting := [.sem 0 0] }) (by decide +kernel)⟩,
   ⟨64 * 0x800000 - 1, [0], occurs (up) (by decide +kernel)⟩,
   ⟨0, zeros 256, occurs (withWindow (winTo 0 (some 0x22))) (by decide +kernel)⟩,
   ⟨63, 4, 4, occurs (up) (by decide +kernel)⟩,
   ⟨63, 4, 8, occurs (up) (by decide +kernel)⟩,
   ⟨15, occurs (up) (by decide +kernel)⟩,
   ⟨15, 1, occurs (up) (by decide +kernel)⟩,
   ⟨15, 1, occurs (withBr { sems := List.replicate 16 { state := .acquired } }) (by decide +kernel)⟩,
   ⟨0, occurs (up) (by decide +kernel)⟩,
   ⟨63, 1, occurs (up) (by decide +kernel)⟩,
   ⟨0, 3, (withWindow (winTo 0 (some 0x33))).retarget 0, occurs (withWindow (winTo 0 (some 0x33))) (⟨by decide +kernel, by decide +kernel, by decide +kernel, rfl, by decide +kernel⟩)⟩,
   ⟨0, (withWindow (winTo 0 (some 0x22))).retarget 0, occurs (withWindow (winTo 0 (some 0x22))) (⟨by decide +kernel, by decide +kernel, by decide +kernel, rfl, by decide +kernel⟩)⟩,
   ⟨.sem 0 0, [], occurs (withBr { waiting := [.sem 0 0], semReads := List.replicate 7 (0, 0) }) (by decide +kernel)⟩,
   occurs (withBr { waiting := [.sem 0 0], semReads := List.replicate 8 (0, 0) }) (by decide +kernel)⟩

theorem witness_MailboxEvents :
    (∃ op, cmdOf op = none ∧ op < 65536 ∧ ∃ d : Doorbell, Occurs (fun c => d.mb < 8 ∧ ((c.host.mb d.mb).state = .idle ∨ (c.host.mb d.mb).state = .done) ∧ (op / 256 = 0x0D ∨ c.host.heldBehind (op / 256) c.host.nextOrder = false))) ∧
    (∃ d : Doorbell, Occurs (fun c => d.mb < 8 ∧ ((c.host.mb d.mb).state = .busy ∨ (c.host.mb d.mb).state = .offline))) ∧
    (∃ n, ∃ k, Occurs (fun c => c.firmware = true ∧ (c.host.mb n).state = .busy ∧ (c.host.mb n).waiting = true ∧ c.host.heldBehind ((c.host.mb n).opcode / 256) (c.host.mb n).order = false ∧ cmdOf (c.host.mb n).opcode = some k)) ∧
    (∃ n, Occurs (fun c => (c.host.mb n).state = .busy ∧ (c.host.mb n).waiting = true ∧ c.host.heldBehind ((c.host.mb n).opcode / 256) (c.host.mb n).order = true)) ∧
    (∃ n, Occurs (fun c => c.firmware = true ∧ (c.host.mb n).state = .busy ∧ (c.host.mb n).waiting = true ∧ c.host.heldBehind ((c.host.mb n).opcode / 256) (c.host.mb n).order = false ∧ cmdOf (c.host.mb n).opcode = none)) ∧
    (∃ n, ∃ off, ∃ d : Bytes, Occurs (fun c => n < 8 ∧ off < 512 ∧ off + d.length ≤ 512 ∧ d ≠ [] ∧ d.length ≤ 256 ∧ (c.host.mb n).state = .busy ∧ (c.host.mb n).lockRaised = false)) ∧
    (∃ n, ∃ off, ∃ d : Bytes, Occurs (fun c => n < 8 ∧ off < 512 ∧ off + d.length ≤ 512 ∧ d ≠ [] ∧ d.length ≤ 256 ∧ (c.host.mb n).state = .busy ∧ (c.host.mb n).lockRaised = true)) ∧
    (∃ n, ∃ off, ∃ d : Bytes, Occurs (fun c => n < 8 ∧ off < 512 ∧ off + d.length ≤ 512 ∧ d ≠ [] ∧ d.length ≤ 256 ∧ (c.host.mb n).state ≠ .busy)) ∧
    (∃ n, Occurs (fun c => (c.host.mb n).state = .done)) ∧
    (∃ n, Occurs (fun c => (c.host.mb n).state ≠ .done)) :=
  ⟨⟨0xFFFF, rfl, by decide, { mb := 7, tag := 0, length := 0 }, occurs up (by decide +kernel)⟩,
   ⟨{ mb := 7, tag := 0, length := 0 }, occurs ({ up with host := {} }) (by decide +kernel)⟩,
   ⟨0, ifIdentify, occurs (withMb { state := .busy, waiting := true, opcode := 0x0D00 }) (⟨rfl, by decide +kernel, by decide +kernel, by decide +kernel, by decide +kernel, rfl⟩)⟩,
   ⟨1, occurs ({ up with host := { mailboxes := [{ state := .busy }, { state := .busy, waiting := true, order := 1 }] } }) (by decide +kernel)⟩,
   ⟨0, occurs (withMb { state := .busy, waiting := true, opcode := 0xFFFF }) (by decide +kernel)⟩,
   ⟨0, 511, [0], occurs (withMb { state := .busy }) (by decide +kernel)⟩,
   ⟨0, 256, zeros 256, occurs (withMb { state := .busy, lockRaised := true }) (by decide +kernel)⟩,
   ⟨7, 0, zeros 256, occurs (up) (by decide +kernel)⟩,
   ⟨0, occurs (withMb { state := .done }) (by decide +kernel)⟩,
   ⟨7, occurs (up) (by decide +kernel)⟩⟩

theorem witness_HostEvents :
    (∃ o, ∃ d : Bytes, Occurs (fun _ => accessOk true o d.length = false ∧ o < 0x2000)) ∧
    (∃ o, ∃ d : Bytes, Occurs (fun _ => d.length = 4 ∧ o % 4 = 0 ∧ o < 0x2000 ∧ ¬(0x800 ≤ o ∧ o < 0xA00))) ∧
    (∃ n, ∃ k, ∃ d : Bytes, Occurs (fun c => n < 8 ∧ 1 ≤ d.length ∧ d.length ≤ 256 ∧ k + d.length ≤ 512 ∧ (c.host.mb n).state ≠ .busy)) ∧
    (∃ o, ∃ len, Occurs (fun _ => accessOk false o len = false)) ∧
    (∃ o, ∃ len, Occurs (fun _ => accessOk true o len = false)) ∧
    (∃ word, Occurs (fun _ => word < 4)) ∧
    Occurs (fun c => c.time.pulses12 = false) ∧
    (∃ mosi, Occurs (fun c => c.portsUp = true ∧ 4 ≤ mosi.length ∧ (bAt mosi 0 4).testBit 31 = false ∧ (bAt mosi 0 4).testBit 30 = false ∧ (bAt mosi 0 4).testBit 1 = false ∧ (bAt mosi 0 4).testBit 0 = false ∧ bits (bAt mosi 0 4) 29 16 + 1 ≤ 256 ∧ 4 + 4 * (bits (bAt mosi 0 4) 29 16 + 1) + 2 ≤ mosi.length ∧ crc16 (mosi.take (4 + 4 * (bits (bAt mosi 0 4) 29 16 + 1))) = bAt mosi (4 + 4 * (bits (bAt mosi 0 4) 29 16 + 1)) 2)) ∧
    (∃ mosi, Occurs (fun c => c.portsUp = true ∧ 4 ≤ mosi.length ∧ (bAt mosi 0 4).testBit 31 = false ∧ 4 + 4 * (bits (bAt mosi 0 4) 29 16 + 1) + 2 ≤ mosi.length ∧ crc16 (mosi.take (4 + 4 * (bits (bAt mosi 0 4) 29 16 + 1))) ≠ bAt mosi (4 + 4 * (bits (bAt mosi 0 4) 29 16 + 1)) 2)) ∧
    Occurs (fun _ => True) ∧
    (∃ w, ∃ v, Occurs (fun c => c.portsUp = true ∧ (w = 1 ∨ w = 2) ∧ (v = 1 ∨ v = 2))) ∧
    Occurs (fun c => c.portsUp = false) ∧
    Occurs (fun c => c.portsUp = false) ∧
    (∃ bm, ∃ en, Occurs (fun c => (en && bm && !(c.host.msi.enable && c.host.msi.busMaster)) = false)) ∧
    (∃ bm, ∃ en, Occurs (fun c => en = true ∧ bm = true ∧ (c.host.msi.enable && c.host.msi.busMaster) = false)) ∧
    (∃ mask, Occurs (fun c => (c.host.msi.enable && c.host.msi.busMaster) = false ∨ c.host.msi.pending &&& ~~~mask = 0)) ∧
    Occurs (fun c => c.boot.state = .ready ∨ c.boot.state = .service) ∧
    Occurs (fun c => c.boot.state ≠ .ready ∧ c.boot.state ≠ .service) ∧
    (∃ i, Occurs (fun c => i < 24 ∧ c.tiles.carBus.getLsbD i = false)) ∧
    (∃ i, Occurs (fun c => i < 16 ∧ c.tiles.check.getLsbD i = false)) ∧
    (∃ i, Occurs (fun c => i < 12 ∧ c.tiles.can.getLsbD i = false)) ∧
    (∃ h, ∃ p, Occurs (fun c => c.dir.pin h = some p ∧ p.lastUse + 2000000000 ≤ c.clk.now)) ∧
    (∃ h, ∃ p, Occurs (fun c => c.dir.pin h = some p ∧ c.clk.now < p.lastUse + 2000000000)) :=
  ⟨⟨0x1FFF, [0], occurs (up) (by decide +kernel)⟩,
   ⟨0x1FFC, zeros 4, occurs (up) (by decide +kernel)⟩,
   ⟨7, 256, zeros 256, occurs (up) (by decide +kernel)⟩,
   ⟨0x1FFF, 1, occurs (up) (by decide +kernel)⟩,
   ⟨0x1FFF, 1, occurs (up) (by decide +kernel)⟩,
   ⟨3, occurs (up) (by decide +kernel)⟩,
   occurs (up) (by decide +kernel),
   ⟨zeros 8 ++ be 2 (crc16 (zeros 8)), occurs (up) (by decide +kernel)⟩,
   ⟨zeros 4 ++ zeros 4 ++ [1, 0], occurs (up) (by decide +kernel)⟩,
   occurs (up) (by decide +kernel),
   ⟨2, 2, occurs (up) (by decide +kernel)⟩,
   occurs ({ up with boot := { state := .booting, step := 1 } }) (by decide +kernel),
   occurs ({ up with boot := { state := .booting, step := 1 } }) (by decide +kernel),
   ⟨true, false, occurs (up) (by decide +kernel)⟩,
   ⟨true, true, occurs (up) (by decide +kernel)⟩,
   ⟨0, occurs (up) (by decide +kernel)⟩,
   occurs (up) (by decide +kernel),
   occurs ({ up with boot := { state := .halted } }) (by decide +kernel),
   ⟨23, occurs (up) (by decide +kernel)⟩,
   ⟨15, occurs (up) (by decide +kernel)⟩,
   ⟨11, occurs (up) (by decide +kernel)⟩,
   ⟨0, pin0, occurs ({ inTrain with dir := { inForce := some train, pins := [pin0] }, clk := { now := 2000000000 } }) (by decide +kernel)⟩,
   ⟨0, pin0, occurs ({ inTrain with dir := { inForce := some train, pins := [pin0] }, clk := { now := 1999999999 } }) (by decide +kernel)⟩⟩

theorem witness_VehiclePortEvents :
    (∃ p, Occurs (fun c => c.vportOn p = false ∨ (c.vport p).linkUp = false)) ∧
    (∃ p, Occurs (Ready.portUp p)) ∧
    (∃ p, ∃ err : Nat, ∃ f, ∃ l, Occurs (fun c => Ready.portUp p c ∧ err ≠ 2 ∧ macFaults (u16 (c.vport p).config 8) err f = l ∧ l ≠ [])) ∧
    (∃ p, ∃ f, Occurs (fun c => Ready.portUp p c ∧ fcsGood f = false ∧ 64 ≤ f.length ∧ f.length ≤ u16 (c.vport p).config 8)) ∧
    (∃ p, ∃ f, Occurs (fun c => Ready.portUp p c ∧ fcsGood f = true ∧ f.length < 64 ∧ f.length ≤ u16 (c.vport p).config 8)) ∧
    (∃ p, ∃ f, Occurs (fun c => Ready.portUp p c ∧ fcsGood f = true ∧ 64 ≤ f.length ∧ u16 (c.vport p).config 8 < f.length)) ∧
    (∃ p, ∃ f, Occurs (fun c => Ready.frameOk p f c)) ∧
    (∃ p, ∃ f, Occurs (fun c => Ready.frameOk p f c ∧ bAt (f.take (f.length - 4)) 12 2 = 0x8808 ∧ bAt (f.take (f.length - 4)) 14 2 = 1)) ∧
    (∃ p, ∃ f, ∃ a, Occurs (fun c => Ready.frameOk p f c ∧ bAt (f.take (f.length - 4)) 12 2 ≠ 0x8808 ∧ tagged (f.take (f.length - 4)) = false ∧ ((c.vport p).addrs.find? fun a => u8 a 6 != 0 && a.take 6 == (f.take (f.length - 4)).take 6) = some a ∧ u8 a 6 = 1)) ∧
    (∃ p, ∃ f, Occurs (fun c => Ready.frameOk p f c ∧ bAt (f.take (f.length - 4)) 12 2 ≠ 0x8808 ∧ ((c.vport p).addrs.find? fun a => u8 a 6 != 0 && a.take 6 == (f.take (f.length - 4)).take 6) = none ∧ u8 (c.vport p).config 4 = 0)) ∧
    (∃ p, ∃ u, Occurs (fun c => (c.vport p).pausedUntil = some u ∧ u ≤ c.clk.now ∧ (c.vport p).pauseLong = false)) ∧
    (∃ p, ∃ u, Occurs (fun c => (c.vport p).pausedUntil = some u ∧ u ≤ c.clk.now ∧ (c.vport p).pauseLong = true)) ∧
    (∃ p, ∃ e, ∃ es, Occurs (fun c => Ready.portUp p c ∧ (c.vport p).paused c.clk.now = false ∧ (c.qm.queue (egressQueue p true)).entries = e :: es)) ∧
    (∃ p, ∃ e, ∃ es, Occurs (fun c => Ready.portUp p c ∧ (c.vport p).paused c.clk.now = false ∧ (c.qm.queue (egressQueue p true)).entries = [] ∧ (c.qm.queue (egressQueue p false)).entries = e :: es ∧ (c.vport p).preempt = false)) ∧
    (∃ p, ∃ e, ∃ es, Occurs (fun c => Ready.portUp p c ∧ (c.vport p).paused c.clk.now = false ∧ (c.qm.queue (egressQueue p true)).entries = [] ∧ (c.qm.queue (egressQueue p false)).entries = e :: es ∧ (c.vport p).preempt = true)) ∧
    (∃ p, Occurs (fun c => c.vportOn p = false ∨ (c.vport p).linkUp = false ∨ (c.vport p).paused c.clk.now = true)) ∧
    (∃ p, Occurs (fun c => c.vportOn p = true ∧ (c.vport p).linkUp = false)) ∧
    (∃ p, Occurs (fun c => c.vportOn p = true ∧ (c.vport p).linkUp = true)) :=
  ⟨⟨11, occurs (up) (by decide +kernel)⟩,
   ⟨11, occurs (withPort portUp) (by decide +kernel)⟩,
   ⟨4, 0, zeros 64, [macRxFcs], occurs (withPort portUp) (by decide +kernel)⟩,
   ⟨4, zeros 64, occurs (withPort portUp) (by decide +kernel)⟩,
   ⟨4, withFcs (zeros 59), occurs (withPort portUp) (⟨rfl, by decide +kernel, fcsGood_sealed _, by decide +kernel, by decide +kernel⟩)⟩,
   ⟨4, withFcs (zeros 1519), occurs (withPort portUp) (⟨rfl, by decide +kernel, fcsGood_sealed _, by decide +kernel, by decide +kernel⟩)⟩,
   ⟨4, withFcs (zeros 60), occurs (withPort portUp) (by decide +kernel)⟩,
   ⟨11, withFcs (zeros 12 ++ [0x88, 8, 0, 1] ++ zeros 44), occurs (withPort portUp) (by decide +kernel)⟩,
   ⟨11, withFcs (zeros 60), zeros 6 ++ [1] ++ zeros 25, occurs (withPort { portUp with addrs := [zeros 6 ++ [1] ++ zeros 25] }) (by decide +kernel)⟩,
   ⟨11, withFcs (zeros 60), occurs (withPort portUp) (by decide +kernel)⟩,
   ⟨11, 0, occurs (withPort { pausedUntil := some 0 }) (by decide +kernel)⟩,
   ⟨11, 0, occurs (withPort { pausedUntil := some 0, pauseLong := true }) (by decide +kernel)⟩,
   ⟨11, { data := zeros 60 }, [], occurs (withQueue 30 [{ data := zeros 60 }] (withPort portUp)) (by decide +kernel)⟩,
   ⟨11, { data := zeros 60 }, [], occurs (withQueue 31 [{ data := zeros 60 }] (withPort portUp)) (by decide +kernel)⟩,
   ⟨11, { data := zeros 60 }, [], occurs (withQueue 31 [{ data := zeros 60 }] (withPort { portUp with preempt := true })) (by decide +kernel)⟩,
   ⟨11, occurs (up) (by decide +kernel)⟩,
   ⟨11, occurs (withPort { running := true }) (by decide +kernel)⟩,
   ⟨11, occurs (withPort portUp) (by decide +kernel)⟩⟩

theorem witness_RingMemoryEvents :
    (∃ q, Occurs (fun c => c.ringOn q = true)) ∧
    (∃ q, Occurs (fun c => c.ringOn q = false)) ∧
    (∃ q, ∃ e, ∃ es, Occurs (fun c => c.ringOn q = true ∧ isRx q = true ∧ (c.qm.queue q).entries = e :: es ∧ (c.eth.ring q).owned.length < max 1 (ceilDiv e.data.length (c.eth.ring q).bufSize))) ∧
    (∃ q, ∃ e, ∃ es, ∃ d, ∃ ds, Occurs (fun c => c.ringOn q = true ∧ isRx q = true ∧ (c.qm.queue q).entries = e :: es ∧ (c.qm.queue q).droppedSince = false ∧ max 1 (ceilDiv e.data.length (c.eth.ring q).bufSize) = 1 ∧ (c.eth.ring q).owned = d :: ds ∧ pieces 1 (c.eth.ring q).bufSize e.data = [e.data])) ∧
    (∃ q, ∃ more : List Bytes, ∃ d, ∃ ds, Occurs (fun c => Ready.chain q more (d :: ds) c ∧ chainOk (d :: ds) = false)) ∧
    (∃ q, ∃ more : List Bytes, ∃ bufs : List Bytes, ∃ d, ∃ ds, ∃ c1, Occurs (fun c => Ready.chainGood q more bufs d ds c1 c ∧ (u8 d 10).testBit 5 = false)) ∧
    (∃ q, ∃ more : List Bytes, ∃ bufs : List Bytes, ∃ d, ∃ ds, ∃ c1, Occurs (fun c => Ready.chainGood q more bufs d ds c1 c ∧ (u8 d 10).testBit 5 = true)) ∧
    (∃ q, ∃ more : List Bytes, Occurs (fun c => c.ringOn q = false ∨ isRx q = true ∨ (c.eth.waits.any fun w => w.ring == q) = true ∨ takeChain 17 true (Ready.descs q more c) = [])) ∧
    Occurs (fun c => c.mem.state = .training) ∧
    Occurs (fun c => c.mem.state = .training) ∧
    Occurs (fun c => c.mem.state ≠ .training) ∧
    Occurs (fun c => c.mem.state = .running) ∧
    Occurs (fun c => c.mem.state ≠ .running) ∧
    Occurs (fun c => c.mem.stopping = true ∧ c.memDrained = true) ∧
    Occurs (fun c => c.mem.stopping = false ∨ c.memDrained = false) ∧
    Occurs (fun c => c.mem.stopping = true ∧ (∀ q < 64, (c.qm.queue q).spilling = false)) ∧
    (∃ q, Occurs (fun c => c.mem.stopping = true ∧ (c.qm.queue q).spilling = true ∧ (∀ k < 64, k ≠ q → (c.qm.queue k).spilling = false) ∧ c.qm.queues.length = 64)) ∧
    Occurs (fun c => c.mem.stopping = false) :=
  ⟨⟨59, occurs (withRing { enabled := true }) (by decide +kernel)⟩,
   ⟨59, occurs (up) (by decide +kernel)⟩,
   ⟨55, { data := [0] }, [], occurs (withQueue 55 [{ data := [0] }] (withRing { enabled := true, bufSize := 64 })) (by decide +kernel)⟩,
   ⟨55, { data := [0] }, [], zeros 64, [], occurs (withQueue 55 [{ data := [0] }] (withRing { enabled := true, bufSize := 64, owned := [zeros 64] })) (by decide +kernel)⟩,
   ⟨59, [], zeros 64, [], occurs (withRing { enabled := true, owned := [zeros 64] }) (by decide +kernel)⟩,
   ⟨59, [], [zeros 64], txDesc 7, [], okOf (((ringPort (txDesc 7)).tick 0).placeAll 59 (txDesc 7) none (chainFrames (txDesc 7) (Ready.chainData [txDesc 7] [zeros 64]))), occurs (ringPort (txDesc 7)) (⟨by decide +kernel, ⟨by decide +kernel, by decide +kernel, by decide +kernel, by decide +kernel, by decide +kernel, okOf_eq (by decide +kernel)⟩, by decide⟩)⟩,
   ⟨59, [], [zeros 64], txDesc 39, [], okOf (((ringPort (txDesc 39)).tick 0).placeAll 59 (txDesc 39) (some 0) (chainFrames (txDesc 39) (Ready.chainData [txDesc 39] [zeros 64]))), occurs (ringPort (txDesc 39)) (⟨by decide +kernel, ⟨by decide +kernel, by decide +kernel, by decide +kernel, by decide +kernel, by decide +kernel, okOf_eq (by decide +kernel)⟩, by decide⟩)⟩,
   ⟨48, [], occurs (up) (by decide +kernel)⟩,
   occurs (withMem .training) (by decide +kernel),
   occurs (withMem .training) (by decide +kernel),
   occurs (up) (by decide +kernel),
   occurs (withMem .running) (by decide +kernel),
   occurs (up) (by decide +kernel),
   occurs ({ up with mem := { stopping := true } }) (by decide +kernel),
   occurs (up) (by decide +kernel),
   occurs ({ up with mem := { stopping := true } }) (by decide +kernel),
   ⟨63, occurs (withQueue 63 [{ data := [0], inDdr := true }] { up with mem := { stopping := true } }) (by decide +kernel)⟩,
   occurs (up) (by decide +kernel)⟩

theorem witness_IslandLinkEvents :
    (Happens fun c => c.safe.nutmeg.on = true ∧ c.safe.farewell ≠ some 0) ∧
    Happens (fun c => c.safe.toMace.isSome = true ∧ c.safe.mace.on = true) ∧
    (∃ fr, Happens (fun c => c.safe.toMace = some fr ∧ c.safe.mace.on = true ∧ c.safe.last = none)) ∧
    (∃ fr, Happens (fun c => Ready.answered fr c)) ∧
    (∃ fr, Happens fun c => Ready.answered fr c ∧ c.safe.redeliver = false ∧ fr.state = .safeStop ∧ fr.safeStop = true ∧ c.safe.nutmeg.state ≠ .safeStop) ∧
    (∃ fr, ∃ good, Happens (fun c => c.safe.toNutmeg = some fr ∧ c.safe.nutmeg.on = true ∧ c.safe.redeliver = false ∧ (good && c.safe.sent.any fun x => x.1 == fr.number && decide (c.clk.now ≤ x.2 + 2000000)) = false)) ∧
    Happens (fun c => c.safe.mace.on = true) ∧
    Happens (fun c => c.safe.nutmeg.on = true) ∧
    Happens (fun c => c.safe.nutmeg.on = false) ∧
    (Happens fun c => c.safe.mace.on = true ∧ c.safe.mace.state = .running) ∧
    (Happens fun c => c.safe.nutmeg.on = true ∧ c.safe.nutmeg.state ≠ .safeStop) ∧
    (∃ w, Happens (fun c => c.safe.nutmeg.on = true ∧ 850000 ≤ w ∧ w ≤ 1150000)) ∧
    (∃ w, Happens (fun c => c.safe.nutmeg.on = true ∧ ¬(850000 ≤ w ∧ w ≤ 1150000) ∧ c.safe.clockBad = 0)) ∧
    (∃ w : Nat, Happens fun c => c.safe.nutmeg.on = true ∧ ¬(850000 ≤ w ∧ w ≤ 1150000) ∧ 1 ≤ c.safe.clockBad ∧ c.safe.nutmeg.state ≠ .safeStop) :=
  ⟨happens (withIsland { nutmeg := chanIn .hold }) (by decide +kernel),
   happens (withIsland { mace := chanIn .hold, toMace := some safeFrame }) (by decide +kernel),
   ⟨safeFrame, happens (withIsland { mace := chanIn .hold, toMace := some safeFrame }) (by decide +kernel)⟩,
   ⟨safeFrame, happens (withIsland { toNutmeg := some safeFrame, nutmeg := chanIn .hold, sent := [(0, 0)] }) (by decide +kernel)⟩,
   ⟨{ safeFrame with state := .safeStop, safeStop := true }, happens (withIsland { toNutmeg := some { safeFrame with state := .safeStop, safeStop := true }, nutmeg := chanIn .hold, sent := [(0, 0)] }) (by decide +kernel)⟩,
   ⟨safeFrame, true, happens (withIsland { nutmeg := chanIn .hold, toNutmeg := some safeFrame }) (by decide +kernel)⟩,
   happens (withIsland { mace := chanIn .hold }) (by decide +kernel),
   happens (withIsland { nutmeg := chanIn .hold }) (by decide +kernel),
   happens (up) (by decide +kernel),
   happens (withIsland { mace := chanIn .running }) (by decide +kernel),
   happens (withIsland { nutmeg := chanIn .hold }) (by decide +kernel),
   ⟨850000, happens (withIsland { nutmeg := chanIn .hold }) (by decide +kernel)⟩,
   ⟨1150001, happens (withIsland { nutmeg := chanIn .hold }) (by decide +kernel)⟩,
   ⟨849999, happens (withIsland { nutmeg := chanIn .hold, clockBad := 1 }) (by decide +kernel)⟩⟩

theorem witness_IslandChannelEvents :
    (∃ n, Happens (fun c => (c.safe.chan n).on = false)) ∧
    (∃ n : Bool, Happens fun c => (c.safe.chan n).on = true ∧ (c.safe.chan n).set = none) ∧
    (∃ n : Bool, Happens fun c => (c.safe.chan n).on = true) ∧
    Happens (fun _ => True) ∧
    (∃ j, Happens (fun c => Ready.pulsed j c ∧ c.safe.nutmeg.on = true ∧ c.safe.nutmeg.set.isSome = true)) ∧
    (∃ j, Happens (fun c => Ready.pulsed j c ∧ c.safe.nutmeg.on = false)) ∧
    (∃ j, Happens (fun c => c.safe.pulsesSource j = false)) ∧
    (∃ k, Happens (fun c => c.safe.pulses k = true)) ∧
    (∃ k, Happens (fun c => c.safe.pulses k = false)) ∧
    (∃ n, ∃ o, Happens (fun c => (c.safe.chan n).set.isSome = true ∧ outFn (c.safe.chan n).params o = 3)) ∧
    (∃ at0, Happens (fun c => c.safe.nutmeg.ack = .pressed at0)) ∧
    (∃ at0, Happens (fun c => c.safe.mace.ack = .pressed at0)) :=
  ⟨⟨true, happens (up) (by decide +kernel)⟩,
   ⟨true, happens (withIsland { nutmeg := chanIn .unconfigured }) (by decide +kernel)⟩,
   ⟨true, happens (withIsland { nutmeg := chanIn .running }) (by decide +kernel)⟩,
   happens (up) (by decide +kernel),
   ⟨15, happens (withIsland { mace := { chanIn .running with set := some set15, due := 0x8000 }, nutmeg := { chanIn .running with set := some set15 } }) (by decide +kernel)⟩,
   ⟨15, happens (withIsland { mace := { chanIn .running with set := some set15, due := 0x8000 } }) (by decide +kernel)⟩,
   ⟨15, happens (up) (by decide +kernel)⟩,
   ⟨6, happens (withIsland { nutmeg := energised, mace := energised, slot := some 6 }) (by decide +kernel)⟩,
   ⟨7, happens (withIsland { nutmeg := energised, mace := energised, slot := some 7 }) (by decide +kernel)⟩,
   ⟨true, 3, happens (withIsland { nutmeg := { chanIn .running with set := some setBrake } }) (by decide +kernel)⟩,
   ⟨0, happens (withIsland { nutmeg := { ack := .pressed 0 } }) (by decide +kernel)⟩,
   ⟨0, happens (withIsland { mace := { ack := .pressed 0 } }) (by decide +kernel)⟩⟩

theorem witness_IslandLifeEvents :
    (∃ n, Happens (fun c => (c.safe.chan n).state ≠ .starting)) ∧
    (∃ n : Bool, Happens fun c => (c.safe.chan n).state = .starting) ∧
    (∃ n : Bool, Happens fun c => (c.safe.chan n).state = .starting ∧ c.safe.nutmeg.set ≠ c.safe.mace.set) ∧
    (∃ n : Bool, Happens fun c => (c.safe.chan n).state = .starting ∧ c.safe.nutmeg.set = c.safe.mace.set ∧ ∀ j < 16, inKind (c.safe.chan n).params (j / 2) = 1 ∨ inKind (c.safe.chan n).params (j / 2) = 2 → (c.safe.chan n).pulsed.getLsbD j = true) ∧
    Happens (fun c => c.clove.companionOff = true) ∧
    Happens (fun c => c.clove.companionOff = false ∧ c.safe.mace.on = false) ∧
    Happens (fun c => c.clove.companionOff = false ∧ c.safe.mace.on = true) ∧
    Happens (fun _ => True) ∧
    Happens (fun _ => True) ∧
    Happens (fun _ => True) :=
  ⟨⟨true, happens (up) (by decide +kernel)⟩,
   ⟨false, happens (withIsland { mace := chanIn .starting }) (by decide +kernel)⟩,
   ⟨false, happens (withIsland { mace := { chanIn .starting with set := some set15 } }) (by decide +kernel)⟩,
   ⟨true, happens (withIsland { mace := { chanIn .starting with set := some set15 }, nutmeg := { chanIn .starting with set := some set15, pulsed := 0xFFFF } }) (by decide +kernel)⟩,
   happens (withClove { companionOff := true }) (by decide +kernel),
   happens (up) (by decide +kernel),
   happens (withIsland { mace := chanIn .hold }) (by decide +kernel),
   happens (up) (by decide +kernel),
   happens (up) (by decide +kernel),
   happens (up) (by decide +kernel)⟩

theorem witness_WakeEvents :
    (∃ rear, Happens (fun c => c.clove.powered = false ∨ c.pwr.trainWake rear = false)) ∧
    (∃ rear, Happens (fun c => c.clove.powered = true ∧ c.pwr.trainWake rear = true ∧ (c.clove.driving = true ∨ c.clk.now < c.clove.refractory))) ∧
    (∃ rear, Happens (fun c => c.clove.powered = true ∧ c.clove.driving = false ∧ c.clove.refractory ≤ c.clk.now ∧ c.pwr.trainWake rear = true ∧ c.clove.state = .sleep)) ∧
    (∃ rear, ∃ d, Happens (fun c => c.clove.powered = true ∧ c.clove.driving = false ∧ c.clove.refractory ≤ c.clk.now ∧ c.pwr.trainWake rear = true ∧ c.clove.state ≠ .sleep ∧ c.wakePulse.pwCount pwPulsesDetected = d)) ∧
    Happens (fun c => c.clove.driving = true) ∧
    Happens (fun c => c.clove.driving = false) ∧
    (∃ n, Happens (fun c => c.pwr.canWake n = true ∧ c.clove.state = .sleep)) ∧
    (∃ n, Happens (fun c => c.pwr.canWake n = true ∧ c.clove.state ≠ .sleep)) ∧
    (∃ n, Happens (fun c => c.pwr.canWake n = false ∨ (c.clove.state ≠ .sleep ∧ c.clove.state ≠ .waking))) ∧
    (∃ p, Happens (fun c => c.pwr.carBusWake p = true ∧ c.clove.state = .sleep)) ∧
    (∃ p, Happens (fun c => c.pwr.carBusWake p = true ∧ c.clove.state ≠ .sleep)) ∧
    (∃ p, Happens (fun c => c.pwr.carBusWake p = false)) ∧
    Happens (fun c => c.pwr.wakeAfter ≠ 0 ∧ c.clove.state = .sleep) ∧
    (Happens fun c => c.pwr.wakeAfter ≠ 0 ∧ c.clove.state = .sleep) ∧
    Happens (fun c => c.pwr.checking = true) ∧
    Happens (fun c => c.pwr.checking = false) :=
  ⟨⟨true, happens (withClove { powered := false }) (by decide +kernel)⟩,
   ⟨true, happens (withPwr { config := 3 :: zeros 31 } (withClove { driving := true })) (by decide +kernel)⟩,
   ⟨true, happens (withClove { state := .sleep }) (by decide +kernel)⟩,
   ⟨true, ((withPwr { config := 2 :: zeros 31 } up).tick 0).wakePulse.pwCount pwPulsesDetected, happens (withPwr { config := 2 :: zeros 31 } up) (⟨by decide +kernel, by decide +kernel, by decide +kernel, by decide +kernel, by decide +kernel, rfl⟩)⟩,
   happens (withClove { driving := true }) (by decide +kernel),
   happens (up) (by decide +kernel),
   ⟨11, happens (withPwr { config := [0, 0, 0, 8] ++ zeros 28 } (withClove { state := .sleep })) (by decide +kernel)⟩,
   ⟨11, happens (withPwr { config := [0, 0, 0, 8] ++ zeros 28 } up) (by decide +kernel)⟩,
   ⟨12, happens (up) (by decide +kernel)⟩,
   ⟨12, happens (withPwr { config := zeros 4 ++ [255, 255, 255] ++ zeros 25 } (withClove { state := .sleep })) (by decide +kernel)⟩,
   ⟨12, happens (withPwr { config := zeros 4 ++ [255, 255, 255] ++ zeros 25 } up) (by decide +kernel)⟩,
   ⟨35, happens (up) (by decide +kernel)⟩,
   happens (withPwr { config := zeros 16 ++ [1] ++ zeros 15 } (withClove { state := .sleep })) (by decide +kernel),
   happens (withPwr { config := zeros 16 ++ [1] ++ zeros 15 } (withClove { state := .sleep })) (by decide +kernel),
   happens (withPwr { checking := true } up) (by decide +kernel),
   happens (up) (by decide +kernel)⟩

theorem witness_SleepAgreementEvents :
    Occurs (fun c => c.rolling = true ∧ c.pwr.votes.isSome = true ∧ c.recordedLeader = false) ∧
    Occurs (fun c => c.rolling = false ∨ c.pwr.votes = none ∨ c.recordedLeader = true) ∧
    (∃ p, ∃ raw : Sourced, ∃ m, ∃ d, Occurs (fun c => Ready.sleepMsg p raw m c ∧ m.request = true ∧ m.expiry = 0 ∧ c.recordedLeader = true ∧ m.epoch = c.epoch ∧ m.release = true ∧ Ready.leaseCopy p raw c = (true, d))) ∧
    (∃ p, ∃ raw : Sourced, ∃ m, ∃ d, Occurs (fun c => Ready.sleepMsg p raw m c ∧ m.request = true ∧ m.expiry = 0 ∧ c.recordedLeader = true ∧ m.epoch = c.epoch ∧ m.release = false ∧ Ready.leaseCopy p raw c = (true, d) ∧ ((d.pwr.held.filter fun v => decide (d.clk.now ≤ v.last + 300000000)).find? fun v => v.node == m.holder) = none)) ∧
    (∃ p, ∃ raw : Sourced, ∃ m, Occurs (fun c => Ready.sleepMsg p raw m c ∧ m.request = true ∧ m.expiry = 0 ∧ c.recordedLeader = false)) ∧
    (∃ p, ∃ raw : Sourced, ∃ m, Occurs (fun c => Ready.sleepMsg p raw m c ∧ m.request = true ∧ m.expiry = 0 ∧ c.recordedLeader = true ∧ m.epoch ≠ c.epoch)) ∧
    Occurs (fun _ => True) ∧
    Occurs (fun c => c.rolling = true ∧ c.actsAsLeader = true ∧ c.timeValid = true ∧ (c.rc.state = .settled ∨ c.rc.state = .held) ∧ c.pwr.lastAbort = none ∧ c.pwr.grant = none ∧ c.clove.state = .awake ∧ c.nodeCount ≠ 0 ∧ c.votersNeeded.all (c.voteHeld c.pwr.settle) = true) ∧
    Occurs (fun c => c.rolling = false ∨ c.actsAsLeader = false ∨ c.votersNeeded.all (c.voteHeld c.pwr.settle) = false) ∧
    (∃ p, ∃ raw : Sourced, ∃ m, ∃ d, Occurs (fun c => Ready.sleepMsg p raw m c ∧ m.request = false ∧ m.release = false ∧ Ready.leaseCopy p raw (c.relayLease p raw.outer m) = (true, d))) ∧
    (∃ p, ∃ raw : Sourced, ∃ m, ∃ d, Occurs (fun c => Ready.sleepMsg p raw m c ∧ m.request = false ∧ m.release = false ∧ Ready.leaseCopy p raw (c.relayLease p raw.outer m) = (false, d))) ∧
    (∃ p, ∃ raw : Sourced, ∃ m, Occurs (fun c => Ready.sleepMsg p raw m c ∧ m.request = true ∧ m.release = true ∧ m.expiry ≠ 0 ∧ c.recordedLeader = false)) ∧
    (∃ p, ∃ raw : Sourced, ∃ m, ∃ d, ∃ g, Occurs (fun c => Ready.sleepMsg p raw m c ∧ m.request = true ∧ m.release = true ∧ m.expiry ≠ 0 ∧ c.recordedLeader = true ∧ Ready.leaseCopy p raw c = (true, d) ∧ d.pwr.grant = some g ∧ m.epoch = d.epoch ∧ m.expiry = g.sleep ∧ m.start < g.commit)) ∧
    (∃ p, ∃ raw : Sourced, ∃ m, ∃ d, ∃ g, Occurs (fun c => Ready.sleepMsg p raw m c ∧ m.request = true ∧ m.release = true ∧ m.expiry ≠ 0 ∧ c.recordedLeader = true ∧ Ready.leaseCopy p raw c = (true, d) ∧ d.pwr.grant = some g ∧ (m.epoch ≠ d.epoch ∨ m.expiry ≠ g.sleep ∨ g.commit ≤ m.start))) ∧
    (∃ p, ∃ raw : Sourced, ∃ m, ∃ d, ∃ g, Occurs (fun c => Ready.sleepMsg p raw m c ∧ m.request = false ∧ m.release = true ∧ Ready.leaseCopy p raw (c.relayLease p raw.outer m) = (true, d) ∧ (d.heardSchedule m).pwr.grant = some g)) ∧
    (∃ p, ∃ raw : Sourced, ∃ m, ∃ d, Occurs (fun c => Ready.sleepMsg p raw m c ∧ m.request = false ∧ m.release = true ∧ Ready.leaseCopy p raw (c.relayLease p raw.outer m) = (true, d) ∧ (d.heardSchedule m).pwr.grant = none)) ∧
    (∃ p, ∃ raw : Sourced, ∃ m, ∃ d, Occurs (fun c => Ready.sleepMsg p raw m c ∧ m.request = false ∧ m.release = true ∧ Ready.leaseCopy p raw (c.relayLease p raw.outer m) = (false, d))) :=
  ⟨occurs (withPwr { votes := some 0 } following) (by decide +kernel),
   occurs (up) (by decide +kernel),
   ⟨3, { bytes := (sleepMsg 6 0 0).bytes }, sleepMsg 6 0 0, copyOf (leading) 3 { bytes := (sleepMsg 6 0 0).bytes }, occurs (leading) (⟨rfl, by decide +kernel, by decide +kernel, by decide +kernel, by decide +kernel, by decide +kernel, by decide +kernel, copy_eq (by decide +kernel)⟩)⟩,
   ⟨3, { bytes := (sleepMsg 4 0 0).bytes }, sleepMsg 4 0 0, copyOf (leading) 3 { bytes := (sleepMsg 4 0 0).bytes }, occurs (leading) (⟨rfl, by decide +kernel, by decide +kernel, by decide +kernel, by decide +kernel, by decide +kernel, by decide +kernel, copy_eq (by decide +kernel), by decide +kernel⟩)⟩,
   ⟨3, { bytes := (sleepMsg 4 0 0).bytes }, sleepMsg 4 0 0, occurs (following) (by decide +kernel)⟩,
   ⟨3, { bytes := ({ sleepMsg 4 0 0 with epoch := 9 }).bytes }, { sleepMsg 4 0 0 with epoch := 9 }, occurs (leading) (by decide +kernel)⟩,
   occurs (up) (by decide +kernel),
   occurs (agreed) (by decide +kernel),
   occurs (up) (by decide +kernel),
   ⟨3, { bytes := (sleepMsg 0 0 0).bytes }, sleepMsg 0 0 0, relayOf (following) 3 { bytes := (sleepMsg 0 0 0).bytes } (sleepMsg 0 0 0), occurs (following) (⟨rfl, by decide +kernel, by decide +kernel, by decide +kernel, copy_eq (by decide +kernel)⟩)⟩,
   ⟨3, { outer := { source := 0x22 }, bytes := (sleepMsg 0 0 0).bytes }, sleepMsg 0 0 0, relayOf ({ following with bb := { following.bb with dups := [{ source := 0x22, session := 0, stream := 0, tc := 3, highest := 0, map := 1, lastUse := 0 }] } }) 3 { outer := { source := 0x22 }, bytes := (sleepMsg 0 0 0).bytes } (sleepMsg 0 0 0), occurs ({ following with bb := { following.bb with dups := [{ source := 0x22, session := 0, stream := 0, tc := 3, highest := 0, map := 1, lastUse := 0 }] } }) (⟨rfl, by decide +kernel, by decide +kernel, by decide +kernel, copy_eq (by decide +kernel)⟩)⟩,
   ⟨3, { bytes := (sleepMsg 6 1 5).bytes }, sleepMsg 6 1 5, occurs (following) (by decide +kernel)⟩,
   ⟨3, { bytes := (sleepMsg 6 1 5).bytes }, sleepMsg 6 1 5, copyOf (withPwr { grant := some grant0 } leading) 3 { bytes := (sleepMsg 6 1 5).bytes }, grant0, occurs (withPwr { grant := some grant0 } leading) (⟨rfl, by decide +kernel, by decide +kernel, by decide +kernel, by decide +kernel, by decide +kernel, copy_eq (by decide +kernel), by decide +kernel, by decide +kernel, by decide +kernel, by decide +kernel⟩)⟩,
   ⟨3, { bytes := (sleepMsg 6 2 5).bytes }, sleepMsg 6 2 5, copyOf (withPwr { grant := some grant0 } leading) 3 { bytes := (sleepMsg 6 2 5).bytes }, grant0, occurs (withPwr { grant := some grant0 } leading) (⟨rfl, by decide +kernel, by decide +kernel, by decide +kernel, by decide +kernel, by decide +kernel, copy_eq (by decide +kernel), by decide +kernel, by decide +kernel⟩)⟩,
   ⟨3, { bytes := (sleepMsg 2 0 0).bytes }, sleepMsg 2 0 0, relayOf (withPwr { grant := some grant0 } following) 3 { bytes := (sleepMsg 2 0 0).bytes } (sleepMsg 2 0 0), grant0, occurs (withPwr { grant := some grant0 } following) (⟨rfl, by decide +kernel, by decide +kernel, by decide +kernel, copy_eq (by decide +kernel), by decide +kernel⟩)⟩,
   ⟨3, { bytes := (sleepMsg 2 0 0).bytes }, sleepMsg 2 0 0, relayOf (following) 3 { bytes := (sleepMsg 2 0 0).bytes } (sleepMsg 2 0 0), occurs (following) (⟨rfl, by decide +kernel, by decide +kernel, by decide +kernel, copy_eq (by decide +kernel), by decide +kernel⟩)⟩,
   ⟨3, { outer := { source := 0x22 }, bytes := (sleepMsg 2 0 0).bytes }, sleepMsg 2 0 0, relayOf ({ following with bb := { following.bb with dups := [{ source := 0x22, session := 0, stream := 0, tc := 3, highest := 0, map := 1, lastUse := 0 }] } }) 3 { outer := { source := 0x22 }, bytes := (sleepMsg 2 0 0).bytes } (sleepMsg 2 0 0), occurs ({ following with bb := { following.bb with dups := [{ source := 0x22, session := 0, stream := 0, tc := 3, highest := 0, map := 1, lastUse := 0 }] } }) (⟨rfl, by decide +kernel, by decide +kernel, by decide +kernel, copy_eq (by decide +kernel)⟩)⟩⟩

theorem witness_SleepEntryEvents :
    (∃ g, Occurs (fun c => c.pwr.grant = some g ∧ c.clove.state = .armed)) ∧
    (∃ g, Occurs (fun c => c.pwr.grant = some g ∧ c.clove.state = .awake ∧ g.asked = true)) ∧
    Occurs (fun c => c.pwr.grant = none) ∧
    Happens (fun c => c.clove.state = .armed ∧ c.clove.countdown.isSome = true) ∧
    Happens (fun c => c.clove.state ≠ .armed ∨ c.clove.countdown = none) ∧
    Happens (fun c => c.clove.state = .prepare ∧ c.clove.switching = false ∧ c.firmware = true ∧ (3 ≤ c.safe.plannedSent ∨ c.safe.nutmeg.on = false)) ∧
    Happens (fun c => c.clove.state ≠ .prepare ∨ c.clove.switching = true ∨ c.firmware = false ∨ (c.safe.plannedSent < 3 ∧ c.safe.nutmeg.on = true)) ∧
    Happens (fun c => c.clove.state = .prepare ∧ c.clove.switching = false) ∧
    Happens (fun c => c.clove.state ≠ .prepare ∨ c.clove.switching = true) ∧
    (Happens fun c => c.clove.state = .prepare ∧ c.clove.switching = true ∧ c.clove.latched = false) ∧
    (Happens fun c => c.clove.powered = true ∧ c.clove.state = .awake) ∧
    Happens (fun _ => True) ∧
    (∃ a, Happens (fun c => c.firmware = true ∧ c.clove.healthy a = true)) ∧
    (∃ a, Happens (fun c => c.firmware = true ∧ c.clove.healthy a = false ∧ (c.clove.state = .awake ∨ c.clove.state = .waking ∨ c.clove.state = .sleep))) ∧
    (∃ a, Happens (fun c => c.firmware = true ∧ c.clove.healthy a = false ∧ c.clove.state = .armed)) ∧
    (∃ a, Happens (fun c => c.firmware = true ∧ c.clove.healthy a = false ∧ c.clove.state = .prepare)) ∧
    Happens (fun c => c.firmware = false) ∧
    Happens (fun c => c.clove.powered = false ∨ c.clove.state = .sleep ∨ c.log.state = .failed) ∧
    Happens (fun c => c.clove.powered = true ∧ c.clove.state ≠ .sleep ∧ c.log.state ≠ .failed) :=
  ⟨⟨grant0, occurs (withPwr { grant := some grant0 } (withClove { state := .armed })) (by decide +kernel)⟩,
   ⟨grant0, occurs (withPwr { grant := some grant0 } up) (by decide +kernel)⟩,
   occurs (up) (by decide +kernel),
   happens (withClove { state := .armed, countdown := some 0 }) (by decide +kernel),
   happens (up) (by decide +kernel),
   happens (withClove { state := .prepare }) (by decide +kernel),
   happens (up) (by decide +kernel),
   happens (withClove { state := .prepare }) (by decide +kernel),
   happens (up) (by decide +kernel),
   happens (withClove { state := .prepare, switching := true }) (by decide +kernel),
   happens up (by decide +kernel),
   happens (up) (by decide +kernel),
   ⟨none, happens (up) (by decide +kernel)⟩,
   ⟨none, happens (withClove { challenged := true }) (by decide +kernel)⟩,
   ⟨none, happens (withClove { challenged := true, state := .armed }) (by decide +kernel)⟩,
   ⟨some 7, happens (withClove { challenged := true, challenge := 7, state := .prepare }) (by decide +kernel)⟩,
   happens (withBoot {}) (by decide +kernel),
   happens (withClove { powered := false }) (by decide +kernel),
   happens (up) (by decide +kernel)⟩

theorem witness_StartEvents :
    Happens (fun c => c.clove.powered = true) ∧
    (Happens fun c => c.clove.powered = false) ∧
    True ∧
    (Happens fun c => c.clove.powered = true ∧ c.clove.state ≠ .sleep) ∧
    Happens (fun _ => True) ∧
    Happens (fun c => Ready.releasable c ∧ c.clove.waiting = false) ∧
    Happens (fun c => ¬Ready.releasable c ∨ c.clove.waiting = true) ∧
    (Happens fun c => c.boot.state = .booting) ∧
    Happens (fun c => c.boot.state ≠ .booting) ∧
    Happens (fun c => Ready.releasable c ∧ c.clove.waiting = true) ∧
    Happens (fun c => c.clove.waiting = false) ∧
    (Happens fun c => c.boot.restart = some 1) ∧
    Happens (fun c => c.boot.restart = some 0) ∧
    Happens (fun c => c.boot.restart = none ∧ c.boot.down = true) ∧
    Happens (fun c => c.boot.restart = none ∧ c.boot.down = false) ∧
    (Happens fun c => c.firmware = true) ∧
    Happens (fun c => c.firmware = false) ∧
    Happens (fun _ => True) ∧
    Happens (fun _ => True) ∧
    Occurs (fun c => c.log.state = .running ∧ (c.qm.queue 60).entries = []) ∧
    (∃ e, ∃ i, ∃ ecc, Occurs (fun c => c.log.state = .running ∧ (c.takeHead 60 ecc).1 = some e ∧ (c.takeHead 60 ecc).2.log.choose e.data = some i ∧ ((c.takeHead 60 ecc).2.log.slots.any fun x => x.1 == i) = false ∧ recSeverity e.data < u8 e.info 0)) ∧
    (∃ e, ∃ a, Occurs (fun c => c.log.state = .running ∧ (c.qm.queue 60).entries.head? = some e ∧ e.inDdr = false ∧ a < 4294967296)) ∧
    (∃ e, ∃ ecc, Occurs (fun c => c.log.state = .failed ∧ (c.takeHead 60 ecc).1 = some e)) ∧
    Occurs (fun c => c.log.state = .erasing) :=
  ⟨happens (up) (by decide +kernel),
   happens (withClove { powered := false }) (by decide +kernel),
   trivial,
   happens up (by decide +kernel),
   happens (up) (by decide +kernel),
   happens (withBoot {}) (by decide +kernel),
   happens (up) (by decide +kernel),
   happens (withBoot { state := .booting }) (by decide +kernel),
   happens (up) (by decide +kernel),
   happens ({ withClove { waiting := true } with boot := {} }) (by decide +kernel),
   happens (up) (by decide +kernel),
   happens (withBoot { state := .ready, restart := some 1 }) (by decide +kernel),
   happens (withBoot { state := .ready, restart := some 0 }) (by decide +kernel),
   happens (withBoot { down := true }) (by decide +kernel),
   happens (up) (by decide +kernel),
   happens up (by decide +kernel),
   happens (withBoot {}) (by decide +kernel),
   happens (up) (by decide +kernel),
   happens (up) (by decide +kernel),
   occurs ({ up with log := { state := .running } }) (by decide +kernel),
   ⟨{ data := zeros 64, info := [1] }, 0, some 4294967296, occurs (withQueue 60 [{ data := zeros 64, info := [1] }] { up with log := { state := .running } }) (by decide +kernel)⟩,
   ⟨{ data := [] }, 0, occurs (withQueue 60 [{ data := [] }] { up with log := { state := .running } }) (by decide +kernel)⟩,
   ⟨{ data := zeros 64 }, none, occurs (withQueue 60 [{ data := zeros 64 }] { up with log := { state := .failed } }) (by decide +kernel)⟩,
   occurs ({ up with log := { state := .erasing } }) (by decide +kernel)⟩

/-- The witnesses of the rules of the whole block. -/
theorem witness_StepRunsTheFrontCommand : State.reset.pending = [] := rfl

theorem witness_PortCounters :
    (∃ l, Meets 0x0806 fun c r => Ready.port 0 11 c r ∧ c.eth.mac[u8 r 0]? = some l) ∧ ∃ (c : Chip) (p i : Nat) (l : List Nat), c.eth.mac[p]? = some l ∧ i < l.length :=
  ⟨⟨List.replicate 18 0, meets up [11, 0, 0, 0] (by decide +kernel)⟩, up, 11, 17, List.replicate 18 0, by decide, by decide⟩

theorem witness_SwitchInstant : ∃ f, Occurs (fun c => c.rc.state = .composing ∧ c.reportsComplete = true ∧ c.rc.facts = some f) :=
  ⟨facts, occurs (withRc { state := .composing, facts := some facts, reports := [{ index := 1 }, { index := 2 }] }) (by decide +kernel)⟩

theorem witness_OpcodesDefined : ∃ op, op < 65536 ∧ op ∉ mailboxRows.map (·.1) ∧ ∃ d : Doorbell, Occurs (fun c => d.mb < 8 ∧
    ((c.host.mb d.mb).state = .idle ∨ (c.host.mb d.mb).state = .done) ∧ (op / 256 = 0x0D ∨ c.host.heldBehind (op / 256) c.host.nextOrder = false)) :=
  ⟨0xFFFF, by decide, by decide +kernel, { mb := 7, tag := 0, length := 0 }, occurs up (by decide +kernel)⟩

/-- DIR_UNPIN with a request of the wrong length, DIR_PIN without a snapshot, and a request of 513 bytes. -/
theorem witness_RefusalChangesNothing :
    (∃ row ∈ mailboxRows, ∃ m, cmdOf row.1 = some m ∧ ∃ f, Meets row.1 fun c r => leastFail (m.form c r) = some f) ∧
    (∃ row ∈ mailboxRows, ∃ m, cmdOf row.1 = some m ∧ ∃ f, Meets row.1 fun c r => leastFail (m.form c r) = none ∧ firstFail (m.state c r) = some f) ∧
    (∃ row ∈ mailboxRows, Meets row.1 fun _ r => r.length > 512) :=
  ⟨⟨(0x0100, .dirStatus), by simp [mailboxRows], dirStatus, rfl, (1, 0), meets up (zeros 8) (by decide +kernel)⟩,
   ⟨(0x0101, .dirPin), by simp [mailboxRows], dirPin, rfl, (6, 0), meets up [] (by decide +kernel)⟩,
   (0x0100, .dirStatus), by simp [mailboxRows], meets up (zeros 513) (by decide +kernel)⟩

theorem witness_CompletionWritten : ∃ (c : Chip) (n : Nat), n < 8 ∧ c.host.mailboxes.length = 8 ∧ (c.host.mb n).response.wf := ⟨up, 7, by decide, by decide, by decide⟩

theorem witness_FusesOnlyBlow : (∃ s s', Machine.step s = .next s') ∧ ∃ i s s', mayAdvance i = false ∧ Machine.exec i s = .next s' :=
  ⟨⟨State.reset, _, rfl⟩, .powerUp 0, State.reset, _, rfl, rfl⟩

theorem witness_IslandOffUnlessRunning : ∃ s s', s.chip.islandQuiet ∧ Machine.step s = .next s' ∧ s.chip.safe.nutmeg.state = .running :=
  ⟨⟨withIsland { nutmeg := energised, mace := energised }, [.maceLinkTimeout 0]⟩, _, by unfold Chip.islandQuiet SafeChan.quiet; decide +kernel, rfl, rfl⟩

theorem witness_OnlyEvaluationEnergises : ∃ i s s' n o, (∀ t n l rb, i ≠ .safeFunctionEval t n l rb) ∧ Machine.exec i s = .next s' ∧ ((s'.chip.safe.chan n).outp o).demand = true :=
  ⟨.crystalStable 0, ⟨withIsland { nutmeg := energised, mace := energised }, []⟩, _, true, 3, fun _ _ _ _ h => Instr.noConfusion h, rfl, by decide +kernel⟩

theorem witness_FirmwareFrame :
    (∃ old c : Chip, c.rc.notices = [] ∧ c.bb.firstDue = false ∧ c.rolling = true ∧ c.namedLine = old.namedLine) ∧
    (∃ c : Chip, c.bb.held = [] ∧ c.eth.waits = [] ∧ c.rc.notices = [] ∧ c.bb.firstDue = false ∧ c.rolling = false ∧ c.firmware = false) ∧
    ∃ old c : Chip, c.bb.held = [] ∧ c.eth.waits = [] ∧ c.rc.notices = [] ∧ c.bb.firstDue = false ∧ c.rolling = false ∧ c.firmware = true ∧ c.dir.inForce = old.dir.inForce ∧
      c.pwr.grant = none ∧ c.rc.triggers ≤ old.rc.triggers ∧ (∀ o < 4, c.doorsReleased o = true → old.doorsReleased o = true) ∧ c.pwr.checking = false ∧
      c.pwr.votes.isSome = c.mayVote :=
  ⟨⟨inTrain, inTrain, by decide +kernel⟩, ⟨{}, by decide +kernel⟩, up, up, by decide +kernel⟩
end Sys2Proof.Tests
end

section
/-! The switch instant that the leader announces (R86): what rounding up gives, and what COMPOSITION_COMPLETE leaves in the roll-call engine. -/
namespace Sys2Proof.Machine

theorem roundUp_mod (v m : Nat) : roundUp v m % m = 0 := Nat.mul_mod_left _ _

theorem le_roundUp (v : Nat) {m : Nat} (hm : 0 < m) : v ≤ roundUp v m := by
  have h : v + m - 1 < roundUp v m + m := Nat.lt_div_mul_add hm
  omega

theorem roundUp_lt (v : Nat) {m : Nat} (hm : 0 < m) : roundUp v m < v + m := by
  have h : roundUp v m ≤ v + m - 1 := Nat.div_mul_le_self _ _
  omega

/-- A change of the engine's state changes nothing else of the engine. -/
@[simp] theorem Chip.setRc_rc (c : Chip) (st : RcState) : (c.setRc st).rc = { c.rc with state := st } := by
  unfold Chip.setRc
  dsimp only
  split
  · exact Chip.raise_rc _ _
  · rfl

/-- Distributing a snapshot outwards (R75, R88) only sends. -/
theorem Chip.sends_sendSegments (c : Chip) (run : Bool) (s : Snapshot) (first count : Nat) : Chip.Sends c (c.sendSegments run s first count) := by
  unfold Chip.sendSegments
  refine Chip.sends_foldl _ (fun c i => ?_) _ _
  dsimp only
  split
  · exact (c.sends_sendRc _ _).trans (Chip.sends_sendRc _ _ _)
  · exact .refl c

/-- The SwitchInstant of a run of `n` nodes whose ANNOUNCE is sent now (R86); 0 where it is invalid. -/
def Chip.switchAt (c : Chip) (n : Nat) : Nat := if c.timeValid then roundUp (c.trainTime + leadNs n) 250000 else 0

/-- The Lead of that ANNOUNCE: to the rounded instant (R86, R87). -/
def Chip.leadTo (c : Chip) (n : Nat) : Nat := if c.timeValid then roundUp (c.trainTime + leadNs n) 250000 - c.trainTime else leadNs n

theorem Chip.switchAt_of_valid {c : Chip} (h : c.timeValid = true) (n : Nat) : c.switchAt n = roundUp (c.trainTime + leadNs n) 250000 := if_pos h

theorem Chip.leadTo_of_valid {c : Chip} (h : c.timeValid = true) (n : Nat) : c.leadTo n = c.switchAt n - c.trainTime := by
  simp [Chip.leadTo, Chip.switchAt, h]

theorem Chip.switchAt_of_invalid {c : Chip} (h : c.timeValid = false) (n : Nat) : c.switchAt n = 0 := by simp [Chip.switchAt, h]

theorem Chip.leadTo_of_invalid {c : Chip} (h : c.timeValid = false) (n : Nat) : c.leadTo n = leadNs n := by simp [Chip.leadTo, h]

/-- What COMPOSITION_COMPLETE leaves in the leader's roll-call engine: the announced run and its snapshot, under one switch instant, and ARMED. -/
theorem compositionComplete_rc {c : Chip} {f : RunFacts} (hs : c.rc.state = .composing) (hr : c.reportsComplete = true) (hf : c.rc.facts = some f) :
    ∃ a sn, (compositionComplete c).rc = { c.rc with announce := some a, composed := some sn, state := .armed } ∧
      sn.effective = c.switchAt f.n ∧ a.switchInstant = c.switchAt f.n ∧ a.instantValid = c.timeValid ∧ a.lead = c.leadTo f.n := by
  have hgo : ¬(c.rc.state ≠ .composing ∨ !c.reportsComplete) := by simp [hs, hr]
  unfold compositionComplete
  rw [if_neg hgo, hf]
  dsimp only
  refine ⟨?_, ?_, ?rc, ?rest⟩
  case rc =>
    rw [Chip.raiseD_rc, Chip.setRc_rc, (Chip.sends_sendSegments _ _ _ _ _).rc, Chip.sendRc_rc, Chip.sendRc_rc]
    rfl
  case rest => exact ⟨rfl, rfl, rfl, rfl⟩

end Sys2Proof.Machine

namespace Sys2Proof
open Machine

/-- Settles O52: the ANNOUNCE and the snapshot are those of `compositionComplete_rc`; with valid train time the rest is what rounding up gives. -/
theorem switchInstant : Obligations.SwitchInstant := by
  unfold Obligations.SwitchInstant
  intro f t s hm hs hr hf
  obtain ⟨a, sn, hrc, heff, hinst, hvalid, hlead⟩ := compositionComplete_rc hs hr hf
  refine ⟨_, a, sn, leaves_of compositionComplete rfl hm, by rw [hrc], by rw [hrc], heff.trans hinst.symm, hvalid, fun hv => ?_, fun hv => ?_⟩
  · rw [hlead, Chip.leadTo_of_valid hv, hinst, Chip.switchAt_of_valid hv]
    have hle := le_roundUp ((s.chip.tick t).trainTime + leadNs f.n) (m := 250000) (by decide)
    have hlt := roundUp_lt ((s.chip.tick t).trainTime + leadNs f.n) (m := 250000) (by decide)
    refine ⟨roundUp_mod _ _, ?_, ?_, rfl⟩
    · exact Nat.le_trans (Nat.le_of_eq (Nat.add_assoc _ _ _)) hle
    · exact Nat.lt_of_lt_of_eq hlt (by simp only [leadNs, Nat.add_assoc])
  · exact ⟨hinst.trans (Chip.switchAt_of_invalid hv _), hlead.trans (Chip.leadTo_of_invalid hv _)⟩
end Sys2Proof
end

section
/-! The counters of an Ethernet port (R320): the command that reads and clears them, and the count of one field. -/
namespace Sys2Proof.Machine

/-- The chip with every counter of port `p` at 0. -/
def Chip.macCleared (c : Chip) (p : Nat) : Chip := c.onEth fun e => { e with mac := e.mac.set p (List.replicate 18 0) }

/-- A port's counters as ETH_COUNTERS answers them (R338): two byte counts of 8 bytes, then the counts of 4. -/
def macBytes (l : List Nat) : Bytes := (l.take 2).flatMap (le 8) ++ (l.drop 2).flatMap (le 4)

theorem ethCounters_act (c : Chip) (r : Bytes) : ethCounters.act c r = (c.macCleared (u8 r 0)).ok (macBytes (c.eth.mac.getD (u8 r 0) [])) := rfl

theorem portForm_passes {lo hi : Nat} {c : Chip} {r : Bytes} (h : Ready.port lo hi c r) : leastFail (portForm lo hi r) = none := by
  obtain ⟨hlen, hzero, hlo, hhi⟩ := h
  simp only [leastFail_eq_none, portForm, List.forall_mem_cons, lenIs_eq_none, rsv_eq_none, rng_eq_none, decide_eq_true_iff]
  exact ⟨hlen, hzero, ⟨hlo, hhi⟩, List.forall_mem_nil _⟩

/-- ETH_COUNTERS clears the counters of its port and answers what they held, in one command. -/
theorem serves_ethCounters :
    Serves .ethCounters 0x0806 (Ready.port 0 11) fun c r => (c.macCleared (u8 r 0), macBytes (c.eth.mac.getD (u8 r 0) [])) :=
  serves_of ethCounters (fun _ _ _ => rfl) fun c r h => ⟨portForm_passes h, rfl, ethCounters_act c r⟩

/-- Clearing a port's counters changes no other part of the chip and nothing else of the Ethernet subsystem. -/
theorem Chip.macCleared_frame (c : Chip) (p : Nat) :
    c.macCleared p = { c with eth := (c.macCleared p).eth } ∧ (c.macCleared p).eth = { c.eth with mac := (c.macCleared p).eth.mac } := ⟨rfl, rfl⟩

@[simp] theorem Chip.macCleared_mac (c : Chip) (p : Nat) : (c.macCleared p).eth.mac = c.eth.mac.set p (List.replicate 18 0) := rfl

/-- The counters `l` of a port after `n` more in field `i`: the first two fields are 64 bits wide, the others 32 (R320). -/
def macCounted (l : List Nat) (i n : Nat) : List Nat := l.set i (sat (if i < 2 then 64 else 32) (l.getD i 0 + n))

theorem getElem?_macCounted_self {l : List Nat} {i : Nat} (n : Nat) (h : i < l.length) :
    (macCounted l i n)[i]? = some (min (l.getD i 0 + n) (if i < 2 then 0xFFFFFFFFFFFFFFFF else 0xFFFFFFFF)) := by
  rw [macCounted, List.getElem?_set_self h, sat]
  split <;> rfl

theorem getElem?_macCounted_ne {i j : Nat} (l : List Nat) (n : Nat) (h : j ≠ i) : (macCounted l i n)[j]? = l[j]? :=
  List.getElem?_set_ne h.symm

/-- A count changes the counters of its port alone. -/
theorem Chip.getElem?_macCountBy (c : Chip) (p i n q : Nat) :
    (c.macCountBy p i n).eth.mac[q]? = if q = p then c.eth.mac[q]?.map (macCounted · i n) else c.eth.mac[q]? :=
  getElem?_updAt _ _ _ _

/-- A count is a change of the Ethernet subsystem. -/
theorem Chip.macCountBy_frame (c : Chip) (p i n : Nat) : { c.macCountBy p i n with eth := c.eth } = c := rfl

end Sys2Proof.Machine

namespace Sys2Proof
open Machine

/-- Settles O51: the read is `serves_ethCounters`, whose chip has one entry of the counters set; a count is an update of one entry of one port's counters. -/
theorem portCounters : Obligations.PortCounters := by
  unfold Obligations.PortCounters
  constructor
  · intro s t d l hs hr hl
    have hread := serves_ethCounters s t d hs hr
    dsimp only at hread
    rw [List.getD_eq_getElem?_getD, hl, Option.getD_some] at hread
    obtain ⟨hchip, heth⟩ := (rung s t d 0x0806).macCleared_frame (u8 (asked s t d 0x0806) 0)
    obtain ⟨hp, -⟩ := List.getElem?_eq_some_iff.1 hl
    refine ⟨_, hread, hchip, heth, ?_, fun q hq => ?_⟩
    · rw [Chip.macCleared_mac, List.getElem?_set_self hp]
    · rw [Chip.macCleared_mac, List.getElem?_set_ne hq.symm]
  · intro c p l i n hl hi
    refine ⟨macCounted l i n, ?_, getElem?_macCounted_self n hi, fun j hj => getElem?_macCounted_ne l n hj, fun q hq => ?_, c.macCountBy_frame p i n⟩
    · rw [c.getElem?_macCountBy, if_pos rfl, hl, Option.map_some]
    · rw [c.getElem?_macCountBy, if_neg hq]
end Sys2Proof
end

section
/-! The opcodes (R370): which are defined, which command stands behind each, and what the doorbell of any other gives. -/
namespace Sys2Proof.Machine

/-- The defined ranges of R370: the first opcode of each and how many it holds. -/
def opcodeRanges : List (Nat × Nat) :=
  [(0x0100, 8), (0x0110, 8), (0x0200, 10), (0x0300, 10), (0x0400, 14), (0x0500, 15), (0x0600, 11), (0x0700, 16), (0x0800, 16), (0x0900, 11), (0x0A00, 9),
    (0x0B00, 9), (0x0C00, 11), (0x0D00, 5)]

/-- The opcodes of some ranges, in their order. -/
def opcodesIn (ranges : List (Nat × Nat)) : List Nat := ranges.flatMap fun g => (List.range g.2).map (g.1 + ·)

theorem mem_opcodesIn {ranges : List (Nat × Nat)} {op : Nat} : op ∈ opcodesIn ranges ↔ ∃ g ∈ ranges, ∃ k < g.2, g.1 + k = op := by
  simp only [opcodesIn, List.mem_flatMap, List.mem_map, List.mem_range]

/-- The rows stand in the order of the ranges. -/
theorem map_fst_mailboxRows : mailboxRows.map (·.1) = opcodesIn opcodeRanges := by decide +kernel

/-- An opcode is 16 bits wide. -/
theorem opcode_lt {op : Nat} (h : op ∈ opcodesIn opcodeRanges) : op < 65536 := by
  have hend : ∀ g ∈ opcodeRanges, g.1 + g.2 ≤ 65536 := by decide
  obtain ⟨g, hg, k, hk, rfl⟩ := mem_opcodesIn.1 h
  exact Nat.lt_of_lt_of_le (Nat.add_lt_add_left hk _) (hend g hg)

/-- A high byte with commands is a whole range. -/
theorem group_mem_opcodeRanges {grp : Nat} (h : 0 < (groupCmds grp).length) : (256 * grp, (groupCmds grp).length) ∈ opcodeRanges := by
  unfold groupCmds at h ⊢
  split at h
  case h_13 => exact absurd h (Nat.lt_irrefl 0)
  all_goals decide

/-- Every command stands behind an opcode of the ranges: those of high byte 0x01 in its two, any other in its high byte's. -/
theorem mem_opcodesIn_of_cmdOf {op : Nat} {m : Cmd} (h : cmdOf op = some m) : op ∈ opcodesIn opcodeRanges := by
  have hop : 256 * (op / 256) + op % 256 = op := Nat.div_add_mod op 256
  rw [mem_opcodesIn]
  unfold cmdOf at h
  split at h
  case isTrue h1 =>
    split at h <;> obtain ⟨hk, -⟩ := List.getElem?_eq_some_iff.1 h <;> simp only [List.length_cons, List.length_nil] at hk
    · exact ⟨(0x0100, 8), by decide, op % 256, hk, by omega⟩
    · exact ⟨(0x0110, 8), by decide, op % 256 - 16, hk, by omega⟩
  case isFalse =>
    obtain ⟨hk, -⟩ := List.getElem?_eq_some_iff.1 h
    exact ⟨_, group_mem_opcodeRanges (Nat.zero_lt_of_lt hk), op % 256, hk, hop⟩

theorem cmdOf_eq_none {op : Nat} (h : op ∉ opcodesIn opcodeRanges) : cmdOf op = none :=
  Option.eq_none_iff_forall_ne_some.2 fun _ hm => h (mem_opcodesIn_of_cmdOf hm)

/-- The row's meaning is the doorbell of its opcode, with the command behind it. -/
def RowRings (row : Nat × (Nat → Doorbell → Instr)) : Prop :=
  ∀ t d s, Machine.exec (row.2 t d) s = act t s fun c => c.doorbell d row.1 (cmdOf row.1)

theorem rowRings_of_mem : ∀ row ∈ mailboxRows, RowRings row := by
  simp only [mailboxRows, List.forall_mem_append, List.forall_mem_cons, List.not_mem_nil, false_implies, implies_true, and_true]
  and_intros <;> exact fun _ _ _ => rfl

/-- While the main die is down no doorbell is taken. -/
theorem doorbell_of_down {c : Chip} (h : c.mainDie = false) (d : Doorbell) (op : Nat) (m : Option Cmd) : c.doorbell d op m = c := by
  simp [Chip.doorbell, h]

theorem anyDoorbell_of_lt {op : Nat} (h : op < 65536) (d : Doorbell) (c : Chip) : anyDoorbell d op c = c.doorbell d op (cmdOf op) := by
  rw [anyDoorbell, Nat.mod_eq_of_lt h]

/-- UNDEFINED_OPCODE means the doorbell of its opcode, whatever that is. -/
theorem exec_undefinedOpcode {op : Nat} (h : op < 65536) (t : Nat) (d : Doorbell) (s : State) :
    Machine.exec (.undefinedOpcode t d op) s = act t s fun c => c.doorbell d op (cmdOf op) := by
  have hdown : (fun c : Chip => if c.mainDie then anyDoorbell d op c else c) = fun c => c.doorbell d op (cmdOf op) := by
    funext c
    split
    case isTrue => exact anyDoorbell_of_lt h d c
    case isFalse hm => exact (doorbell_of_down (eq_false_of_ne_true hm) _ _ _).symm
  calc Machine.exec (.undefinedOpcode t d op) s
    _ = actMain t s (anyDoorbell d op) := rfl
    _ = act t s fun c => c.doorbell d op (cmdOf op) := by rw [actMain, hdown]

/-- A doorbell that is taken while nothing stands behind its opcode is refused (R370). -/
theorem doorbell_none_of_taken {c : Chip} {d : Doorbell} {op : Nat} (hm : c.mainDie = true) (hb : d.mb < 8)
    (hs : (c.host.mb d.mb).state = .idle ∨ (c.host.mb d.mb).state = .done) (hh : op / 256 = 0x0D ∨ c.host.heldBehind (op / 256) c.host.nextOrder = false) :
    c.doorbell d op none = (c.ring d op false).complete d.mb 0x03 0xFFFF [] := by
  have hup : ¬(8 ≤ d.mb ∨ (!c.mainDie) = true) := by simp [hm, hb]
  have hfree : ¬(op / 256 ≠ 0x0D ∧ c.host.heldBehind (op / 256) c.host.nextOrder = true) := by
    rintro ⟨hgrp, hheld⟩
    rcases hh with h | h
    · exact hgrp h
    · exact Bool.false_ne_true (h.symm.trans hheld)
  unfold Chip.doorbell
  rw [if_neg hup]
  rcases hs with hs | hs <;> simp only [hs, if_neg hfree, decide_eq_false hfree]

end Sys2Proof.Machine

namespace Sys2Proof
open Machine

/-- Settles O53: the ranges are `map_fst_mailboxRows`; a row and UNDEFINED_OPCODE with its opcode both mean the doorbell of that opcode; behind an opcode outside
the ranges there is no command (`cmdOf_eq_none`), and its doorbell is refused. -/
theorem opcodesDefined : Obligations.OpcodesDefined := by
  unfold Obligations.OpcodesDefined
  refine ⟨map_fst_mailboxRows, fun row hrow t d s => ?_, fun d op hop hout t s hm hb hs hh => ?_⟩
  · have hmem : row.1 ∈ opcodesIn opcodeRanges := map_fst_mailboxRows ▸ List.mem_map_of_mem hrow
    rw [rowRings_of_mem row hrow, exec_undefinedOpcode (opcode_lt hmem)]
  · have hnone : cmdOf op = none := cmdOf_eq_none (map_fst_mailboxRows ▸ hout)
    rw [Leaves, exec_undefinedOpcode hop, act, Chip.command, hnone, doorbell_none_of_taken hm hb hs hh, rung]
end Sys2Proof
end

section
/-! One step, the state after reset, and what the island demands there. -/
namespace Sys2Proof.Machine

/-- Every meaning changes the chip alone. -/
theorem exec_next (i : Instr) (s : State) : ∃ c, Machine.exec i s = .next { s with chip := c } := by
  cases i <;> exact ⟨_, rfl⟩

end Sys2Proof.Machine
namespace Sys2Proof
open Machine

/-- Settles O49: `step` is `exec` of the front command, and every meaning is an effect on the chip alone. -/
theorem stepRunsTheFrontCommand : Obligations.StepRunsTheFrontCommand := by
  unfold Obligations.StepRunsTheFrontCommand
  refine ⟨fun i s => rfl, exec_next, fun s hs => ?_⟩
  rw [Machine.step, hs]

/-- Settles O59: both channels are off at reset and demand nothing. -/
theorem islandQuietAtReset : Obligations.IslandQuietAtReset := by
  unfold Obligations.IslandQuietAtReset Chip.islandQuiet SafeChan.quiet
  decide

/-- Settles O50: each conjunct is a value of the reset state, computed. -/
theorem resetState : Obligations.ResetState := by
  unfold Obligations.ResetState
  have hports : ∀ p < 12, (State.reset.chip.vport p).running = false := by decide
  exact ⟨rfl, rfl, rfl, rfl, by decide, rfl, rfl, rfl, rfl, rfl, rfl, by decide, rfl, rfl, rfl, by decide, rfl, rfl, fun p _ hp => hports p hp, rfl, rfl, rfl, rfl,
    rfl⟩
end Sys2Proof
end

section
/-! What a completion writes (R352, R354) and what raising an event touches of the mailboxes and the queues. -/
namespace Sys2Proof.Machine

/-- The mailboxes, and every queue but the recorder's, are as they were. -/
def Chip.KeepsMail (a b : Chip) : Prop := b.host.mailboxes = a.host.mailboxes ∧ ∀ q, q ≠ 60 → b.qm.queue q = a.qm.queue q

theorem Chip.KeepsMail.refl (a : Chip) : a.KeepsMail a := ⟨rfl, fun _ _ => rfl⟩
theorem Chip.KeepsMail.trans {a b c : Chip} (h : a.KeepsMail b) (k : b.KeepsMail c) : a.KeepsMail c :=
  ⟨k.1.trans h.1, fun q hq => (k.2 q hq).trans (h.2 q hq)⟩

theorem Chip.keepsMail_of_qm {a b : Chip} (h : b.host.mailboxes = a.host.mailboxes) (hq : b.qm = a.qm) : a.KeepsMail b := ⟨h, fun _ _ => by rw [hq]⟩

theorem Chip.keepsMail_onHost (c : Chip) (f : HostIf → HostIf) (h : (f c.host).mailboxes = c.host.mailboxes) : c.KeepsMail (c.onHost f) :=
  keepsMail_of_qm h rfl

theorem Chip.keepsMail_foldl {α : Type} (f : Chip → α → Chip) (h : ∀ c x, Chip.KeepsMail c (f c x)) (l : List α) (c : Chip) : Chip.KeepsMail c (l.foldl f c) := by
  induction l generalizing c with
  | nil => exact .refl c
  | cons x l ih => exact (h c x).trans (ih _)

theorem Chip.keepsMail_evalConds (c : Chip) : c.KeepsMail c.evalConds := by
  unfold Chip.evalConds
  dsimp only
  split
  · exact keepsMail_of_qm rfl rfl
  · split
    · refine (c.keepsMail_onHost _ rfl).trans (Chip.keepsMail_foldl _ (fun c v => ?_) _ _)
      split
      · split <;> exact keepsMail_of_qm rfl rfl
      · exact .refl c
    · exact keepsMail_of_qm rfl rfl

theorem Chip.keepsMail_raiseRaw (c : Chip) (e kind arg detail : Nat) : c.KeepsMail (c.raiseRaw e kind arg detail).1 := by
  unfold Chip.raiseRaw
  dsimp only
  have hconds : ∀ h : HostIf, h.mailboxes = c.host.mailboxes → c.KeepsMail { c with host := h }.evalConds := fun h hm =>
    (keepsMail_of_qm (b := { c with host := h }) hm rfl).trans (Chip.keepsMail_evalConds _)
  split <;> exact hconds _ rfl

/-- An update of one queue leaves the others. -/
theorem QueueMgr.queue_upd_ne (m : QueueMgr) {q k : Nat} (f : Queue → Queue) (h : k ≠ q) : (m.upd q f).queue k = m.queue k :=
  getD_updAt_ne f _ _ _ _ h

theorem QueueMgr.queue_intake_ne (m : QueueMgr) (mem : MemCtl) (e : QEntry) {q : Nat} (h : q ≠ 60) : (m.intake mem e).1.queue q = m.queue q := by
  fun_cases QueueMgr.intake m mem e
  · exact m.queue_upd_ne _ h
  · exact m.queue_upd_ne _ h
  · rfl
  · rfl

theorem Chip.keepsMail_intake (c : Chip) (r : Bytes) : c.KeepsMail (c.intake r).1 := by
  unfold Chip.intake
  dsimp only
  split <;> exact ⟨rfl, fun q hq => c.qm.queue_intake_ne _ _ hq⟩

theorem Chip.keepsMail_intakeEvent (c : Chip) (e kind arg detail : Nat) : c.KeepsMail (c.intakeEvent e kind arg detail).1 := by
  unfold Chip.intakeEvent
  dsimp only
  split
  · exact .refl c
  · exact c.keepsMail_intake _

theorem Chip.keepsMail_raiseStep (c : Chip) (e kind arg detail : Nat) : c.KeepsMail (c.raiseStep e kind arg detail).1 :=
  (c.keepsMail_raiseRaw e kind arg detail).trans (Chip.keepsMail_intakeEvent _ _ _ _ _)

theorem Chip.keepsMail_stamp (c : Chip) (key : Nat × Nat) (now : Nat) : c.KeepsMail (c.onHost fun h => h.stamp key now) := keepsMail_of_qm rfl rfl

theorem Chip.keepsMail_noteDrop (c : Chip) (d : Option Nat) : c.KeepsMail (c.noteDrop d).1 := by
  unfold Chip.noteDrop
  split
  · split
    · exact .refl c
    · exact (c.keepsMail_stamp _ _).trans (Chip.keepsMail_raiseStep _ _ _ _ _)
  · exact .refl c

/-- Raising an event touches no mailbox, and of the queues only Q60. -/
theorem Chip.keepsMail_raiseD (c : Chip) (e kind arg detail : Nat) : c.KeepsMail (c.raiseD e kind arg detail) := by
  unfold Chip.raiseD
  split
  · exact .refl c
  · have hstep := (c.keepsMail_raiseStep e kind arg detail).trans (Chip.keepsMail_noteDrop _ (c.raiseStep e kind arg detail).2.2)
    dsimp only
    split
    · exact ((hstep.trans (Chip.keepsMail_stamp _ _ _)).trans (Chip.keepsMail_raiseStep _ _ _ _ _)).trans (Chip.keepsMail_noteDrop _ _)
    · exact hstep

@[simp] theorem Chip.raiseD_mailboxes (c : Chip) (e kind arg detail : Nat) : (c.raiseD e kind arg detail).host.mailboxes = c.host.mailboxes :=
  (c.keepsMail_raiseD e kind arg detail).1

/-- What a completion writes into its mailbox (R352, R354). -/
def Mailbox.completed (m : Mailbox) (status detail elapsed : Nat) (payload : Bytes) : Mailbox :=
  { m with
    state := .done, status := status, waiting := false, elapsed := elapsed
    response := m.response.write 0 (responseBytes m.opcode status m.tag detail payload) }

/-- How long the command in mailbox `n` has taken (R354, log 4). -/
def Chip.elapsed (c : Chip) (n : Nat) : Nat := sat32 ((c.clk.now - (c.host.mb n).rungAt) / 1000 + c.draw.1)

/-- A completion changes one mailbox. -/
theorem Chip.complete_mailboxes (c : Chip) (n status detail : Nat) (payload : Bytes) :
    (c.complete n status detail payload).host.mailboxes = updAt c.host.mailboxes n fun m => m.completed status detail (c.elapsed n) (payload.take 504) := by
  unfold Chip.complete
  dsimp only
  split <;> split
  · rw [Chip.raiseD_mailboxes, Chip.raiseD_mailboxes]
    rfl
  · rw [Chip.raiseD_mailboxes]
    rfl
  · rw [Chip.raiseD_mailboxes]
    rfl
  · rfl

theorem length_responseBytes (opcode status tag detail : Nat) (payload : Bytes) : (responseBytes opcode status tag detail payload).length = 8 + payload.length := by
  simp only [responseBytes, List.length_append, length_le, Nat.reduceAdd]

end Sys2Proof.Machine

namespace Sys2Proof
open Machine

/-- Settles O55: a completion rewrites one mailbox (`Chip.complete_mailboxes`), whose response reads back as it was written, and otherwise only draws a free value and
reports events. -/
theorem completionWritten : Obligations.CompletionWritten := by
  unfold Obligations.CompletionWritten
  intro c n status detail payload hn hlen _
  have hboxes := c.complete_mailboxes n status detail payload
  have hmb : (c.complete n status detail payload).host.mb n = (c.host.mb n).completed status detail (c.elapsed n) (payload.take 504) := by
    rw [HostIf.mb, hboxes, getD_updAt_self _ _ _ _ (hlen ▸ hn), HostIf.mb]
  have hframe := c.reports_complete n status detail payload
  refine ⟨by rw [hmb]; rfl, by rw [hmb]; rfl, by rw [hmb]; rfl, ?_, fun k _ hk => ?_, ?_⟩
  · rw [hmb, Mailbox.completed, ← length_responseBytes (c.host.mb n).opcode status (c.host.mb n).tag detail, Memory.read_write, responseBytes]
  · rw [HostIf.mb, hboxes, getD_updAt_ne _ _ _ _ _ hk, HostIf.mb]
  · obtain ⟨hclk, hfuses, htiles, hboot, hdir, hrc, hbb, htime, heth, hmem, hcb, hcan, hrt, hbr, hsafe, hpwr, hclove, hstored, -⟩ := hframe
    simp only [hfuses, htiles, hboot, hdir, hrc, hbb, htime, heth, hmem, hcb, hcan, hrt, hbr, hsafe, hpwr, hclove, hstored]
    rfl
end Sys2Proof
end

section
/-! The checks of a request (R355): which failure decides, and that every command refuses a request of more than 512 bytes for its length. -/
namespace Sys2Proof.Machine

/-- A check fails with a status of its own, never with that of success. -/
def FailsAbove0 (x : Check) : Prop := ∀ f, x = some f → 1 ≤ f.1

@[simp] theorem failsAbove0_none : FailsAbove0 none := fun _ h => nomatch h
@[simp] theorem failsAbove0_some {f : Nat × Nat} : FailsAbove0 (some f) ↔ 1 ≤ f.1 := by simp [FailsAbove0]
@[simp] theorem failsAbove0_ite {p : Prop} [Decidable p] {x y : Check} (hx : FailsAbove0 x) (hy : FailsAbove0 y) : FailsAbove0 (if p then x else y) := by
  split
  · exact hx
  · exact hy
@[simp] theorem failsAbove0_rsv (r : Bytes) (o n : Nat) : FailsAbove0 (rsv r o n) := failsAbove0_ite failsAbove0_none (by simp)
@[simp] theorem failsAbove0_enc (b : Bool) (o : Nat) : FailsAbove0 (enc b o) := failsAbove0_ite failsAbove0_none (by simp)
@[simp] theorem failsAbove0_rng (b : Bool) (o : Nat) : FailsAbove0 (rng b o) := failsAbove0_ite failsAbove0_none (by simp)
@[simp] theorem failsAbove0_lenIs (r : Bytes) (n : Nat) : FailsAbove0 (lenIs r n) := failsAbove0_ite failsAbove0_none (by simp)
@[simp] theorem failsAbove0_lenData (r : Bytes) (a b : Nat) : FailsAbove0 (lenData r a b) :=
  failsAbove0_ite (by simp) (failsAbove0_ite failsAbove0_none (by simp))

theorem mem_of_leastFail {l : List Check} {f : Nat × Nat} (h : leastFail l = some f) : some f ∈ l := by
  induction l generalizing f with
  | nil => exact nomatch h
  | cons x l ih =>
    cases x with
    | none => exact List.mem_cons_of_mem _ (ih h)
    | some a =>
      rw [leastFail] at h
      split at h
      · simp [← Option.some.inj h]
      · split at h
        · simp [← Option.some.inj h]
        · exact List.mem_cons_of_mem _ (ih (h ▸ ‹_›))

/-- No check fails with a lower status than the failure that decides. -/
theorem leastFail_le {l : List Check} {f g : Nat × Nat} (h : leastFail l = some f) (hg : some g ∈ l) : f.1 ≤ g.1 := by
  induction l generalizing f with
  | nil => exact nomatch h
  | cons x l ih =>
    cases x with
    | none => exact ih h (by simpa using hg)
    | some a =>
      rw [leastFail] at h
      split at h
      case h_1 hl =>
        have : some g = some a := (List.mem_cons.1 hg).resolve_right fun hm => nomatch leastFail_eq_none.1 hl _ hm
        exact Nat.le_of_eq (by rw [← Option.some.inj h, Option.some.inj this])
      case h_2 b hl =>
        have hb : g = a ∨ b.1 ≤ g.1 := (List.mem_cons.1 hg).imp Option.some.inj (ih hl)
        split at h <;> rw [← Option.some.inj h] <;> rcases hb with rfl | hb <;> omega

/-- Every check of a list fails with a status of its own. -/
def AllAbove0 (l : List Check) : Prop := ∀ x ∈ l, FailsAbove0 x

@[simp] theorem allAbove0_nil : AllAbove0 [] := List.forall_mem_nil _
@[simp] theorem allAbove0_cons {x : Check} {l : List Check} : AllAbove0 (x :: l) ↔ FailsAbove0 x ∧ AllAbove0 l := List.forall_mem_cons
@[simp] theorem allAbove0_append {l k : List Check} : AllAbove0 (l ++ k) ↔ AllAbove0 l ∧ AllAbove0 k := List.forall_mem_append
@[simp] theorem allAbove0_ite {p : Prop} [Decidable p] {l k : List Check} (hl : AllAbove0 l) (hk : AllAbove0 k) : AllAbove0 (if p then l else k) := by
  split
  · exact hl
  · exact hk
@[simp] theorem allAbove0_map_rng {α : Type} (l : List α) (b : α → Bool) (o : α → Nat) : AllAbove0 (l.map fun i => rng (b i) (o i)) := by
  simp [AllAbove0]

/-- The layout checks of a request that is too long: one fails with the status of a wrong length, and none fails with a lower one. -/
def TooLong (l : List Check) : Prop := (∃ n, some (0x01, n) ∈ l) ∧ AllAbove0 l

theorem leastFail_of_tooLong {l : List Check} (h : TooLong l) : ∃ n, leastFail l = some (0x01, n) := by
  obtain ⟨⟨n, hn⟩, hl⟩ := h
  cases hf : leastFail l with
  | none => exact nomatch leastFail_eq_none.1 hf _ hn
  | some f =>
    have hle : f.1 ≤ 1 := leastFail_le hf hn
    have hge : 1 ≤ f.1 := hl _ (mem_of_leastFail hf) f rfl
    exact ⟨f.2, congrArg some (Prod.ext (Nat.le_antisymm hle hge) rfl)⟩

theorem tooLong_cons {x : Check} {n : Nat} {l : List Check} (h : x = some (0x01, n)) (hl : AllAbove0 l) : TooLong (x :: l) :=
  ⟨⟨n, h ▸ List.mem_cons_self⟩, allAbove0_cons.2 ⟨by simp [h], hl⟩⟩

theorem tooLong_lenIs {r : Bytes} (h : 512 < r.length) {n : Nat} {l : List Check} (hn : n ≤ 512) (hl : AllAbove0 l) : TooLong (lenIs r n :: l) :=
  tooLong_cons (if_neg (by omega)) hl

theorem tooLong_lenData {r : Bytes} (h : 512 < r.length) {a b : Nat} {l : List Check} (hl : AllAbove0 l) : TooLong (lenData r a b :: l) := by
  by_cases ha : r.length < a
  · exact tooLong_cons (if_pos ha) hl
  · exact tooLong_cons ((if_neg ha).trans (if_neg (by omega))) hl

/-! The layouts that several commands share. -/

@[simp] theorem allAbove0_addrRsv (r : Bytes) (o : Nat) : AllAbove0 (addrRsv r o) := by simp [addrRsv]
@[simp] theorem allAbove0_addrRng (r : Bytes) (o : Nat) : AllAbove0 (addrRng r o) := by simp [addrRng]
@[simp] theorem allAbove0_windowForm (r : Bytes) : AllAbove0 (windowForm r) := by simp [windowForm]
@[simp] theorem failsAbove0_identRsv (e : Bool) (v o : Nat) : FailsAbove0 (identRsv e v o) := failsAbove0_ite failsAbove0_none (by simp)
@[simp] theorem allAbove0_bufForm (x : CanChan) (r : Bytes) : AllAbove0 (bufForm x r) := by simp [bufForm]
@[simp] theorem allAbove0_passwordForm (r : Bytes) (o : Nat) : AllAbove0 (passwordForm r o) := by simp [passwordForm]

/-- CAN_SEND counts its length from the DLC, which may itself be out of range. -/
theorem tooLong_canSend (c : Chip) {r : Bytes} (h : 512 < r.length) : TooLong (canSend.form c r) := by
  have hlen : ∀ d ≤ 15, dlcLen d ≤ 64 := by decide
  have hshort : ¬r.length < 8 := by omega
  simp only [canSend, if_neg hshort]
  by_cases hd : u8 r 2 ≤ 15
  · have := hlen _ hd
    rw [if_pos hd]
    exact tooLong_lenIs h (by omega) (by simp)
  · rw [if_neg hd, if_pos h]
    exact tooLong_cons rfl (by simp)

/-- ETH_ADDR_SET's layout depends on its operation. -/
theorem tooLong_ethAddrSet (c : Chip) {r : Bytes} (h : 512 < r.length) : TooLong (ethAddrSet.form c r) := by
  refine tooLong_lenIs h (by decide) ?_
  simp

theorem tooLong_ifEcho (c : Chip) {r : Bytes} (h : 512 < r.length) : TooLong (ifEcho.form c r) :=
  tooLong_cons (if_pos h) (by simp)

/-- A command refuses a request of more than 512 bytes for its length (R351, R355). -/
def Cmd.Measures (m : Cmd) : Prop := ∀ c r, 512 < r.length → TooLong (m.form c r)

theorem measures_directory : ∀ m ∈ [dirStatus, dirPin, dirReadPage, dirUnpin, dirCopy, dirResolve, vehicleConfigSet, vehicleConfigGet], m.Measures := by
  simp only [List.forall_mem_cons, List.not_mem_nil, false_implies, implies_true, and_true]
  and_intros <;> intro c r h <;> simp [dirStatus, dirPin, dirReadPage, dirUnpin, dirCopy, dirResolve, vehicleConfigSet, vehicleConfigGet, noReq, tooLong_lenIs h]

theorem measures_rollcall : ∀ m ∈ [rollcallStart, rollcallStop, rollcallRerun, rollcallStatus, cabSet, rollcallConfigSet, rollcallConfigGet, rollcallCounters], m.Measures := by
  simp only [List.forall_mem_cons, List.not_mem_nil, false_implies, implies_true, and_true]
  and_intros <;> intro c r h <;> simp [rollcallStart, rollcallStop, rollcallRerun, rollcallStatus, cabSet, rollcallConfigSet, rollcallConfigGet, rollcallCounters, noReq, tooLong_lenIs h]

theorem measures_backbone : ∀ m ∈ groupCmds 2, m.Measures := by
  simp only [groupCmds, List.forall_mem_cons, List.not_mem_nil, false_implies, implies_true, and_true]
  and_intros <;> intro c r h <;> simp [bbStatus, bbConfigSet, bbConfigGet, bbSchedStage, bbSchedCommit, pdWrite, pdRead, msgSend, leaseStatus, bbCounters, noReq, stageForm, tooLong_lenIs h, tooLong_lenData h]

theorem measures_time : ∀ m ∈ groupCmds 3, m.Measures := by
  simp only [groupCmds, List.forall_mem_cons, List.not_mem_nil, false_implies, implies_true, and_true]
  and_intros <;> intro c r h <;> simp [timeStatus, timeConfigSet, timeConfigGet, timeNow, timeRefTod, cepSet, cepGet, cepStatus, timePort, timeCounters, noReq, tooLong_lenIs h]

theorem measures_carBus : ∀ m ∈ groupCmds 4, m.Measures := by
  simp only [groupCmds, List.forall_mem_cons, List.not_mem_nil, false_implies, implies_true, and_true]
  and_intros <;> intro c r h <;> simp [cbStatus, cbConfigSet, cbConfigGet, cbStart, cbStop, cbSchedStage, cbSchedCommit, cbTxWrite, cbRxRead, cbEventSend, cbEventRead, cbSlotStatus, cbPointSet, cbCounters, noReq, stageForm, tooLong_lenIs h, tooLong_lenData h]

theorem measures_can : ∀ m ∈ groupCmds 5, m.Measures := by
  simp only [groupCmds, List.forall_mem_cons, List.not_mem_nil, false_implies, implies_true, and_true]
  and_intros <;> intro c r h <;> simp [canStatus, canConfigSet, canConfigGet, canStart, canStop, canRecover, canBufSet, canBufGet, canTxWrite, canRxRead, canMatrixStage, canMatrixCommit, canBufResume, canCounters, canForm, bufNumForm, tooLong_canSend _ h, tooLong_lenIs h, tooLong_lenData h]

theorem measures_router : ∀ m ∈ groupCmds 6, m.Measures := by
  simp only [groupCmds, List.forall_mem_cons, List.not_mem_nil, false_implies, implies_true, and_true]
  and_intros <;> intro c r h <;> simp [routeStatus, routeStart, routeStop, routeStage, routeCommit, routeEntryGet, routeEntryEnable, guardStatus, guardReset, routeCounters, guardCompute, noReq, stageForm, guardForm, tooLong_lenIs h, tooLong_lenData h]

theorem measures_bridge : ∀ m ∈ groupCmds 7, m.Measures := by
  simp only [groupCmds, List.forall_mem_cons, List.not_mem_nil, false_implies, implies_true, and_true]
  and_intros <;> intro c r h <;> simp [brStatus, brConfigSet, brConfigGet, brStart, brStop, brWindowSet, brWindowEnable, brWindowStatus, brExport, brRead, brCompletionRead, brFaultRead, brStrandedRead, brPrefetch, brSemControl, brCounters, noReq, tooLong_lenIs h]

theorem measures_ethernet : ∀ m ∈ groupCmds 8, m.Measures := by
  simp only [groupCmds, List.forall_mem_cons, List.not_mem_nil, false_implies, implies_true, and_true]
  and_intros <;> intro c r h <;> simp [ethStatus, ethConfigSet, ethConfigGet, ethStart, ethStop, ethCounters, queueSet, queueStatus, ringSet, ringEnable, memConfigSet, memConfigGet, memStart, memStop, memStatus, noReq, portForm, tooLong_ethAddrSet _ h, tooLong_lenIs h]

theorem measures_safety : ∀ m ∈ groupCmds 9, m.Measures := by
  simp only [groupCmds, List.forall_mem_cons, List.not_mem_nil, false_implies, implies_true, and_true]
  and_intros <;> intro c r h <;> simp [safeStatus, safeIoStatus, safeParamStage, safeParamCommit, safeParamRead, safeConfigEnter, safeParamConfirm, safeConfigLeave, safePasswordSet, safeLogRead, safeCounters, noReq, tooLong_lenIs h, tooLong_lenData h]

theorem measures_power : ∀ m ∈ groupCmds 10, m.Measures := by
  simp only [groupCmds, List.forall_mem_cons, List.not_mem_nil, false_implies, implies_true, and_true]
  and_intros <;> intro c r h <;> simp [pwrStatus, pwrConfigSet, pwrConfigGet, pwrVote, pwrWakeRequest, pwrSleepLocal, pwrPnSet, pwrPnMode, pwrCounters, noReq, tooLong_lenIs h]

theorem measures_recorder : ∀ m ∈ groupCmds 11, m.Measures := by
  simp only [groupCmds, List.forall_mem_cons, List.not_mem_nil, false_implies, implies_true, and_true]
  and_intros <;> intro c r h <;> simp [recStatus, recConfigSet, recConfigGet, recRead, recCopy, recSeqRead, recWrite, recErase, recCounters, noReq, tooLong_lenIs h, tooLong_lenData h]

theorem measures_boot : ∀ m ∈ groupCmds 12, m.Measures := by
  simp only [groupCmds, List.forall_mem_cons, List.not_mem_nil, false_implies, implies_true, and_true]
  and_intros <;> intro c r h <;> simp [bootStatus, bootJournalRead, bootJournalClear, bootConfigSet, bootConfigGet, fwBegin, fwWrite, fwActivate, fwConfirm, fwRestart, fwSecurityAdvance, noReq, tooLong_lenIs h, tooLong_lenData h]

theorem measures_interface : ∀ m ∈ groupCmds 13, m.Measures := by
  simp only [groupCmds, List.forall_mem_cons, List.not_mem_nil, false_implies, implies_true, and_true]
  and_intros <;> intro c r h <;> simp [ifIdentify, ifCounters, evRecordRead, tileStatus, noReq, tooLong_ifEcho _ h, tooLong_lenIs h]


/-- Every defined command measures its request. -/
theorem measures_of_cmdOf {op : Nat} {m : Cmd} (h : cmdOf op = some m) : m.Measures := by
  unfold cmdOf at h
  split at h
  · split at h
    · exact measures_directory m (List.mem_of_getElem? h)
    · exact measures_rollcall m (List.mem_of_getElem? h)
  · have hm := List.mem_of_getElem? h
    generalize op / 256 = g at hm
    unfold groupCmds at hm
    split at hm
    · exact measures_backbone m hm
    · exact measures_time m hm
    · exact measures_carBus m hm
    · exact measures_can m hm
    · exact measures_router m hm
    · exact measures_bridge m hm
    · exact measures_ethernet m hm
    · exact measures_safety m hm
    · exact measures_power m hm
    · exact measures_recorder m hm
    · exact measures_boot m hm
    · exact measures_interface m hm
    · exact nomatch hm

/-- A request that fails a layout check is refused by the first that decides. -/
theorem Cmd.run_of_form {m : Cmd} {c : Chip} {r : Bytes} {f : Nat × Nat} (h : leastFail (m.form c r) = some f) : m.run c r = c.refuse f.1 f.2 := by
  rw [Cmd.run, h]

/-- A request in its layout that fails a check of the state is refused by the first. -/
theorem Cmd.run_of_state {m : Cmd} {c : Chip} {r : Bytes} {f : Nat × Nat} (h : leastFail (m.form c r) = none) (hs : firstFail (m.state c r) = some f) :
    m.run c r = c.refuse f.1 f.2 := by
  rw [Cmd.run, h, hs]

theorem Chip.settle_refuse (c : Chip) (status detail n : Nat) : (c.refuse status detail).settle n = c.complete n status detail [] := rfl

/-- A row's command that is taken answers what its run does. -/
theorem leaves_of_served {row : Nat × (Nat → Doorbell → Instr)} {m : Cmd} {s : State} {t : Nat} {d : Doorbell} (hrow : row ∈ mailboxRows) (hm : cmdOf row.1 = some m)
    (hs : Served (s.chip.tick t) d row.1) : Leaves (row.2 t d) t s ((m.run (rung s t d row.1) (asked s t d row.1)).settle d.mb) := by
  rw [Leaves, rowRings_of_mem row hrow, act, Chip.command, hm, doorbell_served m hs, rung, asked]
  rfl

end Sys2Proof.Machine
namespace Sys2Proof
open Machine

/-- Settles O54: a taken command answers its run (`leaves_of_served`), which the first failing check decides; a request of more than 512 bytes fails every
command's length check (`measures_of_cmdOf`), and no layout check fails with a lower status. -/
theorem refusalChangesNothing : Obligations.RefusalChangesNothing := by
  unfold Obligations.RefusalChangesNothing
  intro row hrow m hm s t d hs
  have hrun := leaves_of_served hrow hm hs
  refine ⟨fun f hf => ?_, fun f hf hst => ?_, fun hlong => ?_⟩
  · rwa [Cmd.run_of_form hf, Chip.settle_refuse] at hrun
  · rwa [Cmd.run_of_state hf hst, Chip.settle_refuse] at hrun
  · obtain ⟨n, hn⟩ := leastFail_of_tooLong (measures_of_cmdOf hm (rung s t d row.1) _ hlong)
    rw [Cmd.run_of_form hn, Chip.settle_refuse] at hrun
    exact ⟨n, hrun⟩
end Sys2Proof
end

section
/-! The checks of a request that passes them: one by one, and those of an address. -/
namespace Sys2Proof.Machine

@[simp] theorem leastFail_cons_eq_none {x : Check} {l : List Check} : leastFail (x :: l) = none ↔ x = none ∧ leastFail l = none := by
  simp only [leastFail_eq_none, List.forall_mem_cons]

@[simp] theorem leastFail_append_eq_none {l k : List Check} : leastFail (l ++ k) = none ↔ leastFail l = none ∧ leastFail k = none := by
  simp only [leastFail_eq_none, List.forall_mem_append]

@[simp] theorem firstFail_cons_eq_none {x : Check} {l : List Check} : firstFail (x :: l) = none ↔ x = none ∧ firstFail l = none := by
  simp only [firstFail_eq_none, List.forall_mem_cons]

@[simp] theorem firstFail_append_eq_none {l k : List Check} : firstFail (l ++ k) = none ↔ firstFail l = none ∧ firstFail k = none := by
  simp only [firstFail_eq_none, List.forall_mem_append]

/-- A descriptor in order passes its layout checks (R60). -/
theorem addrRsv_passes {r : Bytes} {o : Nat} (h : Ready.addr r o) : leastFail (addrRsv r o) = none := by
  obtain ⟨hkind, hindex, hzero, hvalue, hall, -⟩ := h
  simp only [addrRsv, leastFail_cons_eq_none, leastFail_nil, enc_eq_none, rsv_eq_none, decide_eq_true_iff, and_true]
  refine ⟨hkind, ?_, hzero, ?_, ?_⟩
  · rcases hindex with h | h | h <;> simp [h]
  · split at hvalue <;> simp [*]
  · rcases hall with h | h <;> simp [h]

theorem kind_ne_of_not_isAll {r : Bytes} {o : Nat} (h : (Addr.at r o).isAll = false) : u8 r o ≠ 4 := by
  intro hk
  simp [Addr.isAll, Addr.at, hk] at h

theorem addrRng_passes {r : Bytes} {o : Nat} (h : Ready.addr r o) : leastFail (addrRng r o) = none := by
  obtain ⟨-, -, -, -, -, hindex⟩ := h
  simpa [addrRng] using hindex

/-- An expected epoch that is none or the present one passes (R61). -/
theorem addrEpoch_passes {c : Chip} {a : Addr} (h : Ready.epochOk c a) : c.addrEpoch a = none := by
  rw [Chip.addrEpoch, need_eq_none]
  rcases h with h | h | h
  · rw [decide_eq_false h]
    rfl
  · simp [h]
  · simp [h]

/-- While a block runs, a record is written only with its Static fields as they were (R13). -/
theorem kept_of_running {stopped : Bool} {old new : Bytes} {fields : List (Nat × Nat)} (h : Ready.static stopped old new fields) (hrun : stopped = false) :
    staticKept old new fields = true := h.resolve_left (by simp [hrun])

theorem firstFail_static {stopped : Bool} {old new : Bytes} {fields : List (Nat × Nat)} {status : Nat} (h : Ready.static stopped old new fields) :
    firstFail [need (stopped || staticKept old new fields) status] = none := by
  simpa only [firstFail_cons_eq_none, firstFail_nil, need_eq_none, Bool.or_eq_true, and_true] using h

theorem noReq_passes {c : Chip} {r : Bytes} (h : Ready.noRequest c r) : leastFail (noReq c r) = none := by
  simpa [noReq] using h

/-- A mailbox command that passes its checks answers what its effect does, whatever the status. -/
theorem answers_of {i : Nat → Doorbell → Instr} {op : Nat} (m : Cmd) (he : ∀ t d s, Machine.exec (i t d) s = act t s fun c => c.doorbell d op (some m)) {s : State}
    {t : Nat} {d : Doorbell} (hs : Served (s.chip.tick t) d op) (hform : leastFail (m.form (rung s t d op) (asked s t d op)) = none)
    (hstate : firstFail (m.state (rung s t d op) (asked s t d op)) = none) :
    Leaves (i t d) t s ((m.act (rung s t d op) (asked s t d op)).settle d.mb) := by
  have hrun : m.run (rung s t d op) (asked s t d op) = m.act (rung s t d op) (asked s t d op) := by rw [Cmd.run, hform, hstate]
  rw [Leaves, he, act, Chip.command, doorbell_served m hs, ← hrun, rung, asked, rung]

theorem u8_drop (r : Bytes) (k o : Nat) : u8 (r.drop k) o = u8 r (k + o) := by
  simp [u8, List.getD, List.getElem?_drop]

/-- A staging request inside its area passes (R124). -/
theorem stageForm_passes {size : Nat} {c : Chip} {r : Bytes} (h : Ready.stage size c r) : leastFail (stageForm size r) = none := by
  obtain ⟨hlen, hdata, hzero, hfits⟩ := h
  have hmax : 8 + u16 r 4 ≤ 512 := by omega
  simp [stageForm, hlen, hzero, hfits, hdata, hmax]
end Sys2Proof.Machine
end

section
/-! The directory commands (R64). -/
namespace Sys2Proof
open Machine

/-- The only copy to host memory under way is over: its block is written and its command completes (R342). -/
theorem tick_of_copy_due {c : Chip} {j : CopyJob} {t : Nat} (hj : c.host.copies = [j]) (hd : j.due ≤ max c.clk.now t) :
    c.tick t = (((c.advance t).onHost fun h => { h with copies := [] }).emits (Output.dmaWrites j.address j.data)).completeWaiting j.op 0 j.payload := by
  have hcopies : (c.advance t).host.copies = [j] := hj
  have hdue : decide (j.due ≤ (c.advance t).clk.now) = true := decide_eq_true hd
  rw [Chip.tick, Chip.copiesDone, hcopies, if_neg (List.cons_ne_nil _ _)]
  simp only [Chip.onHost, hcopies, List.filter_cons, hdue, List.filter_nil, Bool.not_true, Bool.false_eq_true, if_true, if_false, List.foldl_cons, List.foldl_nil]

/-- Settles O1. -/
theorem directoryCommands : Obligations.DirectoryCommands := by
  unfold Obligations.DirectoryCommands
  refine ⟨?_, fun sn => ?_, fun sn => ?_, fun p => ?_, fun p => ?_, fun sn => ?_, fun c j t hj hd => tick_of_copy_due hj hd, fun sn n => ?_, ?_, ?_⟩
  · refine serves_of Machine.dirStatus (fun _ _ _ => rfl) fun c r ⟨hlen, hin⟩ => ?_
    cases hs : c.rc.state <;> simp [dirStatus, noReq, hlen, hin, hs, b2n]
  · refine serves_of Machine.dirStatus (fun _ _ _ => rfl) fun c r ⟨hlen, hin⟩ => ?_
    cases hs : c.rc.state <;> simp [dirStatus, noReq, hlen, hin, hs, b2n]
  · refine serves_of Machine.dirPin (fun _ _ _ => rfl) fun c r ⟨hlen, hin, hp⟩ => ?_
    simp [dirPin, noReq, hlen, hin, hp]
  · refine serves_of Machine.dirReadPage (fun _ _ _ => rfl) fun c r ⟨hlen, hz, hp, hpage⟩ => ?_
    simp [dirReadPage, hlen, hz, hp, hpage]
  · refine serves_of Machine.dirUnpin (fun _ _ _ => rfl) fun c r ⟨hlen, hz, hp⟩ => ?_
    simp [dirUnpin, hlen, hz, hp]
  · refine begins_of Machine.dirCopy (fun _ _ _ => rfl) fun c r ⟨hlen, hin, hs, hup⟩ => ?_
    simp [dirCopy, hlen, hin, hs, hup, Chip.copyOut]
  · refine serves_of Machine.dirResolve (fun _ _ _ => rfl) fun c r ⟨hlen, ha, hall, hin, he, hn⟩ => ?_
    simp [dirResolve, hlen, hin, hn, hall, addrRsv_passes ha, addrRng_passes ha, addrEpoch_passes he, kind_ne_of_not_isAll hall]
  · refine serves_of Machine.vehicleConfigSet (fun _ _ _ => rfl) fun c r ⟨hlen, hkind, hz, hid, hveh, hlo, hhi, hidx, hgate, hrep, hcomp⟩ => ?_
    have hnot : u8 r 18 = 2 → u8 r 19 ≠ 0 := fun h2 h0 => hgate ⟨h2, h0⟩
    simp [vehicleConfigSet, hlen, hz, hid, hveh, hlo, hhi, hidx, hrep, hcomp]
    omega
  · refine serves_of Machine.vehicleConfigGet (fun _ _ _ => rfl) fun c r hlen => ?_
    simp_all [vehicleConfigGet, noReq]
end Sys2Proof
end

section
/-! The roll-call commands (R102). -/

namespace Sys2Proof
open Machine

/-- Settles O2. -/
theorem rollcallCommands : Obligations.RollcallCommands := by
  unfold Obligations.RollcallCommands
  refine ⟨?_, ?_, ?_, ?_, ?_, ?_, ?_, ?_, ?_, ?_⟩
  · refine serves_of rollcallStart (fun _ _ _ => rfl) fun c r ⟨hlen, hroll⟩ => ?_
    simp [rollcallStart, noReq, hlen, hroll]
  · refine serves_of rollcallStop (fun _ _ _ => rfl) fun c r ⟨hlen, hroll⟩ => ?_
    simp [rollcallStop, noReq, hlen, hroll]
  · refine serves_of rollcallRerun (fun _ _ _ => rfl) fun c r ⟨hlen, hroll⟩ => ?_
    by_cases hw : c.rc.state = .wave <;> simp [rollcallRerun, noReq, hlen, hroll, hw]
  · refine serves_of rollcallStatus (fun _ _ _ => rfl) fun c r hlen => ?_
    simp [rollcallStatus, noReq, hlen, Ready.claimNow] <;> rfl
  · refine serves_of cabSet (fun _ _ _ => rfl) fun c r ⟨hlen, hz, hv, hsame⟩ => ?_
    exact ⟨by simp [cabSet, hlen, hz, hv], rfl, if_pos hsame⟩
  · refine serves_of cabSet (fun _ _ _ => rfl) fun c r ⟨hlen, hz, hv, hnew⟩ => ?_
    exact ⟨by simp [cabSet, hlen, hz, hv], rfl, if_neg hnew⟩
  · refine serves_of rollcallConfigSet (fun _ _ _ => rfl) fun c r ⟨⟨hlen, hz, h0, h1, h2, h3, hst⟩, hroll⟩ => ?_
    exact ⟨by simp [rollcallConfigSet, hlen, hz, h0, h1, h2, h3], firstFail_static hst, by simp [rollcallConfigSet, hroll]⟩
  · refine serves_of rollcallConfigSet (fun _ _ _ => rfl) fun c r ⟨⟨hlen, hz, h0, h1, h2, h3, hst⟩, hroll⟩ => ?_
    exact ⟨by simp [rollcallConfigSet, hlen, hz, h0, h1, h2, h3], firstFail_static hst, by simp [rollcallConfigSet, hroll, staticLate, Chip.onRc]⟩
  · refine serves_of rollcallConfigGet (fun _ _ _ => rfl) fun c r hlen => ?_
    simp [rollcallConfigGet, noReq, hlen]
  · refine serves_of rollcallCounters (fun _ _ _ => rfl) fun c r hlen => ?_
    simp [rollcallCounters, noReq, hlen]
end Sys2Proof
end

section
/-! The backbone commands (R144). -/
namespace Sys2Proof
open Machine

/-- What originates has a number in the stream table (R117). -/
theorem takeSequence_isSome_of_originate {c : Chip} {t : Telegram} {o : Telegram × Chip} (h : c.originate t = some o) :
    (c.takeSequence t.dstKind t.dstIndex t.dstValue t.tc).isSome = true := by
  unfold Chip.originate at h
  split at h
  · exact nomatch h
  · next heq => rw [heq]; rfl

/-- Settles O3. -/
theorem backboneCommands : Obligations.BackboneCommands := by
  unfold Obligations.BackboneCommands
  refine ⟨?_, ?_, ?_, ?_, ?_, ?_, fun sl => ?_, ?_, fun x => ?_, fun o => ?_, ?_, ?_⟩
  · refine serves_of bbStatus (fun _ _ _ => rfl) fun c r hlen => ?_
    cases h : c.bb.image.cur <;> simp [bbStatus, noReq, hlen, h] <;> rfl
  · refine serves_of bbConfigSet (fun _ _ _ => rfl) fun c r ⟨hlen, hz5, hz10, hmtu, h2, h3, h4, hlo6, hhi6, hlo8, hhi8, hst⟩ => ?_
    exact ⟨by simp [bbConfigSet, hlen, hz5, hz10, hmtu, h2, h3, h4, hlo6, hhi6, hlo8, hhi8], firstFail_static hst, rfl⟩
  · refine serves_of bbConfigGet (fun _ _ _ => rfl) fun c r hlen => ?_
    simp [bbConfigGet, noReq, hlen]
  · refine serves_of bbSchedStage (fun _ _ _ => rfl) fun c r h => ?_
    exact ⟨stageForm_passes h, rfl, rfl⟩
  · refine serves_of bbSchedCommit (fun _ _ _ => rfl) fun c r ⟨hlen, hv, hroll⟩ => ?_
    simp [bbSchedCommit, noReq, hlen, hv, hroll, b2n, le_zero, zeros]
  · refine serves_of bbSchedCommit (fun _ _ _ => rfl) fun c r ⟨hlen, hv, hroll⟩ => ?_
    simp [bbSchedCommit, noReq, hlen, hv, hroll, b2n]
  · refine serves_of pdWrite (fun _ _ _ => rfl) fun c r ⟨hlen, hdata, h6, hz, hsl, hown, hfits⟩ => ?_
    have hmax : 8 + u16 r 4 ≤ 512 := by omega
    simp [pdWrite, hlen, hdata, hmax, h6, hz, hsl, hown, hfits]
  · refine serves_of pdRead (fun _ _ _ => rfl) fun c r ⟨hlen, hz, hn, hx⟩ => ?_
    simp [pdRead, hlen, hz, hn, hx]
  · refine serves_of pdRead (fun _ _ _ => rfl) fun c r ⟨hlen, hz, hn, hx⟩ => ?_
    simp [pdRead, hlen, hz, hn, hx]
  · refine serves_of msgSend (fun _ _ _ => rfl) fun c r ⟨hlen, hdata, ha, hz, hz', htc, hroll, he, hnode, hroom, ho⟩ => ?_
    have hmax : 24 + u16 r 20 ≤ 512 := by omega
    have hseq := takeSequence_isSome_of_originate ho
    have hpost : c.post (Ready.message r) = some (o.1, o.2.launch o.1) := by rw [Chip.post, ho, Option.map_some]
    refine ⟨?_, ?_, ?_⟩
    · simp [msgSend, hlen, hdata, hmax, addrRsv_passes ha, addrRng_passes ha, hz, hz', htc]
    · simpa [msgSend, hroll, Chip.addrChecks, addrEpoch_passes he, hseq, hroom] using hnode
    · simp only [msgSend, hpost]
  · refine serves_of leaseStatus (fun _ _ _ => rfl) fun c r hlen => ?_
    simp [leaseStatus, noReq, hlen]
  · refine serves_of bbCounters (fun _ _ _ => rfl) fun c r ⟨hlen, hz, _, hp⟩ => ?_
    simp [bbCounters, hlen, hz, hp]
end Sys2Proof
end

section
/-! The commands of train time (R176). -/
namespace Sys2Proof
open Machine

/-- What a doorbell captures for the commands that answer it (R172, R415). -/
theorem ring_capture (c : Chip) (d : Doorbell) {op : Nat} (hop : op = 0x0303 ∨ op = 0x0A03 ∨ op = 0x0A04) (hd : d.mb < c.host.mailboxes.length) :
    ((c.ring d op false).host.mb d.mb).capture = le 8 c.trainTime ++ le 2 (c.trainPs % 1000) ++ le 1 (b2n c.timeValid) ++ zeros 5 ++ le 8 c.clk.now := by
  simp only [Chip.ring, Chip.onMb, HostIf.mb, Chip.onHost]
  rw [getD_updAt_self _ _ _ _ (by simpa using hd), if_pos hop]
  rfl

theorem timeConfigSet_form {c : Chip} {r : Bytes} (h : Ready.timeConfigSet c r) : leastFail (timeConfigSet.form c r) = none := by
  obtain ⟨hlen, hz3, hz40, h0, h1, h2, hlo4, hhi4, hlo8, hhi8, hlo12, hhi12, hcal, hlo20, hhi20, hports, -⟩ := h
  have hall : leastFail ((List.range 8).map fun i => rng (decide (u16 r (0x18 + 2 * i) ≤ 10000)) (0x18 + 2 * i)) = none :=
    leastFail_eq_none.2 (List.forall_mem_map.2 fun i hi => by simpa using hports i (List.mem_range.1 hi))
  simp [timeConfigSet, hlen, hz3, hz40, h0, h1, h2, hlo4, hhi4, hlo8, hhi8, hlo12, hhi12, hcal, hlo20, hhi20, hall]

theorem timeConfigSet_state {c : Chip} {r : Bytes} (h : Ready.timeConfigSet c r) : firstFail (timeConfigSet.state c r) = none := by
  obtain ⟨-, -, -, -, -, -, -, -, -, -, -, -, -, -, -, -, hst⟩ := h
  exact firstFail_static hst

theorem cepSet_form {c : Chip} {r : Bytes} (h : Ready.cepSet c r) : leastFail (cepSet.form c r) = none := by
  obtain ⟨hlen, hz1, h6, hz16, h0, h4, h5, hpin, hphase, hlo, hhi, hwidth⟩ := h
  have hpulse : (u8 r 6).testBit 1 = false ∨ (u8 r 7 ≤ 15 ∧ c.pinTaken (u8 r 7) = false) ∧ c.time.pinUsed (u8 r 0) (u8 r 7) = false := by
    simpa only [and_assoc] using hpin
  simp [cepSet, hlen, hz1, h6, hz16, h0, h4, h5, hpulse, hphase, hlo, hhi, hwidth]

/-- A mailbox that takes doorbells is there. -/
theorem mb_lt_of_served {c : Chip} {d : Doorbell} {op : Nat} (h : Served c d op) : d.mb < c.host.mailboxes.length := by
  obtain ⟨-, -, hs, -⟩ := h
  refine Decidable.byContradiction fun hn => ?_
  have hout : c.host.mb d.mb = { state := .offline } := by
    rw [HostIf.mb, List.getD_eq_getElem?_getD, List.getElem?_eq_none (Nat.le_of_not_lt hn), Option.getD_none]
  rw [hout] at hs
  simp at hs

/-- Settles O4. -/
theorem trainTimeCommands : Obligations.TrainTimeCommands := by
  unfold Obligations.TrainTimeCommands
  refine ⟨?_, ?_, ?_, ?_, ?_, ?_, ?_, ?_, ?_, ?_, ?_, ?_⟩
  · refine serves_of timeStatus (fun _ _ _ => rfl) fun c r hlen => ?_
    simp [timeStatus, noReq, hlen] <;> rfl
  · refine serves_of timeConfigSet (fun _ _ _ => rfl) fun c r ⟨h, hroll⟩ => ?_
    exact ⟨timeConfigSet_form h, timeConfigSet_state h, by simp [timeConfigSet, hroll]⟩
  · refine serves_of timeConfigSet (fun _ _ _ => rfl) fun c r ⟨h, hroll⟩ => ?_
    exact ⟨timeConfigSet_form h, timeConfigSet_state h, by simp [timeConfigSet, hroll, Chip.onTime]⟩
  · refine serves_of timeConfigGet (fun _ _ _ => rfl) fun c r hlen => ?_
    simp [timeConfigGet, noReq, hlen]
  · intro s t d hs hreq hbusy
    have hnow := serves_of (i := .timeNow) (ready := fun c r => r = [] ∧ c.host.busyWith 0x0303 = some d.mb) (work := fun c _ => (c, (c.host.mb d.mb).capture))
      timeNow (fun _ _ _ => rfl) (fun c r ⟨hr, hb⟩ => by simp [timeNow, noReq, hr, hb]) s t d hs ⟨hreq, hbusy⟩
    dsimp only at hnow
    rw [rung, ring_capture _ _ (.inl rfl) (mb_lt_of_served hs)] at hnow
    exact hnow
  · refine serves_of timeRefTod (fun _ _ _ => rfl) fun c r ⟨hlen, hz, hgm, hlock⟩ => ?_
    simp [timeRefTod, hlen, hz, hgm, hlock]
  · refine serves_of cepSet (fun _ _ _ => rfl) fun c r ⟨h, hroll⟩ => ?_
    exact ⟨cepSet_form h, rfl, by simp [cepSet, hroll]⟩
  · refine serves_of cepSet (fun _ _ _ => rfl) fun c r ⟨h, hroll⟩ => ?_
    exact ⟨cepSet_form h, rfl, by simp [cepSet, hroll]⟩
  · refine serves_of cepGet (fun _ _ _ => rfl) fun c r ⟨hlen, hz, hi⟩ => ?_
    simp [cepGet, hlen, hz, hi]
  · refine serves_of cepStatus (fun _ _ _ => rfl) fun c r hlen => ?_
    simp [cepStatus, noReq, hlen]
  · refine serves_of timePort (fun _ _ _ => rfl) fun c r ⟨hlen, hz, _, hp⟩ => ?_
    cases hs : (c.time.tile (u8 r 0)).samples <;> simp [timePort, hlen, hz, hp, hs, Ready.spread]
  · refine serves_of timeCounters (fun _ _ _ => rfl) fun c r hlen => ?_
    simp [timeCounters, noReq, hlen]
end Sys2Proof
end

section
/-! The car-bus commands (R220–R222). -/
namespace Sys2Proof.Machine

/-- The point table changed. -/
def Chip.withPoints (c : Chip) (l : List (CycleShadow Bytes)) : Chip := c.onCb fun b => { b with points := l }
theorem Chip.cbNext_withPoints (c : Chip) (l : List (CycleShadow Bytes)) : (c.withPoints l).cbNext = c.cbNext := rfl
theorem Chip.cbReference_withPoints (c : Chip) (l : List (CycleShadow Bytes)) : (c.withPoints l).cbReference = c.cbReference := rfl
theorem Chip.cbFirstState_withPoints (c : Chip) (l : List (CycleShadow Bytes)) : (c.withPoints l).cbFirstState = c.cbFirstState := rfl
theorem Chip.cbKeepsStep_withPoints (c : Chip) (l : List (CycleShadow Bytes)) (w : CbSt) : (c.withPoints l).cbKeepsStep w = c.cbKeepsStep w := rfl
theorem Chip.cbThen_withPoints (c : Chip) (l : List (CycleShadow Bytes)) : (c.withPoints l).cbThen = c.cbThen.withPoints l := by
  unfold Chip.cbThen
  dsimp only
  rw [cbNext_withPoints, cbReference_withPoints, cbFirstState_withPoints, cbKeepsStep_withPoints]
  rfl

/-- The next boundary does not hang on the points. -/
theorem Chip.cbEffective_withPoints (c : Chip) (l : List (CycleShadow Bytes)) : (c.withPoints l).cbEffective = c.cbEffective := by
  have hahead : (c.withPoints l).cbAhead = c.cbAhead := rfl
  rw [Chip.cbEffective, hahead, cbThen_withPoints, cbNext_withPoints, cbNext_withPoints, Chip.cbEffective]

end Sys2Proof.Machine

namespace Sys2Proof
open Machine

/-- Settles O5. -/
theorem carBusCommands : Obligations.CarBusCommands := by
  unfold Obligations.CarBusCommands
  refine ⟨?_, ?_, ?_, fun img => ?_, ?_, ?_, ?_, ?_, ?_, fun sl => ?_, ?_, fun x => ?_, fun o => ?_, ?_, fun e es => ?_, fun sl => ?_, ?_, ?_, ?_, ?_⟩
  · refine serves_of cbStatus (fun _ _ _ => rfl) fun c r hlen => ?_
    exact ⟨noReq_passes hlen, rfl, rfl⟩
  · refine serves_of cbConfigSet (fun _ _ _ => rfl) fun c r ⟨hlen, hz2, hen, hmute, hz21, hmode, hport, hcross, hlo12, hhi12, hlo14, hhi14, h16, hlo18, hhi18, h20, hst⟩ => ?_
    exact ⟨by simp [cbConfigSet, hlen, hz2, hen, hmute, hz21, hmode, hport, hcross, hlo12, hhi12, hlo14, hhi14, h16, hlo18, hhi18, h20], firstFail_static hst,
      by simp [cbConfigSet, Chip.onCb]⟩
  · refine serves_of cbConfigGet (fun _ _ _ => rfl) fun c r hlen => ?_
    simp [cbConfigGet, noReq, hlen]
  · refine serves_of cbStart (fun _ _ _ => rfl) fun c r ⟨hlen, hst, himg, hok⟩ => ?_
    exact ⟨by simp [cbStart, noReq, hlen], by simp [cbStart, hst, himg, hok], rfl⟩
  · refine serves_of cbStop (fun _ _ _ => rfl) fun c r ⟨hlen, hst, hcyc⟩ => ?_
    simp [cbStop, noReq, hlen, hst, -Bool.and_eq_true, hcyc]
  · refine begins_of cbStop (fun _ _ _ => rfl) fun c r ⟨hlen, hst, hcyc⟩ => ?_
    simp [cbStop, noReq, hlen, hst, -Bool.and_eq_true, hcyc]
  · refine serves_of cbSchedStage (fun _ _ _ => rfl) fun c r h => ?_
    exact ⟨stageForm_passes h, rfl, rfl⟩
  · refine serves_of cbSchedCommit (fun _ _ _ => rfl) fun c r ⟨⟨hlen, hok⟩, hst⟩ => ?_
    simp [cbSchedCommit, noReq, hlen, hok, hst, le_zero]
  · refine serves_of cbSchedCommit (fun _ _ _ => rfl) fun c r ⟨⟨hlen, hok⟩, hst⟩ => ?_
    simp [cbSchedCommit, noReq, hlen, hok, hst, le_zero, zeros_append]
  · refine serves_of cbTxWrite (fun _ _ _ => rfl) fun c r ⟨hlen, h3, hz, hsl, hfits⟩ => ?_
    have hmax : 8 + u8 r 2 ≤ 512 := by have := u8_lt r 2; omega
    simp [cbTxWrite, hlen, hmax, h3, hz, hsl, hfits]
  · refine serves_of cbRxRead (fun _ _ _ => rfl) fun c r ⟨⟨hlen, hz, hsl, hown⟩, hx⟩ => ?_
    simp [cbRxRead, hlen, hz, hsl, hown, hx]
  · refine serves_of cbRxRead (fun _ _ _ => rfl) fun c r ⟨⟨hlen, hz, hsl, hown⟩, hx⟩ => ?_
    simp [cbRxRead, hlen, hz, hsl, hown, hx]
  · refine serves_of cbEventSend (fun _ _ _ => rfl) fun c r ⟨hlen, hz, hdest, hlow, hdata, ho⟩ => ?_
    have hmax : 4 + u8 r 2 ≤ 512 := by omega
    simp [cbEventSend, hlen, hmax, hz, hdest, hlow, hdata, ho]
  · refine serves_of cbEventRead (fun _ _ _ => rfl) fun c r ⟨hlen, hq⟩ => ?_
    exact ⟨noReq_passes (c := c) hlen, rfl, by simp only [cbEventRead, hq]⟩
  · refine serves_of cbEventRead (fun _ _ _ => rfl) fun c r ⟨hlen, hq⟩ => ?_
    exact ⟨noReq_passes (c := c) hlen, rfl, by simp only [cbEventRead, hq]⟩
  · refine serves_of cbSlotStatus (fun _ _ _ => rfl) fun c r ⟨hlen, hz, hsl⟩ => ?_
    exact ⟨by simp [cbSlotStatus, hlen, hz, hsl], rfl, by simp only [cbSlotStatus, hsl]⟩
  · refine serves_of cbPointSet (fun _ _ _ => rfl) fun c r ⟨⟨hlen, hz, h0, h1, hoff⟩, hst⟩ => ?_
    exact ⟨by simp [cbPointSet, hlen, hz, h0, h1, hoff], rfl, by simp [cbPointSet, hst, le_zero]⟩
  · refine serves_of cbPointSet (fun _ _ _ => rfl) fun c r ⟨⟨hlen, hz, h0, h1, hoff⟩, hst⟩ => ?_
    refine ⟨by simp [cbPointSet, hlen, hz, h0, h1, hoff], rfl, ?_⟩
    have hne : (c.cb.state == .stopped) = false := by simpa using hst
    have heff := c.cbEffective_withPoints (updAt c.cb.points (u8 r 0) fun p => p.write (c.cb.cycleIndex + c.cbAhead) r)
    simp only [cbPointSet, hne, Bool.false_eq_true, if_false]
    exact congrArg (fun e => (c.withPoints _).ok (le 4 e)) heff
  · refine serves_of cbCounters (fun _ _ _ => rfl) fun c r ⟨hlen, hz, hlo, hhi⟩ => ?_
    have hport : u8 r 0 ≠ 0xFF := by omega
    simp [cbCounters, hlen, hz, hlo, hhi, hport]
  · refine serves_of cbCounters (fun _ _ _ => rfl) fun c r ⟨hlen, hz, hlo, hhi⟩ => ?_
    have hport : u8 r 0 = 0xFF := by omega
    simp [cbCounters, hlen, hz, hport]
end Sys2Proof
end

section
/-! The commands over a CAN channel (R251). -/
namespace Sys2Proof.Machine

theorem canForm_passes {c : Chip} {r : Bytes} (h : Ready.channel c r) : leastFail (canForm 4 r) = none := by
  obtain ⟨hlen, hz, hn⟩ := h
  simp [canForm, hlen, hz, hn]

theorem bufNumForm_passes {c : Chip} {r : Bytes} (h : Ready.buffer c r) : leastFail (bufNumForm r) = none := by
  obtain ⟨hlen, hz, hn, hb⟩ := h
  simp [bufNumForm, hlen, hz, hn, hb]

/-- Clearing a bit that is not set changes nothing. -/
theorem and_not_bit_of_clear {w : Nat} (x : BitVec w) (n : Nat) (h : x.getLsbD n = false) : x &&& ~~~(1#w <<< n) = x := by
  ext i hi
  simp only [BitVec.getElem_and, BitVec.getElem_not, BitVec.getElem_shiftLeft, BitVec.getElem_one]
  by_cases hn : i = n
  · subst hn
    rw [← BitVec.getLsbD_eq_getElem, h, Bool.false_and]
  · have hbit : (!decide (i < n) && decide (i - n = 0)) = false := by
      simp only [Bool.and_eq_false_imp, Bool.not_eq_true', decide_eq_false_iff_not]
      omega
    rw [hbit, Bool.not_false, Bool.and_true]

/-- Starting a channel whose tile works leaves the tiles as they were. -/
theorem tile_cleared {c : Chip} {n : Nat} (h : c.tiles.can.getLsbD n = false) : { c with tiles := { c.tiles with can := c.tiles.can &&& ~~~(1#12 <<< n) } } = c := by
  rw [and_not_bit_of_clear _ _ h]

/-- Bit timing in its limits is so for either bit (R225). -/
theorem nomTimingOk_of {g : Bytes} (h : timingOk g = true) : nomTimingOk g = true := by
  simp only [timingOk, nomTimingOk, decide_eq_true_iff] at h ⊢
  exact fun _ => ⟨h.1, h.2.1⟩

theorem dataTimingOk_of {g : Bytes} (h : timingOk g = true) : dataTimingOk g = true := by
  simp only [dataTimingOk, decide_eq_true_iff]
  exact fun _ => .inl h

end Sys2Proof.Machine

namespace Sys2Proof
open Machine

/-- What CAN_START does to a channel whose tile works (R226, R227, R251). -/
def channelStart (n : Nat) (c : Chip) : Reply :=
  let busOff := (c.canCh n).stoppedBusOff
  let d := c.onCan n fun x =>
    { x with tec := if busOff then x.tec else 0, rxErrs := if busOff then x.rxErrs else 0, ackRun := 0, alone := false, warning := busOff && x.warning
             sending := none, stopping := false, cellWait := none, errFrame := none, checkWait := none, bufs := x.bufs.map fun b => { b with clashRun := 0 }, fifoClash := 0 }
  let d := if (c.canCh n).warning ∧ !busOff then d.canRaise n 65 else d
  let d := (d.canMatrixStart n).setCan n (if busOff then .recovering else .integrating)
  d.ok (le 1 (d.canCh n).state.code ++ zeros 3)

theorem canStart_act_of_sound {c : Chip} {r : Bytes} (h : c.tiles.can.getLsbD (u8 r 0) = false) : canStart.act c r = channelStart (u8 r 0) c := by
  simp only [canStart, h, Bool.false_eq_true, if_false, false_and, tile_cleared h]
  rfl

theorem canStart_act_of_isolated {c : Chip} {r : Bytes} (h : c.tiles.can.getLsbD (u8 r 0) = true) (hok : c.draw.1 % 2 = 0) :
    canStart.act c r = channelStart (u8 r 0) (Ready.tileBack c r) := by
  have hpass : ¬(True ∧ c.draw.1 % 2 = 1) := by omega
  simp only [canStart, h, if_true, if_neg hpass]
  rfl

/-- The chip of a channel that starts afresh. -/
def freshChannel (n : Nat) (c : Chip) : Chip :=
  let d := c.onCan n fun x =>
    { x with tec := 0, rxErrs := 0, ackRun := 0, alone := false, warning := false, sending := none, stopping := false, cellWait := none, errFrame := none
             checkWait := none, bufs := x.bufs.map fun b => { b with clashRun := 0 }, fifoClash := 0 }
  ((if (c.canCh n).warning then d.canRaise n 65 else d).canMatrixStart n).setCan n .integrating

/-- The chip of a channel that starts in the recovery it stopped in. -/
def recoveringChannel (n : Nat) (c : Chip) : Chip :=
  ((c.onCan n fun x =>
    { x with ackRun := 0, alone := false, sending := none, stopping := false, cellWait := none, errFrame := none, checkWait := none
             bufs := x.bufs.map fun b => { b with clashRun := 0 }, fifoClash := 0 }).canMatrixStart n).setCan n .recovering

theorem channelStart_of_fresh {n : Nat} {c : Chip} (h : (c.canCh n).stoppedBusOff = false) :
    channelStart n c = (freshChannel n c).ok (le 1 ((freshChannel n c).canCh n).state.code ++ zeros 3) := by
  simp [channelStart, freshChannel, h]

theorem channelStart_of_busOff {n : Nat} {c : Chip} (h : (c.canCh n).stoppedBusOff = true) :
    channelStart n c = (recoveringChannel n c).ok (le 1 ((recoveringChannel n c).canCh n).state.code ++ zeros 3) := by
  simp [channelStart, recoveringChannel, h]

theorem canStart_passes {iso busOff : Bool} {c : Chip} {r : Bytes} (h : Ready.canStart iso busOff c r) :
    leastFail (canStart.form c r) = none ∧ firstFail (canStart.state c r) = none := by
  obtain ⟨hch, hst, hfd, himg, -, -⟩ := h
  refine ⟨canForm_passes hch, ?_⟩
  cases hcur : (c.canCh (u8 r 0)).image.cur with
  | none => simp [canStart, hst, hfd, hcur]
  | some img => simp [canStart, hst, hfd, hcur, himg img hcur]

/-- Settles O6. -/
theorem canChannelCommands : Obligations.CanChannelCommands := by
  unfold Obligations.CanChannelCommands
  refine ⟨?_, ?_, ?_, ?_, ?_, ?_, ?_, ?_, fun d => ?_, fun d => ?_, ?_, ?_, ?_⟩
  · exact serves_of canStatus (fun _ _ _ => rfl) fun c r h => ⟨canForm_passes h, rfl, rfl⟩
  · refine serves_of canConfigSet (fun _ _ _ => rfl) fun c r h => ?_
    obtain ⟨hlen, hz1, hch, hz19, hz27, h4, h5, h6, h7, hlo8, hhi8, hlo10, hhi10, hlo12, hhi12, hlo13, hhi13, hlo14, hhi14, hlo15, hhi15, hlo16, hhi16, hlo17, hhi17,
      h18, htime, h20, hlo21, hhi21, hlo22, hhi22, hlo24, hhi24, h26, hst⟩ := h
    have h13 : u8 (r.drop 4) 9 ≤ 128 := Nat.le_trans hhi13 hhi12
    have hlow : u8 (r.drop 4) 0 ≤ 1 ∧ u8 (r.drop 4) 1 ≤ 1 ∧ u8 (r.drop 4) 2 ≤ 1 ∧ u8 (r.drop 4) 3 ≤ 1 := by simp only [u8_drop]; exact ⟨h4, h5, h6, h7⟩
    have h17 : u8 (r.drop 4) 13 ≤ 16 := Nat.le_trans hhi17 hhi16
    exact ⟨by simp [canConfigSet, canForm, *, nomTimingOk_of htime, dataTimingOk_of htime], firstFail_static hst, rfl⟩
  · exact serves_of canConfigGet (fun _ _ _ => rfl) fun c r h => ⟨canForm_passes h, rfl, rfl⟩
  · refine serves_of canStart (fun _ _ _ => rfl) fun c r h => ?_
    obtain ⟨hform, hstate⟩ := canStart_passes h
    obtain ⟨-, -, -, -, hiso, hbus⟩ := h
    exact ⟨hform, hstate, (canStart_act_of_sound hiso).trans (channelStart_of_fresh hbus)⟩
  · refine serves_of canStart (fun _ _ _ => rfl) fun c r h => ?_
    obtain ⟨hform, hstate⟩ := canStart_passes h
    obtain ⟨-, -, -, -, hiso, hbus⟩ := h
    exact ⟨hform, hstate, (canStart_act_of_sound hiso).trans (channelStart_of_busOff hbus)⟩
  · refine serves_of canStart (fun _ _ _ => rfl) fun c r ⟨h, hok⟩ => ?_
    obtain ⟨hform, hstate⟩ := canStart_passes h
    obtain ⟨-, -, -, -, hiso, hbus⟩ := h
    exact ⟨hform, hstate, (canStart_act_of_isolated hiso hok).trans (channelStart_of_fresh (c := Ready.tileBack c r) hbus)⟩
  · refine serves_of canStart (fun _ _ _ => rfl) fun c r ⟨h, hok⟩ => ?_
    obtain ⟨hform, hstate⟩ := canStart_passes h
    obtain ⟨-, -, -, -, hiso, hbus⟩ := h
    exact ⟨hform, hstate, (canStart_act_of_isolated hiso hok).trans (channelStart_of_busOff (c := Ready.tileBack c r) hbus)⟩
  · intro b s t d hs h hfail
    obtain ⟨hform, hstate⟩ := canStart_passes h
    obtain ⟨-, -, -, -, hiso, -⟩ := h
    have hact : canStart.act (rung s t d 0x0503) (asked s t d 0x0503) = (rung s t d 0x0503).draw.2.refuse 0x02 := by simp [canStart, hiso, hfail]
    have hans := answers_of (i := .canStart) canStart (fun _ _ _ => rfl) hs hform hstate
    rwa [hact, Chip.settle_refuse] at hans
  · refine serves_of canStop (fun _ _ _ => rfl) fun c r ⟨hch, hst, hbusy⟩ => ?_
    exact ⟨canForm_passes hch, by simp [canStop, hst], by simp only [canStop, hbusy]⟩
  · refine begins_of canStop (fun _ _ _ => rfl) fun c r ⟨hch, hst, hbusy⟩ => ?_
    exact ⟨canForm_passes hch, by simp [canStop, hst], by simp only [canStop, hbusy], by simp only [canStop, hbusy]⟩
  · refine serves_of canRecover (fun _ _ _ => rfl) fun c r ⟨hch, hst⟩ => ?_
    exact ⟨canForm_passes hch, by simp [canRecover, hst], rfl⟩
  · refine serves_of canBufSet (fun _ _ _ => rfl) fun c r ⟨hlen, hz, hform, hn, hb, hst⟩ => ?_
    exact ⟨by simp [canBufSet, hlen, hz, hform, hn, hb], by simp [canBufSet, hst], rfl⟩
  · exact serves_of canBufGet (fun _ _ _ => rfl) fun c r h => ⟨bufNumForm_passes h, rfl, rfl⟩
end Sys2Proof
end

section
/-! The commands over CAN frames, the matrix image and the counters (R251, R252). -/
namespace Sys2Proof.Machine

/-- CAN_SEND's request has the length that its DLC says. -/
theorem canSend_form {c c' : Chip} {r : Bytes} (h : Ready.canSend c' c r) : leastFail (canSend.form c r) = none := by
  obtain ⟨hlen, hdlc, hfl, hz, hid, hn, hbrs, hfd, hd, -, -, -⟩ := h
  have hshort : ¬r.length < 8 := by omega
  have hbrs' : (u8 r 1).testBit 2 = false ∨ (u8 r 1).testBit 1 = true := by
    cases h2 : (u8 r 1).testBit 2
    · exact .inl rfl
    · exact .inr (hbrs h2)
  have hfd' : (u8 r 1).testBit 1 = false ∨ u8 (c.canCh (u8 r 0)).config 1 = 1 := by
    cases h1 : (u8 r 1).testBit 1
    · exact .inl rfl
    · exact .inr (hfd h1)
  have hident : identRsv ((u8 r 1).testBit 0) (u32 r 4) 4 = none := if_pos hid
  simp only [canSend, if_neg hshort, if_pos hdlc, hident, leastFail_cons_eq_none, leastFail_nil, lenIs_eq_none, enc_eq_none, rsv_eq_none, rng_eq_none, Bool.or_eq_true,
    Bool.and_eq_true, Bool.not_eq_true', beq_iff_eq, decide_eq_true_iff, and_true]
  exact ⟨hlen, hfl, hz, trivial, hn, hbrs', hfd', hdlc, hd⟩

/-- The boundaries of a matrix that is not aligned, or has no train time, follow its own cycle (R237). -/
theorem canBoundaries_of_free {c : Chip} {n : Nat} (L : Nat) (h : (c.canCh n).matrix ≠ 2 ∨ c.timeValid = false) :
    c.canBoundaries n L = (((c.canCh n).basicStart + (64 - (c.canCh n).basicIndex) * L, (c.canCh n).matrixCycle + 1),
      ((c.canCh n).basicStart + (64 - (c.canCh n).basicIndex) * L + 64 * L, (c.canCh n).matrixCycle + 2)) := by
  have hfree : ¬((c.canCh n).matrix = 2 ∧ c.timeValid = true) := by
    rintro ⟨hm, ht⟩
    rcases h with h | h
    · exact h hm
    · simp [h] at ht
  simp only [Chip.canBoundaries, if_neg hfree]

end Sys2Proof.Machine

namespace Sys2Proof
open Machine

/-- Settles O7. -/
theorem canFrameCommands : Obligations.CanFrameCommands := by
  unfold Obligations.CanFrameCommands
  refine ⟨?_, ?_, fun f tt valid => ?_, fun c' => ?_, ?_, ?_, ?_, fun img => ?_, fun img b1 b2 => ?_, ?_, ?_, ?_⟩
  · refine serves_of canTxWrite (fun _ _ _ => rfl) fun c r ⟨hlen, h4, hz, hn, hb, htx, hfits⟩ => ?_
    have hmax : 8 + u8 r 3 ≤ 512 := by have := u8_lt r 3; omega
    exact ⟨by simp [canTxWrite, hlen, hmax, h4, hz, hn, hb, htx, hfits], rfl, rfl⟩
  · refine serves_of canRxRead (fun _ _ _ => rfl) fun c r ⟨hbuf, hkind, hfront⟩ => ?_
    exact ⟨by simp [canRxRead, bufNumForm_passes hbuf, hkind], rfl, by simp only [canRxRead, hfront]⟩
  · refine serves_of canRxRead (fun _ _ _ => rfl) fun c r ⟨hbuf, hkind, hfront⟩ => ?_
    exact ⟨by simp [canRxRead, bufNumForm_passes hbuf, hkind], rfl, by simp only [canRxRead, hfront]⟩
  · refine serves_of canSend (fun _ _ _ => rfl) fun c r h => ?_
    have hform := canSend_form h
    obtain ⟨-, -, -, -, -, -, -, -, -, hst, hlo, hpush⟩ := h
    exact ⟨hform, by simp [canSend, hst, hlo], by simp only [canSend, hpush]⟩
  · refine serves_of canMatrixStage (fun _ _ _ => rfl) fun c r ⟨hlen, hdata, hz1, hz10, hn, hfits⟩ => ?_
    have hmax : 12 + u16 r 8 ≤ 512 := by omega
    exact ⟨by simp [canMatrixStage, hlen, hdata, hmax, hz1, hz10, hn, hfits], rfl, rfl⟩
  · refine serves_of canMatrixCommit (fun _ _ _ => rfl) fun c r ⟨⟨hch, hok⟩, hst⟩ => ?_
    exact ⟨canForm_passes hch, by simp [canMatrixCommit, hok], by simp [canMatrixCommit, hst, le_zero]⟩
  · refine serves_of canMatrixCommit (fun _ _ _ => rfl) fun c r ⟨⟨hch, hok⟩, hst, hnone⟩ => ?_
    exact ⟨canForm_passes hch, by simp [canMatrixCommit, hok], by simp [canMatrixCommit, hst, hnone, le_zero]⟩
  · refine serves_of canMatrixCommit (fun _ _ _ => rfl) fun c r ⟨⟨hch, hok⟩, hst, himg, hfree⟩ => ?_
    refine ⟨canForm_passes hch, by simp [canMatrixCommit, hok], ?_⟩
    by_cases hsoon : c.clk.now + 5000 ≤ (c.canCh (u8 r 0)).basicStart + (64 - (c.canCh (u8 r 0)).basicIndex) * basicNs img <;>
      simp [canMatrixCommit, hst, himg, canBoundaries_of_free _ hfree, le_zero, zeros_append, hsoon]
  · refine serves_of canMatrixCommit (fun _ _ _ => rfl) fun c r ⟨⟨hch, hok⟩, hst, himg, hbound⟩ => ?_
    refine ⟨canForm_passes hch, by simp [canMatrixCommit, hok], ?_⟩
    simp [canMatrixCommit, hst, himg, hbound, le_zero, zeros_append]
  · refine serves_of canBufResume (fun _ _ _ => rfl) fun c r ⟨hlen, hz, hn, hall, hsus⟩ => ?_
    exact ⟨by simp [canBufResume, hlen, hz, hn, hall], by simp [canBufResume, hall, hsus], by simp [canBufResume, hall]⟩
  · refine serves_of canBufResume (fun _ _ _ => rfl) fun c r ⟨⟨hlen, hz, hn, hb⟩, hsus⟩ => ?_
    have hone : u8 r 1 ≠ 0xFF := by omega
    exact ⟨by simp [canBufResume, hlen, hz, hn, hb], by simp [canBufResume, hone, hsus], by simp [canBufResume, hone]⟩
  · exact serves_of canCounters (fun _ _ _ => rfl) fun c r h => ⟨canForm_passes h, rfl, rfl⟩
end Sys2Proof
end

section
/-! The commands of the message router (R275). -/
namespace Sys2Proof
open Machine

/-- Settles O8. -/
theorem routerCommands : Obligations.RouterCommands := by
  unfold Obligations.RouterCommands
  refine ⟨fun o => ?_, ?_, ?_, ?_, ?_, ?_, fun img => ?_, fun img => ?_, ?_, ?_, ?_, fun img => ?_, fun img => ?_⟩
  · refine serves_of routeStatus (fun _ _ _ => rfl) fun c r ⟨hlen, himg⟩ => ⟨noReq_passes (c := c) hlen, rfl, ?_⟩
    cases o with
    | none => simp [routeStatus, himg]
    | some img => simp only [routeStatus, himg]; rfl
  · refine serves_of routeStart (fun _ _ _ => rfl) fun c r ⟨hlen, hrun⟩ => ?_
    exact ⟨noReq_passes (c := c) hlen, by simp [routeStart, hrun], rfl⟩
  · refine serves_of routeStop (fun _ _ _ => rfl) fun c r ⟨hlen, hrun⟩ => ?_
    exact ⟨noReq_passes (c := c) hlen, by simp [routeStop, hrun], rfl⟩
  · exact serves_of routeStage (fun _ _ _ => rfl) fun c r h => ⟨stageForm_passes h, rfl, rfl⟩
  · refine serves_of routeCommit (fun _ _ _ => rfl) fun c r ⟨hlen, hok, hrun⟩ => ?_
    exact ⟨noReq_passes (c := c) hlen, by simp [routeCommit, hok], by simp [routeCommit, hrun, le_zero, zeros_append]⟩
  · refine serves_of routeCommit (fun _ _ _ => rfl) fun c r ⟨hlen, hok, hrun⟩ => ?_
    exact ⟨noReq_passes (c := c) hlen, by simp [routeCommit, hok], by simp [routeCommit, hrun, le_zero]⟩
  · refine serves_of routeEntryGet (fun _ _ _ => rfl) fun c r ⟨hlen, hz, himg, hi⟩ => ?_
    exact ⟨by simp [routeEntryGet, hlen, hz, himg, hi], rfl, by simp only [routeEntryGet, himg]⟩
  · refine serves_of routeEntryEnable (fun _ _ _ => rfl) fun c r ⟨hlen, hz, himg, hi, hen⟩ => ?_
    exact ⟨by simp [routeEntryEnable, hlen, hz, Chip.hasEntry, himg, hi, hen], rfl, by simp only [routeEntryEnable, himg]⟩
  · refine serves_of guardStatus (fun _ _ _ => rfl) fun c r ⟨hlen, hz, hg⟩ => ?_
    exact ⟨by simp [guardStatus, guardForm, hlen, hz, hg], rfl, rfl⟩
  · refine serves_of guardReset (fun _ _ _ => rfl) fun c r ⟨hlen, hz, hg⟩ => ?_
    exact ⟨by simp [guardReset, guardForm, hlen, hz, hg], rfl, rfl⟩
  · exact serves_of routeCounters (fun _ _ _ => rfl) fun c r hlen => ⟨noReq_passes (c := c) hlen, rfl, rfl⟩
  · refine serves_of guardCompute (fun _ _ _ => rfl) fun c r ⟨hlen, hdata, himg, hunit, hraw, _⟩ => ?_
    have hmax : 8 + u16 r 6 ≤ 512 := by omega
    exact ⟨by simp [guardCompute, hlen, hdata, hmax, himg, hunit, hraw], rfl, by simp [guardCompute, himg, hraw, le_zero]⟩
  · refine serves_of guardCompute (fun _ _ _ => rfl) fun c r ⟨hlen, hdata, himg, hunit, hraw, hblock⟩ => ?_
    have hmax : 8 + u16 r 6 ≤ 512 := by omega
    have hfits := hblock.resolve_left (by decide)
    exact ⟨by simp [guardCompute, hlen, hdata, hmax, himg, hunit, hraw, hfits], rfl, by simp [guardCompute, himg, hraw]⟩
end Sys2Proof
end

section
/-! The bridge's configuration, windows and exports (R307). -/
namespace Sys2Proof
open Machine

theorem brConfigSet_passes {c : Chip} {r : Bytes} (h : Ready.brConfigSet c r) : leastFail (brConfigSet.form c r) = none ∧ firstFail (brConfigSet.state c r) = none := by
  obtain ⟨hlen, hz, hlo0, hhi0, hlo4, hhi4, hlo6, hhi6, h8, hst⟩ := h
  exact ⟨by simp [brConfigSet, hlen, hz, hlo0, hhi0, hlo4, hhi4, hlo6, hhi6, h8], firstFail_static hst⟩

theorem brWindowEnable_form {on : Nat} {c : Chip} {r : Bytes} (h : Ready.brWindowEnable on c r) (hon : on ≤ 1) : leastFail (brWindowEnable.form c r) = none := by
  obtain ⟨hlen, hz, hn, hval, -⟩ := h
  simp [brWindowEnable, hlen, hz, hn, hval, hon]

/-- Settles O9. -/
theorem bridgeSetupCommands : Obligations.BridgeSetupCommands := by
  unfold Obligations.BridgeSetupCommands
  refine ⟨?_, ?_, ?_, ?_, ?_, ?_, ?_, ?_, ?_, ?_, ?_, ?_, ?_, fun hr k => ?_, ?_, ?_⟩
  · exact serves_of brStatus (fun _ _ _ => rfl) fun c r hlen => ⟨noReq_passes (c := c) hlen, rfl, rfl⟩
  · refine serves_of brConfigSet (fun _ _ _ => rfl) fun c r ⟨h, hrun⟩ => ?_
    obtain ⟨hform, hstate⟩ := brConfigSet_passes h
    exact ⟨hform, hstate, by simp [brConfigSet, Chip.onBr, hrun]⟩
  · refine serves_of brConfigSet (fun _ _ _ => rfl) fun c r ⟨h, hrun⟩ => ?_
    obtain ⟨hform, hstate⟩ := brConfigSet_passes h
    exact ⟨hform, hstate, by simp [brConfigSet, Chip.onBr, hrun]⟩
  · exact serves_of brConfigGet (fun _ _ _ => rfl) fun c r hlen => ⟨noReq_passes (c := c) hlen, rfl, rfl⟩
  · refine serves_of brStart (fun _ _ _ => rfl) fun c r ⟨hlen, hrun⟩ => ?_
    exact ⟨noReq_passes (c := c) hlen, by simp [brStart, hrun], by simp only [brStart, Chip.onBr]⟩
  · refine serves_of brStop (fun _ _ _ => rfl) fun c r ⟨hlen, hrun, hset⟩ => ?_
    exact ⟨noReq_passes (c := c) hlen, by simp [brStop, hrun], by simp [brStop, hset]⟩
  · refine begins_of brStop (fun _ _ _ => rfl) fun c r ⟨hlen, hrun, hset⟩ => ?_
    exact ⟨noReq_passes (c := c) hlen, by simp [brStop, hrun], by simp [brStop, hset], by simp [brStop, hset]⟩
  · refine serves_of brWindowSet (fun _ _ _ => rfl) fun c r ⟨hlen, hform, hoff, htarget, hhold, hsplit⟩ => ?_
    refine ⟨by simp [brWindowSet, hlen, hform], ?_, rfl⟩
    simp only [brWindowSet, firstFail_cons_eq_none, firstFail_nil, need_eq_none, rng_eq_none, hoff, htarget, and_true, true_and, Bool.not_false]
    refine ⟨by simpa using hhold, ?_⟩
    rcases hsplit with h | h
    · simp [h]
    · simp [Nat.not_le.2 h]
  · refine serves_of brWindowEnable (fun _ _ _ => rfl) fun c r ⟨h, hset, hoff⟩ => ?_
    have hform := brWindowEnable_form h (by decide)
    obtain ⟨-, -, -, hon, hrun⟩ := h
    exact ⟨hform, by simp [brWindowEnable, hrun, hset], by simp [brWindowEnable, hon, hoff]⟩
  · refine serves_of brWindowEnable (fun _ _ _ => rfl) fun c r ⟨h, hset, hen⟩ => ?_
    have hform := brWindowEnable_form h (by decide)
    obtain ⟨-, -, -, hon, hrun⟩ := h
    exact ⟨hform, by simp [brWindowEnable, hrun, hset], by simp [brWindowEnable, hon, hen]⟩
  · refine serves_of brWindowEnable (fun _ _ _ => rfl) fun c r ⟨h, hoff⟩ => ?_
    have hform := brWindowEnable_form h (by decide)
    obtain ⟨-, -, -, hval, hrun⟩ := h
    exact ⟨hform, by simp [brWindowEnable, hrun, hval], by simp [brWindowEnable, hval, hoff]⟩
  · refine serves_of brWindowEnable (fun _ _ _ => rfl) fun c r ⟨h, hen, hset⟩ => ?_
    have hform := brWindowEnable_form h (by decide)
    obtain ⟨-, -, -, hval, hrun⟩ := h
    exact ⟨hform, by simp [brWindowEnable, hrun, hval], by simp [brWindowEnable, hval, hen, hset]⟩
  · refine begins_of brWindowEnable (fun _ _ _ => rfl) fun c r ⟨h, hen, hset⟩ => ?_
    have hform := brWindowEnable_form h (by decide)
    obtain ⟨-, -, -, hval, hrun⟩ := h
    exact ⟨hform, by simp [brWindowEnable, hrun, hval], by simp [brWindowEnable, hval, hen, hset], by simp [brWindowEnable, hval, hen, hset]⟩
  · refine serves_of brWindowStatus (fun _ _ _ => rfl) fun c r ⟨⟨hlen, hz, hn⟩, hrtt, hreach⟩ => ?_
    exact ⟨by simp [brWindowStatus, hlen, hz, hn], rfl, by simp only [brWindowStatus, hrtt, hreach]⟩
  · refine serves_of brExport (fun _ _ _ => rfl) fun c r ⟨⟨hlen, hop, hz2, h5, h6, hz7, hn, h4⟩, hset, hbase, hlo, hhi, hsize, hkeep⟩ => ?_
    refine ⟨by simp [brExport, hlen, hz2, h5, h6, hz7, hn, h4, hset, hbase, hlo, hhi, hsize], ?_, by simp [brExport, hset]; rfl⟩
    simpa [brExport, hset] using hkeep
  · refine serves_of brExport (fun _ _ _ => rfl) fun c r ⟨⟨hlen, hop, hz2, h5, h6, hz7, hn, h4⟩, hget, hz4⟩ => ?_
    exact ⟨by simp [brExport, hlen, hz2, h5, h6, hz7, hn, h4, hget, hz4], by simp [brExport, hget], by simp [brExport, hget]⟩
end Sys2Proof
end

section
/-! Asynchronous reads, the record queues, prefetch, semaphores and counters of the window bridge (R307). -/
namespace Sys2Proof
open Machine

theorem brRead_passes {reach : Option Nat} {c : Chip} {r : Bytes} (h : Ready.brRead reach c r) :
    leastFail (brRead.form c r) = none ∧ firstFail (brRead.state c r) = none := by
  obtain ⟨hlen, hz, hn, hlo, hhi, hfits, hopen, hroom, -⟩ := h
  exact ⟨by simp [brRead, hlen, hz, hn, hlo, hhi, hfits], by simp [brRead, hopen, hroom]⟩

theorem brPrefetch_passes {length : Nat} {reach : Option Nat} {c : Chip} {r : Bytes} (h : Ready.brPrefetch length reach c r) :
    leastFail (brPrefetch.form c r) = none ∧ firstFail (brPrefetch.state c r) = none := by
  obtain ⟨hlen, hz, hn, hmax, -, hopen, hmode, hwork, -⟩ := h
  exact ⟨by simp [brPrefetch, hlen, hz, hn, hmax], by simp [brPrefetch, hopen, hmode, hwork]⟩

theorem semBind_passes {n : NodeEntry} {c : Chip} {r : Bytes} (h : Ready.semBind n c r) :
    leastFail (brSemControl.form c r) = none ∧ firstFail (brSemControl.state c r) = none := by
  obtain ⟨⟨hlen, hact, hz2, hz15, hsem, hhome, -, hst⟩, haddr, hep, hn⟩ := h
  obtain ⟨hacq, hpend⟩ := hst.resolve_left (by decide)
  exact ⟨by simp [brSemControl, hlen, hact, hz2, hz15, hsem, hhome, addrRsv_passes haddr, addrRng_passes haddr],
    by simp [brSemControl, hact, hacq, hpend, addrEpoch_passes hep, hn]⟩

theorem semControl_passes {action : Nat} {c : Chip} {r : Bytes} (h : Ready.semControl action c r) (hlo : action ≠ 0) (hhi : action ≤ 3) :
    leastFail (brSemControl.form c r) = none ∧ firstFail (brSemControl.state c r) = none := by
  obtain ⟨hlen, hact, hz2, hz15, hsem, hhome, hzero, hst⟩ := h
  have hz4 := hzero.resolve_left hlo
  exact ⟨by simp [brSemControl, hlen, hact, hz2, hz15, hsem, hhome, hlo, hhi, hz4], by simpa [brSemControl, hact, hlo] using hst⟩

/-- Settles O10. -/
theorem bridgeTransferCommands : Obligations.BridgeTransferCommands := by
  unfold Obligations.BridgeTransferCommands
  refine ⟨fun k => ?_, ?_, ?_, fun e es => ?_, ?_, fun e es => ?_, ?_, fun e es => ?_, fun x => ?_, fun n k => ?_, fun n => ?_, fun n => ?_, ?_, ?_, ?_, ?_, ?_⟩
  · refine serves_of brRead (fun _ _ _ => rfl) fun c r h => ?_
    obtain ⟨hform, hstate⟩ := brRead_passes h
    obtain ⟨-, -, -, -, -, -, -, -, hreach⟩ := h
    exact ⟨hform, hstate, by simp only [brRead, hreach]⟩
  · refine serves_of brRead (fun _ _ _ => rfl) fun c r h => ?_
    obtain ⟨hform, hstate⟩ := brRead_passes h
    obtain ⟨-, -, -, -, -, -, -, -, hreach⟩ := h
    exact ⟨hform, hstate, by simp only [brRead, hreach]⟩
  · refine serves_of brCompletionRead (fun _ _ _ => rfl) fun c r ⟨hlen, hq⟩ => ?_
    exact ⟨noReq_passes (c := c) hlen, rfl, by simp only [brCompletionRead, Chip.popRecord, hq]⟩
  · refine serves_of brCompletionRead (fun _ _ _ => rfl) fun c r ⟨hlen, hq⟩ => ?_
    exact ⟨noReq_passes (c := c) hlen, rfl, by simp only [brCompletionRead, Chip.popRecord, hq]⟩
  · refine serves_of brFaultRead (fun _ _ _ => rfl) fun c r ⟨hlen, hq⟩ => ?_
    exact ⟨noReq_passes (c := c) hlen, rfl, by simp only [brFaultRead, Chip.popRecord, hq]⟩
  · refine serves_of brFaultRead (fun _ _ _ => rfl) fun c r ⟨hlen, hq⟩ => ?_
    exact ⟨noReq_passes (c := c) hlen, rfl, by simp only [brFaultRead, Chip.popRecord, hq]⟩
  · refine serves_of brStrandedRead (fun _ _ _ => rfl) fun c r ⟨hlen, hq⟩ => ?_
    exact ⟨noReq_passes (c := c) hlen, rfl, by simp only [brStrandedRead, hq]⟩
  · refine serves_of brStrandedRead (fun _ _ _ => rfl) fun c r ⟨hlen, hq⟩ => ?_
    exact ⟨noReq_passes (c := c) hlen, rfl, by simp only [brStrandedRead, hq]⟩
  · refine serves_of brPrefetch (fun _ _ _ => rfl) fun c r h => ?_
    obtain ⟨hform, hstate⟩ := brPrefetch_passes h
    obtain ⟨-, -, -, -, hzero, -⟩ := h
    exact ⟨hform, hstate, by simp [brPrefetch, hzero]⟩
  · refine serves_of brPrefetch (fun _ _ _ => rfl) fun c r h => ?_
    obtain ⟨hform, hstate⟩ := brPrefetch_passes h
    obtain ⟨-, -, -, -, hsome, -, -, -, hreach⟩ := h
    exact ⟨hform, hstate, by simp [brPrefetch, hsome, hreach]⟩
  · refine serves_of brPrefetch (fun _ _ _ => rfl) fun c r h => ?_
    obtain ⟨hform, hstate⟩ := brPrefetch_passes h
    obtain ⟨-, -, -, -, hsome, -, -, -, hreach⟩ := h
    exact ⟨hform, hstate, by simp [brPrefetch, hsome, hreach]⟩
  · refine serves_of brSemControl (fun _ _ _ => rfl) fun c r h => ?_
    obtain ⟨hform, hstate⟩ := semBind_passes h
    obtain ⟨⟨-, hact, -⟩, -, -, hn⟩ := h
    exact ⟨hform, hstate, by simp [brSemControl, hact, hn] <;> rfl⟩
  · refine serves_of brSemControl (fun _ _ _ => rfl) fun c r h => ?_
    obtain ⟨hform, hstate⟩ := semControl_passes h (by decide) (by decide)
    obtain ⟨-, hact, -⟩ := h
    exact ⟨hform, hstate, by simp [brSemControl, hact] <;> rfl⟩
  · refine serves_of brSemControl (fun _ _ _ => rfl) fun c r ⟨h, hhome⟩ => ?_
    obtain ⟨hform, hstate⟩ := semControl_passes h (by decide) (by decide)
    obtain ⟨-, hact, -⟩ := h
    exact ⟨hform, hstate, by simp only [brSemControl, hact, hhome, if_true] <;> rfl⟩
  · refine serves_of brSemControl (fun _ _ _ => rfl) fun c r ⟨h, hhome⟩ => ?_
    obtain ⟨hform, hstate⟩ := semControl_passes h (by decide) (by decide)
    obtain ⟨-, hact, -⟩ := h
    have hfree : (c.br.homes.getD (u8 r 0) none).isSome = false := by rw [hhome]; rfl
    exact ⟨hform, hstate, by simp only [brSemControl, hact, hfree, Bool.false_eq_true, if_false, if_true] <;> rfl⟩
  · refine serves_of brSemControl (fun _ _ _ => rfl) fun c r h => ?_
    obtain ⟨hform, hstate⟩ := semControl_passes h (by decide) (by decide)
    obtain ⟨-, hact, -⟩ := h
    exact ⟨hform, hstate, by simp [brSemControl, hact] <;> rfl⟩
  · exact serves_of brCounters (fun _ _ _ => rfl) fun c r hlen => ⟨noReq_passes (c := c) hlen, rfl, rfl⟩
end Sys2Proof
end

section
/-! The Ethernet port commands (R337, R338). -/
namespace Sys2Proof
open Machine

/-- A port in a narrower range passes the check of a wider one. -/
theorem portForm_passes_within {lo hi lo' hi' : Nat} {c : Chip} {r : Bytes} (h : Ready.port lo hi c r) (hlo : lo' ≤ lo) (hhi : hi ≤ hi') :
    leastFail (portForm lo' hi' r) = none := by
  obtain ⟨hlen, hz, h1, h2⟩ := h
  exact portForm_passes (c := c) ⟨hlen, hz, Nat.le_trans hlo h1, Nat.le_trans h2 hhi⟩

theorem not_portSound (t : Tiles) (p : Nat) : (!t.portSound p) = (t.mac.getLsbD p || t.backbone.getLsbD p) := by
  cases hm : t.mac.getLsbD p <;> cases hb : t.backbone.getLsbD p <;> simp [Tiles.portSound, hm, hb]

theorem ethAddrGet_form {c : Chip} {r : Bytes} (h : Ready.ethAddrGet c r) : leastFail (ethAddrSet.form c r) = none := by
  obtain ⟨hlen, hget, hz3, hz4, hlo, hhi, hn⟩ := h
  simp [ethAddrSet, hlen, hget, hz3, hz4, hlo, hhi, hn]

/-- An entry of R313 that is in order for its action passes. -/
theorem ethAddrSet_form {c : Chip} {r : Bytes} (h : Ready.ethAddrSet c r) : leastFail (ethAddrSet.form c r) = none := by
  obtain ⟨hlen, hset, hz3, hlo, hhi, hn, hact, hz13, hkind⟩ := h
  split at hkind
  case isTrue h3 =>
    obtain ⟨haddr, h12, hall, htgt⟩ := hkind
    have hbroad : 1 < u8 r 20 ∨ u32 r 24 = 0 := by
      by_cases hb : 1 < u8 r 20
      · exact Or.inl hb
      · exact Or.inr (hall (by omega))
    simpa [ethAddrSet, hlen, hset, hz3, hlo, hhi, hn, hz13, h3, h12, hbroad, addrRsv_passes haddr, addrRng_passes haddr] using htgt
  case isFalse h3 =>
    obtain ⟨hz20, h12, hqueue, hport⟩ := hkind
    simp only [ethAddrSet]
    simp [hlen, hset, hz3, hlo, hhi, hn, hz13, h3, h12, hact, hz20]
    split
    case h_1 h => simpa using hqueue h
    case h_2 h => simpa using hport h
    case h_3 h => exact absurd h h3
    case h_4 => rfl

/-- Settles O11. -/
theorem ethernetCommands : Obligations.EthernetCommands := by
  unfold Obligations.EthernetCommands
  refine ⟨?_, ?_, ?_, ?_, ?_, ?_, ?_, ?_, serves_ethCounters⟩
  · refine serves_of ethStatus (fun _ _ _ => rfl) fun c r h => ?_
    have hform := portForm_passes_within h (Nat.zero_le 0) (by decide : 3 ≤ 11)
    obtain ⟨-, -, -, hp⟩ := h
    have hport : u8 r 0 < 4 := by omega
    exact ⟨hform, rfl, by simp only [ethStatus, if_pos hport, not_portSound]⟩
  · refine serves_of ethStatus (fun _ _ _ => rfl) fun c r h => ?_
    have hform := portForm_passes_within h (Nat.zero_le 4) (Nat.le_refl 11)
    obtain ⟨-, -, hp, -⟩ := h
    have hport : ¬u8 r 0 < 4 := by omega
    exact ⟨hform, rfl, by simp only [ethStatus, if_neg hport]⟩
  · refine serves_of ethConfigSet (fun _ _ _ => rfl) fun c r ⟨hlen, hz1, hz11, hz14, hlo, hhi, hmode, h5, h6, h7, h8, hlo9, hhi9, h10, hlo12, hhi12, hst⟩ => ?_
    exact ⟨by simp [ethConfigSet, hlen, hz1, hz11, hz14, hlo, hhi, hmode, h5, h6, h7, h8, hlo9, hhi9, h10, hlo12, hhi12], firstFail_static hst, rfl⟩
  · exact serves_of ethConfigGet (fun _ _ _ => rfl) fun c r h => ⟨portForm_passes h, rfl, rfl⟩
  · refine serves_of ethStart (fun _ _ _ => rfl) fun c r ⟨hport, hrun⟩ => ?_
    exact ⟨portForm_passes hport, by simp [ethStart, hrun], rfl⟩
  · refine serves_of ethStop (fun _ _ _ => rfl) fun c r ⟨hport, hrun⟩ => ?_
    exact ⟨portForm_passes hport, by simp [ethStop, hrun], by simp [ethStop]⟩
  · refine serves_of ethAddrSet (fun _ _ _ => rfl) fun c r h => ?_
    have hform := ethAddrGet_form h
    obtain ⟨-, hget, -⟩ := h
    exact ⟨hform, rfl, by simp only [ethAddrSet, hget, if_true]⟩
  · refine serves_of ethAddrSet (fun _ _ _ => rfl) fun c r h => ?_
    have hform := ethAddrSet_form h
    obtain ⟨-, hset, -⟩ := h
    have hne : ¬u8 r 2 = 1 := by omega
    exact ⟨hform, rfl, by simp only [ethAddrSet, if_neg hne]⟩
end Sys2Proof
end

section
/-! Queue limits, DMA rings and the memory controller (R338). -/
namespace Sys2Proof
open Machine

theorem ringEnable_passes {on : Nat} {c : Chip} {r : Bytes} (h : Ready.ringEnable on c r) :
    leastFail (ringEnable.form c r) = none ∧ firstFail (ringEnable.state c r) = none := by
  obtain ⟨hlen, hz, hlo, hhi, hval, hon, hset, hup⟩ := h
  exact ⟨by simp [ringEnable, hlen, hz, hlo, hhi, hval, hon], by simp [ringEnable, hset, hup]⟩

theorem memConfigSet_passes {c : Chip} {r : Bytes} (h : Ready.memConfigSet c r) :
    leastFail (memConfigSet.form c r) = none ∧ firstFail (memConfigSet.state c r) = none := by
  obtain ⟨hlen, hsize, hspeed, hwidth, hranks, hspill, hlo12, hhi12, h13, h14, hst⟩ := h
  refine ⟨?_, firstFail_static hst⟩
  simp only [memConfigSet, leastFail_cons_eq_none, leastFail_nil, lenIs_eq_none, rng_eq_none, List.contains_iff_mem, Bool.or_eq_true, beq_iff_eq, decide_eq_true_iff, and_true]
  exact ⟨hlen, hsize, hspeed, hwidth, hranks, hspill, ⟨hlo12, hhi12⟩, h13, h14⟩

/-- Settles O12. -/
theorem queueRingMemoryCommands : Obligations.QueueRingMemoryCommands := by
  unfold Obligations.QueueRingMemoryCommands
  refine ⟨?_, ?_, ?_, ?_, ?_, ?_, ?_, ?_, ?_, ?_, ?_, ?_, ?_, ?_⟩
  · refine serves_of queueSet (fun _ _ _ => rfl) fun c r ⟨hlen, hget, hz2, hz18, hq⟩ => ?_
    exact ⟨by simp [queueSet, hlen, hget, hz2, hz18, hq], rfl, by simp only [queueSet, hget, if_true]⟩
  · refine serves_of queueSet (fun _ _ _ => rfl) fun c r ⟨hlen, hset, hz2, hz18, hq, hlim, hmax, hok⟩ => ?_
    have hne : ¬u8 r 1 = 1 := by omega
    exact ⟨by simp [queueSet, hlen, hset, hz2, hz18, hq, hlim, hmax, hok], rfl, by simp only [queueSet, if_neg hne]⟩
  · exact serves_of queueStatus (fun _ _ _ => rfl) fun c r h => ⟨portForm_passes h, rfl, rfl⟩
  · refine serves_of ringSet (fun _ _ _ => rfl) fun c r ⟨hlen, hz, hlo, hhi, haddr, hmin, hmax, hpow, hbuf, hlo16, hhi16, h18, hoff, hup⟩ => ?_
    refine ⟨?_, by simp [ringSet, hoff, hup], rfl⟩
    have hbuf' : (if isRx (u8 r 0) then decide (256 ≤ u16 r 14 ∧ u16 r 14 ≤ 16384 ∧ u16 r 14 % 64 = 0) else decide (u16 r 14 = 0)) = true := by
      by_cases hrx : u8 r 0 < 56 <;> simpa [isRx, hrx] using hbuf
    simp only [ringSet, leastFail_cons_eq_none, leastFail_nil, lenIs_eq_none, rsv_eq_none, rng_eq_none, hbuf']
    simp [hlen, hz, hlo, hhi, haddr, hmin, hmax, hlo16, hhi16, h18]
    simpa using hpow
  · refine serves_of ringEnable (fun _ _ _ => rfl) fun c r h => ?_
    obtain ⟨hform, hstate⟩ := ringEnable_passes h
    obtain ⟨-, -, -, -, hval, -⟩ := h
    exact ⟨hform, hstate, by simp only [ringEnable, hval, if_true]⟩
  · refine serves_of ringEnable (fun _ _ _ => rfl) fun c r h => ?_
    obtain ⟨hform, hstate⟩ := ringEnable_passes h
    obtain ⟨-, -, -, -, hval, -⟩ := h
    have hne : ¬u8 r 1 = 1 := by omega
    exact ⟨hform, hstate, by simp only [ringEnable, if_neg hne]⟩
  · refine serves_of memConfigSet (fun _ _ _ => rfl) fun c r ⟨h, habs, hsize⟩ => ?_
    obtain ⟨hform, hstate⟩ := memConfigSet_passes h
    exact ⟨hform, hstate, by simp [memConfigSet, Chip.onMem, habs, hsize]⟩
  · refine serves_of memConfigSet (fun _ _ _ => rfl) fun c r ⟨h, hstop, hsize⟩ => ?_
    obtain ⟨hform, hstate⟩ := memConfigSet_passes h
    exact ⟨hform, hstate, by simp [memConfigSet, Chip.onMem, hstop, hsize]⟩
  · refine serves_of memConfigSet (fun _ _ _ => rfl) fun c r ⟨h, hna, hns⟩ => ?_
    obtain ⟨hform, hstate⟩ := memConfigSet_passes h
    refine ⟨hform, hstate, ?_⟩
    simp only [memConfigSet]
    rw [if_neg, if_neg]
    · exact hns
    · exact hna
  · exact serves_of memConfigGet (fun _ _ _ => rfl) fun c r hlen => ⟨noReq_passes (c := c) hlen, rfl, rfl⟩
  · refine begins_of memStart (fun _ _ _ => rfl) fun c r ⟨hlen, hbusy, hst⟩ => ?_
    exact ⟨noReq_passes (c := c) hlen, by simp [memStart, hbusy, hst], rfl, rfl⟩
  · refine serves_of memStop (fun _ _ _ => rfl) fun c r ⟨hlen, hst, hdrained⟩ => ?_
    exact ⟨noReq_passes (c := c) hlen, by simpa [memStop] using hst, by simp [memStop, hdrained]⟩
  · refine begins_of memStop (fun _ _ _ => rfl) fun c r ⟨hlen, hst, hdrained⟩ => ?_
    exact ⟨noReq_passes (c := c) hlen, by simpa [memStop] using hst, by simp [memStop, hdrained], by simp [memStop, hdrained]⟩
  · exact serves_of memStatus (fun _ _ _ => rfl) fun c r hlen => ⟨noReq_passes (c := c) hlen, rfl, rfl⟩
end Sys2Proof
end

section
/-! The safety island's commands (R399, R401). -/
namespace Sys2Proof
open Machine

/-- A password in order passes the checks of its field (R399). -/
theorem leastFail_passwordForm {r : Bytes} {o : Nat} (h : Ready.password r o) : leastFail (passwordForm r o) = none :=
  leastFail_eq_none.mpr (passwordForm_of_password h)

/-- The checks on the request of SAFE_CONFIG_ENTER, and the password is judged right. -/
theorem safeConfigEnter_passes {mode : Nat} {c : Chip} {r : Bytes} (h : Ready.safeConfigEnter mode c r) :
    leastFail (safeConfigEnter.form c r) = none ∧ firstFail (safeConfigEnter.state c r) = none ∧
      c.judgePassword (passwordAt r 4) = (true, c.safeSet { c.safe with wrong := 0 }) := by
  obtain ⟨hlen, hmode, hle, hz, hpw, hconf, hpass⟩ := h
  refine ⟨by simp [safeConfigEnter, hlen, hz, hmode, hle, leastFail_passwordForm hpw], ?_, judgePassword_of_passes hpass⟩
  simpa [safeConfigEnter, hmode] using hconf

/-- The checks of SAFE_PARAM_CONFIRM, and the password is judged right. -/
theorem safeParamConfirm_passes {b : Bytes} {c : Chip} {r : Bytes} (h : Ready.safeParamConfirm b c r) :
    leastFail (safeParamConfirm.form c r) = none ∧ firstFail (safeParamConfirm.state c r) = none ∧ c.safe.candidate = some b ∧
      c.judgePassword (passwordAt r 8) = (true, c.safeSet { c.safe with wrong := 0 }) := by
  obtain ⟨hlen, hpw, hcand, hconf, hid, hcheck, hpass⟩ := h
  exact ⟨by simp [safeParamConfirm, hlen, leastFail_passwordForm hpw], by simp [safeParamConfirm, hcand, hconf, hid, hcheck], hcand, judgePassword_of_passes hpass⟩

/-- Drawing free bytes counts them and leaves the rest of the chip. -/
theorem Chip.drawBytes_chip (c : Chip) (n : Nat) : (c.drawBytes n).2 = { c with clk := { c.clk with fresh := c.clk.fresh + n } } := by
  induction n generalizing c with
  | zero => rfl
  | succ n ih =>
    simp only [Chip.drawBytes, ih]
    simp [Chip.draw, Nat.add_comm, Nat.add_left_comm]

@[simp] theorem Chip.drawBytes_safe (c : Chip) (n : Nat) : (c.drawBytes n).2.safe = c.safe := by rw [Chip.drawBytes_chip]

/-- Settles O13. -/
theorem safetyCommands : Obligations.SafetyCommands := by
  unfold Obligations.SafetyCommands
  refine ⟨?_, ?_, ?_, ?_, fun img => ?_, ?_, ?_, fun b => ?_, fun b => ?_, ?_, ?_, ?_, ?_, ?_⟩
  · refine serves_of safeStatus (fun _ _ _ => rfl) fun c r hlen => ⟨noReq_passes (c := c) hlen, rfl, ?_⟩
    simp only [safeStatus]
    cases c.safe.nutmeg.set <;> cases c.safe.shown <;> rfl
  · exact serves_of safeIoStatus (fun _ _ _ => rfl) fun c r hlen => ⟨noReq_passes (c := c) hlen, rfl, rfl⟩
  · refine serves_of safeParamStage (fun _ _ _ => rfl) fun c r ⟨hlen, hle, hin, hauth⟩ => ?_
    have hmax : 4 + u16 r 2 ≤ 512 := by omega
    exact ⟨by simp [safeParamStage, hlen, hle, hin, hmax], by simp [safeParamStage, hauth], rfl⟩
  · refine serves_of safeParamCommit (fun _ _ _ => rfl) fun c r ⟨hlen, hconf, hauth, hok⟩ => ?_
    exact ⟨noReq_passes (c := c) hlen, by simp [safeParamCommit, hconf, hauth, hok], rfl⟩
  · refine serves_of safeParamRead (fun _ _ _ => rfl) fun c r ⟨hlen, hwhich, hz, himg⟩ => ?_
    refine ⟨by simp [safeParamRead, hlen, hwhich, hz], ?_, by simp only [safeParamRead, himg, Option.getD_some]⟩
    split at himg <;> simp [safeParamRead, *]
  · refine serves_of safeConfigEnter (fun _ _ _ => rfl) fun c r h => ?_
    obtain ⟨hform, hstate, hpw⟩ := safeConfigEnter_passes h
    obtain ⟨-, hmode, -⟩ := h
    have hne : ¬u8 r 0 = 1 := by omega
    exact ⟨hform, hstate, by simp only [safeConfigEnter, hpw, if_neg hne]; rfl⟩
  · refine serves_of safeConfigEnter (fun _ _ _ => rfl) fun c r h => ?_
    obtain ⟨hform, hstate, hpw⟩ := safeConfigEnter_passes h
    obtain ⟨-, hmode, -⟩ := h
    exact ⟨hform, hstate, by simp only [safeConfigEnter, hpw, if_pos hmode]; rfl⟩
  · refine serves_of safeParamConfirm (fun _ _ _ => rfl) fun c r ⟨h, hun⟩ => ?_
    obtain ⟨hform, hstate, hcand, hpw⟩ := safeParamConfirm_passes h
    refine ⟨hform, hstate, ?_⟩
    simp only [safeParamConfirm, hcand, hpw, Chip.safeSet, if_pos hun]
  · refine serves_of safeParamConfirm (fun _ _ _ => rfl) fun c r ⟨h, hun⟩ => ?_
    obtain ⟨hform, hstate, hcand, hpw⟩ := safeParamConfirm_passes h
    refine ⟨hform, hstate, ?_⟩
    simp only [safeParamConfirm, hcand, hpw, Chip.safeSet, if_neg hun]
  · refine serves_of safeConfigLeave (fun _ _ _ => rfl) fun c r ⟨hlen, hcand⟩ => ?_
    exact ⟨noReq_passes (c := c) hlen, by simp [safeConfigLeave, hcand], rfl⟩
  · refine serves_of safePasswordSet (fun _ _ _ => rfl) fun c r ⟨hlen, hzero, hpw, hnone, hlock⟩ => ?_
    refine ⟨by simp [safePasswordSet, hlen, hnone, hzero, leastFail_passwordForm hpw], rfl, ?_⟩
    simp only [safePasswordSet, hnone, hzero, hlock, Option.isSome_none, Bool.false_eq_true, if_false, Bool.not_false, Bool.and_self, Bool.not_true]
    rw [Chip.drawBytes_safe]
  · refine serves_of safePasswordSet (fun _ _ _ => rfl) fun c r ⟨hlen, hold, hnew, hpass⟩ => ?_
    have hsome : c.safe.password.isSome = true := by
      obtain ⟨-, hpw⟩ := hpass
      cases hp : c.safe.password with
      | none => simp [SafeIsland.passwordIs, hp] at hpw
      | some p => rfl
    have hnone : c.safe.password.isNone = false := by simpa using hsome
    refine ⟨by simp only [safePasswordSet, hnone, Bool.false_and, Bool.false_eq_true, if_false]; simp [hlen, leastFail_passwordForm hold, leastFail_passwordForm hnew], rfl, ?_⟩
    simp only [safePasswordSet, hsome, judgePassword_of_passes hpass, if_true, Bool.not_true, Bool.false_eq_true, if_false, Chip.drawBytes_safe, Chip.safeSet]
  · refine serves_of safeLogRead (fun _ _ _ => rfl) fun c r ⟨hlen, hz, hlo, hhi⟩ => ?_
    exact ⟨by simp [safeLogRead, hlen, hz, hlo, hhi], rfl, rfl⟩
  · exact serves_of safeCounters (fun _ _ _ => rfl) fun c r hlen => ⟨noReq_passes (c := c) hlen, rfl, rfl⟩
end Sys2Proof
end

section
/-! The power commands (R421). -/
namespace Sys2Proof
open Machine

/-- The checks of PWR_PN_MODE: any channel that runs takes Mode 1, one that ignores the bus takes Mode 0 too (R421). -/
theorem pwrPnMode_passes {mode : Nat} {c : Chip} {r : Bytes} (h : Ready.pnMode mode c r) (hmode : mode = 1 ∨ mode = 0 ∧ (c.canCh (u8 r 0)).state = .ignoring) :
    leastFail (pwrPnMode.form c r) = none ∧ firstFail (pwrPnMode.state c r) = none := by
  obtain ⟨hlen, hm, hz, hn, hst⟩ := h
  refine ⟨?_, ?_⟩
  · have hle : u8 r 1 ≤ 1 := by omega
    simp [pwrPnMode, hlen, hz, hn, hle]
  · rcases hmode with rfl | ⟨rfl, hig⟩
    · simp [pwrPnMode, hm, hst]
    · simp [pwrPnMode, hig]

/-- A byte of a range that is zero is 0. -/
theorem u8_eq_zero_of_zero {r : Bytes} {o n i : Nat} (h : Zero r o n) (ho : o ≤ i) (hn : i < o + n) : u8 r i = 0 := by
  by_cases hi : i < r.length
  · have hmem : r[i] ∈ slice r o n := by
      simp only [slice]
      refine List.mem_iff_getElem.mpr ⟨i - o, by simp; omega, ?_⟩
      simp [show o + (i - o) = i by omega]
    have hzero := (List.all_eq_true.mp h) _ hmem
    simp only [beq_iff_eq] at hzero
    simp [u8, hi, hzero]
  · simp [u8, hi]

/-- Settles O14. -/
theorem powerCommands : Obligations.PowerCommands := by
  unfold Obligations.PowerCommands
  refine ⟨fun g => ?_, ?_, ?_, ?_, ?_, ?_, ?_, ?_, ?_, ?_, ?_, fun d => ?_, fun d => ?_, ?_⟩
  · refine serves_of pwrStatus (fun _ _ _ => rfl) fun c r ⟨hlen, hg⟩ => ⟨noReq_passes (c := c) hlen, rfl, ?_⟩
    simp only [pwrStatus, hg]
    cases g <;> rfl
  · refine serves_of pwrConfigSet (fun _ _ _ => rfl) fun c r ⟨hlen, h0, h2, h4, h8, hz14, hz20, h1, hlo10, hhi10, hlo12, hhi12, h16⟩ => ?_
    exact ⟨by simp [pwrConfigSet, hlen, h0, h2, h4, h8, hz14, hz20, h1, hlo10, hhi10, hlo12, hhi12, h16], rfl, rfl⟩
  · exact serves_of pwrConfigGet (fun _ _ _ => rfl) fun c r hlen => ⟨noReq_passes (c := c) hlen, rfl, rfl⟩
  · refine serves_of pwrVote (fun _ _ _ => rfl) fun c r ⟨hlen, hz, hvote, _⟩ => ?_
    exact ⟨by simp [pwrVote, hlen, hz, hvote], rfl, by simp only [pwrVote, hvote]; rfl⟩
  · refine serves_of pwrVote (fun _ _ _ => rfl) fun c r ⟨hlen, hz, hvote, _⟩ => ?_
    have hno : (u8 r 0 == 1) = false := by rw [hvote]; rfl
    exact ⟨by simp [pwrVote, hlen, hz, hvote], rfl, by dsimp only [pwrVote]; rw [hno]; rfl⟩
  · exact serves_of pwrWakeRequest (fun _ _ _ => rfl) fun c r hlen => ⟨noReq_passes (c := c) hlen, rfl, rfl⟩
  · refine serves_of pwrSleepLocal (fun _ _ _ => rfl) fun c r ⟨hlen, halone⟩ => ?_
    exact ⟨noReq_passes (c := c) hlen, by simpa [pwrSleepLocal] using halone, rfl⟩
  · refine serves_of pwrPnSet (fun _ _ _ => rfl) fun c r ⟨hlen, hget, hz3, hz4, hn, hm⟩ => ?_
    have hne : ¬u8 r 2 = 0 := by omega
    have hz5 : u8 r 5 ≤ 63 := by
      rw [u8_eq_zero_of_zero hz4 (by decide) (by decide)]
      decide
    exact ⟨by simp [pwrPnSet, hlen, hget, hz3, hz4, hn, hm, hz5], rfl, by simp only [pwrPnSet, if_neg hne]⟩
  · refine serves_of pwrPnSet (fun _ _ _ => rfl) fun c r ⟨hlen, hset, hz3, hn, hm, h4, h5, hz16, h8, h12⟩ => ?_
    exact ⟨by simpa [pwrPnSet, identRsv, hlen, hset, hz3, hn, hm, h4, h5, hz16] using ⟨h8, h12⟩, rfl, by simp only [pwrPnSet, if_pos hset]; rfl⟩
  · refine serves_of pwrPnMode (fun _ _ _ => rfl) fun c r ⟨h, hig⟩ => ?_
    obtain ⟨hform, hstate⟩ := pwrPnMode_passes h (Or.inr ⟨rfl, hig⟩)
    obtain ⟨-, hm, -⟩ := h
    exact ⟨hform, hstate, by simp only [pwrPnMode, if_pos hm]⟩
  · refine serves_of pwrPnMode (fun _ _ _ => rfl) fun c r ⟨h, hig⟩ => ?_
    obtain ⟨hform, hstate⟩ := pwrPnMode_passes h (Or.inl rfl)
    obtain ⟨-, hm, -⟩ := h
    have hne : ¬u8 r 1 = 0 := by omega
    exact ⟨hform, hstate, by simp only [pwrPnMode, if_neg hne, hig, if_true]⟩
  · refine begins_of pwrPnMode (fun _ _ _ => rfl) fun c r ⟨h, hig, hbusy⟩ => ?_
    obtain ⟨hform, hstate⟩ := pwrPnMode_passes h (Or.inl rfl)
    obtain ⟨-, hm, -⟩ := h
    have hne : ¬u8 r 1 = 0 := by omega
    exact ⟨hform, hstate, by simp only [pwrPnMode, if_neg hne, if_neg hig, hbusy], by simp only [pwrPnMode, if_neg hne, if_neg hig, hbusy]⟩
  · refine serves_of pwrPnMode (fun _ _ _ => rfl) fun c r ⟨h, hig, hidle⟩ => ?_
    obtain ⟨hform, hstate⟩ := pwrPnMode_passes h (Or.inl rfl)
    obtain ⟨-, hm, -⟩ := h
    have hne : ¬u8 r 1 = 0 := by omega
    exact ⟨hform, hstate, by simp only [pwrPnMode, if_neg hne, if_neg hig, hidle]⟩
  · exact serves_of pwrCounters (fun _ _ _ => rfl) fun c r hlen => ⟨noReq_passes (c := c) hlen, rfl, rfl⟩
end Sys2Proof
end

section
/-! The event recorder's commands (R440). -/
namespace Sys2Proof
open Machine

/-- The checks of a range of slots, in SEQ_READ as in READ. -/
theorem slotForm_passes {most : Nat} {c : Chip} {r : Bytes} (h : Ready.slots most c r) :
    leastFail [lenIs r 4, rsv r 3 1, rng (decide (u8 r 2 ≤ most → u16 r 0 + u8 r 2 ≤ 65536)) 0, rng (decide (1 ≤ u8 r 2 ∧ u8 r 2 ≤ most)) 2] = none := by
  obtain ⟨hlen, hz, hlo, hhi, hin⟩ := h
  simp [hlen, hz, hlo, hhi, hin]

theorem recWrite_passes {dropped : Option (Nat × Bool)} {c : Chip} {r : Bytes} (h : Ready.recWrite dropped c r) :
    leastFail (recWrite.form c r) = none ∧ firstFail (recWrite.state c r) = none := by
  obtain ⟨hlen, hle, hz1, hz5, hsev, hst, -⟩ := h
  have hmax : 8 + u8 r 4 ≤ 512 := by omega
  exact ⟨by simp [recWrite, hlen, hle, hz1, hz5, hsev, hmax], by simp [recWrite, Chip.recServed, hst]⟩

/-- Settles O15. -/
theorem recorderCommands : Obligations.RecorderCommands := by
  unfold Obligations.RecorderCommands
  refine ⟨?_, ?_, ?_, ?_, ?_, ?_, ?_, fun q => ?_, ?_, ?_⟩
  · refine serves_of recStatus (fun _ _ _ => rfl) fun c r hlen => ⟨noReq_passes (c := c) hlen, rfl, ?_⟩
    simp only [recStatus]
    cases oldestSlot c.log.slots fun _ => true <;> rfl
  · refine serves_of recConfigSet (fun _ _ _ => rfl) fun c r ⟨hlen, hz, h0, hall, h116, h117⟩ => ?_
    refine ⟨?_, rfl, rfl⟩
    simp only [recConfigSet, leastFail_cons_eq_none, leastFail_nil, lenIs_eq_none, rsv_eq_none, rng_eq_none, decide_eq_true_eq, Bool.and_eq_true, beq_iff_eq, and_true]
    exact ⟨hlen, hz, h0, hall, h116, h117⟩
  · exact serves_of recConfigGet (fun _ _ _ => rfl) fun c r hlen => ⟨noReq_passes (c := c) hlen, rfl, rfl⟩
  · exact serves_of recRead (fun _ _ _ => rfl) fun c r h => ⟨slotForm_passes h, rfl, rfl⟩
  · refine begins_of recCopy (fun _ _ _ => rfl) fun c r ⟨hlen, hz, hlo, hhi, hin, hroom, hup⟩ => ?_
    exact ⟨by simp [recCopy, hlen, hz, hlo, hhi, hin, hroom], by simp [recCopy, hup], rfl, rfl⟩
  · exact serves_of recSeqRead (fun _ _ _ => rfl) fun c r h => ⟨slotForm_passes h, rfl, rfl⟩
  · refine serves_of recWrite (fun _ _ _ => rfl) fun c r h => ?_
    obtain ⟨hform, hstate⟩ := recWrite_passes h
    obtain ⟨-, -, -, -, -, -, hdrop⟩ := h
    exact ⟨hform, hstate, by simp only [recWrite, hdrop]⟩
  · refine serves_of recWrite (fun _ _ _ => rfl) fun c r h => ?_
    obtain ⟨hform, hstate⟩ := recWrite_passes h
    obtain ⟨-, -, -, -, -, -, hdrop⟩ := h
    exact ⟨hform, hstate, by simp only [recWrite, hdrop]⟩
  · refine begins_of recErase (fun _ _ _ => rfl) fun c r ⟨hlen, hseq, hst⟩ => ?_
    exact ⟨by simp [recErase, hlen, hseq], by simp [recErase, hst], rfl, rfl⟩
  · exact serves_of recCounters (fun _ _ _ => rfl) fun c r hlen => ⟨noReq_passes (c := c) hlen, rfl, rfl⟩
end Sys2Proof
end

section
/-! The commands of start-up and of the firmware images (R461). -/
namespace Sys2Proof
open Machine

/-- Neither ARMED nor PREPARE is near to SLEEP (R461). -/
theorem sleepNear_eq_false {c : Chip} (harmed : c.clove.state ≠ .armed) (hprep : c.clove.state ≠ .prepare) : c.sleepNear = false := by
  simp [Chip.sleepNear, harmed, hprep]

/-- Settles O16. -/
theorem bootCommands : Obligations.BootCommands := by
  unfold Obligations.BootCommands
  refine ⟨?_, ?_, ?_, ?_, ?_, ?_, fun done => ?_, ?_, ?_, ?_, ?_⟩
  · refine serves_of bootStatus (fun _ _ _ => rfl) fun c r hlen => ⟨noReq_passes (c := c) hlen, rfl, ?_⟩
    simp only [bootStatus]
    cases c.boot.journal.entries.getLast? <;> rfl
  · refine serves_of bootJournalRead (fun _ _ _ => rfl) fun c r ⟨hlen, hz, hlo, hhi⟩ => ?_
    exact ⟨by simp [bootJournalRead, hlen, hz, hlo, hhi], rfl, rfl⟩
  · refine serves_of bootJournalClear (fun _ _ _ => rfl) fun c r ⟨hlen, hbits, hz⟩ => ?_
    refine ⟨by simp [bootJournalClear, hlen, hbits, hz], rfl, ?_⟩
    cases h0 : (u8 r 0).testBit 0 <;> cases h1 : (u8 r 0).testBit 1 <;>
      simp only [bootJournalClear, h0, h1, if_true, Bool.false_eq_true, if_false, Bool.not_true, Bool.not_false, Bool.false_and, Bool.true_and] <;> rfl
  · refine serves_of bootConfigSet (fun _ _ _ => rfl) fun c r ⟨hlen, h0, hz, h1, h2⟩ => ?_
    have h0' : u8 r 0 ≤ 1 := by omega
    exact ⟨by simp [bootConfigSet, hlen, h0, h0', hz, h1, h2], rfl, rfl⟩
  · exact serves_of bootConfigGet (fun _ _ _ => rfl) fun c r hlen => ⟨noReq_passes (c := c) hlen, rfl, rfl⟩
  · refine serves_of fwBegin (fun _ _ _ => rfl) fun c r ⟨hlen, htrial, harmed, hprep⟩ => ?_
    exact ⟨noReq_passes (c := c) hlen, by simp [fwBegin, htrial, sleepNear_eq_false harmed hprep], rfl⟩
  · refine serves_of fwWrite (fun _ _ _ => rfl) fun c r ⟨hlen, hz, hin, hlo, hhi, hbegun, hun⟩ => ?_
    have hmax : 8 + u16 r 4 ≤ 512 := by omega
    refine ⟨by simp [fwWrite, hlen, hz, hin, hlo, hhi, hmax], by simp [fwWrite, hbegun, hun], ?_⟩
    have hkept : ∀ f, (c.onSlot (1 - c.boot.imageSlot) f).boot.begun = some done := fun f => by
      simp only [Chip.onSlot, Chip.onBoot]
      split <;> exact hbegun
    simp only [fwWrite]
    rw [Chip.onBoot, hkept]
    rfl
  · refine serves_of fwActivate (fun _ _ _ => rfl) fun c r ⟨hlen, htrial, hhead, hbody⟩ => ?_
    exact ⟨noReq_passes (c := c) hlen, by simp [fwActivate, htrial, hhead, hbody], rfl⟩
  · refine serves_of fwConfirm (fun _ _ _ => rfl) fun c r ⟨hlen, hon⟩ => ?_
    exact ⟨noReq_passes (c := c) hlen, by simp [fwConfirm, hon], rfl⟩
  · refine serves_of fwRestart (fun _ _ _ => rfl) fun c r ⟨hlen, hmode, hz, harmed, hprep⟩ => ?_
    exact ⟨by simp [fwRestart, hlen, hmode, hz], by simp [fwRestart, sleepNear_eq_false harmed hprep], rfl⟩
  · refine serves_of fwSecurityAdvance (fun _ _ _ => rfl) fun c r ⟨hlen, hz, hsec, htrial⟩ => ?_
    exact ⟨by simp [fwSecurityAdvance, hlen, hz, hsec], by simp [fwSecurityAdvance, htrial], rfl⟩
end Sys2Proof
end

section
/-! The commands of the host interface (R366 to R369). -/
namespace Sys2Proof
open Machine

/-- Settles O17. -/
theorem interfaceCommands : Obligations.InterfaceCommands := by
  unfold Obligations.InterfaceCommands
  refine ⟨?_, ?_, ?_, ?_, ?_⟩
  · exact serves_of ifIdentify (fun _ _ _ => rfl) fun c r hlen => ⟨noReq_passes (c := c) hlen, rfl, rfl⟩
  · refine serves_of ifEcho (fun _ _ _ => rfl) fun c r hlen => ?_
    have hmax : ¬512 < r.length := by omega
    exact ⟨by simp [ifEcho, hmax, show r.length ≤ 504 from hlen], rfl, rfl⟩
  · exact serves_of ifCounters (fun _ _ _ => rfl) fun c r hlen => ⟨noReq_passes (c := c) hlen, rfl, rfl⟩
  · refine serves_of evRecordRead (fun _ _ _ => rfl) fun c r ⟨hlen, hz, hlo, hhi⟩ => ?_
    exact ⟨by simp [evRecordRead, hlen, hz, hlo, hhi], rfl, rfl⟩
  · exact serves_of tileStatus (fun _ _ _ => rfl) fun c r hlen => ⟨noReq_passes (c := c) hlen, rfl, rfl⟩
end Sys2Proof
end

section
/-! The waves of a roll-call (R68, R77, R78, R92). -/
namespace Sys2Proof
open Machine

/-- A roll-call row does its work on the telegram that it takes (R72, R76). -/
theorem acts_rc {i : Nat → Instr} {p k : Nat} {src : Outer} {raw : Bytes} {m : RcMsg} {ready : Chip → Prop} {work : Chip → Chip} {f : Chip → RcMsg → Chip}
    (he : ∀ t s, Machine.exec (i t) s = actMain t s fun c => c.rcTake p k src raw f) (h : ∀ c, ready c → f c m = work c) :
    Acts i (Ready.rc p k src raw m ready) (Ready.rcThen p src raw m work) :=
  acts_of _ he fun _ _ ⟨ht, hr⟩ => (rcTake_of_taken ht f).trans (h _ hr)

/-- The wave read from a telegram is of this node's run exactly where the telegram is. -/
theorem readWave_same_iff {c : Chip} {p : Nat} {m : RcMsg} :
    ((c.readWave p m).origin == c.rc.wave.origin && (c.readWave p m).nonce == c.rc.wave.nonce) = true ↔ Ready.ofRun m c := by
  simp [Chip.readWave]

theorem readWave_other {c : Chip} {p : Nat} {m : RcMsg} (h : ¬Ready.ofRun m c) :
    ((c.readWave p m).origin == c.rc.wave.origin && (c.readWave p m).nonce == c.rc.wave.nonce) = false :=
  Bool.eq_false_iff.mpr (mt readWave_same_iff.mp h)

/-- Settles O18. -/
theorem waveEvents : Obligations.WaveEvents := by
  unfold Obligations.WaveEvents
  refine ⟨?_, fun p raw m => ?_, fun p raw m => ?_, fun p raw m => ?_, fun p raw m => ?_, fun p raw m => ?_, fun e => ?_, fun p raw m => ?_, ?_⟩
  · refine acts_of holdoffExpiry (fun _ _ => rfl) fun c _ hs => ?_
    rw [holdoffExpiry, if_neg (not_not_intro hs)]
    rfl
  · refine acts_rc (fun _ _ => rfl) fun c hs => ?_
    rcases hs with (hs | hs | hs) | hs <;> simp only [hs]
  · refine acts_rc (fun _ _ => rfl) fun c ⟨hs, hrun⟩ => ?_
    have hsame := readWave_same_iff (p := p) |>.mpr hrun
    rcases hs with hs | hs | hs <;> simp only [hs, hsame, if_true]
  · refine acts_rc (fun _ _ => rfl) fun c ⟨hs, hrun, hjoin⟩ => ?_
    have hother := readWave_other (p := p) hrun
    rcases hs with hs | hs | hs <;> simp only [hs, hother, hjoin, if_true, Bool.false_eq_true, if_false]
  · refine acts_rc (fun _ _ => rfl) fun c ⟨hs, hrun, hjoin⟩ => ?_
    have hother := readWave_other (p := p) hrun
    rcases hs with hs | hs | hs <;> simp only [hs, hother, hjoin, Bool.false_eq_true, if_false]
  · refine acts_rc (fun _ _ => rfl) fun c ⟨hs, hrun⟩ => ?_
    have hother := readWave_other (p := p) hrun
    simp only [hs, hother, Bool.false_eq_true, if_false]
  · refine acts_of (startOuterTimeout e) (fun _ _ => rfl) fun c _ ⟨hs, he, hseen⟩ => ?_
    rw [startOuterTimeout, if_pos ⟨hs, he, by rw [hseen]; rfl⟩]
  · refine acts_rc (fun _ _ => rfl) fun c ⟨hs, horigin, hnonce⟩ => ?_
    rw [if_neg (by simp [hs, horigin, hnonce])]
    rfl
  · refine acts_of firstStartTimeout (fun _ _ => rfl) fun c _ ⟨hs, hprep, hbar⟩ => ?_
    simp [firstStartTimeout, Chip.trigger, hs, hprep, Chip.onRc, Nat.not_lt.mpr hbar]
end Sys2Proof
end

section
/-! Reports, composing and announcing (R82 to R89). -/
namespace Sys2Proof
open Machine

/-- Keeping the gateways keeps the generation (R84). -/
theorem Snapshot.ite_keepGateways_generation (keep : Bool) (s : Snapshot) (old : Option Snapshot) :
    (if keep then s.keepGateways old else s).generation = s.generation := by
  cases keep <;> cases old <;> rfl

/-- What COMPOSITION_COMPLETE announces beyond the switch instant: the run's size and leader, and the generation, epoch, size and check of its snapshot;
a run that changes nothing keeps the epoch (R82 to R86). -/
theorem compositionComplete_announce {c : Chip} {f : RunFacts} (hs : c.rc.state = .composing) (hr : c.reportsComplete = true) (hf : c.rc.facts = some f) :
    ∃ a sn, (compositionComplete c).rc = { c.rc with announce := some a, composed := some sn, state := .armed } ∧ a.nodeCount = f.n ∧ a.leader = f.leader ∧
      a.lead = Ready.leadAt c f.n ∧ a.newGeneration = sn.generation ∧ a.newEpoch = sn.epoch ∧ a.size = sn.totalSize ∧ a.check = sn.check ∧
      (a.noSwitch = true → a.newEpoch = c.epoch ∧ a.quarantine = false) := by
  have hgo : ¬(c.rc.state ≠ .composing ∨ !c.reportsComplete) := by simp [hs, hr]
  unfold compositionComplete
  rw [if_neg hgo, hf]
  dsimp only
  refine ⟨?_, ?_, ?rc, ?rest⟩
  case rc =>
    rw [Chip.raiseD_rc, Chip.setRc_rc, (Chip.sends_sendSegments _ _ _ _ _).rc, Chip.sendRc_rc, Chip.sendRc_rc]
    rfl
  case rest =>
    refine ⟨rfl, rfl, rfl, by dsimp only; rw [Snapshot.ite_keepGateways_generation]; rfl, rfl, rfl, rfl, fun hkeep => ⟨?_, ?_⟩⟩
    · exact if_pos hkeep
    · dsimp only at hkeep ⊢
      rw [hkeep]
      rfl

/-- A REPORTED node that takes its leader's ANNOUNCE is ARMED with what the ANNOUNCE says, no snapshot composed yet (R87). -/
theorem announceRx_rc {p : Nat} {raw : Sourced} {m : RcMsg} {c : Chip} {f : RunFacts} (ht : Ready.taken p 6 raw.outer raw.bytes m c)
    (hrun : Ready.ofRun m (Ready.took p raw.outer raw.bytes m c)) (hs : (Ready.took p raw.outer raw.bytes m c).rc.state = .reported)
    (hf : (Ready.took p raw.outer raw.bytes m c).rc.facts = some f) (hsrc : raw.outer.source = f.leader) :
    ∃ a, (announceRx p raw c).rc.state = .armed ∧ (announceRx p raw c).rc.announce = some a ∧ (announceRx p raw c).rc.composed = none ∧
      a.newEpoch = bAt m.body 0 4 ∧ a.newGeneration = bAt m.body 4 4 ∧ a.switchInstant = bAt m.body 8 8 ∧ a.lead = bAt m.body 0x10 4 ∧ a.leader = f.leader ∧
      a.size = bAt m.body 0x1C 4 ∧ a.check = bAt m.body 0x20 4 := by
  obtain ⟨horigin, hnonce⟩ := hrun
  rw [announceRx, rcTake_of_taken ht]
  simp only [hs, hf]
  rw [if_neg (by simp [horigin, hnonce, hsrc])]
  rw [Chip.raiseD_rc, Chip.setRc_rc, Chip.relayRc_rc]
  exact ⟨_, rfl, rfl, rfl, rfl, rfl, rfl, rfl, rfl, rfl, rfl⟩

/-- Settles O19. -/
theorem composeEvents : Obligations.ComposeEvents := by
  unfold Obligations.ComposeEvents
  refine ⟨fun p src raw m f e => ?_, fun p src raw m f => ?_, ?_, fun f t s hm hs hr hf => ?_, fun p raw m f t s hm ⟨htaken, hrun, hs, hf, hsrc⟩ => ?_, ?_, ?_⟩
  · refine acts_rc (fun _ _ => rfl) fun c ⟨⟨horigin, hnonce⟩, hf, he⟩ => ?_
    simp only [horigin, hnonce, hf, he, ne_eq, not_true_eq_false, or_self, if_false]
  · refine acts_rc (fun _ _ => rfl) fun c ⟨⟨horigin, hnonce⟩, hf, he, hs, hlo, hhi⟩ => ?_
    have hin : ¬(c.rc.state ≠ .composing ∨ (readReport src.source m).index < 1 ∨ f.n < (readReport src.source m).index) := by simp [hs]; omega
    simp only [horigin, hnonce, hf, he, if_neg hin, ne_eq, not_true_eq_false, or_self, if_false]
  · refine acts_of reportWaitTimeout (fun _ _ => rfl) fun c _ ⟨hs, hr⟩ => ?_
    rw [reportWaitTimeout, if_pos ⟨hs, by rw [hr]; rfl⟩]
    rfl
  · obtain ⟨a, sn, hrc, ha⟩ := compositionComplete_announce hs hr hf
    exact ⟨_, a, sn, leaves_of compositionComplete rfl hm, by rw [hrc], by rw [hrc], by rw [hrc], ha⟩
  · obtain ⟨a, ha⟩ := announceRx_rc htaken hrun hs hf hsrc
    exact ⟨_, a, leaves_of (announceRx p raw) rfl hm, ha⟩
  · refine acts_of runWatchdogExpiry (fun _ _ => rfl) fun c _ hs => ?_
    rcases hs with hs | hs | hs <;> simp only [runWatchdogExpiry, hs] <;> rfl
  · refine acts_of runWatchdogExpiry (fun _ _ => rfl) fun c _ hs => ?_
    rcases hs with (hs | hs | hs) | hs | hs | hs <;> simp only [runWatchdogExpiry, hs] <;> rfl
end Sys2Proof
end

section
/-! Segments of a snapshot and the switch (R54, R87, R88). -/
namespace Sys2Proof.Machine

/-- `b` has the directory, the roll-call engine, the schedule image and the leader's lease of `a`. -/
abbrev Chip.SameTrain (a b : Chip) : Prop :=
  b.dir = a.dir ∧ b.rc = a.rc ∧ b.bb.image = a.bb.image ∧ b.bb.leaderLease = a.bb.leaderLease ∧ b.bb.evidence = a.bb.evidence

theorem Chip.SameTrain.refl (a : Chip) : a.SameTrain a := ⟨rfl, rfl, rfl, rfl, rfl⟩
theorem Chip.SameTrain.trans {a b c : Chip} (h : a.SameTrain b) (k : b.SameTrain c) : a.SameTrain c := by
  obtain ⟨h1, h2, h3, h4, h5⟩ := h
  obtain ⟨k1, k2, k3, k4, k5⟩ := k
  exact ⟨k1.trans h1, k2.trans h2, k3.trans h3, k4.trans h4, k5.trans h5⟩

theorem Chip.Reports.sameTrain {a b : Chip} (h : Chip.Reports a b) : a.SameTrain b := ⟨h.dir, h.rc, by rw [h.bb], by rw [h.bb], by rw [h.bb]⟩

theorem Chip.sameTrain_foldl {α : Type} (f : Chip → α → Chip) (h : ∀ (c : Chip) x, c.SameTrain (f c x)) (l : List α) (c : Chip) : c.SameTrain (l.foldl f c) := by
  induction l generalizing c with
  | nil => exact .refl c
  | cons x l ih => exact (h c x).trans (ih _)

theorem Chip.sameTrain_raiseD (c : Chip) (e kind arg detail : Nat) : c.SameTrain (c.raiseD e kind arg detail) := by simp [Chip.SameTrain]
theorem Chip.sameTrain_raise (c : Chip) (e : Nat) : c.SameTrain (c.raise e) := c.sameTrain_raiseD _ _ _ _
theorem Chip.sameTrain_onBr (c : Chip) (f : Bridge → Bridge) : c.SameTrain (c.onBr f) := ⟨rfl, rfl, rfl, rfl, rfl⟩

section
variable (p : Prop) [Decidable p] (a b : Chip)
@[simp] theorem Chip.dir_ite : (if p then a else b).dir = if p then a.dir else b.dir := apply_ite _ _ _ _
@[simp] theorem Chip.rc_ite : (if p then a else b).rc = if p then a.rc else b.rc := apply_ite _ _ _ _
@[simp] theorem Chip.bb_ite : (if p then a else b).bb = if p then a.bb else b.bb := apply_ite _ _ _ _
end

/-- A step taken only under a condition. -/
theorem Chip.sameTrain_ite {p : Prop} [Decidable p] {c x y : Chip} (hx : c.SameTrain x) (hy : c.SameTrain y) : c.SameTrain (if p then x else y) := by
  split
  · exact hx
  · exact hy

theorem Chip.sameTrain_schedUpdate (c : Chip) : c.SameTrain c.schedUpdate := by
  unfold Chip.schedUpdate
  dsimp only
  split
  · exact .refl c
  · exact Chip.sameTrain_raise (c.onBb _) _

theorem Chip.sameTrain_onTime (c : Chip) (f : Saffron → Saffron) : c.SameTrain (c.onTime f) := ⟨rfl, rfl, rfl, rfl, rfl⟩

/-- A change of the engine's state that is no loss of train time keeps the leases (R130, R163). -/
theorem Chip.sameTrain_setTm (c : Chip) {st : TmState} (hfree : st ≠ .free) (hacq : st ≠ .acquiring) : c.SameTrain (c.setTm st) := by
  have hlost : (c.timeValid && (st == .free || st == .acquiring)) = false := by simp [hfree, hacq]
  unfold Chip.setTm
  dsimp only
  simp only [hlost, Bool.false_eq_true, if_false]
  split
  · exact .refl c
  · refine .trans ?_ (Chip.sameTrain_schedUpdate _)
    split
    · exact ((c.sameTrain_onTime _).trans (Chip.sameTrain_raise _ _)).trans (Chip.sameTrain_raise _ _)
    · exact (c.sameTrain_onTime _).trans (Chip.sameTrain_raise _ _)

theorem Chip.sameTrain_timeRole (c : Chip) : c.SameTrain c.timeRole := by
  unfold Chip.timeRole
  split
  · split
    · exact .refl c
    · unfold Chip.toGrandmaster
      dsimp only
      split
      · exact ((c.sameTrain_onTime _).trans (Chip.sameTrain_setTm _ (by decide) (by decide))).trans (Chip.sameTrain_raise _ _)
      · exact (c.sameTrain_onTime _).trans (Chip.sameTrain_setTm _ (by decide) (by decide))
  · split
    · exact (c.sameTrain_onTime _).trans (Chip.sameTrain_setTm _ (by decide) (by decide))
    · exact .refl c

theorem Chip.sameTrain_schedJudge (c : Chip) : c.SameTrain c.schedJudge := by
  fun_cases Chip.schedJudge c <;> simp +zetaDelta [Chip.SameTrain, Chip.onBb]

theorem Chip.sameTrain_snapshotEvents (c : Chip) (old : Option Snapshot) (new : Snapshot) (run : Bool) : c.SameTrain (c.snapshotEvents old new run) := by
  unfold Chip.snapshotEvents
  extract_lets prev nodes reach told
  have hnodes : c.SameTrain nodes := Chip.sameTrain_foldl _ (fun c e => by simp [Chip.SameTrain]) _ _
  exact hnodes.trans (by simp [told, Chip.SameTrain])

theorem Chip.sameTrain_bbCount (c : Chip) (p i : Nat) : c.SameTrain (c.bbCount p i) := ⟨rfl, rfl, rfl, rfl, rfl⟩

theorem Chip.sameTrain_moveEgress (c : Chip) (e old new : Nat) : c.SameTrain (c.moveEgress e old new) := ⟨rfl, rfl, rfl, rfl, rfl⟩

theorem Chip.sameTrain_egressUpdate (c : Chip) (e : Nat) : c.SameTrain (c.egressUpdate e) := by
  unfold Chip.egressUpdate
  extract_lets b
  split
  rename_i line fb hwant
  extract_lets moved placed counted
  have hmoved : c.SameTrain moved := Chip.sameTrain_ite (c.sameTrain_moveEgress _ _ _) (.refl c)
  have hplaced : c.SameTrain placed := hmoved.trans ⟨rfl, rfl, rfl, rfl, rfl⟩
  have hcounted : c.SameTrain counted := hplaced.trans (Chip.sameTrain_ite (placed.sameTrain_bbCount _ _) (.refl _))
  exact Chip.sameTrain_ite hplaced (hcounted.trans (Chip.sameTrain_raiseD _ _ _ _ _))


theorem Chip.sameTrain_brCount (c : Chip) (i : Nat) : c.SameTrain (c.brCount i) := ⟨rfl, rfl, rfl, rfl, rfl⟩

theorem Chip.sameTrain_strand (c : Chip) (w reason far address sent : Nat) (data : Bytes) : c.SameTrain (c.strand w reason far address sent data) := by
  unfold Chip.strand
  extract_lets bs full counted lost
  have hcounted : c.SameTrain counted := ⟨rfl, rfl, rfl, rfl, rfl⟩
  have hlost : counted.SameTrain lost := by
    unfold lost
    split
    · exact (counted.sameTrain_brCount _).trans (Chip.sameTrain_raiseD _ _ _ _ _)
    · exact .refl _
  exact (hcounted.trans hlost).trans (Chip.sameTrain_raiseD _ _ _ _ _)

theorem Chip.sameTrain_discardLines (c : Chip) (reason : Nat) (pick : BrLine → Bool) : c.SameTrain (c.discardLines reason pick) := by
  refine (c.sameTrain_onBr _).trans (Chip.sameTrain_foldl _ (fun c l => ?_) _ _)
  exact Chip.sameTrain_ite (c.sameTrain_brCount _) ((c.sameTrain_brCount _).trans (Chip.sameTrain_strand _ _ _ _ _ _ _))

theorem Chip.sameTrain_judgeHold (c : Chip) (n : Nat) : c.SameTrain (c.judgeHold n) :=
  Chip.sameTrain_ite ((c.sameTrain_onBr _).trans (Chip.sameTrain_raiseD _ _ _ _ _)) (.refl c)

theorem Chip.sameTrain_retargetTo (c : Chip) (n : Nat) (t : Option Nat) : c.SameTrain (c.retargetTo n t) := by
  unfold Chip.retargetTo
  extract_lets aimed dropped
  have hdropped : c.SameTrain dropped := (c.sameTrain_onBr _).trans (Chip.sameTrain_discardLines _ _ _)
  exact Chip.sameTrain_ite (.refl c) (hdropped.trans (Chip.sameTrain_ite (Chip.sameTrain_raiseD _ _ _ _ _) (Chip.sameTrain_judgeHold _ _)))

theorem Chip.sameTrain_bridgeSwitch (c : Chip) : c.SameTrain c.bridgeSwitch := by
  unfold Chip.bridgeSwitch
  generalize List.range 64 = windows
  generalize List.range 16 = sems
  extract_lets aimed
  have haimed : c.SameTrain aimed := by
    refine Chip.sameTrain_foldl _ (fun c n => ?_) _ _
    exact Chip.sameTrain_ite (c.sameTrain_retargetTo _ _) (.refl c)
  refine haimed.trans (Chip.sameTrain_foldl _ (fun c n => ?_) _ _)
  split
  · exact Chip.sameTrain_ite (c.sameTrain_onBr _) (.refl c)
  · exact .refl c

theorem Chip.sameTrain_rtSwitch (c : Chip) : c.SameTrain c.rtSwitch :=
  Chip.sameTrain_ite (.trans ⟨rfl, rfl, rfl, rfl, rfl⟩ (Chip.sameTrain_raiseD (Chip.onRt _ _) _ _ _ _)) (.refl c)

/-- A snapshot that comes into force replaces the one in force and drops those to come that are not newer (R54). -/
theorem Chip.sameTrain_putInForce (c : Chip) (s : Snapshot) (run : Bool) :
    (c.onDir fun d => { d with inForce := some s, coming := d.coming.filter fun x => newer x.generation s.generation }).SameTrain (c.putInForce s run) :=
  (((Chip.sameTrain_raise _ _).trans (Chip.sameTrain_snapshotEvents _ _ _ _)).trans (Chip.sameTrain_egressUpdate _ _)).trans (Chip.sameTrain_egressUpdate _ _)

/-- The lease that comes with a switch is the elected leader's, for the epoch in force (R88). -/
theorem Chip.electedLease_lease (c : Chip) (leader priority : Nat) (switched : Bool) :
    ∃ l : Lease, l.holder = leader ∧ l.epoch = c.epoch ∧ (c.electedLease leader priority switched).dir = c.dir ∧
      (c.electedLease leader priority switched).rc = c.rc ∧ (c.electedLease leader priority switched).bb.image = c.bb.image ∧
      (c.electedLease leader priority switched).bb.leaderLease = some l := by
  unfold Chip.electedLease
  extract_lets now l own hadIt hadGateway leased lost lostGateway won
  have hwon : leased.SameTrain won :=
    ((Chip.sameTrain_ite (Chip.sameTrain_raise _ _) (.refl _)).trans (Chip.sameTrain_ite (Chip.sameTrain_raise _ _) (.refl _))).trans
      (Chip.sameTrain_ite (Chip.sameTrain_raise _ _) (.refl _))
  obtain ⟨hdir, hrc, himage, hlease, -⟩ := hwon.trans ((won.sameTrain_timeRole).trans (Chip.sameTrain_schedJudge _))
  exact ⟨l, rfl, rfl, hdir, hrc, himage, hlease⟩

theorem Chip.sameTrain_setRc (c : Chip) (st : RcState) : (c.onRc fun r => { r with state := st }).SameTrain (c.setRc st) :=
  Chip.sameTrain_ite (Chip.sameTrain_raise _ _) (.refl _)

/-- The verdict on the cab claim changes the verdict alone. -/
theorem Chip.claimVerdict_train (c : Chip) (s : Snapshot) :
    ∃ lost, (c.onRc fun r => { r with claimLost := lost }).SameTrain (c.claimVerdict s) := by
  unfold Chip.claimVerdict
  split
  · rename_i k n hcab hown
    exact ⟨_, Chip.sameTrain_ite (Chip.sameTrain_raise _ _) (.refl _)⟩
  · exact ⟨_, .refl _⟩

/-- The chip that a switch starts from: with a new epoch the entries staged for it come into force, the snapshots to come and the bridging are dropped (R54);
without one they are not joined to it. -/
def Chip.switchStart (c : Chip) (a : Announce) (s : Snapshot) : Chip :=
  if a.noSwitch then c.unjoinEpoch.onDir fun d => { d with bridging := d.bridging.filter fun b => (s.node b.1).any (·.dark) }
  else (c.onDir fun d => { d with vehicle := d.vehicle.switch, coming := [], bridging := [] }).onBb Backbone.switchImage

theorem Chip.switchStart_rc (c : Chip) (a : Announce) (s : Snapshot) : (c.switchStart a s).rc = c.rc := by
  unfold Chip.switchStart
  split <;> rfl

/-- What an ARMED node whose snapshot is held leaves at the switch, where no trigger came meanwhile (R88). -/
theorem Chip.rollcallSwitch_train {c : Chip} {a : Announce} {sn : Snapshot} (hs : c.rc.state = .armed) (ha : c.rc.announce = some a) (hsn : c.rc.composed = some sn)
    (hheld : c.rc.heldTrigger = false) :
    ∃ l : Lease, l.holder = a.leader ∧ l.epoch = sn.epoch ∧ c.rollcallSwitch.bb.leaderLease = some l ∧
      c.rollcallSwitch.dir = { (c.switchStart a sn).dir with
        inForce := some sn, coming := (c.switchStart a sn).dir.coming.filter fun x => newer x.generation sn.generation } ∧
      c.rollcallSwitch.bb.image = (c.switchStart a sn).bb.image ∧ c.rollcallSwitch.rc.state = .settled ∧ c.rollcallSwitch.rc.deputies = a.deputies ∧
      c.rollcallSwitch.rc.announce = none ∧ c.rollcallSwitch.rc.composed = none := by
  unfold Chip.rollcallSwitch
  split
  case h_1 a' hs' ha' =>
    obtain rfl : a' = a := Option.some.inj (ha'.symm.trans ha)
    split
    case h_1 hnone => exact absurd (hnone.symm.trans hsn) (by simp)
    case h_2 sn' hsn' =>
      obtain rfl : sn' = sn := Option.some.inj (hsn'.symm.trans hsn)
      extract_lets start forced told leased judged noted settled
      have hforced := start.sameTrain_putInForce sn' true
      have htold : forced.SameTrain told := Chip.sameTrain_ite (.refl _) (Chip.sameTrain_raise _ _)
      obtain ⟨hdir, hrc, himage, -⟩ := hforced.trans htold
      obtain ⟨l, hholder, hepoch, hldir, hlrc, hlimage, hllease⟩ :=
        told.electedLease_lease a'.leader (match told.rc.facts with | some f => f.leaderPriority | none => 0) (!a'.noSwitch)
      obtain ⟨lost, hjdir, hjrc, hjimage, hjlease, -⟩ := leased.claimVerdict_train sn'
      have hsettled : (noted.rcCount rcCompleted |>.onRc fun r => { r with state := .settled }).SameTrain settled :=
        (Chip.sameTrain_setRc _ _).trans (Chip.sameTrain_schedUpdate _)
      obtain ⟨hsdir, hsrc, hsimage, hslease, -⟩ := hsettled
      have hkept : settled.rc.heldTrigger = false := by
        have hcalm : judged.rc.heldTrigger = start.rc.heldTrigger :=
          (congrArg (·.heldTrigger) hjrc).trans ((congrArg (·.heldTrigger) hlrc).trans (congrArg (·.heldTrigger) hrc))
        rw [hsrc]
        exact hcalm.trans ((congrArg (·.heldTrigger) (c.switchStart_rc a' sn')).trans hheld)
      have hnow : told.epoch = sn'.epoch := by
        rw [Chip.epoch, hdir]
        rfl
      rw [if_neg (by simp [hkept])]
      refine ⟨l, hholder, hepoch.trans hnow, hslease.trans (hjlease.trans hllease), hsdir.trans (hjdir.trans (hldir.trans hdir)),
        hsimage.trans (hjimage.trans (hlimage.trans himage)), ?_, ?_, ?_, ?_⟩ <;> rw [hsrc] <;> rfl
  case h_2 hother => exact absurd ha (hother a hs)

theorem Chip.sameTrain_firstDue (c : Chip) : c.SameTrain (c.onBb fun b => { b with firstDue := true }) := ⟨rfl, rfl, rfl, rfl, rfl⟩

/-- After the switch of the roll-call come those of the router and the bridge, which leave the train's state alone. -/
theorem sameTrain_epochSwitch (c : Chip) : c.rollcallSwitch.SameTrain (epochSwitch c) := by
  unfold epochSwitch
  extract_lets due switched
  split
  · exact ((switched.sameTrain_rtSwitch).trans switched.rtSwitch.sameTrain_bridgeSwitch).trans (Chip.sameTrain_firstDue switched.rtSwitch.bridgeSwitch)
  · exact .refl _
end Sys2Proof.Machine

namespace Sys2Proof
open Machine

/-- Settles O20. -/
theorem switchEvents : Obligations.SwitchEvents := by
  unfold Obligations.SwitchEvents
  refine ⟨fun p src raw m a => ?_, fun a f first rest e => ?_, fun p src raw m f sn a => ?_, fun p src raw m f e => ?_, fun p src raw m a => ?_, fun p src raw m a => ?_,
    fun p src raw m sn => ?_, ?_, ?_, ?_, fun a => ?_, fun a => ?_, ?_, fun a sn t s hm hs ha hsn hheld hswitch hlead => ?_, fun a sn t s hm hs ha hsn hheld => ?_,
    fun sn rest => ?_, fun sn rest => ?_⟩
  · refine acts_rc (fun _ _ => rfl) fun c ⟨hs, ha, hnone, hopen, hgen, hsrc⟩ => ?_
    have hopen' : ¬((none : Option Snapshot).isSome || false) = true := by decide
    simp only [hs, ha, hnone, hopen, if_neg hopen']
    rw [if_neg (not_not_intro hgen), if_neg (not_not_intro hsrc)]
  · refine acts_of segreqDeadline (fun _ _ => rfl) fun c _ ⟨hs, ha, hnone, hf, he, hmiss⟩ => ?_
    simp only [segreqDeadline, hs, ha, hnone, hf, he, hmiss]
  · refine acts_rc (fun _ _ => rfl) fun c ⟨hf, he, hsn, ha, hs, hgen⟩ => ?_
    simp only [hf, he, hsn, ha, if_pos (And.intro hgen hs)]
  · refine acts_rc (fun _ _ => rfl) fun c ⟨hf, he⟩ => ?_
    cases hsn : c.rc.composed <;> cases ha : c.rc.announce <;> simp only [hf, he]
  · refine acts_rc (fun _ _ => rfl) fun c ⟨hs, ha, h⟩ => ?_
    simp only [hs, ha]
    by_cases hgen : bAt m.body 0 4 = a.newGeneration
    · obtain ⟨hsrc, hdone⟩ := h.resolve_left (not_not_intro hgen)
      rw [if_neg (not_not_intro hgen), if_neg (not_not_intro hsrc), if_pos (by simpa using hdone)]
    · rw [if_pos hgen]
  · refine acts_rc (fun _ _ => rfl) fun c ⟨hs, ha, hgen, hsrc⟩ => ?_
    simp only [hs, ha]
    rw [if_neg (not_not_intro hgen), if_pos hsrc]
  · refine acts_rc (fun _ _ => rfl) fun c ⟨hs, hsn⟩ => ?_
    dsimp only
    split
    · rename_i hs' _
      exact absurd hs' hs
    · rw [show (joinSegments _ _).bind Snapshot.parse = sn from hsn] <;> rfl
  · refine acts_of segreqDeadline (fun _ _ => rfl) fun c _ h => ?_
    unfold segreqDeadline
    split
    · rename_i hs ha hnone hf
      simp [hs, ha, hnone, hf] at h
    · rfl
  · refine acts_of snapshotIncompleteDeadline (fun _ _ => rfl) fun c _ h => ?_
    rw [snapshotIncompleteDeadline, if_neg]
    · rfl
    · rintro ⟨hs, hnone, hopen⟩
      simp [hs, hnone] at h
      simp [h] at hopen
  · refine acts_of snapshotIncompleteDeadline (fun _ _ => rfl) fun c _ ⟨hs, hnone, hopen⟩ => ?_
    rw [snapshotIncompleteDeadline, if_pos ⟨hs, hnone, by rw [hopen]; rfl⟩]
  · refine acts_of epochSwitch (fun _ _ => rfl) fun c _ ⟨hs, ha, hnone, hinc⟩ => ?_
    simp [epochSwitch, Chip.rollcallSwitch, hs, ha, hnone, hinc]
  · refine acts_of epochSwitch (fun _ _ => rfl) fun c _ ⟨hs, ha, hnone, hinc⟩ => ?_
    simp [epochSwitch, Chip.rollcallSwitch, hs, ha, hnone, hinc]
  · refine acts_of epochSwitch (fun _ _ => rfl) fun c _ hs => ?_
    have hidle : c.rollcallSwitch = c := by
      unfold Chip.rollcallSwitch
      split
      · contradiction
      · rfl
    unfold epochSwitch
    extract_lets due
    have hdue : due = false := by
      unfold due
      split
      · contradiction
      · rfl
    rw [hdue]
    exact hidle
  · obtain ⟨l, hholder, hepoch, hlease, hdir, himage, hst, -⟩ := Chip.rollcallSwitch_train hs ha hsn hheld
    obtain ⟨kdir, krc, kimage, klease, -⟩ := sameTrain_epochSwitch (s.chip.tick t)
    have hstart : (s.chip.tick t).switchStart a sn = ((s.chip.tick t).onDir fun d => { d with vehicle := d.vehicle.switch, coming := [], bridging := [] }).onBb
        Backbone.switchImage := if_neg (by simp [hswitch])
    rw [hstart] at hdir himage
    refine ⟨_, l, leaves_of epochSwitch rfl hm, by rw [krc, hst], ?_, ?_, ?_, ?_, kimage.trans himage, klease.trans hlease, hholder, hepoch⟩ <;> rw [kdir, hdir] <;> rfl
  · obtain ⟨l, -, -, -, hdir, -, hst, hdep, hann, hcomp⟩ := Chip.rollcallSwitch_train hs ha hsn hheld
    obtain ⟨kdir, krc, -⟩ := sameTrain_epochSwitch (s.chip.tick t)
    exact ⟨_, leaves_of epochSwitch rfl hm, by rw [krc, hdep], by rw [krc, hann], by rw [krc, hcomp], by rw [krc, hst], fun _ => by rw [kdir, hdir]⟩
  · refine acts_of snapshotEffective (fun _ _ => rfl) fun c _ ⟨hcoming, hdue⟩ => ?_
    simp only [snapshotEffective, hcoming]
    rw [if_pos (by simpa using hdue)]
  · refine acts_of snapshotEffective (fun _ _ => rfl) fun c _ ⟨hcoming, hdue, hv⟩ => ?_
    have hnot : ¬(sn.effective ≤ c.trainTime) := by omega
    simp [snapshotEffective, hcoming, hnot, hv]
end Sys2Proof
end

section
/-! Notices and beacons (R48, R54, R71, R97, R98). -/
namespace Sys2Proof
open Machine

/-- Evidence against the leader that comes under a condition is noted beside what stands. -/
theorem Machine.Chip.noteEvidence (c : Chip) {p : Prop} [Decidable p] {b : Bool} (h : p ↔ b = true) :
    (if p then c.onBb fun x => { x with evidence := true } else c) = c.onBb fun x => { x with evidence := b || x.evidence } := by
  cases b <;> simp [h, Chip.onBb]

/-- Evidence that is taken away under a condition stays where the condition fails. -/
theorem Machine.Chip.clearEvidence (c : Chip) {p : Prop} [Decidable p] {b : Bool} (h : p ↔ b = true) :
    (if p then c.onBb fun x => { x with evidence := false } else c) = c.onBb fun x => { x with evidence := x.evidence && !b } := by
  cases b <;> simp [h, Chip.onBb]

theorem leaderGone_iff (c : Chip) (m : RcMsg) :
    (u8 m.body 0 = 1 ∧ bAt m.body 4 8 = c.leaderHolder ∧ bAt m.body 4 8 ≠ 0 ∧ m.epoch = c.epoch) ↔ Ready.leaderGone c m = true :=
  decide_eq_true_iff.symm

/-- What a chip knows of its own leadership does not rest on the evidence against the leader. -/
theorem recordedLeader_onEvidence (c : Chip) (f : Bool → Bool) : (c.onBb fun b => { b with evidence := f b.evidence }).recordedLeader = c.recordedLeader := rfl

/-- Settles O21. -/
theorem leaderEvents : Obligations.LeaderEvents := by
  unfold Obligations.LeaderEvents
  refine ⟨fun p src raw m => ?_, fun p src raw m => ?_, fun p src raw m => ?_, fun num e at0 sn n => ?_, ?_, ?_, fun p src raw m => ?_, fun p src raw m => ?_, ?_, ?_⟩
  · refine acts_rc (fun _ _ => rfl) fun c ⟨hlead, hacts⟩ => ?_
    dsimp only
    rw [c.noteEvidence (leaderGone_iff c m), recordedLeader_onEvidence c (Ready.leaderGone c m || ·), if_pos hlead, Chip.takeNotice, if_pos hacts]
  · refine acts_rc (fun _ _ => rfl) fun c ⟨hlead, hacts⟩ => ?_
    dsimp only
    rw [c.noteEvidence (leaderGone_iff c m), recordedLeader_onEvidence c (Ready.leaderGone c m || ·), if_pos hlead, Chip.takeNotice,
      if_neg (Bool.eq_false_iff.mp hacts)]
  · refine acts_rc (fun _ _ => rfl) fun c hlead => ?_
    dsimp only
    rw [c.noteEvidence (leaderGone_iff c m), recordedLeader_onEvidence c (Ready.leaderGone c m || ·), if_neg (Bool.eq_false_iff.mp hlead)]
  · refine acts_of (bridgeTimeout num) (fun _ _ => rfl) fun c _ ⟨hacts, hfind, hsn, hnext, hreach, hdark⟩ => ?_
    simp [bridgeTimeout, hacts, hfind, hsn, hnext, hreach, hdark]
  · refine acts_of beaconTimer (fun _ _ => rfl) fun c _ ⟨hroll, hacts⟩ => ?_
    simp [beaconTimer, hroll, hacts]
  · refine acts_of beaconTimer (fun _ _ => rfl) fun c _ h => ?_
    rcases h with h | h <;> simp [beaconTimer, h]
  · refine acts_rc (fun _ _ => rfl) fun c ⟨he, hsrc, hhold, hlead⟩ => ?_
    dsimp only
    rw [c.clearEvidence (b := Ready.settles c m) ?settles, if_neg]
    · rfl
    · rw [recordedLeader_onEvidence c (· && !Ready.settles c m)]
      rintro (h | h | h | h)
      · exact h he
      · exact h hsrc
      · exact Bool.eq_false_iff.mp ((Bool.not_eq_true' _).mp h) hhold
      · simp [hlead] at h
    case settles => exact (and_iff_left he).trans Bool.or_eq_true_iff.symm
  · refine acts_rc (fun _ _ => rfl) fun c he => ?_
    simp [he]
  · refine acts_of beaconMissingHeld (fun _ _ => rfl) fun c _ ⟨hs, hlead⟩ => ?_
    rw [beaconMissingHeld, if_pos ⟨hs, by rw [hlead]; rfl⟩]
    simp [Chip.setRc, Chip.rcCount, Chip.onRc, hs]
  · refine acts_of leaderLostTimeout (fun _ _ => rfl) fun c _ ⟨hs, hprep, hbar⟩ => ?_
    rw [leaderLostTimeout, if_pos hs]
    simp [Chip.trigger, Chip.toHoldoff, Chip.setRc, Chip.onRc, hs, hprep, Nat.not_lt.mpr hbar]
end Sys2Proof
end

section
/-! Probes, couplers and deputies (R46, R66 to R69, R98, R136). -/
namespace Sys2Proof.Machine

/-! Sending leaves the train's state alone. -/

theorem Chip.sameTrain_sendOn (c : Chip) (p : Nat) (t : Telegram) : c.SameTrain (c.sendOn p t) := by
  have hlow : ∀ n, c.SameTrain (c.sendsLow p n) := fun n => Chip.sameTrain_ite ⟨rfl, rfl, rfl, rfl, rfl⟩ ⟨rfl, rfl, rfl, rfl, rfl⟩
  have hpre : c.SameTrain (c.preempts p) := Chip.sameTrain_ite ⟨rfl, rfl, rfl, rfl, rfl⟩ (.refl c)
  have hsent : ∀ (d : Chip) f, d.SameTrain (d.transmit p f) := fun _ _ => ⟨rfl, rfl, rfl, rfl, rfl⟩
  unfold Chip.sendOn
  extract_lets f
  split
  · exact ⟨rfl, rfl, rfl, rfl, rfl⟩
  · split
    · exact (hlow _).trans (hsent _ _)
    · exact hpre.trans (hsent _ _)

theorem Chip.sameTrain_sendEnd (c : Chip) (e : Nat) (t : Telegram) : c.SameTrain (c.sendEnd e t) := Chip.sameTrain_foldl _ (fun c p => c.sameTrain_sendOn p t) _ _

theorem Chip.sameTrain_takeSequence {c c' : Chip} {a b d tc i q : Nat} (h : c.takeSequence a b d tc = some (i, q, c')) : c.SameTrain c' := by
  unfold Chip.takeSequence at h
  extract_lets ss mine fresh at h
  split at h
  · simp only [Option.some.injEq, Prod.mk.injEq] at h
    obtain ⟨-, -, rfl⟩ := h
    exact ⟨rfl, rfl, rfl, rfl, rfl⟩
  · split at h
    · simp only [Option.some.injEq, Prod.mk.injEq] at h
      obtain ⟨-, -, rfl⟩ := h
      exact ⟨rfl, rfl, rfl, rfl, rfl⟩
    · split at h
      · simp only [Option.some.injEq, Prod.mk.injEq] at h
        obtain ⟨-, -, rfl⟩ := h
        exact ⟨rfl, rfl, rfl, rfl, rfl⟩
      · simp at h

theorem Chip.sameTrain_originate {c c' : Chip} {t t' : Telegram} (h : c.originate t = some (t', c')) : c.SameTrain c' := by
  unfold Chip.originate at h
  split at h
  · simp at h
  · rename_i hs
    simp only [Option.some.injEq, Prod.mk.injEq] at h
    obtain ⟨-, rfl⟩ := h
    exact Chip.sameTrain_takeSequence hs

theorem Chip.sameTrain_draw (c : Chip) : c.SameTrain c.draw.2 := ⟨rfl, rfl, rfl, rfl, rfl⟩

theorem Chip.sameTrain_sendRc (c : Chip) (e : Nat) (m : RcMsg) : c.SameTrain (c.sendRc e m) := by
  unfold Chip.sendRc
  split
  · exact .refl c
  · rename_i h
    exact (c.sameTrain_draw.trans (Chip.sameTrain_originate h)).trans
      (Chip.sameTrain_foldl _ (fun _ _ => Chip.sameTrain_foldl _ (fun d p => d.sameTrain_sendOn p _) _ _) _ _)

theorem Chip.sameTrain_floodLease (c : Chip) (m : LeaseMsg) : c.SameTrain (c.floodLease m) := by
  unfold Chip.floodLease
  split
  · exact .refl c
  · rename_i h
    exact ((c.sameTrain_draw.trans (Chip.sameTrain_originate h)).trans (Chip.sameTrain_sendEnd _ _ _)).trans (Chip.sameTrain_sendEnd _ _ _)

theorem Chip.sameTrain_sendSegments (c : Chip) (run : Bool) (s : Snapshot) (first count : Nat) : c.SameTrain (c.sendSegments run s first count) := by
  unfold Chip.sendSegments
  refine Chip.sameTrain_foldl _ (fun c i => ?_) _ _
  dsimp only
  split
  · exact (c.sameTrain_sendRc _ _).trans (Chip.sameTrain_sendRc _ _ _)
  · exact .refl c

theorem Chip.sameTrain_beaconTimer (c : Chip) : c.SameTrain (beaconTimer c) :=
  Chip.sameTrain_ite ((c.sameTrain_sendRc _ _).trans (Chip.sameTrain_sendRc _ _ _)) (.refl c)

/-- `b` has the leader's lease and the evidence of `a`, and is not HELD unless `a` was. -/
structure Chip.Leads (a b : Chip) : Prop where
  lease : b.bb.leaderLease = a.bb.leaderLease
  evidence : b.bb.evidence = a.bb.evidence
  held : a.rc.state ≠ .held → b.rc.state ≠ .held

theorem Chip.Leads.refl (a : Chip) : a.Leads a := ⟨rfl, rfl, id⟩
theorem Chip.Leads.trans {a b c : Chip} (h : a.Leads b) (k : b.Leads c) : a.Leads c := ⟨k.lease.trans h.lease, k.evidence.trans h.evidence, k.held ∘ h.held⟩

theorem Chip.SameTrain.leads {a b : Chip} (h : a.SameTrain b) : a.Leads b := by
  obtain ⟨-, hrc, -, hlease, hevidence⟩ := h
  exact ⟨hlease, hevidence, fun hheld => by rwa [hrc]⟩

theorem Chip.leads_foldl {α : Type} (f : Chip → α → Chip) (h : ∀ (c : Chip) x, c.Leads (f c x)) (l : List α) (c : Chip) : c.Leads (l.foldl f c) := by
  induction l generalizing c with
  | nil => exact .refl c
  | cons x l ih => exact (h c x).trans (ih _)

theorem Chip.leads_ite {p : Prop} [Decidable p] {c x y : Chip} (hx : c.Leads x) (hy : c.Leads y) : c.Leads (if p then x else y) := by
  split
  · exact hx
  · exact hy

theorem Chip.leads_onDir (c : Chip) (f : Directory → Directory) : c.Leads (c.onDir f) := ⟨rfl, rfl, id⟩

theorem Chip.leads_acceptSnapshot (c : Chip) (s : Snapshot) : c.Leads (c.acceptSnapshot s) :=
  Chip.leads_ite ((c.leads_onDir _).trans (c.sameTrain_putInForce s false).leads) (c.leads_onDir _)

theorem Chip.leads_issue (c : Chip) (f : Nat → Snapshot → Snapshot) : c.Leads (c.issue f) := by
  unfold Chip.issue Chip.issueOver
  split
  · exact .refl c
  · exact ((c.leads_onDir _).trans (Chip.leads_acceptSnapshot _ _)).trans (Chip.sameTrain_sendSegments _ _ _ _ _).leads

/-- A change of the engine's state to any but HELD. -/
theorem Chip.leads_setRc (c : Chip) {st : RcState} (h : st ≠ .held) : c.Leads (c.setRc st) :=
  have hset : c.Leads (c.onRc fun r => { r with state := st }) := ⟨rfl, rfl, fun _ => h⟩
  hset.trans (c.sameTrain_setRc st).leads

theorem Chip.leads_toHoldoff (c : Chip) : c.Leads c.toHoldoff := by
  unfold Chip.toHoldoff
  refine .trans ?_ (Chip.leads_setRc _ (by decide))
  exact ⟨rfl, rfl, id⟩

/-- A trigger begins no HELD (R68). -/
theorem Chip.leads_trigger (c : Chip) (link : Option Nat) (host : Bool) : c.Leads (c.trigger link host) := by
  unfold Chip.trigger
  split
  · exact .refl c
  · extract_lets carries counted hold
    have hcounted : c.Leads counted := Chip.leads_ite (.refl c) ⟨rfl, rfl, id⟩
    have hhold : c.Leads hold := hcounted.trans ⟨rfl, rfl, id⟩
    have hrun : c.Leads (if counted.clk.now < counted.rc.barredUntil ∧ !host then counted else counted.toHoldoff) :=
      Chip.leads_ite hcounted (hcounted.trans (Chip.leads_toHoldoff _))
    split
    · exact hcounted
    · exact hcounted
    · exact hrun
    · exact hrun
    · exact hrun
    · exact Chip.leads_ite hcounted hhold
    · exact Chip.leads_ite hcounted hhold
    · exact Chip.leads_ite hcounted hhold
    · exact hhold

theorem Chip.leads_applyNotice (c : Chip) (reporter kind e lines peer delay : Nat) : c.Leads (c.applyNotice reporter kind e lines peer delay) := by
  have hagain : ∀ (held : Snapshot), c.Leads (match c.bb.leaderLease with | some l => (c.floodLease (c.renewMsg l)).sendSegments false held 0 65535 | none => c) := by
    intro held
    split
    · exact ((c.sameTrain_floodLease _).trans (Chip.sameTrain_sendSegments _ _ _ _ _)).leads
    · exact .refl c
  unfold Chip.applyNotice
  split
  · extract_lets other up report next
    clear_value next
    split
    · split
      · exact Chip.leads_ite ((c.leads_issue _).trans (Chip.leads_onDir _ _)) (c.leads_issue _)
      · exact c.leads_issue _
    · split
      · exact ((hagain _).trans (Chip.leads_onDir _ _)).trans (Chip.leads_issue _ _)
      · exact c.leads_issue _
    · exact c.leads_issue _
    · split
      · exact Chip.leads_ite (c.leads_trigger _ _) (Chip.leads_ite ((c.leads_onDir _).trans (Chip.leads_issue _ _)) (c.leads_issue _))
      · exact c.leads_trigger _ _
  · exact .refl c
end Sys2Proof.Machine

namespace Sys2Proof.Machine

/-- A deputy that takes over holds the leader's lease from now on, without evidence against it, and leaves HELD (R98). -/
theorem deputyTakeover_leads {c : Chip} {l : Lease} (hroll : c.rolling = true) (hrank : 0 < c.deputyRank) (hev : c.bb.evidence = true)
    (hl : c.bb.leaderLease = some l) (hholder : l.holder ≠ c.fuses.identity) (hepoch : l.epoch = c.epoch)
    (hdue : l.expiry + c.margin l.timed + (c.deputyRank - 1) * 20000000 ≤ c.leaseNow l) :
    (deputyTakeover c).bb.leaderLease = some (c.newLease c.fuses.identity c.leaderPriority) ∧ (deputyTakeover c).bb.evidence = false ∧
      (deputyTakeover c).rc.state ≠ .held := by
  unfold deputyTakeover
  extract_lets k n taken roled flooded left
  split
  case h_1 hnone => exact absurd (hnone.symm.trans hl) (by simp)
  case h_2 l' hl' =>
    obtain rfl : l' = l := Option.some.inj (hl'.symm.trans hl)
    split
    case isTrue hstop => exact absurd hstop (by simp [hroll, hev, hholder, hepoch, k]; omega)
    case isFalse hgo =>
      extract_lets gone issued bridged gaps bridging todo told
      have hflooded : (c.onBb fun b => { b with leaderLease := some n, evidence := false }).SameTrain flooded :=
        (((Chip.sameTrain_raise _ _).trans (Chip.sameTrain_timeRole _)).trans (Chip.sameTrain_schedJudge _)).trans (Chip.sameTrain_floodLease _ _)
      have hleft : flooded.Leads left := by
        unfold left
        split
        · exact Chip.leads_setRc _ (by decide)
        · exact .refl _
      have hfree : left.rc.state ≠ .held := by
        unfold left
        split
        · simp
        · assumption
      have hbridging : left.Leads bridging := (((left.leads_issue _).trans (Chip.leads_onDir _ _)).trans (Chip.leads_onDir _ _))
      have htold : bridging.Leads told := by
        refine .trans (b := bridging.onBb fun b => { b with unrecorded := [] }) ⟨rfl, rfl, id⟩ (Chip.leads_foldl _ (fun c u => ?_) _ _)
        exact c.leads_applyNotice _ _ _ _ _ _
      have hafter := (hbridging.trans htold).trans ((told.sameTrain_beaconTimer.trans (Chip.sameTrain_raise _ 14)).leads)
      obtain ⟨-, -, -, hlease, hevidence⟩ := hflooded
      exact ⟨((hleft.trans hafter).lease).trans hlease, ((hleft.trans hafter).evidence).trans hevidence, hafter.held hfree⟩
end Sys2Proof.Machine

namespace Sys2Proof
open Machine

/-- Settles O22. -/
theorem neighbourEvents : Obligations.NeighbourEvents := by
  unfold Obligations.NeighbourEvents
  refine ⟨fun p raw m => ?_, fun p raw m => ?_, fun p raw m => ?_, fun p raw m n => ?_, fun p raw m => ?_, fun e => ?_, fun e high => ?_, fun e high => ?_, fun e => ?_,
    fun l t s hm hroll hrank hev hl hholder hepoch hdue => ?_⟩
  · exact acts_rc (fun _ _ => rfl) fun c _ => rfl
  · refine acts_rc (fun _ _ => rfl) fun c hprobe => ?_
    dsimp only
    rw [if_pos (by rw [hprobe]; rfl)]
  · refine acts_rc (fun _ _ => rfl) fun c ⟨hprobe, hs⟩ => ?_
    dsimp only
    rw [if_neg (by rw [hprobe]; decide)]
    simp only [Chip.onRc, hs]
  · refine acts_rc (fun _ _ => rfl) fun c ⟨hprobe, hs, hnext, hid, hepoch⟩ => ?_
    dsimp only
    rw [if_neg (by rw [hprobe]; decide)]
    have hnext' : (c.onRc fun r => { r with probing := updAt r.probing (p / 2) fun _ => false }).nextAlong (p / 2) true = some n := hnext
    rcases hs with hs | hs <;> simp only [hnext', hid, beq_self_eq_true, and_true] <;> simp only [Chip.onRc, hs] <;> exact if_pos hepoch
  · refine acts_rc (fun _ _ => rfl) fun c ⟨hprobe, hs, hlive, hdark⟩ => ?_
    dsimp only
    rw [if_neg (by rw [hprobe]; decide)]
    have hlive' : (c.onRc fun r => { r with probing := updAt r.probing (p / 2) fun _ => false }).nextAlong (p / 2) true = none := hlive
    have hdark' : (c.onRc fun r => { r with probing := updAt r.probing (p / 2) fun _ => false }).nextAlong (p / 2) false = none := hdark
    rcases hs with hs | hs <;> simp only [hlive', hdark'] <;> simp [Chip.onRc, hs]
  · exact acts_of (probeReplyTimeout e) (fun _ _ => rfl) fun c _ _ => rfl
  · refine acts_of (couplerSenseChange e high) (fun _ _ => rfl) fun c _ ⟨he, hroll⟩ => ?_
    have hroll' : (c.onRc fun r => { r with couplers := updAt r.couplers e fun _ => high }).rolling = false := hroll
    rw [couplerSenseChange, if_neg (by omega)]
    dsimp only
    rw [if_pos (by rw [hroll']; rfl)]
  · refine acts_of (couplerSenseChange e high) (fun _ _ => rfl) fun c _ ⟨he, hroll, hend, hcoupled⟩ => ?_
    have hroll' : (c.onRc fun r => { r with couplers := updAt r.couplers e fun _ => high }).rolling = true := hroll
    have hend' : (c.onRc fun r => { r with couplers := updAt r.couplers e fun _ => high }).endUp e = true := hend
    rw [couplerSenseChange, if_neg (by omega)]
    dsimp only
    rw [if_neg (by rw [hroll']; decide), if_pos hcoupled, if_pos hend']
  · refine acts_of (couplerDisagreeTimeout e) (fun _ _ => rfl) fun c _ ⟨hroll, he, hcoupled, hend⟩ => ?_
    rw [couplerDisagreeTimeout, if_pos (by simp [hroll, he, hcoupled, hend])]
  · obtain ⟨hlease, hevidence, hheld⟩ := deputyTakeover_leads hroll hrank hev hl hholder hepoch hdue
    exact ⟨_, _, leaves_of deputyTakeover rfl hm, hlease, rfl, rfl, hevidence, hheld⟩
end Sys2Proof
end

section
/-! The links of the backbone (R112 to R116, R122). -/
namespace Sys2Proof
open Machine

/-- Settles O23. -/
theorem linkEvents : Obligations.LinkEvents := by
  unfold Obligations.LinkEvents
  refine ⟨fun p => ?_, fun p => ?_, fun p => ?_, fun p => ?_, fun p o => ?_, fun p => ?_, fun p ok => ?_, fun p ok => ?_, fun e => ?_, fun seg sn g => ?_⟩
  · exact acts_of (phyLinkLoss p) (fun _ _ => rfl) fun c _ _ => rfl
  · exact acts_of (linkRxTimeout p) (fun _ _ => rfl) fun c _ hup => if_neg hup
  · exact acts_of (linkRxTimeout p) (fun _ _ => rfl) fun c _ hdown => if_pos hdown
  · refine acts_of (linkProvisional p) (fun _ _ => rfl) fun c _ ⟨hroll, hp, hdown, hsound⟩ => ?_
    rw [linkProvisional, if_pos (by simp [hroll, hp, hdown, hsound])]
    rfl
  · refine acts_of (linkIdleTimer p) (fun _ _ => rfl) fun c _ ⟨hroll, hp, hsound, ho⟩ => ?_
    rw [linkIdleTimer, if_pos (by simp [hroll, hp, hsound]), ho]
  · refine acts_of (linkIdleTimer p) (fun _ _ => rfl) fun c _ ⟨hroll, hp, hsound, ho⟩ => ?_
    rw [linkIdleTimer, if_pos (by simp [hroll, hp, hsound]), ho]
    rfl
  · refine acts_of (preemptEnd p ok) (fun _ _ => rfl) fun c _ ⟨hp, hnew⟩ => ?_
    rw [preemptEnd, if_pos hp, preemptVerifyComplete, if_neg (by omega)]
    exact if_neg (by simpa using hnew)
  · refine acts_of (preemptEnd p ok) (fun _ _ => rfl) fun c _ ⟨hp, hok, hver⟩ => ?_
    rw [preemptEnd, if_pos hp, preemptVerifyComplete, if_neg (by omega)]
    exact if_pos (by simp [hok, hver])
  · refine acts_of (fallbackReturnTimer e) (fun _ _ => rfl) fun c _ ⟨he, hfb, hup, hsince, hother⟩ => ?_
    rw [fallbackReturnTimer, if_pos he]
    have hline : c.wantLine e = (c.namedLine, false) := by simp [Chip.wantLine, hup, hsince]
    simp only [Chip.egressUpdate, hline, hfb, ne_eq, hother.symm, not_false_eq_true, if_true, Bool.false_eq_true, if_false]
  · refine acts_of (lineRenameTimer seg) (fun _ _ => rfl) fun c _ ⟨hacts, hsn, hseg, hdown, hup⟩ => ?_
    simp [lineRenameTimer, hacts, hsn, hseg, hdown, hup]
end Sys2Proof
end

section
/-! Measuring a hop (R151, R152, R161). -/
namespace Sys2Proof
open Machine

/-- Only what a change makes of the port's tile counts. -/
theorem Machine.Chip.onTile_congr {c : Chip} {p : Nat} {f g : HopTile → HopTile} (h : f (c.time.tile p) = g (c.time.tile p)) : c.onTile p f = c.onTile p g := by
  have hsame : updAt c.time.tiles p f = updAt c.time.tiles p g := by
    refine List.ext_getElem? fun k => ?_
    rw [getElem?_updAt, getElem?_updAt]
    split
    case isTrue hk =>
      cases hx : c.time.tiles[k]? with
      | none => rfl
      | some x =>
        have htile : c.time.tile p = x := by simp [Saffron.tile, ← hk, hx]
        rw [htile] at h
        exact congrArg some h
    case isFalse => rfl
  simp only [Chip.onTile, Chip.onTime, hsame]

/-- Settles O24. -/
theorem delayEvents : Obligations.DelayEvents := by
  unfold Obligations.DelayEvents
  refine ⟨fun p raw => ?_, fun p raw => ?_, fun p ps raw id t1 => ?_, fun p ps raw => ?_, fun p => ?_, fun p => ?_, fun p => ?_, fun p => ?_, fun p => ?_, fun p tx rx => ?_⟩
  · refine acts_of (tdreqRx p raw) (fun _ _ => rfl) fun c _ ⟨hrun, hlen, hz⟩ => ?_
    simp [tdreqRx, hrun, hlen, hz]
  · refine acts_of (tdreqRx p raw) (fun _ _ => rfl) fun c _ ⟨hrun, hbad⟩ => ?_
    rw [tdreqRx, if_neg (by simp [hrun]), if_pos (by rwa [Decidable.not_and_iff_not_or_not, Bool.not_eq_true, ← Bool.not_eq_true'] at hbad)]
  · refine acts_of (tdrespRx p ps raw) (fun _ _ => rfl) fun c _ ⟨hrun, hlen, hz, hout, hid, hin, hnone, hburst⟩ => ?_
    have hlate : ¬(bAt raw 0 4 ≠ id ∨ c.arrival p ps > t1 + 100000000) := by simp [hid, hin]
    simp only [tdrespRx, hrun, hlen, hz, hout, hlate, hburst, hnone, ne_eq, not_true_eq_false, false_and, or_self, Bool.not_true, Bool.false_eq_true, if_false, if_true]
    exact congrArg (Chip.tmCount · tmDelaySamples) (Chip.onTile_congr (by simp [hnone, hburst]))
  · refine acts_of (tdrespRx p ps raw) (fun _ _ => rfl) fun c _ ⟨hrun, hlen, hz, hout⟩ => ?_
    simp [tdrespRx, hrun, hlen, hz, hout]
  · refine acts_of (delayRequestTimer p) (fun _ _ => rfl) fun c _ ⟨hrun, hburst, hcount⟩ => ?_
    rw [delayRequestTimer, if_neg (by simp [hrun])]
    dsimp only
    rw [if_pos hburst, if_pos hcount]
    rfl
  · refine acts_of (delayRequestTimer p) (fun _ _ => rfl) fun c _ ⟨hrun, hburst, hvalid, hfresh⟩ => ?_
    rw [delayRequestTimer, if_neg (by simp [hrun])]
    dsimp only
    rw [if_neg (by simp [hburst]), if_pos ⟨hvalid, hfresh⟩]
    rfl
  · refine acts_of (delayBurstEnd p) (fun _ _ => rfl) fun c _ ⟨hrun, hburst, hfew⟩ => ?_
    simp [delayBurstEnd, hrun, hburst, hfew]
  · refine acts_of (delayBurstEnd p) (fun _ _ => rfl) fun c _ ⟨hrun, hburst, hmany⟩ => ?_
    have hfew : ¬(c.time.tile p).burstAccepted < 4 := by omega
    simp [delayBurstEnd, hrun, hburst, hfew]
  · exact acts_of (delaySampleTimeout p) (fun _ _ => rfl) fun c _ hout => if_pos hout
  · exact acts_of (latencyTempCorrection p tx rx) (fun _ _ => rfl) fun c _ _ => rfl
end Sys2Proof
end

section
/-! The time tree (R150, R153 to R163, R173). -/
namespace Sys2Proof.Machine

/-- `b` has the train-time engine and the instant of `a`. -/
abbrev Chip.SameTime (a b : Chip) : Prop := b.time = a.time ∧ b.clk.now = a.clk.now

theorem Chip.SameTime.refl (a : Chip) : a.SameTime a := ⟨rfl, rfl⟩
theorem Chip.SameTime.trans {a b c : Chip} (h : a.SameTime b) (k : b.SameTime c) : a.SameTime c := ⟨k.1.trans h.1, k.2.trans h.2⟩
theorem Chip.Sends.sameTime {a b : Chip} (h : Chip.Sends a b) : a.SameTime b := ⟨h.time, h.now⟩
theorem Chip.sameTime_raise (c : Chip) (e : Nat) : c.SameTime (c.raise e) := by simp [Chip.SameTime]

theorem Chip.sameTime_ite {p : Prop} [Decidable p] {c x y : Chip} (hx : c.SameTime x) (hy : c.SameTime y) : c.SameTime (if p then x else y) := by
  split
  · exact hx
  · exact hy

theorem Chip.sameTime_foldl {α : Type} (f : Chip → α → Chip) (h : ∀ (c : Chip) x, c.SameTime (f c x)) (l : List α) (c : Chip) : c.SameTime (l.foldl f c) := by
  induction l generalizing c with
  | nil => exact .refl c
  | cons x l ih => exact (h c x).trans (ih _)

theorem Chip.sends_floodLease (c : Chip) (m : LeaseMsg) : Chip.Sends c (c.floodLease m) := by
  unfold Chip.floodLease
  split
  · exact .refl c
  · rename_i h
    exact ((c.sends_draw.trans (Chip.sends_originate h)).trans (Chip.sends_sendEnd _ _ _)).trans (Chip.sends_sendEnd _ _ _)

theorem Chip.sends_sendLease (c : Chip) (e : Nat) (m : LeaseMsg) : Chip.Sends c (c.sendLease e m) := by
  unfold Chip.sendLease
  split
  · exact .refl c
  · rename_i h
    exact (c.sends_draw.trans (Chip.sends_originate h)).trans (Chip.sends_sendEnd _ _ _)

theorem Chip.sameTime_schedUpdate (c : Chip) : c.SameTime c.schedUpdate := by
  unfold Chip.schedUpdate
  extract_lets w
  exact Chip.sameTime_ite (.refl c) (Chip.sameTime_raise (c.onBb _) _)

theorem Chip.sameTime_dropOwnGateways (c : Chip) : c.SameTime c.dropOwnGateways :=
  Chip.sameTime_ite (Chip.sameTime_raise (c.onBb _) _) (.refl c)

theorem Chip.sameTime_leasesLost (c : Chip) : c.SameTime c.leasesLost := by
  unfold Chip.leasesLost
  extract_lets led released dropped lead
  have hreleased : c.SameTime released := by
    unfold released
    split
    · exact Chip.sameTime_ite ((c.sends_floodLease _).sameTime.trans (Chip.sameTime_raise (Chip.onBb _ _) _)) (.refl c)
    · exact .refl c
  have hdropped : c.SameTime dropped := hreleased.trans released.sameTime_dropOwnGateways
  exact Chip.sameTime_ite hdropped (hdropped.trans (Chip.sends_sendLease _ _ _).sameTime)

theorem Chip.sameTime_matricesFree (c : Chip) : c.SameTime c.matricesFree := by
  unfold Chip.matricesFree
  generalize List.range 12 = channels
  refine Chip.sameTime_foldl _ (fun c n => ?_) _ _
  have hset : ∀ c : Chip, c.SameTime (c.setMatrix n 2) := fun c => Chip.sameTime_ite (.refl c) (by simp [Chip.SameTime, Chip.raisePort, Chip.onCan])
  exact Chip.sameTime_ite (.trans (b := c.onCan n _) ⟨rfl, rfl⟩ (hset _)) ⟨rfl, rfl⟩

/-- A change of the engine's state anchors train time at the instant and changes, beside the state, the domain and the steps, and the counters (R159). -/
theorem Chip.setTm_time {c : Chip} {st : TmState} (h : c.time.state ≠ st) :
    ∃ counters, (c.setTm st).time = { c.time.anchor c.clk.now with
      state := st, domain := if st = .free then 0 else c.time.domain, stepsRemoved := if st = .free then 0xFFFF else c.time.stepsRemoved, counters := counters } := by
  unfold Chip.setTm
  rw [if_neg h]
  extract_lets was lost left changed told judged freed
  obtain ⟨htime, hnow⟩ : c.SameTime left := Chip.sameTime_ite c.sameTime_leasesLost (.refl c)
  have hchanged : changed.time = { c.time.anchor c.clk.now with
      state := st, domain := if st = .free then 0 else c.time.domain, stepsRemoved := if st = .free then 0xFFFF else c.time.stepsRemoved } := by
    rw [← htime, ← hnow]
    rfl
  obtain ⟨htold, -⟩ := changed.sameTime_raise 32
  have hjudged : ∃ counters, judged.time = { changed.time with counters := counters } := by
    unfold judged
    split
    · exact ⟨_, (Chip.sameTime_raise _ _).1.trans (congrArg (fun s : Saffron => { s with counters := bump s.counters tmTimeLosses }) htold)⟩
    · split
      · exact ⟨_, (Chip.sameTime_raise _ _).1.trans htold⟩
      · exact ⟨_, htold⟩
  obtain ⟨counters, hjudged⟩ := hjudged
  have hend : judged.SameTime freed.schedUpdate := (Chip.sameTime_ite judged.sameTime_matricesFree (.refl judged)).trans freed.sameTime_schedUpdate
  exact ⟨counters, by rw [hend.1, hjudged, hchanged]⟩

/-- Holdover begins with the bound of the instant and keeps the rate (R159, R163). -/
theorem Chip.toHoldover_time {c : Chip} (e0 : Nat) (h : c.time.state ≠ .holdover) :
    (c.toHoldover e0).time.state = .holdover ∧ (c.toHoldover e0).time.holdE0 = e0 ∧ (c.toHoldover e0).time.holdSince = c.clk.now ∧
      (c.toHoldover e0).time.rate = c.time.rate ∧ (c.toHoldover e0).time.slewAdd = 0 := by
  unfold Chip.toHoldover
  obtain ⟨counters, htime⟩ := Chip.setTm_time (st := .holdover)
    (c := c.onTime fun s => { s.anchor c.clk.now with slewAdd := 0, slewUntil := 0, holdE0 := e0, holdSince := c.clk.now, counters := bump s.counters tmHoldoverEntries }) h
  rw [htime]
  exact ⟨rfl, rfl, rfl, rfl, rfl⟩
end Sys2Proof.Machine

namespace Sys2Proof
open Machine

/-- Settles O25. -/
theorem timeTreeEvents : Obligations.TimeTreeEvents := by
  unfold Obligations.TimeTreeEvents
  refine ⟨fun p ps raw m => ?_, fun p ps raw m => ?_, fun p ps raw m => ?_, ?_, ?_, ?_, fun t s hm hs => ?_, fun t s hm hs hbound => ?_, ?_⟩
  · refine acts_of (tsyncRx p ps raw) (fun _ _ => rfl) fun c _ ⟨hroll, hup, htile, hm, htake⟩ => ?_
    rw [tsyncRx, if_neg (by simp [hroll, hup, htile]), hm]
    exact if_pos (by rw [htake]; rfl)
  · refine acts_of (tsyncRx p ps raw) (fun _ _ => rfl) fun c _ ⟨hroll, hup, htile, hm, htake, huse⟩ => ?_
    rw [tsyncRx, if_neg (by simp [hroll, hup, htile]), hm]
    dsimp only
    rw [if_neg (by simp [htake]), if_pos huse]
  · refine acts_of (tsyncRx p ps raw) (fun _ _ => rfl) fun c _ ⟨hroll, hup, htile, hm, htake, huse⟩ => ?_
    rw [tsyncRx, if_neg (by simp [hroll, hup, htile]), hm]
    dsimp only
    rw [if_neg (by simp [htake]), if_neg (by simp [huse])]
  · exact acts_of tsyncGmTimer (fun _ _ => rfl) fun c _ h => if_pos h
  · exact acts_of holdoverTsyncTimer (fun _ _ => rfl) fun c _ h => if_pos h
  · exact acts_of tsyncLossTimeout (fun _ _ => rfl) fun c _ hs => if_pos hs
  · have hgo : tsyncLossTimeout (s.chip.tick t) = (s.chip.tick t).toHoldover (s.chip.tick t).errorBound := if_pos hs
    obtain ⟨hstate, he0, hsince, hrate, hslew⟩ := (s.chip.tick t).toHoldover_time (s.chip.tick t).errorBound (by rw [hs]; decide)
    rw [Chip.tick_now] at hsince
    exact ⟨_, hgo ▸ leaves_of tsyncLossTimeout rfl hm, hstate, he0, hsince, hrate, hslew⟩
  · have hgo : holdoverLimitExceeded (s.chip.tick t) = (s.chip.tick t).setTm .free := if_pos ⟨hs, hbound⟩
    obtain ⟨counters, htime⟩ := Chip.setTm_time (c := s.chip.tick t) (st := .free) (by rw [hs]; decide)
    rw [← hgo] at htime
    exact ⟨_, leaves_of holdoverLimitExceeded rfl hm, by rw [htime], by rw [htime]; rfl, by rw [htime]; rfl⟩
  · refine acts_of saffronInternalTick (fun _ _ => rfl) fun c _ ⟨htick, h⟩ => ?_
    have haccept : ¬(c.time.state ≠ .grandmaster ∧ c.time.lastAccept + 1000000 ≤ c.clk.now) := by
      rintro ⟨hs, hlate⟩
      have := h.resolve_left hs
      omega
    have hheard : ¬(c.time.state ≠ .grandmaster ∧ c.time.heard + 1000000 ≤ c.clk.now) := by
      rintro ⟨hs, hlate⟩
      have := h.resolve_left hs
      omega
    rw [saffronInternalTick, if_neg (by omega)]
    simp only [Chip.onTime, haccept, hheard, if_false]
end Sys2Proof
end

section
/-! Reference pulses and cycle event points (R166 to R172). -/
namespace Sys2Proof
open Machine

/-- Settles O26. -/
theorem referenceEvents : Obligations.ReferenceEvents := by
  unfold Obligations.ReferenceEvents
  refine ⟨fun ps => ?_, fun ps l => ?_, fun ps => ?_, ?_, ?_, ?_, ?_, fun n => ?_, fun n => ?_⟩
  · exact acts_of (trefInPulse ps) (fun _ _ => rfl) fun c _ hoff => if_pos hoff
  · refine acts_of (trefInPulse ps) (fun _ _ => rfl) fun c _ ⟨hon, hlast, hout⟩ => ?_
    rw [trefInPulse, if_neg hon]
    simp [hlast, hout]
  · refine acts_of (trefInPulse ps) (fun _ _ => rfl) fun c _ ⟨hon, hlast, hlock, hgood, htod, hs⟩ => ?_
    rw [trefInPulse, if_neg hon]
    simp [hlast, Chip.refJudge, Chip.onTime, Chip.tmCount, Chip.tmCountBy, hlock, hgood, htod, hs]
  · exact acts_of trefInMissing (fun _ _ => rfl) fun c _ hon => if_neg hon
  · exact acts_of trefInMissing (fun _ _ => rfl) fun c _ hoff => if_pos hoff
  · exact acts_of trefOutPulse (fun _ _ => rfl) fun c _ h => if_pos h
  · refine acts_of trefOutPulse (fun _ _ => rfl) fun c _ h => ?_
    rw [trefOutPulse, if_neg]
    · rfl
    · rintro ⟨hon, hvalid⟩
      simp [hon, hvalid] at h
  · refine acts_of (cepFire n) (fun _ _ => rfl) fun c _ ⟨hn, hon, hpast, hown⟩ => ?_
    refine if_neg ?_
    rintro (h | h | h)
    · omega
    · exact h hon
    · rcases (Bool.or_eq_true _ _).mp h with h | h
      · split at h
        · rename_i t ht
          have := hown t ht
          simp at h
          omega
        · simp at h
      · obtain ⟨q, hq, h⟩ := List.any_eq_true.mp h
        split at h
        · rename_i t ht
          have := hpast q hq t ht
          simp at h
          omega
        · simp at h
  · refine acts_of (cepFire n) (fun _ _ => rfl) fun c _ hoff => ?_
    exact if_pos (Or.inr (Or.inl hoff))
end Sys2Proof
end

section
/-! Leases (R132 to R138). -/
namespace Sys2Proof
open Machine

/-- A LEASE telegram in order that is not the sleep agreement's goes to its kind's handling (R132). -/
theorem leaseRx_of_leaseIn {p : Nat} {raw : Sourced} {m : LeaseMsg} {c : Chip} (h : Ready.leaseIn p raw m c) (hrole : m.role ≠ 3) :
    leaseRx p raw c =
      if m.request then c.hearLease p raw m (!c.recordedLeader) c.recordedLeader fun c => if m.epoch = c.epoch then c.gatewayRequest m else c
      else c.hearLease p raw m true true fun c => c.takeLease p m := by
  obtain ⟨hroll, hup, hm⟩ := h
  rw [leaseRx, if_neg (by simp [hroll, hup]), hm]
  exact if_neg hrole

/-- The duplicate check notes what it has seen and leaves the directory alone (R118). -/
theorem Machine.Chip.dupCheck_dir (c : Chip) (p : Nat) (t : Telegram) : (c.dupCheck p t).2.dir = c.dir := by
  fun_cases Chip.dupCheck c p t <;> simp +zetaDelta [Chip.onBb, Chip.bbCount, Chip.bbCountBy, Chip.onPort]

/-- Settles O27. -/
theorem leaseEvents : Obligations.LeaseEvents := by
  unfold Obligations.LeaseEvents
  refine ⟨fun c => ⟨rfl, fun h => ?_, rfl⟩, fun p raw m => ?_, fun p raw m => ?_, fun p raw m => ?_, fun p raw m => ?_, fun p raw => ?_, fun l => ?_, fun l => ?_, fun v l => ?_, ?_, ?_⟩
  · simp [Chip.margin, h, ceilDiv]
  · refine acts_of (leaseRx p raw) (fun _ _ => rfl) fun c _ ⟨hin, hrole, hreq, hfirst⟩ => ?_
    rw [leaseRx_of_leaseIn hin hrole, if_neg (by simp [hreq])]
    simp [Chip.hearLease, hfirst]
  · refine acts_of (leaseRx p raw) (fun _ _ => rfl) fun c _ ⟨hin, hrole, hreq, hcopy⟩ => ?_
    rw [leaseRx_of_leaseIn hin hrole, if_neg (by simp [hreq])]
    simp [Chip.hearLease, hcopy]
  · refine acts_of (leaseRx p raw) (fun _ _ => rfl) fun c _ ⟨hin, hrole, hreq, hlead⟩ => ?_
    rw [leaseRx_of_leaseIn hin hrole, if_pos hreq]
    simp [Chip.hearLease, hlead]
  · refine acts_of (leaseRx p raw) (fun _ _ => rfl) fun c _ ⟨hin, hrole, hreq, hlead, hepoch, hfirst⟩ => ?_
    rw [leaseRx_of_leaseIn hin hrole, if_pos hreq]
    have hkept : m.epoch = (c.dupCheck p (Telegram.ofOuter raw.outer 3 raw.bytes)).2.epoch := by rw [Chip.epoch, Chip.dupCheck_dir]; exact hepoch
    simp [Chip.hearLease, hlead, hfirst, hkept]
  · refine acts_of (leaseRx p raw) (fun _ _ => rfl) fun c _ ⟨hroll, hup, hbad⟩ => ?_
    simp only [leaseRx, hroll, hup, hbad, Bool.not_true, Bool.or_self, Bool.false_eq_true, if_false]
  · refine acts_of leaderLeaseRenew (fun _ _ => rfl) fun c _ ⟨hroll, hlead, hl, hin⟩ => ?_
    simp only [leaderLeaseRenew, hl, hroll, hlead, hin, Bool.true_and, decide_true, if_true]
    rfl
  · refine acts_of (leaseExpiry 0) (fun _ _ => rfl) fun c _ ⟨hlead, hl, hout⟩ => ?_
    simp [leaseExpiry, hl, hlead, hout]
  · refine acts_of (leaseExpiry v) (fun _ _ => rfl) fun c _ ⟨hv, hl, hheld, hout, hother, hlead⟩ => ?_
    have hlive : ¬(l.holder = 0 ∨ c.leaseNow l + c.margin l.timed ≤ l.expiry) := by omega
    have hlead' : (c.onBb fun b => { b with gateways := b.gateways.filter fun g => g.1 != v }).recordedLeader = false := hlead
    simp only [leaseExpiry, if_neg hv, hl, if_neg hlive, if_neg hother, hlead', Bool.false_eq_true, if_false]
  · refine acts_of gatewayRequestTimer (fun _ _ => rfl) fun c _ ⟨hroll, hel, hvalid, hlead⟩ => ?_
    simp only [gatewayRequestTimer, hroll, hel, hvalid, hlead, Bool.not_true, Bool.or_self, Bool.false_eq_true, if_false]
    cases c.dir.inForce <;> rfl
  · refine acts_of gatewayRequestTimer (fun _ _ => rfl) fun c _ ⟨hroll, hel, hvalid, hlead⟩ => ?_
    simp only [gatewayRequestTimer, hroll, hel, hvalid, hlead, Bool.not_true, Bool.or_self, Bool.false_eq_true, if_false, if_true]
end Sys2Proof
end

section
/-! Telegrams through a node (R108 to R110, R118, R126, R131, R414). -/
namespace Sys2Proof
open Machine

/-- What stops a frame at a port does not stop one that the port takes. -/
theorem frameIn_open {p : Nat} {c : Chip} (h : Ready.frameIn p c) : ¬(!c.rolling || decide (4 ≤ p) || !c.tiles.portSound p) = true := by
  obtain ⟨hroll, hp, hsound⟩ := h
  have hp' : ¬4 ≤ p := by omega
  simp [hroll, hp', hsound]

/-- What leaves a port's link as it is leaves every link up that was. -/
theorem Machine.Chip.onPort_isUp {c : Chip} {p q : Nat} {f : BbPort → BbPort} (h : ∀ x, (f x).link = x.link) : (c.onPort p f).bb.isUp q = c.bb.isUp q := by
  simp only [Backbone.isUp, Backbone.port, Chip.onPort, Chip.onBb, List.getD_eq_getElem?_getD, getElem?_updAt]
  split
  · cases c.bb.ports[q]? with
    | none => rfl
    | some x => simp [h]
  · rfl

/-- Settles O28. -/
theorem telegramEvents : Obligations.TelegramEvents := by
  unfold Obligations.TelegramEvents
  refine ⟨fun p ps busy f => ?_, fun p ps err busy f => ?_, fun p ps busy f => ?_, fun p ps busy f => ?_, fun p ps busy f => ?_, fun p ps busy f tg => ?_,
    fun q e es tg => ?_, fun q e es tg => ?_, ?_, fun i b => ?_, fun i b x pay => ?_, fun p => ?_, fun p => ?_⟩
  · refine acts_of (bbTelegramRx p ps 2 busy f) (fun _ _ => rfl) fun c _ hin => ?_
    rw [bbTelegramRx, if_neg (frameIn_open hin)]
    exact if_pos rfl
  · refine acts_of (bbTelegramRx p ps err busy f) (fun _ _ => rfl) fun c _ ⟨hin, herr, hf, hfcs⟩ => ?_
    have hfault : (macFaults 2000 err f).contains macRxFcs = true := by
      simp [macFaults, hf, hfcs]
    rw [bbTelegramRx, if_neg (frameIn_open hin)]
    dsimp only
    rw [if_neg herr, if_pos hfault]
  · refine acts_of (bbTelegramRx p ps 1 busy f) (fun _ _ => rfl) fun c _ ⟨hin, hf⟩ => ?_
    have hfaults : macFaults 2000 1 f = [macRxSymbol] := by
      rcases hf with rfl | ⟨hfcs, hlo, hhi⟩
      · rfl
      · simp [macFaults, hfcs, Nat.not_lt.mpr hlo, Nat.not_lt.mpr hhi]
    rw [bbTelegramRx, if_neg (frameIn_open hin), hfaults]
    rfl
  · refine acts_of (bbTelegramRx p ps 0 busy f) (fun _ _ => rfl) fun c _ ⟨hin, hfcs, hshort⟩ => ?_
    have hfaults : macFaults 2000 0 f = [macRxRunts] := by
      have hlong : ¬2000 < f.length := by omega
      simp [macFaults, hfcs, hshort, hlong]
    rw [bbTelegramRx, if_neg (frameIn_open hin), hfaults]
    rfl
  · refine acts_of (bbTelegramRx p ps 0 busy f) (fun _ _ => rfl) fun c _ ⟨hin, hfcs, hlong⟩ => ?_
    have hfaults : macFaults 2000 0 f = [macRxTooLong] := by
      have hshort : ¬f.length < 64 := by omega
      simp [macFaults, hfcs, hshort, hlong]
    rw [bbTelegramRx, if_neg (frameIn_open hin), hfaults]
    rfl
  · refine acts_of (bbTelegramRx p ps 0 busy f) (fun _ _ => rfl) fun c _ ⟨hin, hfcs, hlo, hhi, hup, hbody, h4, h7⟩ => ?_
    have hfaults : macFaults 2000 0 f = [] := by simp [macFaults, hfcs, Nat.not_lt.mpr hlo, Nat.not_lt.mpr hhi]
    rw [bbTelegramRx, if_neg (frameIn_open hin), hfaults]
    dsimp only
    rw [if_neg (by decide), if_neg (by decide), if_neg (by decide), hbody]
    dsimp only
    have hheard : (Ready.heard p c).bb.isUp p = true := (Chip.onPort_isUp (by intro _; rfl)).trans hup
    have hcounted : ∀ g : BbPort → BbPort, (∀ x, (g x).link = x.link) →
        ((((Ready.heard p c).macCount p macRxFrames).macCountBy p macRxBytes f.length).onPort p g).bb.isUp p = true := fun g hg => (Chip.onPort_isUp hg).trans hheard
    rw [if_neg (by omega)]
    refine if_neg ?_
    rintro (h | h | h | h | h)
    · omega
    · omega
    · omega
    · omega
    · exact Bool.eq_false_iff.mp ((Bool.not_eq_true' _).mp h) ((Chip.onPort_isUp (by intro _; rfl)).trans (hcounted _ (by intro _; rfl)))
  · refine acts_of (bbEgressDequeue q none) (fun _ _ => rfl) fun c _ ⟨hroll, hq, hup, hentries, hbody, hclear, hbody', hlate⟩ => ?_
    have hgo : ¬(!c.rolling || decide (16 ≤ q) || !c.bb.isUp (q / 4) || false) = true := by simp [hroll, hup]; omega
    simp only [bbEgressDequeue, hentries, List.head?_cons, Option.bind_some, hbody, Except.toOption, hclear, Bool.not_true, Chip.takeHead, hbody', if_neg hgo, if_pos hlate]
  · refine acts_of (bbEgressDequeue q none) (fun _ _ => rfl) fun c _ ⟨hroll, hq, hup, hentries, hbody, hclear, hbody', hlive, hnew, hway⟩ => ?_
    have hgo : ¬(!c.rolling || decide (16 ≤ q) || !c.bb.isUp (q / 4) || false) = true := by simp [hroll, hup]; omega
    simp only [bbEgressDequeue, hentries, List.head?_cons, Option.bind_some, hbody, Except.toOption, hclear, Bool.not_true, Chip.takeHead, hbody', if_neg hgo,
      if_neg (Nat.not_lt.mpr hlive), hnew, Bool.false_eq_true, if_false, if_neg hway]
  · exact acts_of dupEntryAgeout (fun _ _ => rfl) fun c _ _ => rfl
  · refine acts_of (pdSlotInstant i) (fun _ _ => rfl) fun c _ ⟨himg, hroll, hi, hown, hs, hper, hpub⟩ => ?_
    have hdue : ¬((!c.rolling) = true ∨ schedSlots b ≤ i ∨ (!c.ownSlot (schedSlot b i)) = true ∨ c.bb.schedState = .none ∨
        c.cycleNow (schedCycle b) % 2 ^ u8 (schedSlot b i) 0x13 ≠ u8 (schedSlot b i) 0x14) := by
      simp [hroll, hi, hown, hs, hper]
    simp only [pdSlotInstant, himg, if_neg hdue, hpub]
  · refine acts_of (pdSlotInstant i) (fun _ _ => rfl) fun c _ ⟨himg, hroll, hi, hown, hs, hper, hpub, hpay⟩ => ?_
    have hdue : ¬((!c.rolling) = true ∨ schedSlots b ≤ i ∨ (!c.ownSlot (schedSlot b i)) = true ∨ c.bb.schedState = .none ∨
        c.cycleNow (schedCycle b) % 2 ^ u8 (schedSlot b i) 0x13 ≠ u8 (schedSlot b i) 0x14) := by
      simp [hroll, hi, hown, hs, hper]
    simp only [pdSlotInstant, himg, if_neg hdue, hpub, Option.bind_some, hpay]
    cases c.wayOfSlot (schedSlot b i) <;> rfl
  · exact acts_of (phyEnergyDetect p) (fun _ _ => rfl) fun c _ hp => if_pos hp
  · exact acts_of (phyEnergyDetect p) (fun _ _ => rfl) fun c _ hp => if_neg (by omega)
end Sys2Proof
end

section
/-! What the star sends and begins (R190, R199 to R211, R215). -/
namespace Sys2Proof
open Machine

/-- An own slot whose send buffer holds a payload taken by no cycle yet takes that payload (R210, R211). -/
theorem cbPick_of_latched {c : Chip} {k cycle at0 : Nat} {sl pay : Bytes} {x : CbTx} (hx : (c.cb.tx.find? fun x => x.slot == k) = some x) (htaken : x.taken = none)
    (hlatch : x.latched c.clk.now = some (at0, pay)) (hnew : (u8 sl 3).testBit 0 = true → x.lastSent ≠ some at0) :
    c.cbPick k sl cycle = (some pay, c.onCb fun b => { b with
      tx := { x with taken := some (cycle, c.clk.now, some pay), lastSent := some at0 } :: b.tx.filter fun y => y.slot != k }) := by
  have hfresh : ¬((u8 sl 3).testBit 0 = true ∧ x.lastSent = some at0) := fun h => hnew h.1 h.2
  simp only [Chip.cbPick, hx, Option.getD_some, hlatch, if_neg hfresh, htaken, Option.filter_none, Option.map_some, Option.orElse_some, Option.isNone_some, Bool.and_false,
    Bool.false_eq_true, if_false]

/-- Settles O29. -/
theorem starEvents : Obligations.StarEvents := by
  unfold Obligations.StarEvents
  refine ⟨?_, ?_, ?_, ?_, ?_, ?_, ?_, ?_, ?_, fun k sl img => ?_, fun k sl img x at0 pay => ?_, fun k sl img x at0 pay p => ?_, fun img e es ecc => ?_, fun img ecc => ?_, ?_, ?_, ?_, ?_, fun n => ?_⟩
  · exact acts_of cbCycleStart (fun _ _ => rfl) fun c _ hstop => if_pos hstop
  · refine acts_of cbCycleStart (fun _ _ => rfl) fun c _ ⟨hstop, hbeat⟩ => ?_
    simp [cbCycleStart, hstop, hbeat]
  · refine acts_of cbCycleStart (fun _ _ => rfl) fun c _ ⟨hstop, hbeat, hbegun, hs⟩ => ?_
    simp [cbCycleStart, hstop, hbeat, hbegun, hs, Chip.cbFirstState]
  · refine acts_of cbCycleStart (fun _ _ => rfl) fun c _ ⟨hstop, hbegun, hs, hvalid⟩ => ?_
    simp [cbCycleStart, hstop, hbegun, hs, hvalid, Chip.cbFirstState, Chip.cbReference, CarBus.beating]
  · refine acts_of cbCycleStart (fun _ _ => rfl) fun c _ ⟨hstop, hbegun, hs, hvalid⟩ => ?_
    have hwant : c.cbReference ≠ .aligned := by
      simp only [Chip.cbReference, hvalid, Bool.false_eq_true, if_false]
      split
      · decide
      · split <;> decide
    simp [cbCycleStart, hstop, hbegun, hs, hvalid, Chip.cbFirstState, CarBus.beating, hwant]
  · refine acts_of cbCycleStart (fun _ _ => rfl) fun c _ ⟨hstop, hbeat, hbegun, hwant⟩ => ?_
    simp [cbCycleStart, hstop, hbeat, hbegun, hwant]
  · refine acts_of cbCycleStart (fun _ _ => rfl) fun c _ ⟨hstop, hbeat, hbegun, hwant, hs, hstep, hnear⟩ => ?_
    simp [cbCycleStart, hstop, hbeat, hbegun, hwant, hs, hstep, hnear]
  · refine acts_of cbCycleStart (fun _ _ => rfl) fun c _ ⟨hstop, hbeat, hbegun, hfree, hal, hs, hstep⟩ => ?_
    simp [cbCycleStart, hstop, hbeat, hbegun, hfree, hal, hs, hstep]
  · refine acts_of cbCycleStart (fun _ _ => rfl) fun c _ ⟨hstop, hbeat, hbegun, hcoast, hfree, hkeep, hstep, hnear, hdue⟩ => ?_
    have hal : ¬(c.cb.state = .aligned ∧ c.cbReference ≠ .aligned) := fun h => h.2 (hkeep h.1)
    simp only [cbCycleStart, hstop, hbeat, hbegun, hfree, if_neg hal]
    simp [hcoast, hstep, hnear, hdue]
  · refine acts_of (cbOwnSlotSend k) (fun _ _ => rfl) fun c _ ⟨⟨hslot, himg, hbeat, hbegun, hdue, hown, hnow, hany⟩, hcross, hsent, hnone, hfresh⟩ => ?_
    have hpick : c.cbPick k sl c.cb.cycleCount = (none, ((c.onCb fun b => { b with
        tx := { slot := k, staging := zeros (slotMax sl), taken := some (c.cb.cycleCount, c.clk.now, none) } :: b.tx.filter fun y => y.slot != k }).starCount
        starNotReady).raiseKeyed 60 (1000 + k) 0 0xFFFF 0 100000000) := by
      simp [Chip.cbPick, hnone, hfresh, CbTx.latched]
    simp [cbOwnSlotSend, hslot, himg, hbeat, hbegun, hown, hdue, hnow, hany, hcross, Chip.cbSendOwn, hpick, hsent]
  · refine acts_of (cbOwnSlotSend k) (fun _ _ => rfl) fun c _ ⟨⟨hslot, himg, hbeat, hbegun, hdue, hown, hnow, hany⟩, hcross, hsent, hx, htaken, hlatch, hnew⟩ => ?_
    simp [cbOwnSlotSend, hslot, himg, hbeat, hbegun, hown, hdue, hnow, hany, hcross, Chip.cbSendOwn, cbPick_of_latched hx htaken hlatch hnew, hsent]
  · refine acts_of (cbOwnSlotSend k) (fun _ _ => rfl) fun c _ ⟨hslot, himg, hbeat, hbegun, hown, hdue, hcross, hch, hready, hx, htaken, hlatch, hnew⟩ => ?_
    simp [cbOwnSlotSend, hslot, himg, hbeat, hbegun, hown, hdue, hcross, hch, hready, Chip.cbSendCross, cbPick_of_latched hx htaken hlatch hnew]
  · refine acts_of (cbEventWindow ecc) (fun _ _ => rfl) fun c _ ⟨himg, hbeat, hbegun, hnow, hentries, hsent, hgrant, hin⟩ => ?_
    have hqueue : (c.cbEventHead img ecc).cbEventQueue = 44 := by simp [Chip.cbEventQueue, hentries]
    simp [cbEventWindow, himg, hbeat, hbegun, Nat.not_lt.mpr hnow, hqueue, hentries, hsent, hgrant, hin]
  · refine acts_of (cbEventWindow ecc) (fun _ _ => rfl) fun c _ ⟨himg, hbeat, hbegun, hnow, h44, h45⟩ => ?_
    have hqueue : c.cbEventQueue = 45 := by simp [Chip.cbEventQueue, h44]
    have hhead : c.cbEventHead img ecc = c := by
      simp [Chip.cbEventHead, hqueue, Chip.headRead, h45]
    simp [cbEventWindow, himg, hbeat, hbegun, Nat.not_lt.mpr hnow, hhead, hqueue, h45]
  · refine acts_of cbListenTimeout (fun _ _ => rfl) fun c _ hs => ?_
    simp [cbListenTimeout, hs, Chip.setCb, Chip.onCb]
  · exact acts_of cbListenTimeout (fun _ _ => rfl) fun c _ hs => if_neg hs
  · exact acts_of cbOtherStarLost (fun _ _ => rfl) fun c _ hheard => if_pos hheard
  · exact acts_of cbOtherStarLost (fun _ _ => rfl) fun c _ hheard => if_neg (Bool.eq_false_iff.mp hheard)
  · refine acts_of (cbPointFire n) (fun _ _ => rfl) fun c _ ⟨hn, hbeat, hbegun, hset⟩ => ?_
    refine if_neg ?_
    rintro (h | h | h | h)
    · omega
    · simp [hbeat] at h
    · simp [hbegun] at h
    · exact hset h
end Sys2Proof
end

section
/-! Frames in and out of their windows (R180, R193 to R196, R204, R208). -/
namespace Sys2Proof
open Machine

/-- A branch port whose tile is not isolated takes part. -/
theorem branchPort_sound {p : Nat} {c : Chip} (hlo : 12 ≤ p) (hhi : p ≤ 35) (htile : c.tiles.carBus.getLsbD (p - 12) = false) :
    ¬(p < 12 ∨ 35 < p ∨ c.tiles.carBus.getLsbD (p - 12) = true) := by
  rintro (h | h | h)
  · omega
  · omega
  · simp [htile] at h

/-- Foreign activity is counted once and disturbs the cycle (R196). -/
theorem cbForeignAt_of_new {c : Chip} {p start : Nat} (hnew : (c.cb.port p).stray ≠ some start) :
    c.cbForeignAt p start =
      if c.cb.begun then ((c.cbCount p cbForeign).onCbPort p fun q => { q with stray := some start }).cbDisturb p
      else (c.cbCount p cbForeign).onCbPort p fun q => { q with stray := some start } := by
  simp only [Chip.cbForeignAt, if_neg hnew]
  rfl

/-- An activity that belongs to a slot is judged by its window: too early or upon an unquiet line, too late, too long, or by its frame (R193 to R196). -/
theorem cbFrameRx_of_ofSlot {p k : Nat} {x : CbSeen} {sl img f : Bytes} {idle decodes : Bool} {c : Chip} (h : Ready.ofSlot p x k sl img c) :
    cbFrameRx p x idle decodes f c =
      if x.start + c.cb.margin < c.cb.cycleStart + slotStart img k ∨ !idle then ((c.cbSettle p k ((p - 12) % 2) 2).cbBlocked p 52).cbDisturb p
      else if Ready.closes k img c < x.start then (c.cbSettle p k ((p - 12) % 2) 3).cbBlocked p 52
      else if Ready.closes k img c + frameNs (slotMax sl) < c.clk.now then
        ((c.cbSettle p k ((p - 12) % 2) 4).cbBlocked p 53).cbRelayCut ((p - 12) / 2) ((p - 12) % 2) x.start (Ready.closes k img c + frameNs (slotMax sl)) f
      else (c.cbRelay ((p - 12) / 2) ((p - 12) % 2) x.start f).cbJudge p k x.start (c.cb.cycleStart + slotStart img k) sl f decodes := by
  obtain ⟨⟨hlo, hhi, hbeat, hbegun, htile, hcross⟩, ⟨hserved, hfitted, hmute, hshown, hjudged⟩, himg, hslot⟩ := h
  have hport := branchPort_sound hlo hhi htile
  simp only [cbFrameRx, hshown, if_neg hport, hbeat, hbegun, hcross, hserved, hfitted, hmute, hjudged, hslot, himg, beq_self_eq_true, Bool.and_true, Bool.not_true,
    Bool.false_eq_true, or_self, if_false]

/-- What keeps a window close from its judgement does not where the window is open. -/
theorem windowOpen_judges {p k : Nat} {sl : Bytes} {c : Chip} (h : Ready.windowOpen p k sl c) :
    ¬(p < 12 ∨ 35 < p ∨ (!c.cb.beating) = true ∨ (!c.cb.begun) = true ∨ (!c.cb.dueSlot sl) = true ∨ (!(u8 sl 1).testBit ((p - 12) % 2)) = true ∨
      (c.cb.cell k ((p - 12) % 2)).settled = true ∨ slotOwner sl = c.cb.self) := by
  obtain ⟨-, hlo, hhi, hbeat, hbegun, hdue, hch, hopen, howner⟩ := h
  simp only [hbeat, hbegun, hdue, hch, hopen, howner, Bool.not_true, Bool.false_eq_true, or_false]
  omega

/-- A beacon in order that shows no conflict brings the other star's cycle; a listening star takes its own cycle from it (R208). -/
theorem Chip.setCb_cb (c : Chip) (s : CbSt) : (c.setCb s).cb = { c.cb with state := s } := by
  unfold Chip.setCb
  split
  next hs => rw [← hs]
  · rw [Chip.raise_cb]; rfl

theorem cbBeaconRx_cb {p : Nat} {x : CbSeen} {f : Bytes} {c : Chip} (hb : Ready.beacon p x f c) (hmode : c.cb.mode ≠ 0) (hcross : c.cb.cross = some p)
    (hidx : bits (u8 f 0x1A) 2 2 + 1 ≠ c.cb.mode) :
    (cbBeaconRx p x f c).cb.other.heard = true ∧ (cbBeaconRx p x f c).cb.other.missed = 0 ∧ (cbBeaconRx p x f c).cb.other.frameStart = x.start ∧
      (cbBeaconRx p x f c).cb.other.cycle = bAt f 8 4 ∧ (cbBeaconRx p x f c).cb.other.scheduleId = bAt f 12 4 ∧
      ((cbBeaconRx p x f c).cb.state ≠ c.cb.state → c.cb.state = .listen ∧ (cbBeaconRx p x f c).cb.begun = c.cb.begun ∧
        (cbBeaconRx p x f c).cb.cycleStart = x.start - c.cb.crossDelay ∧ (cbBeaconRx p x f c).cb.cycleCount = (bAt f 8 4 + 1) % 4294967296) := by
  obtain ⟨hshown, hstop, hconf, htile, hcrc, htype, hch, h1, h2, h3, h4, h5⟩ := hb
  have hgo : ¬(c.cb.mode = 0 ∨ c.cb.cross ≠ some p ∨ bits (u8 f 0x1A) 2 2 + 1 = c.cb.mode) := by simp [hmode, hcross, hidx]
  unfold cbBeaconRx
  extract_lets b start flags index valid count sid was own o noted told judged
  have hvalid : valid = true := by simp [valid, hcrc, htype, hch, h1, h2, h3, h4, h5]
  have hok : ¬(b.state = .stopped ∨ b.state = .conflict ∨ (!valid) = true ∨ c.tiles.carBus.getLsbD (p - 12) = true ∨ c.cbShown p x ≠ some start) := by
    simp [b, start, hstop, hconf, hvalid, htile, hshown]
  have hjudged : judged.cb = { c.cb with other := o } := by
    simp only [judged, told, apply_ite Chip.cb, Chip.raise_cb, ite_self]
    rfl
  rw [if_neg hok, if_neg hgo]
  split
  next hlisten =>
    rw [Chip.setCb_cb, Chip.onCb_cb, hjudged]
    exact ⟨rfl, rfl, rfl, rfl, rfl, fun _ => ⟨hlisten, rfl, rfl, rfl⟩⟩
  next hnot =>
    rw [hjudged]
    exact ⟨rfl, rfl, rfl, rfl, rfl, fun h => absurd rfl h⟩

/-- Settles O30. -/
theorem branchEvents : Obligations.BranchEvents := by
  unfold Obligations.BranchEvents
  refine ⟨fun p x start idle decodes f => ?_, fun p x idle decodes f => ?_, fun p x idle decodes f k sl img => ?_, fun p x f decodes k sl img => ?_,
    fun p x f decodes k sl img => ?_, fun p x f decodes k sl img => ?_, fun p x f decodes k sl img r => ?_, fun p k running sl => ?_, fun p k sl => ?_, fun p k sl start idle => ?_,
    fun p k sl img start idle => ?_, fun p k sl img start => ?_, fun x start => ?_, fun x => ?_, fun p g => ?_, fun p => ?_, fun p x f => ?_, fun p x f t s hm hb hmode hcross hidx => ?_⟩
  · refine acts_of (cbFrameRx p x idle decodes f) (fun _ _ => rfl) fun c _ ⟨⟨hlo, hhi, hbeat, hbegun, htile, hcross⟩, hshown, hout, hnew⟩ => ?_
    have hout' : (!c.cb.served.contains ((p - 12) % 2)) = true ∨ (!branchBit (u32 c.cb.config 4) ((p - 12) / 2) ((p - 12) % 2)) = true ∨
        branchBit (c.cb.muteAt start) ((p - 12) / 2) ((p - 12) % 2) = true := by simpa only [Bool.not_eq_true'] using hout
    simp only [cbFrameRx, hshown, if_neg (branchPort_sound hlo hhi htile), hbeat, hbegun, if_neg hcross, if_pos hout', cbForeignAt_of_new hnew, Bool.not_true,
      Bool.false_eq_true, or_self, if_false, if_true]
  · refine acts_of (cbFrameRx p x idle decodes f) (fun _ _ => rfl) fun c _ hshown => ?_
    simp only [cbFrameRx, hshown, id]
  · refine acts_of (cbFrameRx p x idle decodes f) (fun _ _ => rfl) fun c _ ⟨hslot, hbad⟩ => ?_
    rw [cbFrameRx_of_ofSlot hslot, if_pos (by simpa using hbad)]
  · refine acts_of (cbFrameRx p x true decodes f) (fun _ _ => rfl) fun c _ ⟨hslot, hearly, hlate⟩ => ?_
    rw [cbFrameRx_of_ofSlot hslot, if_neg (by simp; omega), if_pos hlate]
  · refine acts_of (cbFrameRx p x true decodes f) (fun _ _ => rfl) fun c _ ⟨hslot, hearly, hlate, hlong⟩ => ?_
    rw [cbFrameRx_of_ofSlot hslot, if_neg (by simp; omega), if_neg (by omega), if_pos hlong]
  · refine acts_of (cbFrameRx p x true decodes f) (fun _ _ => rfl) fun c _ ⟨⟨hslot, hearly, hlate, hlong⟩, hcheck⟩ => ?_
    rw [cbFrameRx_of_ofSlot hslot, if_neg (by simp; omega), if_neg (by omega), if_neg (by omega)]
    simp [Chip.cbJudge, hcheck]
  · refine acts_of (cbFrameRx p x true decodes f) (fun _ _ => rfl) fun c _ ⟨⟨hslot, hearly, hlate, hlong⟩, hcheck, hr⟩ => ?_
    rw [cbFrameRx_of_ofSlot hslot, if_neg (by simp; omega), if_neg (by omega), if_neg (by omega)]
    simp [Chip.cbJudge, hcheck, hr]
  · refine acts_of (cbWindowClose p k running) (fun _ _ => rfl) fun c _ ⟨hopen, hcross⟩ => ?_
    have hjudges := windowOpen_judges hopen
    obtain ⟨hslot, -⟩ := hopen
    simp only [cbWindowClose, hslot, if_neg hjudges, if_pos hcross]
  · refine acts_of (cbWindowClose p k none) (fun _ _ => rfl) fun c _ ⟨hopen, hsender⟩ => ?_
    have hjudges := windowOpen_judges hopen
    obtain ⟨hslot, -⟩ := hopen
    rw [cbWindowClose, hslot]
    simp only [if_neg hjudges]
    simp [hsender]
  · refine acts_of (cbWindowClose p k (some (start, idle))) (fun _ _ => rfl) fun c _ ⟨hopen, hcross, hsender, hlive⟩ => ?_
    have hjudges := windowOpen_judges hopen
    obtain ⟨hslot, -⟩ := hopen
    rw [cbWindowClose, hslot]
    simp only [if_neg hjudges]
    simp [hsender, hlive]
  · refine acts_of (cbWindowClose p k (some (start, idle))) (fun _ _ => rfl) fun c _ ⟨hopen, hcross, hsender, hlive, himg, hbad⟩ => ?_
    have hjudges := windowOpen_judges hopen
    obtain ⟨hslot, -⟩ := hopen
    rw [cbWindowClose, hslot]
    simp only [if_neg hjudges]
    simp [if_neg hcross, hsender, hlive, himg, hbad]
  · refine acts_of (cbWindowClose p k (some (start, true))) (fun _ _ => rfl) fun c _ ⟨hopen, hcross, hsender, hlive, himg, hearly⟩ => ?_
    have hjudges := windowOpen_judges hopen
    obtain ⟨hslot, -⟩ := hopen
    rw [cbWindowClose, hslot]
    simp only [if_neg hjudges]
    simp [if_neg hcross, hsender, hlive, himg, Nat.not_lt.mpr hearly]
  · refine acts_of (cbForeignActivity x) (fun _ _ => rfl) fun c _ ⟨hlo, hhi, htile, hshown, hnew⟩ => ?_
    simp only [cbForeignActivity, if_neg (branchPort_sound hlo hhi htile), hshown, cbForeignAt_of_new hnew]
  · refine acts_of (cbForeignActivity x) (fun _ _ => rfl) fun c _ h => ?_
    rcases h with h | h <;> simp [cbForeignActivity, h]
  · refine acts_of (cbGrantResponseTimeout p) (fun _ _ => rfl) fun c _ hg => ?_
    simp only [cbGrantResponseTimeout, hg]
  · refine acts_of (cbGrantResponseTimeout p) (fun _ _ => rfl) fun c _ hg => ?_
    simp only [cbGrantResponseTimeout, hg, id]
  · refine acts_of (cbBeaconRx p x f) (fun _ _ => rfl) fun c _ ⟨⟨hshown, hstop, hconf, htile, hcrc, htype, hch, h1, h2, h3, h4, h5⟩, hconflict⟩ => ?_
    rcases h2 with h2 | h2 <;> simp [cbBeaconRx, hshown, hstop, hconf, htile, hcrc, htype, hch, h1, h2, h3, h4, h5, hconflict]
  · exact ⟨_, leaves_of (cbBeaconRx p x f) rfl hm, cbBeaconRx_cb hb hmode hcross hidx⟩
end Sys2Proof
end

section
/-! State and error counters of a CAN channel (R223, R226 to R236, R245). -/
namespace Sys2Proof.Machine

/-! What `getD` reads inside a list and beyond it, proved here because the package's files import no Mathlib. -/

theorem getD_of_lt {α : Type} {l : List α} {n : Nat} {d : α} (h : n < l.length) : l.getD n d = l[n] := by
  rw [List.getD_eq_getElem?_getD, List.getElem?_eq_getElem h, Option.getD_some]

theorem getD_of_length_le {α : Type} {l : List α} {n : Nat} {d : α} (h : l.length ≤ n) : l.getD n d = d := by
  rw [List.getD_eq_getElem?_getD, List.getElem?_eq_none h, Option.getD_none]

/-- An update that leaves a reading of the channel as it was, whatever the channel. -/
theorem onCan_reading {α : Type} {g : CanChan → α} {f : CanChan → CanChan} (h : ∀ x, g (f x) = g x) (c : Chip) (n : Nat) :
    g ((c.onCan n f).canCh n) = g (c.canCh n) := by
  by_cases hn : n < c.can.length
  · rw [Chip.canCh, Chip.onCan_can, getD_updAt_self f {} c.can n hn]
    exact h _
  · rw [Chip.canCh, Chip.canCh, Chip.onCan_can, getD_of_length_le (by simpa using hn), getD_of_length_le (by simpa using hn)]

/-- What holds of a channel that does not exist and of the updated one holds after the update. -/
theorem onCan_holds {P : CanChan → Prop} {c : Chip} {n : Nat} {f : CanChan → CanChan} (hd : P {}) (h : P (f (c.canCh n))) : P ((c.onCan n f).canCh n) := by
  by_cases hn : n < c.can.length
  · rw [Chip.canCh, Chip.onCan_can, getD_updAt_self f {} c.can n hn]
    exact h
  · rw [Chip.canCh, Chip.onCan_can, getD_of_length_le (by simpa using hn)]
    exact hd

/-- Two updates that make the same of the channel as it stands are one. -/
theorem onCan_congr {c : Chip} {n : Nat} {f g : CanChan → CanChan} (h : f (c.canCh n) = g (c.canCh n)) : c.onCan n f = c.onCan n g := by
  have : updAt c.can n f = updAt c.can n g := by
    refine List.ext_getElem? fun k => ?_
    rw [getElem?_updAt, getElem?_updAt]
    split
    next hk =>
      subst hk
      cases hx : c.can[k]? with
      | none => rfl
      | some x =>
        rw [show c.canCh k = x by simp [Chip.canCh, List.getD, hx]] at h
        exact congrArg some h
    · rfl
  rw [Chip.onCan, Chip.onCan, this]

theorem Chip.raisePort_canCh (c : Chip) (e p n : Nat) : (c.raisePort e p).canCh n = c.canCh n := by rw [Chip.canCh, Chip.canCh, Chip.raisePort_can]

theorem Chip.canRaiseLimited_canCh (c : Chip) (n e k : Nat) : (c.canRaiseLimited n e).canCh k = c.canCh k := by
  unfold Chip.canRaiseLimited Chip.raiseLimited
  split <;> simp [Chip.canCh]

theorem Chip.canRaise_canCh (c : Chip) (n e k : Nat) : (c.canRaise n e).canCh k = c.canCh k := c.raisePort_canCh _ _ _

/-- What the counting of errors reads of a channel: its state, its transmit error counter, the error frame and the own frame in progress. -/
def CanChan.errorView (x : CanChan) : CanSt × Nat × Option Bool × Option CanTx := (x.state, x.tec, x.errFrame, x.sending)

theorem canCount_errorView (c : Chip) (n i : Nat) : ((c.canCount n i).canCh n).errorView = (c.canCh n).errorView :=
  onCan_reading (g := CanChan.errorView) (by intro x; rfl) _ _

theorem canChecked_errorView (c : Chip) (n i : Nat) (took : Bool) : ((c.canChecked n i took).canCh n).errorView = (c.canCh n).errorView := by
  unfold Chip.canChecked
  split
  · exact onCan_reading (g := CanChan.errorView) (by intro x; rfl) _ _
  · rw [Chip.canRaiseLimited_canCh, canCount_errorView]
    exact onCan_reading (g := CanChan.errorView) (by intro x; rfl) _ _

theorem canCheckDone_errorView (c : Chip) (n : Nat) : ((c.canCheckDone n).canCh n).errorView = (c.canCh n).errorView := by
  unfold Chip.canCheckDone
  split
  · rw [canChecked_errorView]
    exact onCan_reading (g := CanChan.errorView) (by intro x; rfl) _ _
  · rfl

theorem canClash_errorView (c : Chip) (n : Nat) (buffer : Option Nat) (clash : Bool) : ((c.canClash n buffer clash).canCh n).errorView = (c.canCh n).errorView := by
  have told : ∀ (d : Chip) (hit : Bool), (((if hit then (d.canCount n Machine.canClash).canRaise n 69 else d)).canCh n).errorView = (d.canCh n).errorView := by
    intro d hit
    split
    · rw [Chip.canRaise_canCh, canCount_errorView]
    · rfl
  cases buffer <;> exact (told _ _).trans (onCan_reading (g := CanChan.errorView) (by intro x; rfl) _ _)

theorem setCan_of_ne {c : Chip} {n : Nat} {s : CanSt} (h : (c.canCh n).state ≠ s) : c.setCan n s = (c.onCan n fun x => { x with state := s }).raisePort 64 (36 + n) :=
  if_neg h

/-- Neither an error frame nor an own frame is in progress, and nothing waits for either to end: the bus is free for the channel. -/
theorem canIdle_of_free {c : Chip} {n : Nat} (he : (c.canCh n).errFrame = none) (hs : (c.canCh n).stopping = false) (hi : (c.canCh n).ignoring = false) :
    c.canIdle n = c := by
  simp [Chip.canIdle, Chip.canErrorEnd, Chip.canLeave, he, hs, hi]

theorem onCan_errorView_state {c d : Chip} {n : Nat} (h : (d.canCh n).errorView = (c.canCh n).errorView) :
    (d.canCh n).state = (c.canCh n).state ∧ (d.canCh n).tec = (c.canCh n).tec ∧ (d.canCh n).errFrame = (c.canCh n).errFrame ∧
      (d.canCh n).sending = (c.canCh n).sending := by
  simpa [CanChan.errorView] using h

/-- The kind of error that the selector of a receive or transmit error names, without a delay compensation's result (R228). -/
theorem errorKind_none {x : CanChan} {k : CanErr} (h : k = .bit ∨ k = .stuff ∨ k = .form ∨ k = .crc) : x.errorKind k none = k := by
  rcases h with rfl | rfl | rfl | rfl <;> simp [CanChan.errorKind]

theorem onBus_length {c : Chip} {n : Nat} (h : (c.canCh n).onBus = true) : n < c.can.length := by
  refine Decidable.byContradiction fun hn => ?_
  rw [Chip.canCh, getD_of_length_le (by simpa using hn)] at h
  exact absurd h (by decide)

/-- The channel once an error has been counted and a waiting check has ended. -/
def Chip.afterError (c : Chip) (n i : Nat) : Chip := (c.canCount n i).canCheckDone n

theorem afterError_view (c : Chip) (n i : Nat) : ((c.afterError n i).canCh n).errorView = (c.canCh n).errorView :=
  (canCheckDone_errorView _ _).trans (canCount_errorView _ _ _)

/-- The errors of a frame that R228 counts under their own counter. -/
def frameErrors : List (CanErr × Nat) := [(.bit, canBitErrors), (.stuff, canStuffErrors), (.form, canFormErrors), (.crc, canCrcErrors)]

theorem frameErrors_cases {e : CanErr × Nat} (h : e ∈ frameErrors) :
    (e.1 = .bit ∨ e.1 = .stuff ∨ e.1 = .form ∨ e.1 = .crc) ∧ ∀ (c : Chip) (n : Nat), c.canErrorCount n e.1 = c.canCount n e.2 := by
  simp only [frameErrors, List.mem_cons, List.not_mem_nil, or_false] at h
  rcases h with rfl | rfl | rfl | rfl
  · exact ⟨.inl rfl, by intro c n; rfl⟩
  · exact ⟨.inr (.inl rfl), by intro c n; rfl⟩
  · exact ⟨.inr (.inr (.inl rfl)), by intro c n; rfl⟩
  · exact ⟨.inr (.inr (.inr rfl)), by intro c n; rfl⟩

/-- An error in a frame that the channel receives, outside its own error flag (R228). -/
theorem canError_receiving {n kind : Nat} {clash exempt : Bool} {x : CanExtra} {c : Chip} {e : CanErr × Nat} (he : e ∈ frameErrors) (hx : x.tdc = none)
    (hflag : x.inFlag ≠ some true) (hbus : (c.canCh n).onBus = true) (hs : (c.canCh n).sending = none) (hk : CanErr.parse kind = some e.1)
    (hown : (c.canCh n).errFrame ≠ some true) :
    canError n kind clash exempt x c = (c.afterError n e.2).onCan n fun y =>
      { y with rxErrs := sat 16 (y.rxErrs + (if x.inFlag = some false then 8 else 1) + 8 * x.steps), errFrame := some (y.errFrame.getD false) } := by
  obtain ⟨hkind, hcount⟩ := frameErrors_cases he
  obtain ⟨-, -, -, hs'⟩ := onCan_errorView_state (canCount_errorView c n e.2)
  obtain ⟨-, -, hf', -⟩ := onCan_errorView_state (afterError_view c n e.2)
  have hend : e.1 ≠ .frameEnd ∧ e.1 ≠ .exception ∧ e.1 ≠ .arbitration ∧ e.1 ≠ .ack := by rcases hkind with h | h | h | h <;> simp [h]
  obtain ⟨h1, h2, h3, h4⟩ := hend
  have hflag' : ¬(((c.canCount n e.2).canCheckDone n).canCh n).errFrame = some true := by
    rw [show ((c.canCount n e.2).canCheckDone n).canCh n = (c.afterError n e.2).canCh n from rfl, hf']
    exact hown
  simp only [canError, hbus, hk, if_neg h1, hx, errorKind_none hkind, Chip.canLoopDelay, hcount, hs', hs, if_neg h2, h3, h4, or_self, if_false, hflag', hflag]
  rfl

/-- An error inside the error flag that the channel itself sends (R228). -/
theorem canError_flagging {n : Nat} {clash exempt : Bool} {x : CanExtra} {c : Chip} (hx : x.tdc = none)
    (hbus : (c.canCh n).onBus = true) (hs : (c.canCh n).sending = none) (hown : (c.canCh n).errFrame = some true) (htec : (c.canCh n).tec + 8 + 8 * x.steps ≤ 255) :
    canError n 0 clash exempt x c = (c.afterError n canBitErrors).onCan n fun y => { y with tec := y.tec + (8 + 8 * x.steps), errFrame := some true } := by
  obtain ⟨-, -, -, hs'⟩ := onCan_errorView_state (canCount_errorView c n canBitErrors)
  obtain ⟨-, ht', hf', -⟩ := onCan_errorView_state (afterError_view c n canBitErrors)
  have hparse : CanErr.parse 0 = some .bit := rfl
  have hcount : c.canErrorCount n .bit = c.canCount n canBitErrors := rfl
  have hcheck : (c.canCount n canBitErrors).canCheckDone n = c.afterError n canBitErrors := rfl
  simp only [canError, hbus, hparse, hx, errorKind_none (.inl rfl), Chip.canLoopDelay, hcount, hs', hs, hcheck, hf', hown, true_or, if_true, reduceCtorEq, if_false, or_self]
  have hup : ((c.afterError n canBitErrors).onCan n fun y => { y with tec := y.tec + (8 + 8 * x.steps), errFrame := some (y.errFrame.getD false) }) =
      (c.afterError n canBitErrors).onCan n fun y => { y with tec := y.tec + (8 + 8 * x.steps), errFrame := some true } := by
    refine onCan_congr ?_
    simp [hf', hown]
  have hlow : (((c.afterError n canBitErrors).onCan n fun y => { y with tec := y.tec + (8 + 8 * x.steps), errFrame := some true }).canCh n).tec ≤ 255 := by
    refine onCan_holds (P := fun y => y.tec ≤ 255) (by decide) ?_
    dsimp only
    omega
  rw [Chip.canFlagError]
  simp only [hup, if_neg (Nat.not_lt.mpr hlow)]

/-- An error in a frame that the channel sends from its FIFO or a buffer, outside a cell (R228). -/
theorem canError_sending {n kind : Nat} {clash : Bool} {x : CanExtra} {c : Chip} {e : CanErr × Nat} {s : CanTx} (he : e ∈ frameErrors) (hx : x.tdc = none)
    (hbus : (c.canCh n).onBus = true) (hs : (c.canCh n).sending = some s) (hcell : s.cell = false) (hk : CanErr.parse kind = some e.1)
    (htec : (c.canCh n).tec + 8 + 8 * x.steps ≤ 255) :
    canError n kind clash false x c = (((c.afterError n e.2).onCan n fun y => { y with tec := y.tec + 8 + 8 * x.steps }).canClash n s.buffer (clash && e.1 == .bit)).onCan n
      fun y => { y with sending := none, errFrame := some true } := by
  obtain ⟨hkind, hcount⟩ := frameErrors_cases he
  obtain ⟨-, -, -, hs'⟩ := onCan_errorView_state (canCount_errorView c n e.2)
  obtain ⟨-, ht', -, -⟩ := onCan_errorView_state (afterError_view c n e.2)
  have hend : e.1 ≠ .frameEnd ∧ e.1 ≠ .exception ∧ e.1 ≠ .arbitration ∧ e.1 ≠ .ack ∧ (e.1 == .tdc) = false := by rcases hkind with h | h | h | h <;> simp [h]
  obtain ⟨h1, h2, h3, h4, h5⟩ := hend
  have hcheck : (c.canCount n e.2).canCheckDone n = c.afterError n e.2 := rfl
  have hlow : (((((c.afterError n e.2).onCan n fun y => { y with tec := y.tec + 8 + 8 * x.steps }).canClash n s.buffer (clash && e.1 == .bit)).onCan n fun y =>
      { y with sending := none, errFrame := some true }).canCh n).tec ≤ 255 := by
    rw [onCan_reading (g := CanChan.tec) (by intro y; rfl), (onCan_errorView_state (canClash_errorView _ n _ _)).2.1]
    refine onCan_holds (P := fun y => y.tec ≤ 255) (by decide) ?_
    dsimp only
    omega
  simp only [canError, hbus, hk, if_neg h1, hx, errorKind_none hkind, Chip.canLoopDelay, hcount, hs', hs, if_neg h2]
  simp only [Chip.canTxError, hcell, Bool.false_eq_true, Bool.false_and, if_false, if_neg h3, if_neg h4, h5, Bool.or_false, hcheck]
  exact if_neg (Nat.not_lt.mpr hlow)

end Sys2Proof.Machine

namespace Sys2Proof
open Machine

/-- Settles O31. -/
theorem canBusEvents : Obligations.CanBusEvents := by
  unfold Obligations.CanBusEvents
  refine ⟨fun n => ?_, fun n => ?_, fun n sof raw => ?_, fun n sof raw => ?_, fun n sof raw => ?_, fun n sof raw => ?_, fun n src f ecc => ?_, fun n ecc => ?_,
    fun n i at0 ecc => ?_, fun n i at0 ecc => ?_, fun n x => ?_, fun n x i => ?_, fun e he n kind clash exempt steps => ?_, fun n clash exempt steps => ?_,
    fun n clash exempt steps => ?_, fun e he n kind clash steps x => ?_, fun n kind clash exempt extra => ?_, fun n kind clash exempt extra => ?_, fun n => ?_, fun n => ?_,
    fun n => ?_, fun n => ?_⟩
  · refine acts_of (canIntegrated n) (fun _ _ => rfl) fun c _ ⟨hn, hst⟩ => ?_
    simp only [canIntegrated, if_pos hst]
    refine setCan_of_ne ?_
    rw [hst]
    split <;> exact CanSt.noConfusion
  · refine acts_of (canIntegrated n) (fun _ _ => rfl) fun c _ hst => ?_
    simp only [canIntegrated, if_neg hst, id]
  · refine acts_of (canFrameRx n sof raw) (fun _ _ => rfl) fun c _ ⟨⟨hn, hst⟩, hf⟩ => ?_
    have hfd : ¬((CanFrame.ofBytes raw).fd && u8 (c.canCh n).config 1 == 0) = true := by
      rcases hf with h | h <;> simp [h]
    rcases hst with hst | hst <;> simp only [canFrameRx, if_neg (Nat.not_le.mpr hn), hst, Chip.canHear, if_neg hfd]
  · refine acts_of (canFrameRx n sof raw) (fun _ _ => rfl) fun c _ ⟨⟨hn, hst⟩, hfd, hc1, hc2, hs⟩ => ?_
    have hheard : c.canHear n sof (CanFrame.ofBytes raw) = canError n 5 false false {} c := by simp [Chip.canHear, hfd, hc1]
    have hbus : (c.canCh n).onBus = true := by rcases hst with h | h <;> simp [CanChan.onBus, h]
    have hparse : CanErr.parse 5 = some .exception := rfl
    have hcount : c.canErrorCount n .exception = c.canCount n canExceptions := rfl
    obtain ⟨-, -, -, hs'⟩ := onCan_errorView_state (canCount_errorView c n canExceptions)
    have hleft : canError n 5 false false {} c = ((c.canCount n canExceptions).canCheckDone n).canLeave n := by
      simp only [canError, hbus, hparse, reduceCtorEq, if_false, CanChan.errorKind, if_neg hc2, Chip.canLoopDelay, hcount, hs', hs, if_true]
    rcases hst with hst | hst <;> simp only [canFrameRx, if_neg (Nat.not_le.mpr hn), hst, hheard, hleft]
  · refine acts_of (canFrameRx n sof raw) (fun _ _ => rfl) fun c _ ⟨hn, hst, hf⟩ => ?_
    have hfd : ¬((CanFrame.ofBytes raw).fd && u8 (c.canCh n).config 1 == 0) = true := by
      rcases hf with h | h <;> simp [h]
    simp only [canFrameRx, if_neg (Nat.not_le.mpr hn), hst, if_neg hfd]
  · refine acts_of (canFrameRx n sof raw) (fun _ _ => rfl) fun c _ hst => ?_
    rcases hst with h | h | h | h <;> simp [canFrameRx, h]
  · refine acts_of (canTxStart n ecc) (fun _ _ => rfl) fun c _ ⟨⟨hmay, hs, hstop, hign, herr⟩, hwait, halone, hbest, hfifo, hfits⟩ => ?_
    have hsend : (c.canHeadRead n ecc).canSendEvent n = (c.canHeadRead n ecc).canBegin n src false f := by
      unfold Chip.canSendEvent
      cases src with
      | none => simp [hbest, hfifo, hfits]
      | some i => simp [hbest, hfits]
    simp only [canTxStart, canIdle_of_free herr hstop hign, hmay, hs, hwait, halone, hsend, Option.isSome_none, Bool.not_true, Bool.false_eq_true, or_self, if_false]
  · refine acts_of (canTxStart n ecc) (fun _ _ => rfl) fun c _ ⟨⟨hmay, hs, hstop, hign, herr⟩, hwait, halone⟩ => ?_
    simp only [canTxStart, canIdle_of_free herr hstop hign, hmay, hs, hwait, halone, Option.isSome_none, Bool.not_true, Bool.false_eq_true, or_self, if_false]
  · refine acts_of (canTxStart n ecc) (fun _ _ => rfl) fun c _ ⟨⟨hmay, hs, hstop, hign, herr⟩, hwait, hfits⟩ => ?_
    simp only [canTxStart, canIdle_of_free herr hstop hign, hmay, hs, hwait, if_pos hfits, Option.isSome_none, Bool.not_true, Bool.false_eq_true, or_self, if_false]
  · refine acts_of (canTxStart n ecc) (fun _ _ => rfl) fun c _ ⟨⟨hmay, hs, hstop, hign, herr⟩, hwait, hlate⟩ => ?_
    simp only [canTxStart, canIdle_of_free herr hstop hign, hmay, hs, hwait, if_neg (Nat.not_le.mpr hlate), Option.isSome_none, Bool.not_true, Bool.false_eq_true, or_self, if_false]
  · refine acts_of (canTxComplete n none) (fun _ _ => rfl) fun c _ ⟨hn, hs, hb⟩ => ?_
    simp [canTxComplete, hs, hb, Chip.canLoopDelay]
  · refine acts_of (canTxComplete n none) (fun _ _ => rfl) fun c _ ⟨hn, hs, hb⟩ => ?_
    simp [canTxComplete, hs, hb, Chip.canLoopDelay]
  · exact acts_of (canError n kind clash exempt _) (fun _ _ => rfl) fun c _ ⟨hbus, hs, hk, hown⟩ => canError_receiving he rfl nofun hbus hs hk hown
  · exact acts_of (canError n 0 clash exempt _) (fun _ _ => rfl) fun c _ ⟨hbus, hs, hown⟩ =>
      canError_receiving (e := (.bit, canBitErrors)) (List.mem_cons_self ..) rfl nofun hbus hs rfl hown
  · exact acts_of (canError n 0 clash exempt _) (fun _ _ => rfl) fun c _ ⟨hbus, hs, hown, htec⟩ => canError_flagging rfl hbus hs hown htec
  · exact acts_of (canError n kind clash false _) (fun _ _ => rfl) fun c _ ⟨hbus, hs, hcell, hk, htec⟩ => canError_sending he rfl hbus hs hcell hk htec
  · refine acts_of (canError n kind clash exempt extra) (fun _ _ => rfl) fun c _ ⟨hbus, hk, hown⟩ => ?_
    simp only [canError, hbus, hk, if_true, Chip.canErrorEnd, hown]
  · refine acts_of (canError n kind clash exempt extra) (fun _ _ => rfl) fun c _ hbus => ?_
    simp only [canError, hbus, id]
  · refine acts_of (canRecoveryComplete n) (fun _ _ => rfl) fun c _ ⟨hn, hst, hwarn⟩ => ?_
    have hnot : ((c.onCan n fun x => { x with tec := 0, rxErrs := 0, warning := false }).canCh n).state ≠ .errorActive := by
      rw [onCan_reading (g := CanChan.state) (by intro y; rfl), hst]
      exact CanSt.noConfusion
    simp only [canRecoveryComplete, if_pos hst, hwarn, setCan_of_ne hnot, Bool.false_eq_true, if_false]
    rfl
  · refine acts_of (canRecoveryComplete n) (fun _ _ => rfl) fun c _ hst => ?_
    simp only [canRecoveryComplete, if_neg hst, id]
  · refine acts_of (canAloneRetry n) (fun _ _ => rfl) fun c _ ⟨⟨hmay, hs, hstop, hign, herr⟩, halone, hdue⟩ => ?_
    simp [canAloneRetry, hmay, hs, hstop, hign, herr, halone, Nat.not_lt.mpr hdue]
  · refine acts_of (canAloneRetry n) (fun _ _ => rfl) fun c _ h => ?_
    rcases h with h | h <;> simp [canAloneRetry, h]

end Sys2Proof
end

section
/-! Matrix cells and router lookups (R237 to R242, R254 to R257, R271). -/
namespace Sys2Proof.Machine

theorem canCh_onCan {c : Chip} {n : Nat} (f : CanChan → CanChan) (h : n < c.can.length) : (c.onCan n f).canCh n = f (c.canCh n) := by
  rw [Chip.canCh, Chip.onCan_can, getD_updAt_self f {} c.can n h]
  rfl

theorem onCan_onCan (c : Chip) (n : Nat) (f g : CanChan → CanChan) : (c.onCan n f).onCan n g = c.onCan n fun x => g (f x) := by
  have : updAt (updAt c.can n f) n g = updAt c.can n fun x => g (f x) := by
    refine List.ext_getElem? fun k => ?_
    simp only [getElem?_updAt]
    split
    · cases c.can[k]? <;> rfl
    · rfl
  simp only [Chip.onCan, this]

/-- A channel with a matrix image is one of the chip's channels. -/
theorem length_of_image {c : Chip} {n : Nat} {img : Bytes} (h : (c.canCh n).image.cur = some img) : n < c.can.length := by
  refine Decidable.byContradiction fun hn => ?_
  rw [Chip.canCh, getD_of_length_le (by simpa using hn)] at h
  exact nomatch h

/-- The channel's place in the matrix, as its clock gives it (R239). -/
theorem canAt_canCh {c : Chip} {n : Nat} {img : Bytes} (p : Nat × Nat × Nat × Nat) (h : (c.canCh n).image.cur = some img) :
    (c.canAt n p).canCh n = { c.canCh n with basicIndex := p.1, matrixCycle := p.2.1, column := p.2.2.1, basicStart := p.2.2.2, columnStart := c.clk.now } :=
  canCh_onCan _ (length_of_image h)

theorem canBoundary_of_not_due {c : Chip} {n : Nat} {img : Bytes} (h : (c.canCh n).image.cur = some img)
    (hdue : (c.canCh n).image.due ((c.canCh n).cycleIndex + 1) = false) : c.canBoundary n = c.onCan n fun x => { x with cycleIndex := x.cycleIndex + 1 } := by
  simp [Chip.canBoundary, canCh_onCan _ (length_of_image h), hdue]

/-- A matrix that does not run leaves its place when its image is in force again (R242). -/
theorem canReplace_of_waiting {c : Chip} {n : Nat} (h : (c.canCh n).matrix ≠ 1) : c.canReplace n = c := by
  unfold Chip.canReplace
  split
  · rfl
  · exact if_pos h

end Sys2Proof.Machine

namespace Sys2Proof
open Machine

/-- Settles O32. -/
theorem matrixRouterEvents : Obligations.MatrixRouterEvents := by
  unfold Obligations.MatrixRouterEvents
  refine ⟨fun n img b cyc col start => ?_, fun n img b cyc col start => ?_, fun n idle img => ?_, fun n idle img => ?_, fun e cell => ?_, fun e cell => ?_, fun n img => ?_, ?_,
    fun f rest => ?_, fun f rest i img => ?_, fun i img => ?_⟩
  · refine acts_of (canCellStart n false) (fun _ _ => rfl) fun c _ ⟨hn, himg, hst, hmat, hres, hwait, hplace, hcyc, hcode⟩ => ?_
    simp only [canCellStart, Bool.false_eq_true, if_false, himg, hst, hmat, hres, or_self, hwait, Option.isSome_none, hplace, hcyc, ne_eq, not_true_eq_false, canAt_canCh _ himg,
      hcode, not_false_eq_true, if_true]
    rfl
  · refine acts_of (canCellStart n false) (fun _ _ => rfl) fun c _ ⟨hn, himg, hst, hmat, hres, hwait, hplace, hcyc, hdue, hcode⟩ => ?_
    have hat := canAt_canCh (b, cyc, col, start) himg
    have himg' : ((c.canAt n (b, cyc, col, start)).canCh n).image.cur = some img := by rw [hat]; exact himg
    have hbound := canBoundary_of_not_due himg' (by rw [hat]; exact hdue)
    have hreplace : ((c.canAt n (b, cyc, col, start)).canBoundary n).canReplace n =
        (c.canAt n (b, cyc, col, start)).onCan n fun x => { x with cycleIndex := x.cycleIndex + 1 } := by
      rw [hbound]
      refine canReplace_of_waiting ?_
      rw [canCh_onCan _ (length_of_image himg'), hat]
      simp [hmat]
    have hmat0 : (c.canCh n).matrix ≠ 0 := by simp [hmat]
    simp only [canCellStart, Bool.false_eq_true, if_false, himg, hst, hmat0, hres, or_self, hwait, Option.isSome_none, hplace, ne_eq, hcyc, not_false_eq_true, if_true, hreplace,
      canCh_onCan _ (length_of_image himg'), hat, hcode]
    rw [Chip.canAt, onCan_onCan]
  · refine acts_of (canCellStart n idle) (fun _ _ => rfl) fun c _ ⟨himg, herr, hstop, hign, hmat⟩ => ?_
    simp only [canCellStart, canIdle_of_free herr hstop hign, ite_self, himg, hmat, true_or, or_true, if_true, id]
  · refine acts_of (canCellStart n idle) (fun _ _ => rfl) fun c _ ⟨hn, himg, herr, hstop, hign, hst, hmat, hres, hwait, hplace⟩ => ?_
    simp only [canCellStart, canIdle_of_free herr hstop hign, ite_self, himg, hst, hmat, hres, Bool.false_eq_true, or_self, if_false, hwait, Option.isSome_none, hplace]
  · refine acts_of (canCheckCellEnd e) (fun _ _ => rfl) fun c _ ⟨hcell, hkind, hst, hends⟩ => ?_
    have hjudge : (e.running && !(c.canCh e.channel).tookIn (cell % 64) (c.canCh e.channel).columnStart (c.canCh e.channel).columnEnd) = false := by
      rcases hends with h | h <;> simp [h]
    simp only [canCheckCellEnd, hcell, hkind, ne_eq, not_true_eq_false, hst, or_self, if_false, hjudge, Bool.false_eq_true]
  · refine acts_of (canCheckCellEnd e) (fun _ _ => rfl) fun c _ ⟨hcell, hkind, hst, hrun, htook⟩ => ?_
    simp only [canCheckCellEnd, hcell, hkind, ne_eq, not_true_eq_false, hst, or_self, if_false, hrun, htook, Bool.not_false, Bool.and_self, if_true]
  · refine acts_of (canMatrixResume n) (fun _ _ => rfl) fun c _ ⟨himg, hst, hmat, htime, hagain, hin, hk⟩ => ?_
    have hgo : ¬((c.canCh n).state = .stopped ∨ (c.canCh n).matrix ≠ 2 ∨ (!c.timeValid) = true ∨
        (!(c.canCh n).resuming) = true ∧ c.clk.now < (c.canCh n).basicStart + basicNs img) := by
      simp only [hst, hmat, htime, ne_eq, not_true_eq_false, Bool.not_true, Bool.false_eq_true, false_or, Bool.not_eq_true', not_and, Nat.not_lt]
      intro h
      exact hagain.resolve_left (by simp [h])
    have hsame : ¬(64 ≤ (c.canCh n).basicIndex + (c.clk.now - (c.canCh n).basicStart) / basicNs img ∨ (c.trainTime + basicNs img / 2) / basicNs img % 64 = 0) := by
      omega
    simp only [canMatrixResume, himg, if_neg hgo, if_neg hsame]
  · refine acts_of routerLookup (fun _ _ => rfl) fun c _ h => ?_
    rcases h with h | h
    · simp [routerLookup, h]
    · simp only [routerLookup, Chip.lookupOne, h, ite_self, id]
  · refine acts_of routerLookup (fun _ _ => rfl) fun c _ ⟨hrun, hwait, hkind, hno⟩ => ?_
    simp only [routerLookup, hrun, if_true, Chip.lookupOne, hwait, hno, if_neg hkind]
  · refine acts_of routerLookup (fun _ _ => rfl) fun c _ ⟨hrun, hwait, hkind, himg, hver, hhit⟩ => ?_
    simp only [routerLookup, hrun, if_true, Chip.lookupOne, hwait, hhit, himg, if_neg hkind, hver, Bool.not_false]
  · refine acts_of (guardTimeout i) (fun _ _ => rfl) fun c _ ⟨himg, hrun, hi, hen, hver, hunit, htile⟩ => ?_
    simp [guardTimeout, himg, hrun, Nat.not_le.mpr hi, hen, hver, hunit, htile]

end Sys2Proof
end

section
/-! Requests from far bridges (R282, R284, R300, R303). -/
namespace Sys2Proof
open Machine

/-- Settles O33. -/
theorem farRequestEvents : Obligations.FarRequestEvents := by
  unfold Obligations.FarRequestEvents
  intro row hrow p f
  have he : ∀ t s, Machine.exec (row.1 t p f) s = actMain t s (requestRx row.2 p f) := by
    simp only [List.mem_cons, List.not_mem_nil, or_false] at hrow
    rcases hrow with rfl | rfl | rfl | rfl | rfl <;> exact fun _ _ => rfl
  refine ⟨?_, fun d => ?_, fun m d => ?_⟩
  · exact acts_of (requestRx row.2 p f) he fun c _ hp => if_pos hp
  · refine acts_of (requestRx row.2 p f) he fun c _ ⟨hp, htake⟩ => ?_
    simp only [requestRx, if_neg hp, htake]
  · refine acts_of (requestRx row.2 p f) he fun c _ ⟨hp, htake⟩ => ?_
    dsimp only
    split
    next hfind => simp only [requestRx, if_neg hp, htake, hfind]
    next hfind => simp only [requestRx, if_neg hp, htake, hfind]
end Sys2Proof
end

section
/-! Accesses at the exporting node, and the acknowledgements it owes (R282, R284). -/
namespace Sys2Proof
open Machine

theorem endAccess_of_none {source : Nat} {f : Chip → BrMsg → Chip} {c : Chip} (h : (c.br.streams.find? fun x => x.source == source && x.active) = none) :
    c.endAccess source f = c := by
  simp only [Chip.endAccess, h]

/-- The end of an access of a stream answers its request, and the stream's next request runs. -/
theorem endAccess_of_access {source : Nat} {f : Chip → BrMsg → Chip} {x : BrStream} {m : BrMsg} {ms : List BrMsg} {c : Chip} (h : Ready.access source x m ms c) :
    c.endAccess source f = (f c m).runStream { x with queue := ms, active := false } := by
  obtain ⟨hfind, hq⟩ := h
  simp only [Chip.endAccess, hfind, hq]

/-- Settles O34. -/
theorem exportEvents : Obligations.ExportEvents := by
  unfold Obligations.ExportEvents
  refine ⟨fun source data x m ms => ?_, fun source data x m ms => ?_, fun source data x m ms => ?_, fun source n data x m ms => ?_, fun source ends data => ?_,
    fun source x m ms => ?_, fun source => ?_⟩
  · refine acts_of (exportAccessComplete source .done data) (fun _ _ => rfl) fun c _ h => ?_
    rw [exportAccessComplete, endAccess_of_access h]
  · refine acts_of (exportAccessComplete source .failed data) (fun _ _ => rfl) fun c _ ⟨h, hmem⟩ => ?_
    rw [exportAccessComplete, endAccess_of_access h]
    simp only [if_neg hmem]
  · refine acts_of (exportAccessComplete source .failed data) (fun _ _ => rfl) fun c _ ⟨h, hmem⟩ => ?_
    rw [exportAccessComplete, endAccess_of_access h]
    simp only [if_pos hmem]
  · refine acts_of (exportAccessComplete source (.corrected n) data) (fun _ _ => rfl) fun c _ h => ?_
    rw [exportAccessComplete, endAccess_of_access h]
  · refine acts_of (exportAccessComplete source ends data) (fun _ _ => rfl) fun c _ h => ?_
    rw [exportAccessComplete, endAccess_of_none h, id]
  · refine acts_of (exportTargetTimeout source) (fun _ _ => rfl) fun c _ h => ?_
    rw [exportTargetTimeout, endAccess_of_access h]
  · exact acts_of (writeAckTimer source) (fun _ _ => rfl) fun c _ _ => rfl

end Sys2Proof
end

section
/-! Replies to bridge requests (R290, R297, R301). -/
namespace Sys2Proof
open Machine

/-- Settles O35. -/
theorem replyEvents : Obligations.ReplyEvents := by
  unfold Obligations.ReplyEvents
  refine ⟨fun p f m d q => ?_, fun p f m d q => ?_, fun p f m d q => ?_, fun p f m d q => ?_, fun p f m d q => ?_, fun p f m d => ?_, fun p f m d q => ?_,
    fun p f m d n => ?_, fun p f m d n => ?_⟩
  · refine acts_of (readReplyRx p f) (fun _ _ => rfl) fun c _ ⟨htake, hst, hfind, hlate, hline⟩ => ?_
    simp only [readReplyRx, htake, hfind, hlate, hline, hst, Bool.false_eq_true, if_false, if_true]
  · refine acts_of (readReplyRx p f) (fun _ _ => rfl) fun c _ ⟨htake, hst, hfind, hlate, hline⟩ => ?_
    simp only [readReplyRx, htake, hfind, hlate, hline, if_neg hst, Bool.false_eq_true, if_false]
  · refine acts_of (readReplyRx p f) (fun _ _ => rfl) fun c _ ⟨htake, hst, hfind, hlate, hline⟩ => ?_
    simp only [readReplyRx, htake, hfind, hlate, hline, hst, Bool.false_and, Bool.false_eq_true, false_and, if_false, if_true]
  · refine acts_of (readReplyRx p f) (fun _ _ => rfl) fun c _ ⟨htake, hst, hfind, hlate, hline, hstrand⟩ => ?_
    have hstrand' : q.isAsync = true ∨ (!(m.flags.testBit 1 && m.flags.testBit 2)) = true := by
      rcases hstrand with h | h | h <;> simp [h]
    simp only [readReplyRx, htake, hfind, hlate, hline, hst, Bool.false_and, Bool.false_eq_true, true_and, if_false, if_true, if_pos hstrand']
  · refine acts_of (readReplyRx p f) (fun _ _ => rfl) fun c _ ⟨htake, hfind, hlate, hline⟩ => ?_
    simp only [readReplyRx, htake, hfind, hlate, hline, Bool.false_eq_true, if_false, if_true]
  · refine acts_of (writeAckRx p f) (fun _ _ => rfl) fun c _ htake => ?_
    simp only [writeAckRx, htake] <;> rfl
  · refine acts_of (writeFaultRx p f) (fun _ _ => rfl) fun c _ ⟨htake, hfind⟩ => ?_
    simp only [writeFaultRx, htake, hfind]
  · refine acts_of (semReplyRx p f) (fun _ _ => rfl) fun c _ ⟨htake, hst, hfind⟩ => ?_
    simp only [semReplyRx, htake, hfind, hst, if_true]
  · refine acts_of (semReplyRx p f) (fun _ _ => rfl) fun c _ ⟨htake, hst, hfind⟩ => ?_
    simp only [semReplyRx, htake, hfind, hst, (by decide : ¬7 = 0), if_false, if_true]

end Sys2Proof
end

section
/-! Timeouts of the bridge (R280, R290 to R301). -/
namespace Sys2Proof
open Machine

/-- Settles O36. -/
theorem bridgeTimeouts : Obligations.BridgeTimeouts := by
  unfold Obligations.BridgeTimeouts
  refine ⟨fun tag h => ?_, fun tag => ?_, fun tag f => ?_, fun tag => ?_, fun tag => ?_, fun tag => ?_, fun n => ?_, fun n => ?_, fun tag a => ?_, fun tag => ?_,
    fun tag q => ?_, fun tag => ?_, fun n k => ?_, fun n => ?_, fun n => ?_, fun n => ?_⟩
  · refine acts_of (heldReadTimeout tag) (fun _ _ => rfl) fun c _ hfind => ?_
    simp only [heldReadTimeout, hfind]
  · refine acts_of (heldReadTimeout tag) (fun _ _ => rfl) fun c _ hfind => ?_
    simp only [heldReadTimeout, hfind, id]
  · refine acts_of (fenceTimeout tag) (fun _ _ => rfl) fun c _ hfind => ?_
    simp only [fenceTimeout, hfind]
    rfl
  · refine acts_of (fenceTimeout tag) (fun _ _ => rfl) fun c _ hfind => ?_
    simp only [fenceTimeout, hfind, id]
  · exact acts_of (semReadTimeout tag) (fun _ _ => rfl) fun c _ hany => if_pos hany
  · exact acts_of (semReadTimeout tag) (fun _ _ => rfl) fun c _ hany => if_neg (by simp [hany])
  · refine acts_of (semAttemptTimeout n) (fun _ _ => rfl) fun c _ ⟨hn, hst⟩ => ?_
    simp [semAttemptTimeout, hst, Nat.not_le.mpr hn]
  · refine acts_of (semAttemptTimeout n) (fun _ _ => rfl) fun c _ h => ?_
    rcases h with h | h <;> simp [semAttemptTimeout, h]
  · refine acts_of (asyncReadTimeout tag) (fun _ _ => rfl) fun c _ hfind => ?_
    simp only [asyncReadTimeout, hfind]
  · refine acts_of (asyncReadTimeout tag) (fun _ _ => rfl) fun c _ hfind => ?_
    simp only [asyncReadTimeout, hfind, id]
  · refine acts_of (writeAckTimeout tag) (fun _ _ => rfl) fun c _ hfind => ?_
    simp only [writeAckTimeout, hfind]
  · refine acts_of (writeAckTimeout tag) (fun _ _ => rfl) fun c _ hfind => ?_
    simp only [writeAckTimeout, hfind, id]
  · exact acts_of (prefetchLineExpiry n k) (fun _ _ => rfl) fun c _ _ => rfl
  · exact acts_of (windowDisableComplete n) (fun _ _ => rfl) fun c _ h => if_pos h
  · refine acts_of (windowDisableComplete n) (fun _ _ => rfl) fun c _ ⟨hn, hstop, hset⟩ => ?_
    simp only [windowDisableComplete, hn, false_and, if_false, hstop, hset, Bool.and_self, if_true]
  · refine acts_of (windowDisableComplete n) (fun _ _ => rfl) fun c _ ⟨hn, h⟩ => ?_
    rcases h with h | h <;> simp [windowDisableComplete, hn, h]

end Sys2Proof
end

section
/-! The host's accesses to the bridge (R277 to R303). -/
namespace Sys2Proof.Machine

/-- With a held place free and none waiting, a non-posted request starts. -/
theorem nonPosted_of_room {c : Chip} (w : BrWaiting) (hroom : c.br.heldNow < 8) (hnone : c.br.waiting = []) : c.nonPosted w = c.startNonPosted w := by
  simp [Chip.nonPosted, Nat.not_le.mpr hroom, hnone]

theorem nonPosted_of_full {c : Chip} (w : BrWaiting) (h : ¬(c.br.heldNow < 8 ∧ c.br.waiting = [])) :
    c.nonPosted w = c.onBr fun b => { b with waiting := b.waiting ++ [w] } := by
  refine if_pos ?_
  by_cases hroom : c.br.heldNow < 8
  · exact .inr fun hnone => h ⟨hroom, hnone⟩
  · exact .inl (Nat.not_lt.mp hroom)

theorem bytes_sum (x : Nat) (h : x < 4294967296) : 0 + x / 1 % 256 * 1 + x / 256 % 256 * 256 + x / 65536 % 256 * 65536 + x / 16777216 % 256 * 16777216 = x := by omega

theorem lanes_sum (g : Nat → Nat) (b : Nat → Bool) (h : ∀ i ∈ [0, 1, 2, 3], b i = true) :
    (List.range 4).foldl (fun acc i => if b i then acc + g i else acc) 0 = 0 + g 0 + g 1 + g 2 + g 3 := by
  rw [show List.range 4 = [0, 1, 2, 3] from rfl]
  simp only [List.foldl_cons, List.foldl_nil, h 0 (by decide), h 1 (by decide), h 2 (by decide), h 3 (by decide), if_true]

/-- The bytes of a register write whose four lanes are enabled are its value. -/
theorem lanes_all (v : BitVec 32) :
    (List.range 4).foldl (fun acc i => if (0xF#4).getLsbD i then acc + v.toNat / 256 ^ i % 256 * 256 ^ i else acc) 0 = v.toNat :=
  (lanes_sum (fun i => v.toNat / 256 ^ i % 256 * 256 ^ i) (0xF#4).getLsbD (by decide)).trans (bytes_sum v.toNat v.isLt)

end Sys2Proof.Machine

namespace Sys2Proof
open Machine

/-- Settles O37. -/
theorem windowAccesses : Obligations.WindowAccesses := by
  unfold Obligations.WindowAccesses
  refine ⟨fun tag off len => ?_, fun tag off len => ?_, fun off d => ?_, fun off d => ?_, fun tag n off len => ?_, fun tag n off len => ?_, fun tag n => ?_, fun n v => ?_,
    fun n v => ?_, fun n v => ?_, fun n v en => ?_, fun n v k d => ?_, fun n v d => ?_, fun w ws => ?_, ?_⟩
  · refine acts_of (windowRead tag off len) (fun _ _ => rfl) fun c _ ⟨hoff, hlen, hroom, hnone⟩ => ?_
    rw [windowRead, if_neg (by omega), nonPosted_of_room _ hroom hnone]
    rfl
  · refine acts_of (windowRead tag off len) (fun _ _ => rfl) fun c _ ⟨hoff, hlen, hfull⟩ => ?_
    rw [windowRead, if_neg (by omega), nonPosted_of_full _ hfull]
  · refine acts_of (windowWrite off d) (fun _ _ => rfl) fun c _ ⟨hoff, hd, hopen⟩ => ?_
    have hgo : ¬(64 ≤ off / 0x800000 ∨ d = []) := by simp only [hd, or_false]; omega
    simp only [windowWrite, if_neg hgo, hopen, Bool.not_false, if_true]
  · refine acts_of (windowWrite off d) (fun _ _ => rfl) fun c _ ⟨hoff, hd, hlen, hopen⟩ => ?_
    have hgo : ¬(64 ≤ off / 0x800000 ∨ d = []) := by simp only [hd, or_false]; omega
    simp only [windowWrite, if_neg hgo, hopen, Bool.not_true, Bool.false_eq_true, if_false, if_pos hlen, List.foldl_cons, List.foldl_nil, Nat.sub_self]
  · refine acts_of (fenceRead tag n off len) (fun _ _ => rfl) fun c _ ⟨hn, hreg, hroom, hnone⟩ => ?_
    rw [fenceRead, if_neg (Nat.not_le.mpr hn), if_pos hreg, nonPosted_of_room _ hroom hnone]
    rfl
  · refine acts_of (fenceRead tag n off len) (fun _ _ => rfl) fun c _ ⟨hn, hreg⟩ => ?_
    rw [fenceRead, if_neg (Nat.not_le.mpr hn), if_neg hreg]
  · refine acts_of (semRead tag n) (fun _ _ => rfl) fun c _ ⟨hn, hroom, hnone⟩ => ?_
    rw [semRead, if_neg (Nat.not_le.mpr hn), nonPosted_of_room _ hroom hnone]
    rfl
  · refine acts_of (semReleaseWrite n v) (fun _ _ => rfl) fun c _ ⟨hn, hv, hst⟩ => ?_
    simp only [semReleaseWrite, Nat.not_le.mpr hn, hv, Bool.true_eq_false, or_self, if_false, ne_eq, hst, not_false_eq_true, if_true]
  · refine acts_of (semReleaseWrite n v) (fun _ _ => rfl) fun c _ ⟨hn, hv, hst⟩ => ?_
    simp only [semReleaseWrite, Nat.not_le.mpr hn, hv, Bool.true_eq_false, or_self, if_false, ne_eq, hst, not_true_eq_false]
  · refine acts_of (semReleaseWrite n v) (fun _ _ => rfl) fun c _ hv => ?_
    simp only [semReleaseWrite, hv, or_true, if_true, id]
  · refine acts_of (remoteIrqWrite n v en) (fun _ _ => rfl) fun c _ h => ?_
    rcases h with h | h | h
    · simp [remoteIrqWrite, h, Nat.not_lt.mpr h]
    · simp [remoteIrqWrite, h]
    · simp [remoteIrqWrite, h]
  · refine acts_of (remoteIrqWrite n v 0xF#4) (fun _ _ => rfl) fun c _ ⟨hn, hopen, hre, hreach⟩ => ?_
    have hen : ¬0xF#4 = 0 := by decide
    simp only [remoteIrqWrite, hn, hopen, hen, ne_eq, not_false_eq_true, and_self, if_true, hre, lanes_all, Nat.not_le.mpr hn, Bool.not_true, Bool.false_eq_true, or_self,
      if_false, hreach]
  · refine acts_of (remoteIrqWrite n v 0xF#4) (fun _ _ => rfl) fun c _ ⟨hn, hopen, hre, hreach⟩ => ?_
    have hen : ¬0xF#4 = 0 := by decide
    simp only [remoteIrqWrite, hn, hopen, hen, ne_eq, not_false_eq_true, and_self, if_true, hre, lanes_all, Nat.not_le.mpr hn, Bool.not_true, Bool.false_eq_true, or_self,
      if_false, hreach]
  · refine acts_of nonPostedAdmitted (fun _ _ => rfl) fun c _ ⟨hwait, hroom⟩ => ?_
    simp only [nonPostedAdmitted, hwait, if_neg (Nat.not_le.mpr hroom)]
  · refine acts_of nonPostedAdmitted (fun _ _ => rfl) fun c _ h => ?_
    rcases h with h | h
    · simp only [nonPostedAdmitted, h, id]
    · unfold nonPostedAdmitted
      split
      · rfl
      · exact if_pos h

end Sys2Proof
end

section
/-! The mailbox rules that hold for every opcode (R352, R353, R356, R370). -/
namespace Sys2Proof.Machine

/-- The request area of mailbox `n` begins at 0x8000 + 0x400 n: the mailbox's state decides what a write to it does (R352). -/
theorem areaPut_request (c : Chip) (n off : Nat) (d : Bytes) (hoff : off < 512) :
    c.areaPut (0x8000 + 0x400 * n + off) d =
      if (c.host.mb n).state = .busy then
        if (c.host.mb n).lockRaised then c.onHost fun h => { h with counters := bump h.counters cntProtocol }
        else ((c.onHost fun h => { h with counters := bump h.counters cntProtocol }).onMb n fun m => { m with lockRaised := true }).raiseD 125 6 n 0
      else c.onMb n fun m => { m with request := m.request.write off d } := by
  have hn : (0x8000 + 0x400 * n + off - 0x8000) / 0x400 = n := by omega
  have hk : (0x8000 + 0x400 * n + off) % 0x400 = off := by omega
  simp only [Chip.areaPut, hn, hk, Nat.not_le.mpr hoff, if_false]

theorem requestAreaWrite_eq (c : Chip) (n off : Nat) (d : Bytes) (hn : n < 8) (hend : off + d.length ≤ 512) (hd : d ≠ []) (hlen : d.length ≤ 256) :
    requestAreaWrite n off d c = c.areaPut (0x8000 + 0x400 * n + off) d :=
  if_neg (by simp only [hd, false_or]; omega)

end Sys2Proof.Machine

namespace Sys2Proof
open Machine

/-- A doorbell of an opcode without a meaning is answered 0x03, unless it is held or ignored (R370). -/
theorem doorbell_undefined {c : Chip} {d : Doorbell} {op : Nat} (hmain : c.mainDie = true) (hmb : d.mb < 8)
    (hst : (c.host.mb d.mb).state = .idle ∨ (c.host.mb d.mb).state = .done) (hheld : op / 256 = 0x0D ∨ c.host.heldBehind (op / 256) c.host.nextOrder = false) :
    c.doorbell d op none = (c.ring d op false).complete d.mb 0x03 0xFFFF [] := by
  have hgo : ¬(8 ≤ d.mb ∨ (!c.mainDie) = true) := by simp [hmain, hmb]
  have hnot : ¬(op / 256 ≠ 0x0D ∧ c.host.heldBehind (op / 256) c.host.nextOrder = true) := by
    rcases hheld with h | h <;> simp [h]
  rcases hst with hst | hst <;> simp only [Chip.doorbell, if_neg hgo, hst, hnot, decide_false, if_false]

/-- Settles O38. -/
theorem mailboxEvents : Obligations.MailboxEvents := by
  unfold Obligations.MailboxEvents
  refine ⟨fun d op hop hlt t s hm hmb hst hheld => ?_, fun d op => ?_, fun n k => ?_, fun n => ?_, fun n => ?_, fun n off d => ?_, fun n off d => ?_, fun n off d => ?_,
    fun n => ?_, fun n => ?_⟩
  · have hleft := leaves_of (i := .undefinedOpcode t d op) (anyDoorbell d op) rfl hm
    rw [anyDoorbell, Nat.mod_eq_of_lt hlt, hop, doorbell_undefined hm hmb hst hheld] at hleft
    exact hleft
  · refine acts_of (anyDoorbell d op) (fun _ _ => rfl) fun c hmain ⟨hmb, hst⟩ => ?_
    have hgo : ¬(8 ≤ d.mb ∨ (!c.mainDie) = true) := by simp [hmain, hmb]
    rcases hst with hst | hst <;> simp only [anyDoorbell, Chip.doorbell, if_neg hgo, hst, Chip.ignoreDoorbell]
  · refine acts_of (heldCommandStart n) (fun _ _ => rfl) fun c _ ⟨hfw, hst, hwait, hbehind, hop⟩ => ?_
    simp [heldCommandStart, hfw, hst, hwait, hbehind, hop]
    rfl
  · refine acts_of (heldCommandStart n) (fun _ _ => rfl) fun c _ ⟨hst, hwait, hbehind⟩ => ?_
    simp [heldCommandStart, hbehind]
  · refine acts_of (heldCommandStart n) (fun _ _ => rfl) fun c _ ⟨hfw, hst, hwait, hbehind, hop⟩ => ?_
    simp [heldCommandStart, hfw, hst, hwait, hbehind, hop]
  · refine acts_of (requestAreaWrite n off d) (fun _ _ => rfl) fun c _ ⟨hn, hoff, hend, hd, hlen, hst, hlock⟩ => ?_
    rw [requestAreaWrite_eq c n off d hn hend hd hlen, areaPut_request c n off d hoff, if_pos hst, if_neg (by simp [hlock])]
  · refine acts_of (requestAreaWrite n off d) (fun _ _ => rfl) fun c _ ⟨hn, hoff, hend, hd, hlen, hst, hlock⟩ => ?_
    rw [requestAreaWrite_eq c n off d hn hend hd hlen, areaPut_request c n off d hoff, if_pos hst, if_pos hlock]
  · refine acts_of (requestAreaWrite n off d) (fun _ _ => rfl) fun c _ ⟨hn, hoff, hend, hd, hlen, hst⟩ => ?_
    rw [requestAreaWrite_eq c n off d hn hend hd hlen, areaPut_request c n off d hoff, if_neg hst]
  · exact acts_of (mbRelease n) (fun _ _ => rfl) fun c _ hst => if_pos hst
  · exact acts_of (mbRelease n) (fun _ _ => rfl) fun c _ hst => if_neg hst

end Sys2Proof
end

section
/-! The host interface (R23, R58, R340 to R364, R457). -/
namespace Sys2Proof.Machine

theorem badAccess_of_block (c : Chip) {o : Nat} (h : o < 0x2000) : c.badAccess o = c.onHost fun x => { x with counters := bump x.counters cntAccess } := if_pos h

/-- A write that stays in a request area is one that the area takes (R345). -/
theorem accessOk_request {write : Bool} {n k len : Nat} (hn : n < 8) (hlo : 1 ≤ len) (hhi : len ≤ 256) (hend : k + len ≤ 512) :
    accessOk write (0x8000 + 0x400 * n + k) len = true := by
  have harea : 0x8000 ≤ 0x8000 + 0x400 * n + k ∧ 0x8000 + 0x400 * n + k < 0xA000 := by omega
  have hsame : (0x8000 + 0x400 * n + k) / 512 = (0x8000 + 0x400 * n + k + len - 1) / 512 := by omega
  simp only [accessOk, if_pos harea, decide_eq_true_eq]
  exact ⟨hlo, hhi, hsame⟩

theorem accessOk_word {write : Bool} {o : Nat} (h4 : o % 4 = 0) (hlt : o < 0x2000) : accessOk write o 4 = true := by
  simp only [accessOk, if_neg (show ¬(0x8000 ≤ o ∧ o < 0xA000) by omega), if_neg (Nat.not_le.mpr hlt), h4, and_self, decide_true, Bool.true_or]

theorem foldl_same {α β : Type} (l : List α) (f : β → α → β) (h : ∀ b, ∀ a ∈ l, f b a = b) (b : β) : l.foldl f b = b := by
  induction l with
  | nil => rfl
  | cons a l ih =>
    rw [List.foldl_cons, h b a (List.mem_cons_self ..)]
    exact ih fun b a ha => h b a (List.mem_cons_of_mem _ ha)

end Sys2Proof.Machine

namespace Sys2Proof
open Machine

/-- Settles O39. -/
theorem hostEvents : Obligations.HostEvents := by
  unfold Obligations.HostEvents
  refine ⟨fun o d => ?_, fun o d => ?_, fun n k d => ?_, fun tag o len => ?_, fun o len => ?_, fun word v => ?_, fun v => ?_, fun mosi => ?_, fun mosi => ?_, ?_,
    fun w v => ?_, fun w v => ?_, fun mosi => ?_, fun bm en di k => ?_, fun bm en di k => ?_, fun mask => ?_, ?_, ?_, fun i => ?_, fun i => ?_, fun i => ?_,
    fun h p => ?_, fun h p => ?_⟩
  · refine acts_of (registerWrite o d) (fun _ _ => rfl) fun c _ ⟨hbad, ho⟩ => ?_
    simp only [registerWrite, hbad, Bool.not_false, if_true, badAccess_of_block c ho]
  · refine acts_of (registerWrite o d) (fun _ _ => rfl) fun c _ ⟨hlen, h4, ho, hfence⟩ => ?_
    simp only [registerWrite, hlen, accessOk_word h4 ho, Bool.not_true, Bool.false_eq_true, if_false, if_neg (show ¬(0x8000 ≤ o ∧ o < 0xA000) by omega), if_neg hfence, if_true]
  · refine acts_of (registerWrite (0x8000 + 0x400 * n + k) d) (fun _ _ => rfl) fun c _ ⟨hn, hlo, hhi, hend, hst⟩ => ?_
    simp only [registerWrite, accessOk_request hn hlo hhi hend, Bool.not_true, Bool.false_eq_true, if_false,
      if_pos (show 0x8000 ≤ 0x8000 + 0x400 * n + k ∧ 0x8000 + 0x400 * n + k < 0xA000 by omega), areaPut_request c n k d (by omega), if_neg hst]
  · refine acts_of (registerAccessError (some tag) o len) (fun _ _ => rfl) fun c _ hbad => ?_
    exact if_neg (by simp [hbad])
  · refine acts_of (registerAccessError none o len) (fun _ _ => rfl) fun c _ hbad => ?_
    exact if_neg (by simp [hbad])
  · exact acts_of (evAck word v) (fun _ _ => rfl) fun c _ hw => if_neg (Nat.not_le.mpr hw)
  · refine acts_of (nhirqEnableWrite v) (fun _ _ => rfl) fun c _ hp => ?_
    simp only [nhirqEnableWrite, hp, Bool.not_false, Bool.and_true]
  · refine acts_of (spiFrame mosi) (fun _ _ => rfl) fun c _ ⟨hup, hlen, hwrite, h30, h1, h0, hn, hwhole, hcrc⟩ => ?_
    simp only [spiFrame, hup, Bool.not_true, Bool.false_eq_true, if_false, if_neg (Nat.not_lt.mpr hlen), hwrite, h30, h1, h0, Bool.or_self, decide_eq_false (Nat.not_lt.mpr hn),
      decide_eq_false (Nat.not_lt.mpr hwhole), hcrc, bne_self_eq_false]
    rfl
  · refine acts_of (spiFrame mosi) (fun _ _ => rfl) fun c _ ⟨hup, hlen, hwrite, hwhole, hcrc⟩ => ?_
    simp only [spiFrame, hup, Bool.not_true, Bool.false_eq_true, if_false, if_neg (Nat.not_lt.mpr hlen), hwrite, bne_iff_ne.mpr hcrc, Bool.or_true, if_true]
    rfl
  · exact acts_of pcieLinkDown (fun _ _ => rfl) fun c _ _ => rfl
  · refine acts_of (pcieLinkUp w v) (fun _ _ => rfl) fun c _ ⟨hup, hw, hv⟩ => ?_
    rcases hw with rfl | rfl <;> rcases hv with rfl | rfl <;> simp [pcieLinkUp, hup]
  · refine acts_of (pcieLinkUp w v) (fun _ _ => rfl) fun c _ hup => ?_
    exact if_pos (by simp [hup])
  · refine acts_of (spiFrame mosi) (fun _ _ => rfl) fun c _ hup => ?_
    exact if_pos (by simp [hup])
  · refine acts_of (msiReenable bm en di k) (fun _ _ => rfl) fun c _ hno => ?_
    exact if_neg (by rw [hno]; exact Bool.false_ne_true)
  · refine acts_of (msiReenable bm en di k) (fun _ _ => rfl) fun c _ ⟨hen, hbm, hwas⟩ => ?_
    exact if_pos (by rw [hen, hbm, hwas]; rfl)
  · refine acts_of (msiUnmask mask) (fun _ _ => rfl) fun c _ h => ?_
    unfold msiUnmask
    extract_lets opened d
    split
    next hon =>
      have hnone : opened = 0 := h.resolve_left (by rw [show (c.host.msi.enable && c.host.msi.busMaster) = true from hon]; exact Bool.noConfusion)
      refine foldl_same _ _ (fun x v _ => ?_) d
      simp [hnone]
    · rfl
  · refine acts_of heartbeatTick (fun _ _ => rfl) fun c _ h => ?_
    rcases h with h | h <;> simp only [heartbeatTick, h]
  · refine acts_of heartbeatTick (fun _ _ => rfl) fun c _ ⟨hr, hs⟩ => ?_
    unfold heartbeatTick
    split
    · contradiction
    · contradiction
    all_goals rfl
  · refine acts_of (tileSelfCheckFail .carBus i) (fun _ _ => rfl) fun c _ ⟨hi, hbit⟩ => ?_
    exact if_neg (by simp only [Nat.not_le.mpr hi, hbit, Bool.false_eq_true, or_self, not_false_eq_true])
  · refine acts_of (tileSelfCheckFail .check i) (fun _ _ => rfl) fun c _ ⟨hi, hbit⟩ => ?_
    exact if_neg (by simp only [Nat.not_le.mpr hi, hbit, Bool.false_eq_true, or_self, not_false_eq_true])
  · refine acts_of (tileSelfCheckFail .can i) (fun _ _ => rfl) fun c _ ⟨hi, hbit⟩ => ?_
    exact if_neg (by simp only [Nat.not_le.mpr hi, hbit, Bool.false_eq_true, or_self, not_false_eq_true])
  · refine acts_of (pinExpiry h) (fun _ _ => rfl) fun c _ ⟨hp, hdue⟩ => ?_
    simp only [pinExpiry, hp, if_pos hdue]
  · refine acts_of (pinExpiry h) (fun _ _ => rfl) fun c _ ⟨hp, hdue⟩ => ?_
    simp only [pinExpiry, hp, if_neg (Nat.not_le.mpr hdue), id]

end Sys2Proof
end

section
/-! Vehicle ports (R312 to R316, R319). -/
namespace Sys2Proof.Machine

theorem macFaults_of_good {limit : Nat} {f : Bytes} (hfcs : fcsGood f = true) (hlo : 64 ≤ f.length) (hhi : f.length ≤ limit) : macFaults limit 0 f = [] := by
  simp [macFaults, hfcs, Nat.not_lt.mpr hlo, Nat.not_lt.mpr hhi]

/-- A frame on a port that is up, received without overflow, with faults: each fault is counted, and nothing else happens (R312). -/
theorem vehicleFrameRx_of_faults {p ps err : Nat} {f : Bytes} {c : Chip} (hup : Ready.portUp p c) (herr : err ≠ 2) (hf : macFaults (u16 (c.vport p).config 8) err f ≠ []) :
    vehicleFrameRx p ps err f c = c.macCounts p (macFaults (u16 (c.vport p).config 8) err f) := by
  obtain ⟨hon, hlink⟩ := hup
  simp only [vehicleFrameRx, hon, hlink, Bool.not_true, Bool.or_self, Bool.false_eq_true, if_false, if_neg herr, if_pos hf]

/-- A frame with one fault is counted under it. -/
theorem vehicleFrameRx_of_fault {p ps err i : Nat} {f : Bytes} {c : Chip} (hup : Ready.portUp p c) (herr : err ≠ 2) (hf : macFaults (u16 (c.vport p).config 8) err f = [i]) :
    vehicleFrameRx p ps err f c = c.macCount p i := by
  rw [vehicleFrameRx_of_faults hup herr (by simp [hf]), hf]
  rfl

end Sys2Proof.Machine

namespace Sys2Proof
open Machine

/-- Settles O40. -/
theorem vehiclePortEvents : Obligations.VehiclePortEvents := by
  unfold Obligations.VehiclePortEvents
  refine ⟨fun p ps err f => ?_, fun p ps f => ?_, fun p ps err f l => ?_, fun p ps f => ?_, fun p ps f => ?_, fun p ps f => ?_, fun p ps f => ?_, fun p ps f => ?_,
    fun p ps f a => ?_, fun p ps f => ?_, fun p u => ?_, fun p u => ?_, fun p k e es => ?_, fun p k e es => ?_, fun p k e es => ?_, fun p k ecc => ?_, fun p is100 => ?_,
    fun p is100 => ?_⟩
  · refine acts_of (vehicleFrameRx p ps err f) (fun _ _ => rfl) fun c _ h => ?_
    exact if_pos (by rcases h with h | h <;> simp [h])
  · refine acts_of (vehicleFrameRx p ps 2 f) (fun _ _ => rfl) fun c _ ⟨hon, hlink⟩ => ?_
    simp only [vehicleFrameRx, hon, hlink, Bool.not_true, Bool.or_self, Bool.false_eq_true, if_false, if_true]
  · refine acts_of (vehicleFrameRx p ps err f) (fun _ _ => rfl) fun c _ ⟨hup, herr, hl, hne⟩ => ?_
    rw [vehicleFrameRx_of_faults hup herr (hl ▸ hne), hl]
  · refine acts_of (vehicleFrameRx p ps 0 f) (fun _ _ => rfl) fun c _ ⟨hup, hfcs, hlo, hhi⟩ => ?_
    exact vehicleFrameRx_of_fault hup (by decide) (by simp [macFaults, hfcs, Nat.not_lt.mpr hlo, Nat.not_lt.mpr hhi])
  · refine acts_of (vehicleFrameRx p ps 0 f) (fun _ _ => rfl) fun c _ ⟨hup, hfcs, hlo, hhi⟩ => ?_
    exact vehicleFrameRx_of_fault hup (by decide) (by simp [macFaults, hfcs, hlo, Nat.not_lt.mpr hhi])
  · refine acts_of (vehicleFrameRx p ps 0 f) (fun _ _ => rfl) fun c _ ⟨hup, hfcs, hlo, hhi⟩ => ?_
    exact vehicleFrameRx_of_fault hup (by decide) (by simp [macFaults, hfcs, Nat.not_lt.mpr hlo, hhi])
  · refine acts_of (vehicleFrameRx p ps 1 f) (fun _ _ => rfl) fun c _ ⟨hup, hfcs, hlo, hhi⟩ => ?_
    have hne : f ≠ [] := by rintro rfl; simp at hlo
    exact vehicleFrameRx_of_fault hup (by decide) (by simp [macFaults, hfcs, hne, Nat.not_lt.mpr hlo, Nat.not_lt.mpr hhi])
  · refine acts_of (vehicleFrameRx p ps 0 f) (fun _ _ => rfl) fun c _ ⟨⟨⟨hon, hlink⟩, hfcs, hlo, hhi⟩, hpause⟩ => ?_
    simp only [vehicleFrameRx, hon, hlink, Bool.not_true, Bool.or_self, Bool.false_eq_true, if_false, (by decide : ¬0 = 2), macFaults_of_good hfcs hlo hhi, ne_eq,
      not_true_eq_false, if_pos hpause]
  · refine acts_of (vehicleFrameRx p ps 0 f) (fun _ _ => rfl) fun c _ ⟨⟨⟨hon, hlink⟩, hfcs, hlo, hhi⟩, hpause, htag, haddr, hkind⟩ => ?_
    simp only [vehicleFrameRx, hon, hlink, Bool.not_true, Bool.or_self, Bool.false_eq_true, if_false, (by decide : ¬0 = 2), macFaults_of_good hfcs hlo hhi, ne_eq,
      not_true_eq_false, hpause, false_and, htag, Bool.false_and, haddr, hkind]
    rfl
  · refine acts_of (vehicleFrameRx p ps 0 f) (fun _ _ => rfl) fun c _ ⟨⟨⟨hon, hlink⟩, hfcs, hlo, hhi⟩, hpause, haddr, hcfg⟩ => ?_
    simp only [vehicleFrameRx, hon, hlink, Bool.not_true, Bool.or_self, Bool.false_eq_true, if_false, (by decide : ¬0 = 2), macFaults_of_good hfcs hlo hhi, ne_eq,
      not_true_eq_false, hpause, false_and, haddr, hcfg, Nat.zero_ne_one]
  · refine acts_of (pauseExpiry p) (fun _ _ => rfl) fun c _ ⟨hu, hdue, hlong⟩ => ?_
    simp only [pauseExpiry, hu, if_pos hdue, Chip.endPause, hlong, Bool.false_eq_true, if_false]
  · refine acts_of (pauseExpiry p) (fun _ _ => rfl) fun c _ ⟨hu, hdue, hlong⟩ => ?_
    simp only [pauseExpiry, hu, if_pos hdue, Chip.endPause, hlong, if_true]
  · refine acts_of (vehicleEgressDequeue p k none) (fun _ _ => rfl) fun c _ ⟨⟨hon, hlink⟩, hpause, hq⟩ => ?_
    simp [vehicleEgressDequeue, hon, hlink, hpause, hq, Chip.takeHead]
  · refine acts_of (vehicleEgressDequeue p k none) (fun _ _ => rfl) fun c _ ⟨⟨hon, hlink⟩, hpause, hhigh, hq, hpre⟩ => ?_
    simp [vehicleEgressDequeue, hon, hlink, hpause, hhigh, hq, hpre, Chip.takeHead]
  · refine acts_of (vehicleEgressDequeue p k none) (fun _ _ => rfl) fun c _ ⟨⟨hon, hlink⟩, hpause, hhigh, hq, hpre⟩ => ?_
    simp [vehicleEgressDequeue, hon, hlink, hpause, hhigh, hq, hpre, Chip.takeHead]
  · refine acts_of (vehicleEgressDequeue p k ecc) (fun _ _ => rfl) fun c _ h => ?_
    exact if_pos (by rcases h with h | h | h <;> simp [h])
  · refine acts_of (vehicleLinkChange p true is100) (fun _ _ => rfl) fun c _ ⟨hon, hlink⟩ => ?_
    simp [vehicleLinkChange, hon, hlink]
  · refine acts_of (vehicleLinkChange p false is100) (fun _ _ => rfl) fun c _ ⟨hon, hlink⟩ => ?_
    simp [vehicleLinkChange, hon, hlink]

end Sys2Proof
end

section
/-! Rings and external memory (R326 to R330, R334, R335): the statement on a delivered frame fails. -/
namespace Sys2Proof
open Machine

/-- A command leaves one chip. -/
theorem settled_unique {i : Instr} {t : Nat} {s : State} {X Y : Chip} (hX : Leaves i t s X) (hY : Leaves i t s Y) :
    (s.chip.tick t).settled X = (s.chip.tick t).settled Y := by
  have heq := hX.symm.trans hY
  injection heq with hstate
  injection hstate

/-- A receive ring that runs, with buffers of 2048 bytes and one owned descriptor, and a frame of 300 bytes in its queue. -/
def longFrameWaits : Chip := 
  ({ boot := { state := .ready }, host := { pcieUp := true }, eth := { rings := List.replicate 12 { enabled := true, bufSize := 2048, owned := [zeros 64] } } } : Chip).onQm fun m =>
    m.upd 55 fun a => { a with entries := [{ data := zeros 300 }] }

/-- What the statement says a delivery leaves: one posted write of all 300 bytes, and the descriptor. -/
def longFrameClaimed (c : Chip) : Chip :=
  ((((c.dropHead 55).onQm fun m => m.upd 55 fun a => { a with droppedSince := false }).emits [.dma (u64 (zeros 64) 0) (zeros 300), .dma ((c.eth.ring 55).slotAddr 0)
    (padTo 64 (slice (zeros 64) 0 10 ++ le 1 6 ++ slice ({ data := zeros 300 } : QEntry).info 11 1 ++ le 2 (zeros 300).length ++ le 2 (zeros 300).length ++
      ({ data := zeros 300 } : QEntry).info.drop 16))]).onRing 55 fun x => { x with owned := [], next := (x.next + 1) % x.count }).ringEvent 55 30 false

/-- The model writes the frame in two posted writes, for a posted write carries 256 bytes at most (R340), and the descriptor in a third. -/
theorem longFrame_written : ((longFrameWaits.tick 0).settled (rxRingDeliver 55 none (longFrameWaits.tick 0))).out.length = 3 := by decide +kernel

theorem longFrame_claimed : ((longFrameWaits.tick 0).settled (longFrameClaimed (longFrameWaits.tick 0))).out.length = 2 := by decide +kernel

/-- Refutes O41: a received frame of more than 256 bytes reaches its buffer in more than one posted write. -/
theorem not_ringMemoryEvents : ¬ Obligations.RingMemoryEvents := by
  unfold Obligations.RingMemoryEvents
  rintro ⟨-, -, -, delivers, -⟩
  obtain ⟨hmain, hready⟩ : (longFrameWaits.tick 0).mainDie = true ∧ (longFrameWaits.tick 0).ringOn 55 = true ∧ isRx 55 = true ∧
      ((longFrameWaits.tick 0).qm.queue 55).entries = { data := zeros 300 } :: [] ∧ ((longFrameWaits.tick 0).qm.queue 55).droppedSince = false ∧
      max 1 (ceilDiv (zeros 300).length ((longFrameWaits.tick 0).eth.ring 55).bufSize) = 1 ∧ ((longFrameWaits.tick 0).eth.ring 55).owned = zeros 64 :: [] ∧
      pieces 1 ((longFrameWaits.tick 0).eth.ring 55).bufSize (zeros 300) = [zeros 300] := by decide +kernel
  have claimed : Leaves (.rxRingDeliver 0 55 none) 0 ⟨longFrameWaits, []⟩ (longFrameClaimed (longFrameWaits.tick 0)) :=
    delivers 55 { data := zeros 300 } [] (zeros 64) [] 0 ⟨longFrameWaits, []⟩ hmain hready
  have done : Leaves (.rxRingDeliver 0 55 none) 0 ⟨longFrameWaits, []⟩ (rxRingDeliver 55 none (longFrameWaits.tick 0)) :=
    leaves_of (rxRingDeliver 55 none) rfl hmain
  have hlen := congrArg (fun c => c.out.length) (settled_unique done claimed)
  dsimp only at hlen
  rw [longFrame_written, longFrame_claimed] at hlen
  exact absurd hlen (by decide)

end Sys2Proof
end

section
/-! What a change of the safety island leaves of the island: the events and the change log that follow it touch the counters and the log alone (R374 to R401). -/
namespace Sys2Proof.Machine

/-- `b` is `a` but for the counters and the change log. -/
def SafeIsland.Logged (a b : SafeIsland) : Prop := b = { a with counters := b.counters, log := b.log, logSeq := b.logSeq }

theorem SafeIsland.Logged.refl (a : SafeIsland) : SafeIsland.Logged a a := rfl
theorem SafeIsland.Logged.trans {a b c : SafeIsland} (h : SafeIsland.Logged a b) (k : SafeIsland.Logged b c) : SafeIsland.Logged a c := by
  unfold SafeIsland.Logged at *
  rw [k, h]

/-- The island's configuration mode ends when the channels do not both configure: the candidate and the authorisation go with it (R394). -/
def SafeIsland.closed (n : SafeIsland) : SafeIsland :=
  let n := if n.configuring then n else { n with candidate := none }
  { n with authorised := n.authorised && n.configuring }

theorem Chip.reports_fwRaise (c : Chip) (e kind arg detail : Nat) : Chip.Reports c (c.fwRaise e kind arg detail) := by
  unfold Chip.fwRaise
  split
  · exact c.reports_raiseD _ _ _ _
  · exact .refl c

theorem Chip.reports_sourceEvent (c : Chip) (j : Nat) (old new : Option Bool) : Chip.Reports c (c.sourceEvent j old new) := by
  unfold Chip.sourceEvent
  split
  · exact .refl c
  · exact c.reports_emit _

theorem Chip.reports_driveEvent (c : Chip) (o : Nat) (nSide old new : Bool) : Chip.Reports c (c.driveEvent o nSide old new) := by
  unfold Chip.driveEvent
  split
  · exact .refl c
  · exact c.reports_emit _

/-- `d`'s island is `c`'s but for the counters and the change log, and outside the island `d` has reported events and no more. -/
structure Chip.IslandKept (c d : Chip) : Prop where
  logged : SafeIsland.Logged c.safe d.safe
  outside : Chip.Reports { c with safe := d.safe } d

theorem Chip.IslandKept.of_reports {c d : Chip} (h : Chip.Reports c d) : c.IslandKept d := by
  constructor
  · rw [h.safe]
    exact .refl _
  · rw [h.safe]
    exact h

theorem Chip.IslandKept.refl (c : Chip) : c.IslandKept c := .of_reports (.refl c)

theorem Chip.IslandKept.trans {a b c : Chip} (h : a.IslandKept b) (k : b.IslandKept c) : a.IslandKept c where
  logged := h.logged.trans k.logged
  outside := by
    have hb : Chip.Reports { a with safe := c.safe } { b with safe := c.safe } := by
      obtain ⟨h1, h2, h3, h4, h5, h6, h7, h8, h9, h10, h11, h12, h13, h14, -, h16, h17, h18, h19⟩ := h.outside
      exact ⟨h1, h2, h3, h4, h5, h6, h7, h8, h9, h10, h11, h12, h13, h14, rfl, h16, h17, h18, h19⟩
    exact hb.trans k.outside

/-- A change of the island's counters or log alone. -/
theorem islandKept_safeSet {c : Chip} {s : SafeIsland} (h : SafeIsland.Logged c.safe s) : c.IslandKept (c.safeSet s) := ⟨h, .refl _⟩

theorem islandKept_foldl {α : Type} (f : Chip → α → Chip) (h : ∀ c x, Chip.IslandKept c (f c x)) (l : List α) (c : Chip) : c.IslandKept (l.foldl f c) := by
  induction l generalizing c with
  | nil => exact .refl c
  | cons x l ih => exact (h c x).trans (ih _)

theorem islandKept_fwRaise (c : Chip) (e kind arg detail : Nat) : c.IslandKept (c.fwRaise e kind arg detail) := .of_reports (c.reports_fwRaise _ _ _ _)

theorem islandKept_ite {c d : Chip} {p : Prop} [Decidable p] (h : c.IslandKept d) : c.IslandKept (if p then c else d) := by
  split
  · exact .refl c
  · exact h

theorem islandKept_ite' {c d : Chip} {p : Prop} [Decidable p] (h : c.IslandKept d) : c.IslandKept (if p then d else c) := by
  split
  · exact h
  · exact .refl c

theorem islandKept_faultEvent (c : Chip) (ev port counter old new : Nat) : c.IslandKept (c.faultEvent ev port counter old new) := by
  unfold Chip.faultEvent
  refine islandKept_ite ?_
  split
  · exact islandKept_fwRaise _ _ _ _ _
  · exact (islandKept_safeSet (s := c.safe.count counter) rfl).trans (islandKept_fwRaise _ _ _ _ _)

theorem islandKept_safeEvents (c : Chip) (s : SafeIsland) : c.IslandKept (c.safeEvents s) := by
  unfold Chip.safeEvents
  extract_lets n sources drives seenN seenM stopped told outs ins
  have h1 : c.IslandKept sources := islandKept_foldl _ (fun c j => .of_reports (c.reports_sourceEvent _ _ _)) _ _
  have h2 : sources.IslandKept drives :=
    islandKept_foldl _ (fun c o => .of_reports ((c.reports_driveEvent _ _ _ _).trans (Chip.reports_driveEvent _ _ _ _ _))) _ _
  have h3 : drives.IslandKept seenN := islandKept_ite (islandKept_fwRaise _ _ _ _ _)
  have h4 : seenN.IslandKept seenM := islandKept_ite (islandKept_fwRaise _ _ _ _ _)
  have h5 : seenM.IslandKept told := islandKept_ite' (islandKept_fwRaise _ _ _ _ _)
  have h6 : told.IslandKept outs := islandKept_foldl _ (fun c o => (islandKept_ite (islandKept_fwRaise _ _ _ _ _)).trans (islandKept_faultEvent _ _ _ _ _ _)) _ _
  have h7 : outs.IslandKept ins := islandKept_foldl _ (fun c i => (islandKept_faultEvent _ _ _ _ _ _).trans (islandKept_ite' (islandKept_fwRaise _ _ _ _ _))) _ _
  exact h1.trans (h2.trans (h3.trans (h4.trans (h5.trans (h6.trans (h7.trans (islandKept_ite' (islandKept_fwRaise _ _ _ _ _))))))))

theorem islandKept_newLog (c : Chip) (l : List Bytes) (n : Nat) : c.IslandKept (c.safeSet { c.safe with log := l, logSeq := n }) :=
  islandKept_safeSet rfl

theorem islandKept_safeLog (c : Chip) (kind result setId check prev : Nat) : c.IslandKept (c.safeLog kind result setId check prev) := by
  unfold Chip.safeLog
  extract_lets s bs held
  exact (islandKept_newLog c _ _).trans (islandKept_fwRaise _ _ _ _ _)

/-- A change of the island, with the events and the log record that follow it. -/
theorem islandKept_onSafe (c : Chip) (f : SafeIsland → SafeIsland) : (c.safeSet (f c.safe).closed).IslandKept (c.onSafe f) := by
  unfold Chip.onSafe
  extract_lets s n n' d
  have hd : (c.safeSet n.closed).IslandKept d := islandKept_safeEvents _ s
  split
  · exact hd.trans (islandKept_safeLog _ _ _ _ _ _)
  · exact hd

theorem onSafe_logged (c : Chip) (f : SafeIsland → SafeIsland) : SafeIsland.Logged (f c.safe).closed (c.onSafe f).safe := (islandKept_onSafe c f).logged

/-- Outside the island, a change of the island reports events and no more. -/
theorem onSafe_outside (c : Chip) (f : SafeIsland → SafeIsland) : Chip.Reports { c with safe := (c.onSafe f).safe } (c.onSafe f) := (islandKept_onSafe c f).outside

theorem onSafe_congr {c : Chip} {f g : SafeIsland → SafeIsland} (h : f c.safe = g c.safe) : c.onSafe f = c.onSafe g := by
  simp only [Chip.onSafe, h]

section closed
variable (n : SafeIsland)
theorem SafeIsland.closed_eq : n.closed = { n with candidate := if n.configuring then n.candidate else none, authorised := n.closed.authorised } := by
  unfold SafeIsland.closed
  split <;> rfl
end closed

/-- The island after a change, but for its candidate, its authorisation, its counters and its log. -/
theorem onSafe_safe (c : Chip) (f : SafeIsland → SafeIsland) :
    (c.onSafe f).safe = { f c.safe with
      candidate := if (f c.safe).configuring then (f c.safe).candidate else none, authorised := (c.onSafe f).safe.authorised
      counters := (c.onSafe f).safe.counters, log := (c.onSafe f).safe.log, logSeq := (c.onSafe f).safe.logSeq } := by
  have h : (c.onSafe f).safe = _ := onSafe_logged c f
  rw [SafeIsland.closed_eq] at h
  have ha : (c.onSafe f).safe.authorised = (f c.safe).closed.authorised := by rw [h]
  rw [← ha] at h
  exact h

section onSafe
variable (c : Chip) (f : SafeIsland → SafeIsland)
@[simp] theorem Chip.onSafe_clk : (c.onSafe f).clk = c.clk := (onSafe_outside c f).clk
@[simp] theorem Chip.onSafe_fuses : (c.onSafe f).fuses = c.fuses := (onSafe_outside c f).fuses
@[simp] theorem Chip.onSafe_tiles : (c.onSafe f).tiles = c.tiles := (onSafe_outside c f).tiles
@[simp] theorem Chip.onSafe_boot : (c.onSafe f).boot = c.boot := (onSafe_outside c f).boot
@[simp] theorem Chip.onSafe_dir : (c.onSafe f).dir = c.dir := (onSafe_outside c f).dir
@[simp] theorem Chip.onSafe_rc : (c.onSafe f).rc = c.rc := (onSafe_outside c f).rc
@[simp] theorem Chip.onSafe_bb : (c.onSafe f).bb = c.bb := (onSafe_outside c f).bb
@[simp] theorem Chip.onSafe_time : (c.onSafe f).time = c.time := (onSafe_outside c f).time
@[simp] theorem Chip.onSafe_eth : (c.onSafe f).eth = c.eth := (onSafe_outside c f).eth
@[simp] theorem Chip.onSafe_mem : (c.onSafe f).mem = c.mem := (onSafe_outside c f).mem
@[simp] theorem Chip.onSafe_cb : (c.onSafe f).cb = c.cb := (onSafe_outside c f).cb
@[simp] theorem Chip.onSafe_can : (c.onSafe f).can = c.can := (onSafe_outside c f).can
@[simp] theorem Chip.onSafe_rt : (c.onSafe f).rt = c.rt := (onSafe_outside c f).rt
@[simp] theorem Chip.onSafe_br : (c.onSafe f).br = c.br := (onSafe_outside c f).br
@[simp] theorem Chip.onSafe_pwr : (c.onSafe f).pwr = c.pwr := (onSafe_outside c f).pwr
@[simp] theorem Chip.onSafe_clove : (c.onSafe f).clove = c.clove := (onSafe_outside c f).clove
@[simp] theorem Chip.onSafe_stored : (c.onSafe f).stored = c.stored := (onSafe_outside c f).stored
@[simp] theorem Chip.onSafe_nutmeg : (c.onSafe f).safe.nutmeg = (f c.safe).nutmeg := by rw [onSafe_safe]
@[simp] theorem Chip.onSafe_mace : (c.onSafe f).safe.mace = (f c.safe).mace := by rw [onSafe_safe]
@[simp] theorem Chip.onSafe_chan (n : Bool) : (c.onSafe f).safe.chan n = (f c.safe).chan n := by cases n <;> simp [SafeIsland.chan]
@[simp] theorem Chip.onSafe_toMace : (c.onSafe f).safe.toMace = (f c.safe).toMace := by rw [onSafe_safe]
@[simp] theorem Chip.onSafe_toNutmeg : (c.onSafe f).safe.toNutmeg = (f c.safe).toNutmeg := by rw [onSafe_safe]
@[simp] theorem Chip.onSafe_nextNumber : (c.onSafe f).safe.nextNumber = (f c.safe).nextNumber := by rw [onSafe_safe]
@[simp] theorem Chip.onSafe_farewell : (c.onSafe f).safe.farewell = (f c.safe).farewell := by rw [onSafe_safe]
@[simp] theorem Chip.onSafe_redeliver : (c.onSafe f).safe.redeliver = (f c.safe).redeliver := by rw [onSafe_safe]
theorem Chip.onSafe_candidate : (c.onSafe f).safe.candidate = if (f c.safe).configuring then (f c.safe).candidate else none := by rw [onSafe_safe]
end onSafe

/-- Driven off, an output is demanded off. -/
theorem SafeOut.drive_demand (y : SafeOut) (on : Bool) (t : Nat) (manual excused : Bool) : (y.drive on t manual excused).demand = on := by
  unfold SafeOut.drive
  split
  next h => exact h
  · rfl

theorem SafeChan.allOff_off (x : SafeChan) : ∀ y ∈ x.allOff.outs, y.demand = false := by
  intro y hy
  obtain ⟨i, hi, rfl⟩ := List.mem_mapIdx.mp hy
  exact SafeOut.drive_demand _ _ _ _ _

theorem SafeChan.enter_state (x : SafeChan) (st : IslSt) : (x.enter st).state = st := rfl

/-- A channel that enters a state other than RUNNING demands nothing (R376). -/
theorem SafeChan.enter_off (x : SafeChan) {st : IslSt} (h : st ≠ .running) : ∀ y ∈ (x.enter st).outs, y.demand = false := by
  have : (x.enter st).outs = x.allOff.outs := by simp [SafeChan.enter, h]
  rw [this]
  exact x.allOff_off

theorem SafeChan.stop_of_ne {x : SafeChan} {reason : Nat} (h : x.state ≠ .safeStop) : x.stop reason = { (x.enter .safeStop) with stopReason := reason } := if_neg h

theorem SafeChan.stop_off {x : SafeChan} {reason : Nat} (h : x.state ≠ .safeStop) : ∀ y ∈ (x.stop reason).outs, y.demand = false := by
  rw [SafeChan.stop_of_ne h]
  exact x.enter_off (by decide)

end Sys2Proof.Machine
end

section
/-! The link of the island's channels (R373 to R375). -/
namespace Sys2Proof.Machine

theorem nutmegSend_sends {s : SafeIsland} (hon : s.nutmeg.on = true) (hfar : s.farewell ≠ some 0) (now : Nat) :
    ∃ fr, (s.nutmegSend now).toMace = some fr ∧ fr.number = s.nextNumber ∧ (s.nutmegSend now).nextNumber = (s.nextNumber + 1) % 65536 := by
  have hgo : ¬(!s.nutmeg.on || s.farewell == some 0) = true := by simp [hon, hfar]
  unfold SafeIsland.nutmegSend
  rw [if_neg hgo]
  exact ⟨_, rfl, rfl, rfl⟩

/-- An answer of Mace that is in order and in time is taken (R373). -/
theorem nutmegRx_of_answered {fr : SafeFrame} {c : Chip} (h : Ready.answered fr c) :
    c.safe.nutmegRx true c.clk.now = SafeIsland.nutmegTake { c.safe with toNutmeg := none } fr := by
  obtain ⟨hto, hon, hsent⟩ := h
  simp only [SafeIsland.nutmegRx, hto, hon, Bool.not_true, Bool.false_eq_true, if_false, hsent, Bool.and_self, if_true]

/-- An answer out of order or of time is a link error. -/
theorem nutmegRx_of_stale {fr : SafeFrame} {good : Bool} {s : SafeIsland} {now : Nat} (hto : s.toNutmeg = some fr) (hon : s.nutmeg.on = true)
    (hbad : (good && s.sent.any fun x => x.1 == fr.number && decide (now ≤ x.2 + 2000000)) = false) :
    s.nutmegRx good now = SafeIsland.count { s with toNutmeg := none } sfLinkErrors := by
  simp only [SafeIsland.nutmegRx, hto, hon, Bool.not_true, Bool.false_eq_true, if_false, hbad]

/-- Without a set to deliver again, an answer does what it does to the island and no more. -/
theorem nutmegAnswerRx_of_settled {good : Bool} {c : Chip} (h : (c.safe.nutmegRx good c.clk.now).redeliver = false) :
    nutmegAnswerRx good c = c.onSafe fun s => s.nutmegRx good c.clk.now := by
  simp only [nutmegAnswerRx, Chip.onSafe_redeliver, h, Bool.false_and, Bool.false_eq_true, if_false]

/-- The partner's SAFE_STOP stops Nutmeg (R374). -/
theorem nutmegTake_of_stopped {s : SafeIsland} {fr : SafeFrame} (hst : fr.state = .safeStop) (hstop : fr.safeStop = true) :
    s.nutmegTake fr = (s.onChan true fun x => { x with seen := some fr }).onChan true fun x => x.stop 6 := by
  simp [SafeIsland.nutmegTake, hst, hstop]

theorem holdOn_of_working {s : SafeIsland} {n : Bool} (h : (s.chan n).state = .running) :
    (s.holdOn n).chan n = (s.chan n).enter .hold ∧ (s.holdOn n).candidate = none := by
  have hgo : (s.chan n).state = .configuration ∨ (s.chan n).state = .starting ∨ (s.chan n).state = .running := .inr (.inr h)
  unfold SafeIsland.holdOn
  rw [if_pos hgo]
  extract_lets d planned
  have hchan : d.chan n = s.chan n := by
    simp only [d]
    split <;> rfl
  cases n
  · exact ⟨congrArg (SafeChan.enter · .hold) hchan, rfl⟩
  · exact ⟨congrArg (SafeChan.enter · .hold) hchan, rfl⟩

end Sys2Proof.Machine

namespace Sys2Proof
open Machine

/-- Settles O42. -/
theorem islandLinkEvents : Obligations.IslandLinkEvents := by
  unfold Obligations.IslandLinkEvents
  refine ⟨fun t s hon hfar => ?_, ?_, fun fr => ?_, fun fr => ?_, fun fr t s hans hre hst hstop hnot => ?_, fun fr good => ?_, ?_, ?_, ?_, fun t s hon hst => ?_,
    fun t s hon hst => ?_, fun w => ?_, fun w => ?_, fun w t s hon hw hbad hst => ?_⟩
  · obtain ⟨fr, hto, hnum, hnext⟩ := nutmegSend_sends hon hfar (s.chip.tick t).clk.now
    refine ⟨_, fr, leavesAlways_of nutmegFrameTimer rfl, ?_, ?_, ?_⟩
    · rw [nutmegFrameTimer, Chip.onSafe_toMace, hto]
    · rw [hnum, Chip.tick_safe]
    · rw [nutmegFrameTimer, Chip.onSafe_nextNumber, hnext, Chip.tick_safe]
  · refine actsAlways_of (maceFrameRx false) (fun _ _ => rfl) fun c ⟨hto, hon⟩ => onSafe_congr ?_
    obtain ⟨f, hto⟩ := Option.isSome_iff_exists.mp hto
    simp only [SafeIsland.maceRx, hto, hon, Bool.not_true, Bool.false_eq_true, if_false, Bool.not_false, if_true]
  · refine actsAlways_of (maceFrameRx true) (fun _ _ => rfl) fun c ⟨hto, hon, hlast⟩ => onSafe_congr ?_
    simp only [SafeIsland.maceRx, hto, hon, Bool.not_true, Bool.false_eq_true, if_false, hlast]
    rfl
  · refine actsAlways_of (nutmegAnswerRx true) (fun _ _ => rfl) fun c hans => ?_
    have htake : (c.onSafe fun s => s.nutmegRx true c.clk.now) = c.onSafe fun s => SafeIsland.nutmegTake { s with toNutmeg := none } fr := onSafe_congr (nutmegRx_of_answered hans)
    simp only [nutmegAnswerRx, htake]
  · have htake := (nutmegRx_of_answered hans).trans (nutmegTake_of_stopped hst hstop)
    have hleft : nutmegAnswerRx true (s.chip.tick t) = (s.chip.tick t).onSafe fun x => x.nutmegRx true (s.chip.tick t).clk.now :=
      nutmegAnswerRx_of_settled (by rw [htake]; exact hre)
    refine ⟨_, leavesAlways_of (nutmegAnswerRx true) rfl, ?_, ?_, ?_⟩
    · rw [hleft, Chip.onSafe_toNutmeg, htake]
      rfl
    · rw [hleft, Chip.onSafe_nutmeg, htake]
      exact congrArg SafeChan.state (SafeChan.stop_of_ne (x := { (s.chip.tick t).safe.nutmeg with seen := some fr }) hnot)
    · rw [hleft, Chip.onSafe_nutmeg, htake]
      exact congrArg SafeChan.stopReason (SafeChan.stop_of_ne (x := { (s.chip.tick t).safe.nutmeg with seen := some fr }) hnot)
  · refine actsAlways_of (nutmegAnswerRx good) (fun _ _ => rfl) fun c ⟨hto, hon, hre, hbad⟩ => ?_
    have hrx := nutmegRx_of_stale hto hon hbad
    rw [nutmegAnswerRx_of_settled (by rw [hrx]; exact hre)]
    exact onSafe_congr hrx
  · exact actsAlways_of (linkTimeout false) (fun _ _ => rfl) fun c hon => if_pos hon
  · exact actsAlways_of (linkTimeout true) (fun _ _ => rfl) fun c hon => if_pos hon
  · exact actsAlways_of (linkTimeout true) (fun _ _ => rfl) fun c hoff => if_neg (by simpa [SafeIsland.chan] using hoff)
  · obtain ⟨hchan, hcand⟩ := holdOn_of_working (n := false) hst
    have hmace : ((s.chip.tick t).safe.holdOn false).mace = (s.chip.tick t).safe.mace.enter .hold := hchan
    have hleft : linkTimeout false (s.chip.tick t) = (s.chip.tick t).onSafe fun x => x.holdOn false := if_pos hon
    refine ⟨_, leavesAlways_of (linkTimeout false) rfl, ?_, ?_, ?_⟩
    · rw [hleft, Chip.onSafe_mace, hmace, SafeChan.enter_state]
    · rw [hleft, Chip.onSafe_candidate, hcand, ite_self]
    · rw [hleft, Chip.onSafe_mace, hmace]
      exact SafeChan.enter_off _ (by decide)
  · have hlock : (s.chip.tick t).safe.lockstep = { ((s.chip.tick t).safe.onChan true fun x => x.stop 1) with farewell := some 3 } := if_pos ⟨hon, hst⟩
    refine ⟨_, leavesAlways_of lockstepMismatch rfl, ?_, ?_, ?_, ?_⟩
    · rw [lockstepMismatch, Chip.onSafe_nutmeg, hlock]
      exact congrArg SafeChan.state (SafeChan.stop_of_ne hst)
    · rw [lockstepMismatch, Chip.onSafe_nutmeg, hlock]
      exact congrArg SafeChan.stopReason (SafeChan.stop_of_ne hst)
    · rw [lockstepMismatch, Chip.onSafe_farewell, hlock]
    · rw [lockstepMismatch, Chip.onSafe_nutmeg, hlock]
      exact SafeChan.stop_off hst
  · refine actsAlways_of (maceClockMeasure w) (fun _ _ => rfl) fun c ⟨hon, hw⟩ => onSafe_congr ?_
    simp only [SafeIsland.clockMeasure, hon, Bool.not_true, Bool.false_eq_true, if_false, if_pos hw]
  · refine actsAlways_of (maceClockMeasure w) (fun _ _ => rfl) fun c ⟨hon, hw, hbad⟩ => onSafe_congr ?_
    simp only [SafeIsland.clockMeasure, hon, Bool.not_true, Bool.false_eq_true, if_false, if_neg hw, hbad, Nat.zero_add, (by decide : ¬2 ≤ 1)]
  · have htwo : 2 ≤ (s.chip.tick t).safe.clockBad + 1 := by omega
    have hmeasure : ((s.chip.tick t).safe.clockMeasure w).nutmeg = (s.chip.tick t).safe.nutmeg.stop 4 := by
      simp only [SafeIsland.clockMeasure, hon, Bool.not_true, Bool.false_eq_true, if_false, if_neg hw, if_pos htwo]
      rfl
    refine ⟨_, leavesAlways_of (maceClockMeasure w) rfl, ?_, ?_⟩
    · rw [maceClockMeasure, Chip.onSafe_nutmeg, hmeasure]
      exact congrArg SafeChan.state (SafeChan.stop_of_ne hst)
    · rw [maceClockMeasure, Chip.onSafe_nutmeg, hmeasure]
      exact congrArg SafeChan.stopReason (SafeChan.stop_of_ne hst)

end Sys2Proof
end

section
/-! Safe inputs, functions and outputs (R382 to R393). -/
namespace Sys2Proof.Machine

/-- What an evaluation takes from its samples, with what it leaves alone: the channel's clock, its wires, its readbacks, its set and its power. -/
def SafeChan.sampled (x : SafeChan) : Nat × BitVec 16 × BitVec 8 × Option Bytes × Bool := (x.clk, x.raw, x.readback, x.set, x.on)

theorem sampled_enter (x : SafeChan) (st : IslSt) : (x.enter st).sampled = x.sampled := by
  unfold SafeChan.enter
  extract_lets y
  simp only [y]
  split <;> rfl

theorem sampled_stop (x : SafeChan) (reason : Nat) : (x.stop reason).sampled = x.sampled := by
  unfold SafeChan.stop
  split
  · rfl
  · exact sampled_enter x .safeStop

theorem sampled_toStarting (x : SafeChan) (restart : Bool) : (x.toStarting restart).1.sampled = x.sampled := sampled_enter x .starting

theorem sampled_lapse (x : SafeChan) : x.lapse.sampled = x.sampled := by
  unfold SafeChan.lapse
  split
  · split <;> rfl
  · rfl

theorem sampled_compare (x : SafeChan) : x.compare.sampled = x.sampled := by
  unfold SafeChan.compare
  split
  · rfl
  · split
    · dsimp only
      split
      · exact sampled_stop _ 2
      · rfl
    · rfl

theorem sampled_evalOut (x : SafeChan) (o : Nat) : (x.evalOut o).sampled = x.sampled := by
  unfold SafeChan.evalOut
  extract_lets b req y
  simp only [y]
  split <;> rfl

theorem sampled_foldl {α : Type} (f : SafeChan → α → SafeChan) (h : ∀ x a, (f x a).sampled = x.sampled) (l : List α) (x : SafeChan) :
    (l.foldl f x).sampled = x.sampled := by
  induction l generalizing x with
  | nil => rfl
  | cons a l ih => exact (ih _).trans (h x a)

theorem sampled_evalOuts (x : SafeChan) : x.evalOuts.sampled = x.sampled := sampled_foldl _ sampled_evalOut _ x

theorem sampled_stepBy (x : SafeChan) (k : Nat) : (x.stepBy k).sampled = x.sampled := by
  induction k generalizing x with
  | zero => rfl
  | succ k ih => exact ih x.stepPos

theorem sampled_ownPos (x : SafeChan) : x.ownPos.sampled = x.sampled := by
  unfold SafeChan.ownPos
  split
  · exact sampled_stepBy x _
  · rfl

theorem chan_onChan (s : SafeIsland) (n : Bool) (f : SafeChan → SafeChan) : (s.onChan n f).chan n = f (s.chan n) := by cases n <;> rfl

theorem chan_count (s : SafeIsland) (n : Bool) (i : Nat) : (s.count i).chan n = s.chan n := by cases n <;> rfl

theorem chan_countAck (s : SafeIsland) (n : Bool) (i : Nat) : (s.countAck i).chan n = s.chan n := by cases n <;> rfl

theorem chan_starting (s : SafeIsland) (n restart : Bool) : (s.starting n restart).chan n = ((s.chan n).toStarting restart).1 := by
  simp only [SafeIsland.starting]
  split
  · rw [chan_countAck, chan_onChan]
  · rw [chan_onChan]

theorem sampled_ite {s d : SafeIsland} {n : Bool} {p : Prop} [Decidable p] (h : (d.chan n).sampled = (s.chan n).sampled) :
    ((if p then d else s).chan n).sampled = (s.chan n).sampled := by
  split
  · exact h
  · rfl

theorem sampled_ackHeld (s : SafeIsland) (n was : Bool) : ((s.ackHeld n was).chan n).sampled = (s.chan n).sampled := by
  unfold SafeIsland.ackHeld
  extract_lets x d
  have hd : (d.chan n).sampled = (s.chan n).sampled := by
    simp only [d, chan_onChan]
    rfl
  refine sampled_ite ?_
  split
  · rw [chan_countAck, hd]
  · exact hd

theorem sampled_evalKey (s : SafeIsland) (n : Bool) : ((s.evalKey n).chan n).sampled = (s.chan n).sampled := by
  unfold SafeIsland.evalKey
  extract_lets x
  split
  · rfl
  · split
    · rw [chan_onChan, sampled_enter]
    · exact sampled_ite ((congrArg SafeChan.sampled (chan_starting s n true)).trans (sampled_toStarting _ _))

theorem sampled_evalAck (s : SafeIsland) (n : Bool) : ((s.evalAck n).chan n).sampled = (s.chan n).sampled := by
  have hset : ∀ (d : SafeIsland) (st : AckSt), ((d.onChan n fun x => { x with ack := st }).chan n).sampled = (d.chan n).sampled := by
    intro d st
    rw [chan_onChan]
    rfl
  unfold SafeIsland.evalAck
  extract_lets x
  split
  · rfl
  · dsimp only
    split
    · split
      · rfl
      · exact hset s .idle
    · exact sampled_ite (hset s _)
    · split
      · exact hset s .idle
      · split
        · rfl
        · split
          · split
            · rw [chan_count]
              exact hset s .idle
            · exact hset s .idle
          · split
            · rw [chan_onChan]
              exact hset s .idle
            · exact hset s .idle

/-- The last of the samples is what the channel's wires show, and each takes 50 µs of its clock. -/
theorem samples_clk (f : SafeChan → BitVec 16 → SafeChan) (hclk : ∀ x r, (f x r).clk = x.clk + 50) (l : List (BitVec 16)) (x : SafeChan) :
    (l.foldl f x).clk = x.clk + 50 * l.length := by
  induction l generalizing x with
  | nil => rfl
  | cons r l ih =>
    rw [List.foldl_cons, ih, hclk, List.length_cons]
    omega

theorem samples_raw (f : SafeChan → BitVec 16 → SafeChan) (hraw : ∀ x r, (f x r).raw = r) (l : List (BitVec 16)) (x : SafeChan) {r : BitVec 16}
    (h : l.getLast? = some r) : (l.foldl f x).raw = r := by
  obtain ⟨ys, rfl⟩ := List.getLast?_eq_some_iff.mp h
  rw [List.foldl_append, List.foldl_cons, List.foldl_nil, hraw]

theorem samples_reading {α : Type} {g : SafeChan → α} (f : SafeChan → BitVec 16 → SafeChan) (hg : ∀ x r, g (f x r) = g x) (l : List (BitVec 16)) (x : SafeChan) :
    g (l.foldl f x) = g x := by
  induction l generalizing x with
  | nil => rfl
  | cons r l ih => exact (ih _).trans (hg x r)

/-- A sample of the sixteen wires in a channel: its clock goes on by 50 µs (R382). -/
def SafeChan.sampleWires (b : Bytes) (x : SafeChan) (r : BitVec 16) : SafeChan :=
  let t := x.clk + 50
  { x with
    clk := t, raw := r
    ins := x.ins.mapIdx fun i y =>
      let ext := inKind b i == 3
      { y with a := (y.a.sample ext (inDark b i) t (r.getLsbD (2 * i))).settle (inFilter b i) t
               b := (y.b.sample ext (inDark b i) t (r.getLsbD (2 * i + 1))).settle (inFilter b i) t } }

/-- The channel once it has taken its samples and its readbacks. -/
def SafeChan.sense (x : SafeChan) (l : List (BitVec 16)) (rb : BitVec 8) : SafeChan := { l.foldl (SafeChan.sampleWires x.params) x with readback := rb }

theorem sense_clk (x : SafeChan) (l : List (BitVec 16)) (rb : BitVec 8) : (x.sense l rb).clk = x.clk + 50 * l.length := samples_clk _ (by intro x r; rfl) l x
theorem sense_raw (x : SafeChan) {l : List (BitVec 16)} (rb : BitVec 8) {r : BitVec 16} (h : l.getLast? = some r) : (x.sense l rb).raw = r :=
  samples_raw _ (by intro x r; rfl) l x h
theorem sense_state (x : SafeChan) (l : List (BitVec 16)) (rb : BitVec 8) : (x.sense l rb).state = x.state :=
  samples_reading (g := SafeChan.state) _ (by intro x r; rfl) l x
theorem sense_outs (x : SafeChan) (l : List (BitVec 16)) (rb : BitVec 8) : (x.sense l rb).outs = x.outs :=
  samples_reading (g := SafeChan.outs) _ (by intro x r; rfl) l x
theorem sense_set (x : SafeChan) (l : List (BitVec 16)) (rb : BitVec 8) : (x.sense l rb).set = x.set :=
  samples_reading (g := SafeChan.set) _ (by intro x r; rfl) l x
theorem sense_on (x : SafeChan) (l : List (BitVec 16)) (rb : BitVec 8) : (x.sense l rb).on = x.on :=
  samples_reading (g := SafeChan.on) _ (by intro x r; rfl) l x

/-- Without a set an evaluation takes its samples and no more (R382). -/
theorem eval_of_unset {s : SafeIsland} {n : Bool} (l : List (BitVec 16)) (rb : BitVec 8) (hon : (s.chan n).on = true) (hset : (s.chan n).set = none) :
    s.eval n l rb = s.onChan n fun _ => (s.chan n).sense l rb := by
  have hnone : ((s.chan n).sense l rb).set.isNone = true := by rw [sense_set, hset]; rfl
  unfold SafeIsland.eval
  rw [if_neg (by simp [hon])]
  exact if_pos hnone

/-- An evaluation leaves what its samples gave, whatever it computes from them. -/
theorem eval_sampled {s : SafeIsland} {n : Bool} (l : List (BitVec 16)) (rb : BitVec 8) (hon : (s.chan n).on = true) :
    ((s.eval n l rb).chan n).sampled = ((s.chan n).sense l rb).sampled := by
  by_cases hset : (s.chan n).set = none
  · rw [eval_of_unset l rb hon hset, chan_onChan]
  · have hsome : ¬((s.chan n).sense l rb).set.isNone = true := by
      rw [sense_set]
      simpa using hset
    unfold SafeIsland.eval
    rw [if_neg (by simp [hon])]
    refine (congrArg (fun d => SafeChan.sampled (SafeIsland.chan d n)) (if_neg hsome)).trans ?_
    have hjudged : ∀ y : SafeChan, ((if y.state = .running then y.checkBrakes.evalOuts else y.checkBrakes).lapse.compare).sampled = y.sampled := by
      intro y
      rw [sampled_compare, sampled_lapse]
      split
      · exact sampled_evalOuts _
      · rfl
    have hplaced : (if n then (s.chan n).sense l rb else ((s.chan n).sense l rb).ownPos).sampled = ((s.chan n).sense l rb).sampled := by
      split
      · rfl
      · exact sampled_ownPos _
    dsimp only
    rw [chan_onChan, hjudged, sampled_evalAck, sampled_evalKey, sampled_ackHeld, chan_onChan]
    exact hplaced

theorem pulsesSource_of_pulsed {j : Nat} {c : Chip} (h : Ready.pulsed j c) : c.safe.pulsesSource j = true := by
  obtain ⟨hon, hset, hj, hkind, hdue⟩ := h
  rcases hkind with hk | hk <;> simp [SafeIsland.pulsesSource, SafeIsland.sourceLevel, hon, hset, hj, hk, hdue]

end Sys2Proof.Machine

namespace Sys2Proof
open Machine

/-- Settles O43. -/
theorem islandChannelEvents : Obligations.IslandChannelEvents := by
  unfold Obligations.IslandChannelEvents
  refine ⟨fun n l rb => ?_, fun n l rb t s hon hset => ?_, fun n l rb t s hon => ?_, fun n i => ?_, fun j a b => ?_, fun j a b => ?_, fun j a b => ?_, fun k => ?_,
    fun k a b d => ?_, fun n o => ?_, fun at0 => ?_, fun at0 => ?_⟩
  · refine actsAlways_of (safeFunctionEval n l rb) (fun _ _ => rfl) fun c hoff => onSafe_congr ?_
    exact if_pos (by simp [hoff])
  · refine ⟨_, leavesAlways_of (safeFunctionEval n l rb) rfl, ?_⟩
    have hchan : (safeFunctionEval n l rb (s.chip.tick t)).safe.chan n = ((s.chip.tick t).safe.chan n).sense l rb := by
      rw [safeFunctionEval, Chip.onSafe_chan, eval_of_unset l rb hon hset, chan_onChan]
    rw [hchan, Chip.tick_safe]
    exact ⟨sense_clk _ l rb, rfl, fun r hr => sense_raw _ rb hr, sense_state _ l rb, sense_outs _ l rb⟩
  · refine ⟨_, leavesAlways_of (safeFunctionEval n l rb) rfl, ?_⟩
    have hchan : ((safeFunctionEval n l rb (s.chip.tick t)).safe.chan n).sampled = (((s.chip.tick t).safe.chan n).sense l rb).sampled := by
      rw [safeFunctionEval, Chip.onSafe_chan, eval_sampled l rb hon]
    simp only [SafeChan.sampled, Prod.mk.injEq] at hchan
    obtain ⟨hclk, hraw, hrb, hset, hpower⟩ := hchan
    rw [hclk, hraw, hrb, hset, hpower, sense_set, sense_on]
    refine ⟨?_, rfl, fun r hr => sense_raw _ rb hr, ?_, hon⟩
    · rw [sense_clk, Chip.tick_safe]
    · rw [Chip.tick_safe]
  · exact actsAlways_of (discrepancyTimeout n i) (fun _ _ => rfl) fun c _ => rfl
  · refine actsAlways_of (inputTestPulse j a b) (fun _ _ => rfl) fun c ⟨hp, hon, hset⟩ => ?_
    have hpulses := pulsesSource_of_pulsed hp
    have hsafe : (Ready.pulse j c).safe = c.safe := rfl
    rw [inputTestPulse, if_pos hpulses]
    refine onSafe_congr ?_
    rw [hsafe]
    exact (if_neg (by simp [hpulses])).trans (if_pos (by simpa [SafeIsland.count, SafeIsland.onChan] using ⟨hon, hset⟩))
  · refine actsAlways_of (inputTestPulse j a b) (fun _ _ => rfl) fun c ⟨hp, hoff⟩ => ?_
    have hpulses := pulsesSource_of_pulsed hp
    have hsafe : (Ready.pulse j c).safe = c.safe := rfl
    rw [inputTestPulse, if_pos hpulses]
    refine onSafe_congr ?_
    rw [hsafe]
    exact (if_neg (by simp [hpulses])).trans (if_neg (by simp [SafeIsland.count, SafeIsland.onChan, hoff]))
  · refine actsAlways_of (inputTestPulse j a b) (fun _ _ => rfl) fun c hno => ?_
    rw [inputTestPulse, if_neg (by simp [hno])]
    exact onSafe_congr (if_pos (by simp [hno]))
  · refine actsAlways_of (offPulseSlot k ⟨true, true⟩ ⟨true, true⟩ ⟨true, true⟩) (fun _ _ => rfl) fun c hp => ?_
    have hno : ¬(!c.safe.pulses k) = true := by simp [hp]
    simp only [offPulseSlot, if_neg hno]
    refine onSafe_congr ?_
    exact if_neg hno
  · refine actsAlways_of (offPulseSlot k a b d) (fun _ _ => rfl) fun c hp => ?_
    have hyes : (!c.safe.pulses k) = true := by simp [hp]
    simp only [offPulseSlot, if_pos hyes]
    refine onSafe_congr ?_
    exact if_pos hyes
  · refine actsAlways_of (brakeFeedbackDeadline n o) (fun _ _ => rfl) fun c ⟨hset, hfn⟩ => onSafe_congr ?_
    have hdue : (c.safe.chan n).brakeDeadline o = _ := if_pos ⟨hset, hfn⟩
    cases n
    · exact congrArg (fun x => { c.safe with mace := x }) hdue
    · exact congrArg (fun x => { c.safe with nutmeg := x }) hdue
  · refine actsAlways_of (ackStuckTimeout true) (fun _ _ => rfl) fun c hack => onSafe_congr ?_
    simp only [SafeIsland.ackStuck, SafeIsland.chan, if_true, hack]
  · refine actsAlways_of (ackStuckTimeout false) (fun _ _ => rfl) fun c hack => onSafe_congr ?_
    simp only [SafeIsland.ackStuck, SafeIsland.chan, Bool.false_eq_true, if_false, hack]

end Sys2Proof
end

section
/-! The island's states (R376, R377, R394, R399). -/
namespace Sys2Proof.Machine

theorem onChan_chan_same (s : SafeIsland) (n : Bool) (f : SafeChan → SafeChan) : (s.onChan n f).chan n = f (s.chan n) := by cases n <;> rfl

theorem startingComplete_failed {s : SafeIsland} {n : Bool} (h : (s.chan n).state = .starting) : s.startingComplete n false = s.onChan n fun x => x.stop 5 := by
  simp [SafeIsland.startingComplete, h]

theorem startingComplete_differing {s : SafeIsland} {n : Bool} (h : (s.chan n).state = .starting) (hset : s.nutmeg.set ≠ s.mace.set) :
    s.startingComplete n true = s.onChan n fun x => x.stop 3 := by
  simp [SafeIsland.startingComplete, h, hset]

/-- Every source of an input in use has been pulsed: the round is complete (R377). -/
theorem round_complete {x : SafeChan} (h : ∀ j < 16, inKind x.params (j / 2) = 1 ∨ inKind x.params (j / 2) = 2 → x.pulsed.getLsbD j = true) :
    ((List.range 16).all fun j => !(inKind x.params (j / 2) == 1 || inKind x.params (j / 2) == 2) || x.pulsed.getLsbD j) = true := by
  refine List.all_eq_true.mpr fun j hj => ?_
  have hp := h j (List.mem_range.mp hj)
  simp only [Bool.or_eq_true, Bool.not_eq_true', Bool.or_eq_false_iff, beq_eq_false_iff_ne]
  by_cases hk : inKind x.params (j / 2) = 1 ∨ inKind x.params (j / 2) = 2
  · exact .inr (hp hk)
  · exact .inl (not_or.mp hk)

theorem startingComplete_running {s : SafeIsland} {n : Bool} (h : (s.chan n).state = .starting) (hset : s.nutmeg.set = s.mace.set)
    (hround : ∀ j < 16, inKind (s.chan n).params (j / 2) = 1 ∨ inKind (s.chan n).params (j / 2) = 2 → (s.chan n).pulsed.getLsbD j = true) :
    ((s.startingComplete n true).chan n).state = .running := by
  unfold SafeIsland.startingComplete
  extract_lets x b round
  have hdone : round = true := round_complete hround
  rw [if_neg (not_not_intro h), if_neg (by decide), if_neg (not_not_intro hset), if_neg (by simp [hdone]), onChan_chan_same]
  rfl

end Sys2Proof.Machine

namespace Sys2Proof
open Machine

/-- Settles O44. -/
theorem islandLifeEvents : Obligations.IslandLifeEvents := by
  unfold Obligations.IslandLifeEvents
  refine ⟨fun n ok => ?_, fun n t s hst => ?_, fun n t s hst hset => ?_, fun n t s hst hset hround => ?_, ?_, ?_, ?_, ?_, ?_, ?_⟩
  · exact actsAlways_of (startingComplete n ok) (fun _ _ => rfl) fun c hst => onSafe_congr (if_pos hst)
  · have hne : ((s.chip.tick t).safe.chan n).state ≠ .safeStop := by rw [hst]; decide
    have hchan : (startingComplete n false (s.chip.tick t)).safe.chan n = ((s.chip.tick t).safe.chan n).stop 5 := by
      rw [startingComplete, Chip.onSafe_chan, startingComplete_failed hst, onChan_chan_same]
    refine ⟨_, leavesAlways_of (startingComplete n false) rfl, ?_, ?_⟩
    · rw [hchan]
      exact congrArg SafeChan.state (SafeChan.stop_of_ne hne)
    · rw [hchan]
      exact congrArg SafeChan.stopReason (SafeChan.stop_of_ne hne)
  · have hne : ((s.chip.tick t).safe.chan n).state ≠ .safeStop := by rw [hst]; decide
    have hchan : (startingComplete n true (s.chip.tick t)).safe.chan n = ((s.chip.tick t).safe.chan n).stop 3 := by
      rw [startingComplete, Chip.onSafe_chan, startingComplete_differing hst hset, onChan_chan_same]
    refine ⟨_, leavesAlways_of (startingComplete n true) rfl, ?_, ?_⟩
    · rw [hchan]
      exact congrArg SafeChan.state (SafeChan.stop_of_ne hne)
    · rw [hchan]
      exact congrArg SafeChan.stopReason (SafeChan.stop_of_ne hne)
  · refine ⟨_, leavesAlways_of (startingComplete n true) rfl, ?_⟩
    rw [startingComplete, Chip.onSafe_chan]
    exact startingComplete_running hst hset hround
  · exact actsAlways_of companionPowerUp (fun _ _ => rfl) fun c hoff => if_pos hoff
  · refine actsAlways_of companionPowerUp (fun _ _ => rfl) fun c ⟨hoff, hmace⟩ => ?_
    rw [companionPowerUp, if_neg (by simp [hoff])]
    exact onSafe_congr (if_neg (by simp [hmace]))
  · refine actsAlways_of companionPowerUp (fun _ _ => rfl) fun c ⟨hoff, hmace⟩ => ?_
    rw [companionPowerUp, if_neg (by simp [hoff])]
    exact onSafe_congr (if_pos hmace)
  · exact actsAlways_of companionSupplyLow (fun _ _ => rfl) fun c _ => rfl
  · exact actsAlways_of passwordLockoutExpiry (fun _ _ => rfl) fun c _ => rfl
  · exact actsAlways_of authorisationExpiry (fun _ _ => rfl) fun c _ => rfl

end Sys2Proof
end

section
/-! Wake sources (R409, R410, R414). -/
namespace Sys2Proof.Machine

/-- A source that does not wake can only take the place of a cause of lower rank, and only in WAKING (R409). -/
theorem tieWake_of_not_waking {c : Chip} {cause port : Nat} (h : c.clove.state ≠ .waking) : c.tieWake cause port = c := if_neg fun hk => h hk.1

theorem wakeUp_of_not_sleep {c : Chip} {cause port reset : Nat} (h : c.clove.state ≠ .sleep) : c.wakeUp cause port reset = c.tieWake cause port := if_neg h

theorem await_clove (k : Clove) : k.await = { k with waiting := k.await.waiting, waited := k.await.waited } := rfl

theorem countRetries_clove (c : Chip) : c.countRetries.clove = { c.clove with counted := c.countRetries.clove.counted, retries := c.countRetries.clove.retries } := by
  unfold Chip.countRetries
  split
  · rfl
  · split <;> rfl

theorem saveTimes_clove (c : Chip) : c.saveTimes.clove = c.clove := by
  unfold Chip.saveTimes
  split <;> rfl

/-- A wake in SLEEP starts WAKING with its cause, its port and the reset's cause (R409). -/
theorem wakeUp_clove {c : Chip} {cause port reset : Nat} (h : c.clove.state = .sleep) :
    (c.wakeUp cause port reset).clove.state = .waking ∧ (c.wakeUp cause port reset).clove.wakeCause = cause ∧ (c.wakeUp cause port reset).clove.wakePort = port ∧
      (c.wakeUp cause port reset).clove.resetCause = reset ∧ (c.wakeUp cause port reset).clove.latched = false := by
  let woken := c.onClove fun k => { k with
    state := .waking, wakeCause := cause, wakePort := port, wokenAt := some c.clk.now, resetCause := reset, latched := false, challenged := false, companionOff := false }
  have hclove : (c.wakeUp cause port reset).clove = woken.countRetries.clove.await := by
    rw [Chip.wakeUp, if_pos h]
    exact saveTimes_clove _
  rw [hclove, await_clove, countRetries_clove]
  exact ⟨rfl, rfl, rfl, rfl, rfl⟩

end Sys2Proof.Machine

namespace Sys2Proof
open Machine

/-- Settles O45. -/
theorem wakeEvents : Obligations.WakeEvents := by
  unfold Obligations.WakeEvents
  refine ⟨fun rear => ?_, fun rear => ?_, fun rear => ?_, fun rear d => ?_, ?_, ?_, fun n => ?_, fun n => ?_, fun n => ?_, fun p => ?_, fun p => ?_, fun p => ?_, ?_,
    fun t s hafter hst => ?_, ?_, ?_⟩
  · refine actsAlways_of (trainWakePulseDetect rear) (fun _ _ => rfl) fun c h => if_pos ?_
    simpa only [Bool.not_eq_true'] using h
  · refine actsAlways_of (trainWakePulseDetect rear) (fun _ _ => rfl) fun c ⟨hpow, hwake, h⟩ => ?_
    simp only [trainWakePulseDetect, hpow, hwake, Bool.not_true, Bool.false_eq_true, or_self, if_false, if_pos h]
  · refine actsAlways_of (trainWakePulseDetect rear) (fun _ _ => rfl) fun c ⟨hpow, hdrive, href, hwake, hst⟩ => ?_
    simp only [trainWakePulseDetect, hpow, hwake, hdrive, Nat.not_lt.mpr href, Bool.not_true, Bool.false_eq_true, or_self, if_false, hst, if_true]
  · refine actsAlways_of (trainWakePulseDetect rear) (fun _ _ => rfl) fun c ⟨hpow, hdrive, href, hwake, hst, hd⟩ => ?_
    rw [← hd]
    simp only [trainWakePulseDetect, hpow, hwake, hdrive, Nat.not_lt.mpr href, Bool.not_true, Bool.false_eq_true, or_self, if_false, hst]
  · exact actsAlways_of wakePulseEnd (fun _ _ => rfl) fun c hd => if_pos hd
  · exact actsAlways_of wakePulseEnd (fun _ _ => rfl) fun c hd => if_neg (by simp [hd])
  · exact actsAlways_of (canWakeDetect n) (fun _ _ => rfl) fun c ⟨hw, _⟩ => if_pos hw
  · refine actsAlways_of (canWakeDetect n) (fun _ _ => rfl) fun c ⟨hw, hst⟩ => ?_
    rw [canWakeDetect, if_pos hw, wakeUp_of_not_sleep hst]
  · refine actsAlways_of (canWakeDetect n) (fun _ _ => rfl) fun c h => ?_
    unfold canWakeDetect
    split
    next hw =>
      obtain ⟨hs, hwk⟩ := h.resolve_left (by simp [hw])
      rw [wakeUp_of_not_sleep hs, tieWake_of_not_waking hwk, id]
    · rfl
  · refine actsAlways_of (carbusWakeDetect p) (fun _ _ => rfl) fun c ⟨hw, hst⟩ => ?_
    rw [carbusWakeDetect, if_pos hw, if_pos hst]
  · refine actsAlways_of (carbusWakeDetect p) (fun _ _ => rfl) fun c ⟨hw, hst⟩ => ?_
    rw [carbusWakeDetect, if_pos hw, if_neg hst]
  · exact actsAlways_of (carbusWakeDetect p) (fun _ _ => rfl) fun c hw => if_neg (by simp [hw])
  · exact actsAlways_of wakeAfterExpiry (fun _ _ => rfl) fun c ⟨ha, _⟩ => if_neg ha
  · have hleft : wakeAfterExpiry (s.chip.tick t) = (s.chip.tick t).wakeUp 5 0xFF 1 := if_neg hafter
    refine ⟨_, leavesAlways_of wakeAfterExpiry rfl, ?_⟩
    rw [hleft]
    exact wakeUp_clove hst
  · exact actsAlways_of falseWakeTimeout (fun _ _ => rfl) fun c hc => if_pos hc
  · exact actsAlways_of falseWakeTimeout (fun _ _ => rfl) fun c hc => if_neg (by simp [hc])

end Sys2Proof
end

section
/-! The train sleep agreement (R415 to R417). -/
namespace Sys2Proof.Machine

theorem sleepRx_of_taken {p : Nat} {raw : Sourced} {m : LeaseMsg} {c : Chip} (h : Ready.sleepMsg p raw m c) (k : Chip → LeaseMsg → Chip) : c.sleepRx p raw k = k c m := by
  obtain ⟨hroll, hup, hparse, hrole⟩ := h
  simp only [Chip.sleepRx, hroll, hup, Bool.not_true, Bool.or_self, Bool.false_eq_true, if_false, hparse, if_pos hrole]

/-- A copy heard for the first time is worked on. -/
theorem hearLease_first {c d : Chip} {p : Nat} {raw : Sourced} {m : LeaseMsg} {k : Chip → Chip} (h : Ready.leaseCopy p raw c = (true, d)) :
    c.hearLease p raw m false true k = k d := by
  simp [Chip.hearLease, h]

/-- A telegram that others than this node hear too is relayed before its copy is checked. -/
theorem hearLease_relayed {c d : Chip} {p : Nat} {raw : Sourced} {m : LeaseMsg} {k : Chip → Chip} {first : Bool}
    (h : Ready.leaseCopy p raw (c.relayLease p raw.outer m) = (first, d)) : c.hearLease p raw m true true k = if first then k d else d := by
  simp [Chip.hearLease, h]

/-- A telegram for another node is relayed and no more. -/
theorem hearLease_passing (c : Chip) (p : Nat) (raw : Sourced) (m : LeaseMsg) (k : Chip → Chip) :
    c.hearLease p raw m true false k = c.relayLease p raw.outer m := rfl

end Sys2Proof.Machine

namespace Sys2Proof
open Machine

/-- Settles O46. -/
theorem sleepAgreementEvents : Obligations.SleepAgreementEvents := by
  unfold Obligations.SleepAgreementEvents
  refine ⟨?_, ?_, fun p raw m d => ?_, fun p raw m d => ?_, fun p raw m => ?_, fun p raw m => ?_, ?_, ?_, ?_, fun p raw m d => ?_, fun p raw m d => ?_, fun p raw m => ?_,
    fun p raw m d g => ?_, fun p raw m d g => ?_, fun p raw m d g => ?_, fun p raw m d => ?_, fun p raw m d => ?_⟩
  · exact acts_of sleepVoteTimer (fun _ _ => rfl) fun c _ ⟨hroll, hvotes, hlead⟩ => if_pos (by rw [hroll, hvotes, hlead]; rfl)
  · exact acts_of sleepVoteTimer (fun _ _ => rfl) fun c _ h => if_neg (by rcases h with h | h | h <;> simp [h])
  · refine acts_of (sleepVoteRx p raw) (fun _ _ => rfl) fun c _ ⟨hmsg, hreq, hexp, hlead, hepoch, hrel, hcopy⟩ => ?_
    have hgo : ¬((!m.request) = true ∨ m.expiry ≠ 0) := by simp [hreq, hexp]
    rw [sleepVoteRx, sleepRx_of_taken hmsg, if_neg hgo, hlead, hepoch, beq_self_eq_true, Bool.and_self, Bool.not_true, hearLease_first hcopy]
    simp only [hrel, if_true]
    rfl
  · refine acts_of (sleepVoteRx p raw) (fun _ _ => rfl) fun c _ ⟨hmsg, hreq, hexp, hlead, hepoch, hrel, hcopy, hnew⟩ => ?_
    have hgo : ¬((!m.request) = true ∨ m.expiry ≠ 0) := by simp [hreq, hexp]
    rw [sleepVoteRx, sleepRx_of_taken hmsg, if_neg hgo, hlead, hepoch, beq_self_eq_true, Bool.and_self, Bool.not_true, hearLease_first hcopy]
    simp only [hrel, hnew, Bool.false_eq_true, if_false]
    rfl
  · refine acts_of (sleepVoteRx p raw) (fun _ _ => rfl) fun c _ ⟨hmsg, hreq, hexp, hlead⟩ => ?_
    have hgo : ¬((!m.request) = true ∨ m.expiry ≠ 0) := by simp [hreq, hexp]
    rw [sleepVoteRx, sleepRx_of_taken hmsg, if_neg hgo, hlead, Bool.false_and, Bool.not_false, hearLease_passing]
  · refine acts_of (sleepVoteRx p raw) (fun _ _ => rfl) fun c _ ⟨hmsg, hreq, hexp, hlead, hepoch⟩ => ?_
    have hgo : ¬((!m.request) = true ∨ m.expiry ≠ 0) := by simp [hreq, hexp]
    rw [sleepVoteRx, sleepRx_of_taken hmsg, if_neg hgo, hlead, beq_eq_false_iff_ne.mpr hepoch]
    rfl
  · exact acts_of sleepVoteExpiry (fun _ _ => rfl) fun c _ _ => rfl
  · refine acts_of sleepGrantIssue (fun _ _ => rfl) fun c _ ⟨hroll, hlead, htime, hst, habort, hgrant, hawake, hn, hall⟩ => ?_
    have hrun : (!(c.rc.state == .settled || c.rc.state == .held)) = false := by rcases hst with h | h <;> simp [h]
    simp only [sleepGrantIssue, hroll, hlead, htime, hrun, habort, hgrant, hawake, hn, hall, Bool.not_true, Bool.false_eq_true, Option.isSome_none, ne_eq, not_true_eq_false,
      or_self, if_false]
  · refine acts_of sleepGrantIssue (fun _ _ => rfl) fun c _ h => if_pos ?_
    rcases h with h | h | h <;> simp only [h, Bool.not_false, true_or, or_true]
  · refine acts_of (sleepGrantRx p raw) (fun _ _ => rfl) fun c _ ⟨hmsg, hreq, hrel, hcopy⟩ => ?_
    have hgo : ¬(m.request = true ∨ m.release = true) := by simp [hreq, hrel]
    rw [sleepGrantRx, sleepRx_of_taken hmsg, if_neg hgo, hearLease_relayed hcopy]
    rfl
  · refine acts_of (sleepGrantRx p raw) (fun _ _ => rfl) fun c _ ⟨hmsg, hreq, hrel, hcopy⟩ => ?_
    have hgo : ¬(m.request = true ∨ m.release = true) := by simp [hreq, hrel]
    rw [sleepGrantRx, sleepRx_of_taken hmsg, if_neg hgo, hearLease_relayed hcopy]
    rfl
  · refine acts_of (abortRequestRx p raw) (fun _ _ => rfl) fun c _ ⟨hmsg, hreq, hrel, hexp, hlead⟩ => ?_
    have hgo : ¬((!m.request) = true ∨ (!m.release) = true ∨ m.expiry = 0) := by simp [hreq, hrel, hexp]
    rw [abortRequestRx, sleepRx_of_taken hmsg, if_neg hgo, hlead, Bool.not_false, hearLease_passing]
  · refine acts_of (abortRequestRx p raw) (fun _ _ => rfl) fun c _ ⟨hmsg, hreq, hrel, hexp, hlead, hcopy, hgrant, hmatch⟩ => ?_
    have hgo : ¬((!m.request) = true ∨ (!m.release) = true ∨ m.expiry = 0) := by simp [hreq, hrel, hexp]
    rw [abortRequestRx, sleepRx_of_taken hmsg, if_neg hgo, hlead, Bool.not_true, hearLease_first hcopy]
    simp only [hgrant, if_pos hmatch]
  · refine acts_of (abortRequestRx p raw) (fun _ _ => rfl) fun c _ ⟨hmsg, hreq, hrel, hexp, hlead, hcopy, hgrant, hmiss⟩ => ?_
    have hgo : ¬((!m.request) = true ∨ (!m.release) = true ∨ m.expiry = 0) := by simp [hreq, hrel, hexp]
    have hmatch : ¬(m.epoch = d.epoch ∧ m.expiry = g.sleep ∧ m.start < g.commit) := by
      rintro ⟨he, hx, hs⟩
      rcases hmiss with h | h | h
      · exact h he
      · exact h hx
      · omega
    rw [abortRequestRx, sleepRx_of_taken hmsg, if_neg hgo, hlead, Bool.not_true, hearLease_first hcopy]
    simp only [hgrant, if_neg hmatch]
  · refine acts_of (sleepAbortRx p raw) (fun _ _ => rfl) fun c _ ⟨hmsg, hreq, hrel, hcopy, hgrant⟩ => ?_
    have hgo : ¬(m.request = true ∨ (!m.release) = true) := by simp [hreq, hrel]
    rw [sleepAbortRx, sleepRx_of_taken hmsg, if_neg hgo, hearLease_relayed hcopy]
    simp only [if_true, hgrant]
  · refine acts_of (sleepAbortRx p raw) (fun _ _ => rfl) fun c _ ⟨hmsg, hreq, hrel, hcopy, hgrant⟩ => ?_
    have hgo : ¬(m.request = true ∨ (!m.release) = true) := by simp [hreq, hrel]
    rw [sleepAbortRx, sleepRx_of_taken hmsg, if_neg hgo, hearLease_relayed hcopy]
    simp only [if_true, hgrant]
  · refine acts_of (sleepAbortRx p raw) (fun _ _ => rfl) fun c _ ⟨hmsg, hreq, hrel, hcopy⟩ => ?_
    have hgo : ¬(m.request = true ∨ (!m.release) = true) := by simp [hreq, hrel]
    rw [sleepAbortRx, sleepRx_of_taken hmsg, if_neg hgo, hearLease_relayed hcopy]
    rfl

end Sys2Proof
end

section
/-! The way into SLEEP (R406, R412, R419, R426, R35, R445). -/
namespace Sys2Proof.Machine

theorem countRetries_outside (c : Chip) : c.countRetries = { c with clove := c.countRetries.clove } := by
  unfold Chip.countRetries
  split
  · rfl
  · split <;> rfl

theorem saveTimes_of_failed {c : Chip} (h : c.log.state = .failed) : c.saveTimes = c := if_pos h

theorem saveTimes_of_storing {c : Chip} (h : c.log.state ≠ .failed) :
    c.saveTimes = c.onLog fun r => { r with savedOp := r.opTime c.clk.now, savedAwake := r.awakeTime c.clk.now } := if_neg h

/-- In PREPARE the fail-safe path discards what waits for the recorder and switches off (R412). -/
theorem failSafePath_of_prepare {c : Chip} (h : c.clove.state = .prepare) :
    c.failSafePath = (c.onQm fun m => m.upd 60 fun a => { a with entries := [] }).switchOff true := by
  rw [Chip.failSafePath, if_pos h]

theorem mainReset_clove (c : Chip) (cause : Nat) :
    (c.mainReset cause).clove.resetCause = cause ∧ (c.mainReset cause).clove.latched = false ∧ (c.mainReset cause).clove.nrstHigh = c.clove.nrstHigh ∧
      (c.mainReset cause).clove.refRunning = c.clove.refRunning := by
  have hdown : ∀ d : Chip, d.mainDown.clove = d.clove := fun _ => rfl
  have hreset : (c.mainReset cause).clove = { c.countRetries.mainDown.clove.await with
      resetCause := cause, state := if c.countRetries.mainDown.clove.state = .waking then .waking else .awake, countdown := none, switching := false, latched := false,
      challenged := false } := rfl
  have hretry : c.countRetries.clove.nrstHigh = c.clove.nrstHigh ∧ c.countRetries.clove.refRunning = c.clove.refRunning := by
    unfold Chip.countRetries
    split
    · exact ⟨rfl, rfl⟩
    · split <;> exact ⟨rfl, rfl⟩
  rw [hreset, hdown]
  exact ⟨rfl, rfl, hretry⟩

theorem mainReset_fuses (c : Chip) (cause : Nat) : (c.mainReset cause).fuses = c.fuses := by
  show c.countRetries.fuses = c.fuses
  rw [countRetries_outside]

theorem mainReset_mainDie (c : Chip) (cause : Nat) : (c.mainReset cause).mainDie = false := rfl

/-- An answer to Clove's challenge is healthy (R445). -/
theorem healthy_iff (k : Clove) (a : Option Nat) : k.healthy a = true ↔ k.challenged = false ∨ ∃ n, a = some n ∧ n % 65536 = (k.challenge + 1) % 65536 := by
  cases a <;> simp [Clove.healthy]

/-- The chip once SLEEP has been entered, but for a wake that was latched meanwhile (R406). -/
theorem sleepEntryComplete_enters {c : Chip} (hst : c.clove.state = .prepare) (hsw : c.clove.switching = true) (hl : c.clove.latched = false) :
    (sleepEntryComplete c).clove.state = .sleep ∧ (sleepEntryComplete c).clove.switching = false ∧ (sleepEntryComplete c).clove.sleptAt = c.clk.now ∧
      (sleepEntryComplete c).mainDie = false ∧ (sleepEntryComplete c).fuses = c.fuses ∧ (sleepEntryComplete c).pwr.config = c.pwr.config := by
  unfold sleepEntryComplete
  rw [if_pos ⟨hst, hsw⟩]
  extract_lets latched active down companion slept done
  have hcompanion : companion.clk = c.clk ∧ companion.boot = down.boot ∧ companion.fuses = c.fuses ∧ companion.pwr = down.pwr := by
    simp only [companion]
    split
    · exact ⟨rfl, rfl, rfl, rfl⟩
    · exact ⟨Chip.onSafe_clk _ _, Chip.onSafe_boot _ _, Chip.onSafe_fuses _ _, Chip.onSafe_pwr _ _⟩
  obtain ⟨hclk, hboot, hfuses, hpwr⟩ := hcompanion
  rw [if_neg (show ¬latched = true by simp [latched, hl])]
  have hslept : slept.clk = companion.clk ∧ slept.boot = companion.boot ∧ slept.fuses = companion.fuses ∧ slept.pwr.config = companion.pwr.config := ⟨rfl, rfl, rfl, rfl⟩
  obtain ⟨sclk, sboot, sfuses, spwr⟩ := hslept
  have hdone : done.clove.state = .sleep ∧ done.clove.switching = false ∧ done.clove.sleptAt = slept.clk.now ∧ done.boot = slept.boot ∧ done.fuses = slept.fuses ∧
      done.pwr.config = slept.pwr.config := ⟨rfl, rfl, rfl, rfl, rfl, rfl⟩
  obtain ⟨hstate, hswitch, hat, dboot, dfuses, dpwr⟩ := hdone
  refine ⟨hstate, hswitch, ?_, ?_, ?_, ?_⟩
  · rw [hat, sclk, hclk]
  · rw [Chip.mainDie, dboot, sboot, hboot]
    rfl
  · rw [dfuses, sfuses, hfuses]
  · rw [dpwr, spwr, hpwr]
    rfl

end Sys2Proof.Machine

namespace Sys2Proof
open Machine

/-- Settles O47. -/
theorem sleepEntryEvents : Obligations.SleepEntryEvents := by
  unfold Obligations.SleepEntryEvents
  refine ⟨fun g => ?_, fun g => ?_, ?_, ?_, ?_, ?_, ?_, ?_, ?_, fun t s hst hsw hl => ?_, fun t s hpow hst => ?_, ?_, healthy_iff, fun a => ?_, fun a => ?_, fun a => ?_,
    fun a => ?_, fun a => ?_, ?_, ?_⟩
  · refine acts_of sleepInstant (fun _ _ => rfl) fun c _ ⟨hg, hst⟩ => ?_
    simp only [sleepInstant, hg, hst]
  · refine acts_of sleepInstant (fun _ _ => rfl) fun c _ ⟨hg, hst, hasked⟩ => ?_
    simp only [sleepInstant, hg, hst, hasked, if_true]
  · refine acts_of sleepInstant (fun _ _ => rfl) fun c _ hg => ?_
    simp only [sleepInstant, hg, id]
  · exact actsAlways_of cloveCountdownExpiry (fun _ _ => rfl) fun c h => if_pos h
  · refine actsAlways_of cloveCountdownExpiry (fun _ _ => rfl) fun c h => if_neg ?_
    rcases h with h | h <;> simp [h]
  · refine actsAlways_of sleepReady (fun _ _ => rfl) fun c ⟨hst, hsw, hfw, hready⟩ => if_pos ?_
    exact ⟨hst, by simp [hsw], hfw, by simpa only [Bool.not_eq_true'] using hready⟩
  · refine actsAlways_of sleepReady (fun _ _ => rfl) fun c h => if_neg ?_
    rintro ⟨hst, hsw, hfw, hready⟩
    rcases h with h | h | h | ⟨hplan, hon⟩
    · exact h hst
    · rw [h] at hsw
      exact absurd hsw (by decide)
    · rw [h] at hfw
      exact absurd hfw (by decide)
    · rw [hon] at hready
      exact hready.elim (by omega) (by decide)
  · refine actsAlways_of prepareFailsafeTimeout (fun _ _ => rfl) fun c ⟨hst, hsw⟩ => ?_
    rw [prepareFailsafeTimeout, if_pos ⟨hst, by simp [hsw]⟩, failSafePath_of_prepare hst]
  · refine actsAlways_of prepareFailsafeTimeout (fun _ _ => rfl) fun c h => if_neg ?_
    rcases h with h | h <;> simp [h]
  · obtain ⟨h1, h2, h3, h4, h5, h6⟩ := sleepEntryComplete_enters hst hsw hl
    refine ⟨_, leavesAlways_of sleepEntryComplete rfl, h1, h2, ?_, h4, ?_, ?_⟩
    · rw [h3, Chip.tick_now]
    · rw [h5, Chip.tick_fuses]
    · rw [h6, Chip.tick_pwr]
  · have hleft : referenceLost (s.chip.tick t) = (((s.chip.tick t).onClove fun k => { k with refRunning := false }).mainReset 3).onClove fun k => { k with refLost := true } := by
      simp only [referenceLost, Chip.onClove_clove, hpow, hst]
    obtain ⟨hcause, -, -, href⟩ := mainReset_clove ((s.chip.tick t).onClove fun k => { k with refRunning := false }) 3
    refine ⟨_, leavesAlways_of referenceLost rfl, ?_⟩
    rw [hleft]
    exact ⟨href, rfl, hcause, rfl⟩
  · exact actsAlways_of referenceReturn (fun _ _ => rfl) fun c _ => rfl
  · refine actsAlways_of (healthChallenge a) (fun _ _ => rfl) fun c ⟨hfw, hok⟩ => ?_
    simp only [healthChallenge, hfw, hok, Bool.not_true, Bool.false_eq_true, if_false, if_true]
  · refine actsAlways_of (healthChallenge a) (fun _ _ => rfl) fun c ⟨hfw, hbad, hst⟩ => ?_
    rcases hst with hst | hst | hst <;>
      simp only [healthChallenge, hfw, hbad, Bool.not_true, Bool.false_eq_true, if_false, Chip.onClove_clove, Chip.onRc_clove, hst]
  · refine actsAlways_of (healthChallenge a) (fun _ _ => rfl) fun c ⟨hfw, hbad, hst⟩ => ?_
    simp only [healthChallenge, hfw, hbad, Bool.not_true, Bool.false_eq_true, if_false, Chip.onClove_clove, Chip.onRc_clove, hst]
  · refine actsAlways_of (healthChallenge a) (fun _ _ => rfl) fun c ⟨hfw, hbad, hst⟩ => ?_
    simp only [healthChallenge, hfw, hbad, Bool.not_true, Bool.false_eq_true, if_false, Chip.onClove_clove, Chip.onRc_clove, hst]
  · exact actsAlways_of (healthChallenge a) (fun _ _ => rfl) fun c hfw => if_pos (by simp [hfw])
  · refine actsAlways_of optimeSave (fun _ _ => rfl) fun c h => ?_
    unfold optimeSave
    split
    next hk =>
      obtain ⟨hpow, hst⟩ := hk
      rcases h with h | h | h
      · rw [h] at hpow
        exact absurd hpow (by decide)
      · exact absurd h hst
      · exact saveTimes_of_failed h
    · rfl
  · refine actsAlways_of optimeSave (fun _ _ => rfl) fun c ⟨hpow, hst, hlog⟩ => ?_
    rw [optimeSave, if_pos ⟨hpow, hst⟩, saveTimes_of_storing hlog]

end Sys2Proof
end

section
/-! Relations of two chips: what a function leaves of the fuses, of the safety island and of what firmware's work after a command leaves alone. -/
namespace Sys2Proof.Machine

/-- `b` has the fuses and the two channels of the safety island of `a`. -/
abbrev Chip.Spares (a b : Chip) : Prop := b.fuses = a.fuses ∧ b.safe.nutmeg = a.safe.nutmeg ∧ b.safe.mace = a.safe.mace

/-- `b` has the fuses, the island and the start state of `a`. -/
abbrev Chip.Core (a b : Chip) : Prop := b.fuses = a.fuses ∧ b.safe = a.safe ∧ b.boot = a.boot

/-- What firmware leaves alone in what it does after a command: the fuses, the island, the tiles, the start state, the car bus, CAN, the router, the memory
controller, what is stored and the instant. -/
abbrev Chip.Firm (a b : Chip) : Prop :=
  b.fuses = a.fuses ∧ b.safe = a.safe ∧ b.tiles = a.tiles ∧ b.boot = a.boot ∧ b.cb = a.cb ∧ b.can = a.can ∧ b.rt = a.rt ∧ b.mem = a.mem ∧ b.stored = a.stored ∧
    b.clk.now = a.clk.now

theorem Chip.Spares.refl (a : Chip) : a.Spares a := ⟨rfl, rfl, rfl⟩
theorem Chip.Spares.trans {a b c : Chip} (h : a.Spares b) (k : b.Spares c) : a.Spares c := ⟨k.1.trans h.1, k.2.1.trans h.2.1, k.2.2.trans h.2.2⟩
theorem Chip.Core.refl (a : Chip) : a.Core a := ⟨rfl, rfl, rfl⟩
theorem Chip.Core.trans {a b c : Chip} (h : a.Core b) (k : b.Core c) : a.Core c := ⟨k.1.trans h.1, k.2.1.trans h.2.1, k.2.2.trans h.2.2⟩
theorem Chip.Core.spares {a b : Chip} (h : a.Core b) : a.Spares b := ⟨h.1, by rw [h.2.1], by rw [h.2.1]⟩
theorem Chip.Firm.core {a b : Chip} (h : a.Firm b) : a.Core b := ⟨h.1, h.2.1, h.2.2.2.1⟩
theorem Chip.Firm.refl (a : Chip) : a.Firm a := by simp [Chip.Firm]
theorem Chip.Firm.trans {a b c : Chip} (h : a.Firm b) (k : b.Firm c) : a.Firm c := by simp_all [Chip.Firm]
theorem Chip.Firm.spares {a b : Chip} (h : a.Firm b) : a.Spares b := ⟨h.1, by rw [h.2.1], by rw [h.2.1]⟩
theorem Chip.Reports.firm {a b : Chip} (h : Chip.Reports a b) : a.Firm b :=
  ⟨h.fuses, h.safe, h.tiles, h.boot, h.cb, h.can, h.rt, h.mem, h.stored, by rw [h.clk]⟩
theorem Chip.Sends.firm {a b : Chip} (h : Chip.Sends a b) : a.Firm b :=
  ⟨h.fuses, h.safe, h.tiles, h.boot, h.cb, h.can, h.rt, h.mem, h.stored, h.now⟩

/-- A relation of two chips that a sequence of steps composes and that steps which leave the fuses and the channels of the island meet. -/
structure KeepsMore (R : Chip → Chip → Prop) : Prop where
  of_spares : ∀ {a b : Chip}, a.Spares b → R a b
  trans : ∀ {a b c : Chip}, R a b → R b c → R a c

theorem KeepsMore.refl {R : Chip → Chip → Prop} (hR : KeepsMore R) (a : Chip) : R a a := hR.of_spares (.refl a)

theorem Chip.spares_foldl {α : Type} (f : Chip → α → Chip) (h : ∀ (c : Chip) x, c.Spares (f c x)) (l : List α) (c : Chip) : c.Spares (l.foldl f c) := by
  induction l generalizing c with
  | nil => exact .refl c
  | cons x l ih => exact (h c x).trans (ih _)
theorem Chip.core_foldl {α : Type} (f : Chip → α → Chip) (h : ∀ (c : Chip) x, c.Core (f c x)) (l : List α) (c : Chip) : c.Core (l.foldl f c) := by
  induction l generalizing c with
  | nil => exact .refl c
  | cons x l ih => exact (h c x).trans (ih _)
theorem Chip.firm_foldl {α : Type} (f : Chip → α → Chip) (h : ∀ (c : Chip) x, c.Firm (f c x)) (l : List α) (c : Chip) : c.Firm (l.foldl f c) := by
  induction l generalizing c with
  | nil => exact .refl c
  | cons x l ih => exact (h c x).trans (ih _)

/-- The same for a loop that gathers values beside the chip. -/
theorem Chip.spares_foldl_snd {α β : Type} (f : β × Chip → α → β × Chip) (h : ∀ (s : β × Chip) x, s.2.Spares (f s x).2) (l : List α) (s : β × Chip) : s.2.Spares (l.foldl f s).2 := by
  induction l generalizing s with
  | nil => exact .refl s.2
  | cons x l ih => exact (h s x).trans (ih _)

section ite
variable (p : Prop) [Decidable p] (s t : SafeIsland)
@[simp] theorem SafeIsland.nutmeg_ite : (if p then s else t).nutmeg = if p then s.nutmeg else t.nutmeg := apply_ite _ _ _ _
@[simp] theorem SafeIsland.mace_ite : (if p then s else t).mace = if p then s.mace else t.mace := apply_ite _ _ _ _
end ite

section ite
variable (p : Prop) [Decidable p] (a b : Chip)
@[simp] theorem Chip.fuses_ite : (if p then a else b).fuses = if p then a.fuses else b.fuses := apply_ite _ _ _ _
@[simp] theorem Chip.safe_ite : (if p then a else b).safe = if p then a.safe else b.safe := apply_ite _ _ _ _
@[simp] theorem Chip.tiles_ite : (if p then a else b).tiles = if p then a.tiles else b.tiles := apply_ite _ _ _ _
@[simp] theorem Chip.boot_ite : (if p then a else b).boot = if p then a.boot else b.boot := apply_ite _ _ _ _
@[simp] theorem Chip.cb_ite : (if p then a else b).cb = if p then a.cb else b.cb := apply_ite _ _ _ _
@[simp] theorem Chip.can_ite : (if p then a else b).can = if p then a.can else b.can := apply_ite _ _ _ _
@[simp] theorem Chip.rt_ite : (if p then a else b).rt = if p then a.rt else b.rt := apply_ite _ _ _ _
@[simp] theorem Chip.mem_ite : (if p then a else b).mem = if p then a.mem else b.mem := apply_ite _ _ _ _
@[simp] theorem Chip.stored_ite : (if p then a else b).stored = if p then a.stored else b.stored := apply_ite _ _ _ _
@[simp] theorem Chip.now_ite : (if p then a else b).clk.now = if p then a.clk.now else b.clk.now := apply_ite (fun c : Chip => c.clk.now) _ _ _
end ite

section ite
variable (p : Prop) [Decidable p] (a b : Reply)
@[simp] theorem Reply.chip_ite : (if p then a else b).chip = if p then a.chip else b.chip := apply_ite _ _ _ _
end ite

@[simp] theorem Chip.chip_ok (c : Chip) (payload : Bytes) : (c.ok payload).chip = c := rfl
@[simp] theorem Chip.chip_refuse (c : Chip) (status detail : Nat) : (c.refuse status detail).chip = c := rfl

end Sys2Proof.Machine
end

section
/-! The directory, the telegrams, the leases, the roll-call and the backbone: what their functions leave of the fuses and of the channels of the safety island. -/
namespace Sys2Proof.Machine

@[simp] theorem Chip.firm_emits (c : Chip) (os : List Output) : c.Firm (c.emits os) := by
  refine Chip.firm_foldl _ (fun c x => ?_) _ _
  simp [Chip.Firm]

@[simp] theorem Chip.spares_drawBytes (c : Chip) (n : Nat) : c.Spares (c.drawBytes n).2 := by
  induction n generalizing c with
  | zero => exact .refl c
  | succ n ih => exact Chip.Spares.trans (by simp [Chip.Spares]) (ih c.draw.2)

@[simp] theorem Chip.firm_macCountBy (c : Chip) (p i n : Nat) : c.Firm (c.macCountBy p i n) := by simp [Chip.Firm, Chip.macCountBy]
@[simp] theorem Chip.firm_macCount (c : Chip) (p i : Nat) : c.Firm (c.macCount p i) := by simp [Chip.Firm, Chip.macCount]
@[simp] theorem Chip.firm_macSent (c : Chip) (p len : Nat) : c.Firm (c.macSent p len) := by simp [Chip.Firm, Chip.macSent]
@[simp] theorem Chip.firm_sendMsi (c : Chip) (v : Nat) : c.Firm (c.sendMsi v) := by simp [Chip.Firm, Chip.sendMsi]
@[simp] theorem Chip.firm_evalConds (c : Chip) : c.Firm c.evalConds := c.reports_evalConds.firm
@[simp] theorem Chip.firm_logCountBy (c : Chip) (i n : Nat) : c.Firm (c.logCountBy i n) := by simp [Chip.Firm, Chip.logCountBy]
@[simp] theorem Chip.firm_logCount (c : Chip) (i : Nat) : c.Firm (c.logCount i) := by simp [Chip.Firm, Chip.logCount]
@[simp] theorem Chip.firm_intake (c : Chip) (r : Bytes) : c.Firm (c.intake r).1 := (c.reports_intake r).firm

@[simp] theorem Chip.spares_raiseKeyed (c : Chip) (e key kind arg detail period : Nat) : c.Spares (c.raiseKeyed e key kind arg detail period) := by
  simp [Chip.Spares, Chip.raiseKeyed]

@[simp] theorem Chip.core_setMatrix (c : Chip) (n s : Nat) : c.Core (c.setMatrix n s) := by simp [Chip.Core, Chip.setMatrix]

@[simp] theorem Chip.core_matricesFree (c : Chip) : c.Core c.matricesFree := by
  refine Chip.core_foldl _ (fun c x => ?_) _ _
  simp [Chip.Core]

theorem Cmd.keeps_run {R : Chip → Chip → Prop} (hR : KeepsMore R) {m : Cmd} (hm : ∀ (c : Chip) r, R c (m.act c r).chip) (c : Chip) (r : Bytes) : R c (m.run c r).chip := by
  unfold Cmd.run
  split
  · exact hR.refl c
  · split
    · exact hR.refl c
    · exact hm c r

@[simp] theorem Chip.core_onMb (c : Chip) (n : Nat) (f : Mailbox → Mailbox) : c.Core (c.onMb n f) := by simp [Chip.Core, Chip.onMb]

@[simp] theorem Chip.core_complete (c : Chip) (n status detail : Nat) (payload : Bytes) : c.Core (c.complete n status detail payload) := by
  simp [Chip.Core, Chip.complete]

theorem Reply.keeps_settle {R : Chip → Chip → Prop} (hR : KeepsMore R) {c : Chip} {r : Reply} (h : R c r.chip) (n : Nat) : R c (r.settle n) := by
  unfold Reply.settle
  split
  · exact h
  · exact hR.trans h (hR.of_spares (r.chip.core_complete _ _ _ _).spares)

theorem Chip.keeps_runCmd {R : Chip → Chip → Prop} (hR : KeepsMore R) (c : Chip) (n op : Nat) {m : Cmd} (hm : ∀ (c : Chip) r, R c (m.act c r).chip) : R c (c.runCmd n op m) := by
  unfold Chip.runCmd
  dsimp only
  split
  · exact hR.of_spares (by simp [Chip.Spares])
  · exact Reply.keeps_settle hR (Cmd.keeps_run hR (m := { m with state := fun c r => c.preparing op :: m.state c r }) hm c _) n

@[simp] theorem Chip.spares_ring (c : Chip) (d : Doorbell) (op : Nat) (waiting : Bool) : c.Spares (c.ring d op waiting) := by simp [Chip.Spares, Chip.ring]
@[simp] theorem Chip.spares_ignoreDoorbell (c : Chip) (n : Nat) : c.Spares (c.ignoreDoorbell n) := by simp [Chip.Spares, Chip.ignoreDoorbell]

theorem Chip.keeps_doorbell {R : Chip → Chip → Prop} (hR : KeepsMore R) (c : Chip) (d : Doorbell) (op : Nat) {m : Option Cmd}
    (hm : ∀ k ∈ m, ∀ (c : Chip) r, R c (k.act c r).chip) : R c (c.doorbell d op m) := by
  have rung : ∀ waiting, R c (c.ring d op waiting) := fun waiting => hR.of_spares (c.spares_ring d op waiting)
  unfold Chip.doorbell
  split
  · exact hR.refl c
  · split
    · exact hR.of_spares (by simp [Chip.Spares])
    · exact hR.of_spares (by simp [Chip.Spares])
    all_goals
      extract_lets held rang
      split
      · exact rung _
      · cases m with
        | none => exact hR.trans (rung _) (hR.of_spares (Chip.core_complete _ _ _ _ _).spares)
        | some k => exact hR.trans (rung _) (Chip.keeps_runCmd hR _ _ _ (hm k rfl))

@[simp] theorem Chip.spares_completeWaiting (c : Chip) (op status : Nat) (payload : Bytes) : c.Spares (c.completeWaiting op status payload) := by
  unfold Chip.completeWaiting
  split <;> simp [Chip.Spares]

@[simp] theorem Chip.spares_copyOut (c : Chip) (op bound addr : Nat) (data reply : Bytes) : c.Spares (c.copyOut op bound addr data reply).chip := by
  simp [Chip.copyOut, Chip.Spares]

@[simp] theorem Chip.core_mailboxesOffline (c : Chip) : c.Core c.mailboxesOffline := by simp [Chip.Core, Chip.mailboxesOffline]
@[simp] theorem Chip.spares_mailboxesIdle (c : Chip) : c.Spares c.mailboxesIdle := by simp [Chip.Spares, Chip.mailboxesIdle]

theorem spares_dirStatus_act (c : Chip) (r : Bytes) : c.Spares (dirStatus.act c r).chip := by
  dsimp only [dirStatus]
  split <;> simp [Chip.Spares]

theorem spares_dirPin_act (c : Chip) (r : Bytes) : c.Spares (dirPin.act c r).chip := by
  dsimp only [dirPin]
  split <;> simp [Chip.Spares]

theorem spares_dirReadPage_act (c : Chip) (r : Bytes) : c.Spares (dirReadPage.act c r).chip := by
  dsimp only [dirReadPage]
  split <;> simp [Chip.Spares]

theorem spares_dirUnpin_act (c : Chip) (r : Bytes) : c.Spares (dirUnpin.act c r).chip := by simp [dirUnpin, Chip.Spares]

theorem spares_dirCopy_act (c : Chip) (r : Bytes) : c.Spares (dirCopy.act c r).chip := by
  dsimp only [dirCopy]
  split
  · simp [Chip.Spares]
  · exact c.spares_copyOut _ _ _ _ _

theorem spares_dirResolve_act (c : Chip) (r : Bytes) : c.Spares (dirResolve.act c r).chip := by
  dsimp only [dirResolve]
  split <;> simp [Chip.Spares]

theorem spares_vehicleConfigSet_act (c : Chip) (r : Bytes) : c.Spares (vehicleConfigSet.act c r).chip := by simp [vehicleConfigSet, Chip.Spares]
theorem spares_vehicleConfigGet_act (c : Chip) (r : Bytes) : c.Spares (vehicleConfigGet.act c r).chip := by simp [vehicleConfigGet, Chip.Spares]

@[simp] theorem spares_pinExpiry (h : Nat) (c : Chip) : c.Spares (pinExpiry h c) := by
  unfold pinExpiry
  split <;> simp [Chip.Spares]

@[simp] theorem Chip.firm_onPort (c : Chip) (p : Nat) (f : BbPort → BbPort) : c.Firm (c.onPort p f) := by simp [Chip.Firm, Chip.onPort]
@[simp] theorem Chip.firm_bbCountBy (c : Chip) (p i n : Nat) : c.Firm (c.bbCountBy p i n) := by simp [Chip.Firm, Chip.bbCountBy]
@[simp] theorem Chip.firm_bbCount (c : Chip) (p i : Nat) : c.Firm (c.bbCount p i) := by simp [Chip.Firm, Chip.bbCount]
theorem Chip.firm_of_originate {c c' : Chip} {t t' : Telegram} (h : c.originate t = some (t', c')) : c.Firm c' := (Chip.sends_originate h).firm
@[simp] theorem Chip.firm_preempts (c : Chip) (p : Nat) : c.Firm (c.preempts p) := by simp [Chip.Firm, Chip.preempts]
@[simp] theorem Chip.firm_releaseHeld (c : Chip) : c.Firm c.releaseHeld := c.sends_releaseHeld.firm

@[simp] theorem Chip.firm_sendEnd (c : Chip) (e : Nat) (t : Telegram) : c.Firm (c.sendEnd e t) := by
  refine Chip.firm_foldl _ (fun c x => ?_) _ _
  simp [Chip.Firm]

@[simp] theorem Chip.firm_sendLease (c : Chip) (e : Nat) (m : LeaseMsg) : c.Firm (c.sendLease e m) := by
  unfold Chip.sendLease
  split
  next => exact .refl c
  next h =>
    have ho := Chip.firm_of_originate h
    simp_all [Chip.Firm]

theorem Chip.spares_copiesOut (c : Chip) (p : Nat) (ports : List Nat) {out : Chip → Nat → Chip} (h : ∀ (c : Chip) q, c.Spares (out c q)) :
    c.Spares (c.copiesOut p ports out) := by
  refine Chip.spares_foldl _ (fun c q => ?_) _ _
  split
  · exact h c q
  · simp [Chip.Spares]

@[simp] theorem Chip.spares_relayLease (c : Chip) (p : Nat) (o : Outer) (m : LeaseMsg) : c.Spares (c.relayLease p o m) := (c.sends_relayLease p o m).firm.spares
@[simp] theorem Chip.spares_unlockRef (c : Chip) : c.Spares c.unlockRef := by simp [Chip.Spares, Chip.unlockRef]

@[simp] theorem Chip.firm_floodLease (c : Chip) (m : LeaseMsg) : c.Firm (c.floodLease m) := by
  unfold Chip.floodLease
  split
  next => exact .refl c
  next h =>
    have ho := Chip.firm_of_originate h
    simp_all [Chip.Firm]

@[simp] theorem Chip.core_schedUpdate (c : Chip) : c.Core c.schedUpdate := by simp [Chip.Core, Chip.schedUpdate]
@[simp] theorem Chip.core_dropOwnGateways (c : Chip) : c.Core c.dropOwnGateways := by simp [Chip.Core, Chip.dropOwnGateways]

@[simp] theorem Chip.core_leasesLost (c : Chip) : c.Core c.leasesLost := by
  unfold Chip.leasesLost
  split <;> simp [Chip.Core]

@[simp] theorem Chip.core_setTm (c : Chip) (st : TmState) : c.Core (c.setTm st) := by simp [Chip.Core, Chip.setTm]
@[simp] theorem Chip.spares_toGrandmaster (c : Chip) : c.Spares c.toGrandmaster := by simp [Chip.Spares, Chip.toGrandmaster]
@[simp] theorem Chip.core_toHoldover (c : Chip) (e0 : Nat) : c.Core (c.toHoldover e0) := by simp [Chip.Core, Chip.toHoldover]
@[simp] theorem Chip.firm_schedJudge (c : Chip) : c.Firm c.schedJudge := by simp [Chip.Firm, Chip.schedJudge]

@[simp] theorem Chip.firm_schedCheck (c : Chip) : c.Firm c.schedCheck := by
  unfold Chip.schedCheck
  split <;> simp [Chip.Firm]

@[simp] theorem Chip.spares_timeRole (c : Chip) : c.Spares c.timeRole := by simp [Chip.Spares, Chip.timeRole]
@[simp] theorem Chip.firm_moveEgress (c : Chip) (e old new : Nat) : c.Firm (c.moveEgress e old new) := by simp [Chip.Firm, Chip.moveEgress]
@[simp] theorem Chip.firm_egressUpdate (c : Chip) (e : Nat) : c.Firm (c.egressUpdate e) := by simp [Chip.Firm, Chip.egressUpdate]

@[simp] theorem Chip.firm_snapshotEvents (c : Chip) (old : Option Snapshot) (new : Snapshot) (run : Bool) : c.Firm (c.snapshotEvents old new run) := by
  unfold Chip.snapshotEvents
  extract_lets prev c1 reach c2
  have h1 : c.Firm c1 := Chip.firm_foldl _ (fun c e => by simp [Chip.Firm]) _ _
  refine h1.trans ?_
  simp [c2, Chip.Firm]

@[simp] theorem Chip.firm_putInForce (c : Chip) (s : Snapshot) (run : Bool) : c.Firm (c.putInForce s run) := by simp [Chip.Firm, Chip.putInForce]

@[simp] theorem Chip.spares_electedLease (c : Chip) (leader priority : Nat) (switched : Bool) : c.Spares (c.electedLease leader priority switched) := by
  simp [Chip.Spares, Chip.electedLease]

@[simp] theorem Chip.spares_dupCheck (c : Chip) (p : Nat) (t : Telegram) : c.Spares (c.dupCheck p t).2 := by
  fun_cases Chip.dupCheck c p t <;> simp +zetaDelta [Chip.Spares]

@[simp] theorem Chip.spares_rcCount (c : Chip) (i : Nat) : c.Spares (c.rcCount i) := by simp [Chip.Spares, Chip.rcCount]
@[simp] theorem Chip.firm_setRc (c : Chip) (st : RcState) : c.Firm (c.setRc st) := by simp [Chip.Firm, Chip.setRc]
@[simp] theorem Chip.spares_joinEpoch (c : Chip) : c.Spares c.joinEpoch := by simp [Chip.Spares, Chip.joinEpoch]
@[simp] theorem Chip.spares_unjoinEpoch (c : Chip) : c.Spares c.unjoinEpoch := by simp [Chip.Spares, Chip.unjoinEpoch]
@[simp] theorem Chip.firm_toHoldoff (c : Chip) : c.Firm c.toHoldoff := by simp [Chip.Firm, Chip.toHoldoff]

@[simp] theorem Chip.firm_trigger (c : Chip) (link : Option Nat) (host : Bool) : c.Firm (c.trigger link host) := by
  fun_cases Chip.trigger c link host <;> simp +zetaDelta [Chip.Firm]

@[simp] theorem Chip.spares_abandonRun (c : Chip) : c.Spares c.abandonRun := by simp [Chip.Spares, Chip.abandonRun]
@[simp] theorem Chip.spares_know (c : Chip) : c.Spares c.know := by fun_cases Chip.know c <;> simp +zetaDelta [Chip.Spares]
@[simp] theorem Chip.spares_outerEnd (c : Chip) (e : Nat) : c.Spares (c.outerEnd e) := by simp [Chip.Spares, Chip.outerEnd]

@[simp] theorem Chip.spares_joinWave (c : Chip) (w : Wave) (arrival : Option Nat) (hop : Nat) : c.Spares (c.joinWave w arrival hop) := by
  simp [Chip.Spares, Chip.joinWave]

@[simp] theorem spares_holdoffExpiry (c : Chip) : c.Spares (holdoffExpiry c) := by simp [Chip.Spares, holdoffExpiry]

theorem Chip.spares_rcTake (c : Chip) (p mtype : Nat) (src : Outer) (raw : Bytes) {k : Chip → RcMsg → Chip} (hk : ∀ (c : Chip) m, c.Spares (k c m)) :
    c.Spares (c.rcTake p mtype src raw k) := by
  unfold Chip.rcTake
  split
  · exact .refl c
  · split
    · simp [Chip.Spares]
    · split
      · exact .refl c
      · dsimp only
        split
        · exact c.spares_dupCheck _ _
        · exact Chip.Spares.trans (by simp [Chip.Spares]) (hk _ _)

@[simp] theorem spares_startRx (p : Nat) (raw : Sourced) (c : Chip) : c.Spares (startRx p raw c) := by
  refine Chip.spares_rcTake _ _ _ _ _ fun c m => ?_
  dsimp only
  split <;> simp [Chip.Spares]

@[simp] theorem spares_startOuterTimeout (e : Nat) (c : Chip) : c.Spares (startOuterTimeout e c) := by simp [Chip.Spares, startOuterTimeout]

@[simp] theorem spares_countRx (p : Nat) (raw : Sourced) (c : Chip) : c.Spares (countRx p raw c) := by
  refine Chip.spares_rcTake _ _ _ _ _ fun c m => ?_
  simp [Chip.Spares]

@[simp] theorem spares_reportRx (p : Nat) (src : Outer) (raw : Bytes) (c : Chip) : c.Spares (reportRx p src raw c) := by
  refine Chip.spares_rcTake _ _ _ _ _ fun c m => ?_
  dsimp only
  (repeat' split) <;> simp [Chip.Spares]

@[simp] theorem spares_reportWaitTimeout (c : Chip) : c.Spares (reportWaitTimeout c) := by simp [Chip.Spares, reportWaitTimeout]

@[simp] theorem Chip.firm_sendSegments (c : Chip) (run : Bool) (s : Snapshot) (first count : Nat) : c.Firm (c.sendSegments run s first count) := by
  refine Chip.firm_foldl _ (fun c x => ?_) _ _
  simp [Chip.Firm]

@[simp] theorem spares_compositionComplete (c : Chip) : c.Spares (compositionComplete c) := by
  unfold compositionComplete
  split
  · exact .refl c
  · split
    · exact .refl c
    · extract_lets reps e2
      generalize chooseEpoch (reps.map (·.senderEpoch)) = choice
      obtain ⟨epoch, quarantine⟩ := choice
      dsimp -zeta only
      extract_lets snap a planned m sent
      have hplanned : c.Spares planned := by
        unfold planned
        generalize some a = announce, some snap = composed
        simp [Chip.Spares]
      have hsent : planned.Spares sent := by
        unfold sent
        clear_value snap m planned
        simp [Chip.Spares]
      exact (hplanned.trans hsent).trans (by simp [Chip.Spares])

@[simp] theorem spares_announceRx (p : Nat) (raw : Sourced) (c : Chip) : c.Spares (announceRx p raw c) := by
  refine Chip.spares_rcTake _ _ _ _ _ fun c m => ?_
  dsimp only
  split <;> simp [Chip.Spares]

@[simp] theorem Chip.firm_acceptSnapshot (c : Chip) (s : Snapshot) : c.Firm (c.acceptSnapshot s) := by
  unfold Chip.acceptSnapshot
  split
  · exact c.firm_putInForce s _
  · simp [Chip.Firm]

@[simp] theorem Chip.spares_joinTrain (c : Chip) (s : Snapshot) : c.Spares (c.joinTrain s) := by simp [Chip.Spares, Chip.joinTrain]

@[simp] theorem spares_snapshotEffective (c : Chip) : c.Spares (snapshotEffective c) := by
  unfold snapshotEffective
  split
  · exact .refl c
  · split
    · simp [Chip.Spares]
    · exact .refl c

@[simp] theorem Chip.firm_issueOver (c : Chip) (gen : Option Nat) (f : Nat → Snapshot → Snapshot) : c.Firm (c.issueOver gen f) := by
  unfold Chip.issueOver
  split <;> simp [Chip.Firm]

@[simp] theorem Chip.firm_issue (c : Chip) (f : Nat → Snapshot → Snapshot) : c.Firm (c.issue f) := by simp [Chip.Firm, Chip.issue]

@[simp] theorem Chip.firm_applyNotice (c : Chip) (reporter kind e lines peer delay : Nat) : c.Firm (c.applyNotice reporter kind e lines peer delay) := by
  unfold Chip.applyNotice
  dsimp only
  (repeat' split) <;> simp [Chip.Firm]

@[simp] theorem spares_bridgeTimeout (num : Nat) (c : Chip) : c.Spares (bridgeTimeout num c) := by
  fun_cases bridgeTimeout num c <;> simp +zetaDelta [Chip.Spares]

@[simp] theorem Chip.firm_takeNotice (c : Chip) (reporter kind e lines peer delay : Nat) : c.Firm (c.takeNotice reporter kind e lines peer delay) := by
  simp [Chip.Firm, Chip.takeNotice]

@[simp] theorem Chip.firm_notice (c : Chip) (kind e peer : Nat) : c.Firm (c.notice kind e peer) := by simp [Chip.Firm, Chip.notice]

@[simp] theorem spares_noticeRx (p : Nat) (src : Outer) (raw : Bytes) (c : Chip) : c.Spares (noticeRx p src raw c) := by
  refine Chip.spares_rcTake _ _ _ _ _ fun c m => ?_
  simp [Chip.Spares]

@[simp] theorem Chip.spares_offerSnapshot (c : Chip) (src ago : Nat) (s : Snapshot) : c.Spares (c.offerSnapshot src ago s) := by
  simp [Chip.Spares, Chip.offerSnapshot]

@[simp] theorem spares_dirsegRx (p : Nat) (src : Outer) (raw : Bytes) (c : Chip) : c.Spares (dirsegRx p src raw c) := by
  refine Chip.spares_rcTake _ _ _ _ _ fun c m => ?_
  dsimp only
  (repeat' split) <;> simp [Chip.Spares]

@[simp] theorem spares_segreqDeadline (c : Chip) : c.Spares (segreqDeadline c) := by fun_cases segreqDeadline c <;> simp [Chip.Spares]

@[simp] theorem spares_segreqRx (p : Nat) (src : Outer) (raw : Bytes) (c : Chip) : c.Spares (segreqRx p src raw c) := by
  refine Chip.spares_rcTake _ _ _ _ _ fun c m => ?_
  split
  · (repeat' split) <;> simp [Chip.Spares]
  · (repeat' split) <;> simp [Chip.Spares]
  · exact .refl c

@[simp] theorem spares_snapshotIncompleteDeadline (c : Chip) : c.Spares (snapshotIncompleteDeadline c) := by simp [Chip.Spares, snapshotIncompleteDeadline]

@[simp] theorem spares_runWatchdogExpiry (c : Chip) : c.Spares (runWatchdogExpiry c) := by
  unfold runWatchdogExpiry
  split <;> simp [Chip.Spares]

@[simp] theorem Chip.spares_claimVerdict (c : Chip) (s : Snapshot) : c.Spares (c.claimVerdict s) := by
  unfold Chip.claimVerdict
  split <;> simp [Chip.Spares]

@[simp] theorem Chip.spares_rollcallSwitch (c : Chip) : c.Spares c.rollcallSwitch := by fun_cases Chip.rollcallSwitch c <;> simp +zetaDelta [Chip.Spares]
@[simp] theorem Chip.spares_probe (c : Chip) (e : Nat) : c.Spares (c.probe e) := by simp [Chip.Spares, Chip.probe]
@[simp] theorem Chip.spares_neighbourState (c : Chip) (e st : Nat) : c.Spares (c.neighbourState e st) := by simp [Chip.Spares, Chip.neighbourState]

@[simp] theorem spares_probeRx (p : Nat) (raw : Sourced) (c : Chip) : c.Spares (probeRx p raw c) := by
  refine Chip.spares_rcTake _ _ _ _ _ fun c m => ?_
  simp [Chip.Spares]

@[simp] theorem spares_probeReplyRx (p : Nat) (raw : Sourced) (c : Chip) : c.Spares (probeReplyRx p raw c) := by
  refine Chip.spares_rcTake _ _ _ _ _ fun c m => ?_
  dsimp only
  (repeat' split) <;> simp [Chip.Spares]

@[simp] theorem spares_probeReplyTimeout (e : Nat) (c : Chip) : c.Spares (probeReplyTimeout e c) := by simp [Chip.Spares, probeReplyTimeout]
@[simp] theorem spares_firstStartTimeout (c : Chip) : c.Spares (firstStartTimeout c) := by simp [Chip.Spares, firstStartTimeout]
@[simp] theorem Chip.spares_linkUp (c : Chip) (p : Nat) : c.Spares (c.linkUp p) := by fun_cases Chip.linkUp c p <;> simp +zetaDelta [Chip.Spares]
@[simp] theorem Chip.core_dropLink (c : Chip) (p : Nat) : c.Core (c.dropLink p) := by simp [Chip.Core, Chip.dropLink]
@[simp] theorem Chip.spares_linkDown (c : Chip) (p : Nat) : c.Spares (c.linkDown p) := by simp [Chip.Spares, Chip.linkDown]

@[simp] theorem spares_couplerSenseChange (e : Nat) (high : Bool) (c : Chip) : c.Spares (couplerSenseChange e high c) := by
  fun_cases couplerSenseChange e high c <;> simp +zetaDelta [Chip.Spares]

@[simp] theorem spares_couplerDisagreeTimeout (e : Nat) (c : Chip) : c.Spares (couplerDisagreeTimeout e c) := by simp [Chip.Spares, couplerDisagreeTimeout]
@[simp] theorem spares_beaconTimer (c : Chip) : c.Spares (beaconTimer c) := by simp [Chip.Spares, beaconTimer]

@[simp] theorem spares_beaconRx (p : Nat) (src : Outer) (raw : Bytes) (c : Chip) : c.Spares (beaconRx p src raw c) := by
  refine Chip.spares_rcTake _ _ _ _ _ fun c m => ?_
  simp [Chip.Spares]

@[simp] theorem spares_beaconMissingHeld (c : Chip) : c.Spares (beaconMissingHeld c) := by simp [Chip.Spares, beaconMissingHeld]
@[simp] theorem spares_leaderLostTimeout (c : Chip) : c.Spares (leaderLostTimeout c) := by simp [Chip.Spares, leaderLostTimeout]

@[simp] theorem spares_deputyTakeover (c : Chip) : c.Spares (deputyTakeover c) := by
  unfold deputyTakeover
  dsimp only
  split
  · exact .refl c
  · split
    · exact .refl c
    · have gone := fun l (c : Chip) => Chip.spares_foldl (fun c (u : Nat × Nat) => c.applyNotice c.fuses.identity 1 u.1 (c.links u.1) u.2 (c.endDelayPs u.1))
        (fun c u => (c.firm_applyNotice _ _ _ _ _ _).spares) l c
      simp [Chip.Spares, gone]

@[simp] theorem Chip.spares_startEngine (c : Chip) : c.Spares c.startEngine := by simp [Chip.Spares, Chip.startEngine]

@[simp] theorem Chip.core_haltEngine (c : Chip) : c.Core c.haltEngine := by
  have down := fun (c : Chip) => Chip.core_foldl Chip.dropLink (fun c p => c.core_dropLink p) (List.range 4) c
  unfold Chip.haltEngine
  extract_lets c1 c2 waited c3 c4 c5 c6 c7
  have h : c.Core c4 := by simp [c4, c3, c2, c1, Chip.Core, down]
  have h5 : c4.Core c5 := by
    simp only [c5]
    split <;> simp [Chip.Core]
  have h7 : c5.Core c7 := by simp [c7, c6, Chip.Core]
  refine ((h.trans h5).trans h7).trans ?_
  split <;> simp [Chip.Core]

@[simp] theorem Chip.spares_stopEngine (c : Chip) : c.Spares c.stopEngine := by
  unfold Chip.stopEngine
  split <;> simp [Chip.Spares]

theorem spares_rollcallStart_act (c : Chip) (r : Bytes) : c.Spares (rollcallStart.act c r).chip := by simp [rollcallStart, Chip.Spares]
theorem spares_rollcallStop_act (c : Chip) (r : Bytes) : c.Spares (rollcallStop.act c r).chip := by simp [rollcallStop, Chip.Spares]
theorem spares_rollcallRerun_act (c : Chip) (r : Bytes) : c.Spares (rollcallRerun.act c r).chip := by simp [rollcallRerun, Chip.Spares]
theorem spares_rollcallStatus_act (c : Chip) (r : Bytes) : c.Spares (rollcallStatus.act c r).chip := by simp [rollcallStatus, Chip.Spares]
theorem spares_cabSet_act (c : Chip) (r : Bytes) : c.Spares (cabSet.act c r).chip := by simp [cabSet, Chip.Spares]
theorem spares_rollcallConfigSet_act (c : Chip) (r : Bytes) : c.Spares (rollcallConfigSet.act c r).chip := by simp [rollcallConfigSet, Chip.Spares]
theorem spares_rollcallConfigGet_act (c : Chip) (r : Bytes) : c.Spares (rollcallConfigGet.act c r).chip := by simp [rollcallConfigGet, Chip.Spares]
theorem spares_rollcallCounters_act (c : Chip) (r : Bytes) : c.Spares (rollcallCounters.act c r).chip := by simp [rollcallCounters, Chip.Spares]
@[simp] theorem spares_phyLinkLoss (p : Nat) (c : Chip) : c.Spares (phyLinkLoss p c) := by simp [Chip.Spares, phyLinkLoss]
@[simp] theorem spares_linkRxTimeout (p : Nat) (c : Chip) : c.Spares (linkRxTimeout p c) := by simp [Chip.Spares, linkRxTimeout]
@[simp] theorem Chip.spares_startBurst (c : Chip) (p : Nat) : c.Spares (c.startBurst p) := by simp [Chip.Spares, Chip.startBurst]
@[simp] theorem spares_linkProvisional (p : Nat) (c : Chip) : c.Spares (linkProvisional p c) := by simp [Chip.Spares, linkProvisional]

@[simp] theorem spares_linkIdleTimer (p : Nat) (c : Chip) : c.Spares (linkIdleTimer p c) := by
  unfold linkIdleTimer
  split
  · split
    next h => exact (Chip.firm_of_originate h).spares.trans (by simp [Chip.Spares])
    next => exact .refl c
  · exact .refl c

@[simp] theorem spares_fallbackReturnTimer (e : Nat) (c : Chip) : c.Spares (fallbackReturnTimer e c) := by simp [Chip.Spares, fallbackReturnTimer]

@[simp] theorem spares_lineRenameTimer (seg : Nat) (c : Chip) : c.Spares (lineRenameTimer seg c) := by
  unfold lineRenameTimer
  split
  · exact .refl c
  · split
    · exact .refl c
    · split
      · exact .refl c
      · split
        · exact (c.firm_issue _).spares
        · exact .refl c

@[simp] theorem spares_preemptVerifyComplete (p : Nat) (ok : Bool) (c : Chip) : c.Spares (preemptVerifyComplete p ok c) := by
  simp [Chip.Spares, preemptVerifyComplete]

@[simp] theorem spares_dupEntryAgeout (c : Chip) : c.Spares (dupEntryAgeout c) := by simp [Chip.Spares, dupEntryAgeout]

@[simp] theorem Chip.spares_resendNotices (c : Chip) : c.Spares c.resendNotices := by
  refine Chip.spares_foldl _ (fun c x => ?_) _ _
  simp [Chip.Spares]

@[simp] theorem Chip.spares_recordLeader (c : Chip) (l : Lease) (deputy : Bool) : c.Spares (c.recordLeader l deputy) := by
  simp [Chip.Spares, Chip.recordLeader]

@[simp] theorem Chip.spares_leaderLeaseRx (c : Chip) (p : Nat) (m : LeaseMsg) : c.Spares (c.leaderLeaseRx p m) := by
  fun_cases Chip.leaderLeaseRx c p m <;> simp +zetaDelta [Chip.Spares]

@[simp] theorem Chip.firm_recordGateway (c : Chip) (vehicle : Nat) (l : Lease) : c.Firm (c.recordGateway vehicle l) := by simp [Chip.Firm, Chip.recordGateway]

@[simp] theorem Chip.firm_grantGateway (c : Chip) (vehicle holder start : Nat) : c.Firm (c.grantGateway vehicle holder start) := by
  simp [Chip.Firm, Chip.grantGateway]

@[simp] theorem Chip.spares_gatewayRequest (c : Chip) (m : LeaseMsg) : c.Spares (c.gatewayRequest m) := by
  fun_cases Chip.gatewayRequest c m <;> simp +zetaDelta [Chip.Spares]

@[simp] theorem Chip.firm_firstGrants (c : Chip) : c.Firm c.firstGrants := by
  unfold Chip.firstGrants
  split
  · exact .refl c
  · split
    · exact .refl c
    · refine Chip.firm_foldl _ (fun c v => ?_) _ _
      split
      · split
        · exact c.firm_grantGateway _ _ _
        · exact .refl c
      · exact .refl c

theorem Chip.spares_hearLease (c : Chip) (p : Nat) (raw : Sourced) (m : LeaseMsg) (relay mine : Bool) {k : Chip → Chip} (hk : ∀ c : Chip, c.Spares (k c)) :
    c.Spares (c.hearLease p raw m relay mine k) := by
  unfold Chip.hearLease
  extract_lets c1
  have h1 : c.Spares c1 := by simp [c1, Chip.Spares]
  split
  · exact h1
  · refine h1.trans ((c1.spares_dupCheck p (Telegram.ofOuter raw.outer 3 raw.bytes)).trans ?_)
    dsimp only
    split
    · exact hk _
    · exact .refl _

@[simp] theorem Chip.spares_releaseGateway (c : Chip) (m : LeaseMsg) : c.Spares (c.releaseGateway m) := by simp [Chip.Spares, Chip.releaseGateway]
@[simp] theorem Chip.spares_heardSchedule (c : Chip) (m : LeaseMsg) : c.Spares (c.heardSchedule m) := by simp [Chip.Spares, Chip.heardSchedule]
@[simp] theorem Chip.spares_takeLease (c : Chip) (p : Nat) (m : LeaseMsg) : c.Spares (c.takeLease p m) := by simp [Chip.Spares, Chip.takeLease]

@[simp] theorem spares_leaseRx (p : Nat) (raw : Sourced) (c : Chip) : c.Spares (leaseRx p raw c) := by
  unfold leaseRx
  split
  · exact .refl c
  · split
    · simp [Chip.Spares]
    · split
      · exact .refl c
      · split
        · exact Chip.spares_hearLease _ _ _ _ _ _ fun c => by split <;> simp [Chip.Spares]
        · exact Chip.spares_hearLease _ _ _ _ _ _ fun c => by simp [Chip.Spares]

@[simp] theorem spares_leaderLeaseRenew (c : Chip) : c.Spares (leaderLeaseRenew c) := by
  unfold leaderLeaseRenew
  split <;> simp [Chip.Spares]

@[simp] theorem spares_leaseExpiry (vehicle : Nat) (c : Chip) : c.Spares (leaseExpiry vehicle c) := by
  fun_cases leaseExpiry vehicle c <;> simp +zetaDelta [Chip.Spares]

@[simp] theorem spares_gatewayRequestTimer (c : Chip) : c.Spares (gatewayRequestTimer c) := by simp [Chip.Spares, gatewayRequestTimer]
@[simp] theorem Chip.core_pdReceive (c : Chip) (t : Telegram) : c.Core (c.pdReceive t) := by simp [Chip.Core, Chip.pdReceive]
theorem spares_bbStatus_act (c : Chip) (r : Bytes) : c.Spares (bbStatus.act c r).chip := by simp [bbStatus, Chip.Spares]
theorem spares_bbConfigSet_act (c : Chip) (r : Bytes) : c.Spares (bbConfigSet.act c r).chip := by simp [bbConfigSet, Chip.Spares]
theorem spares_bbConfigGet_act (c : Chip) (r : Bytes) : c.Spares (bbConfigGet.act c r).chip := by simp [bbConfigGet, Chip.Spares]
theorem spares_bbSchedStage_act (c : Chip) (r : Bytes) : c.Spares (bbSchedStage.act c r).chip := by simp [bbSchedStage, Chip.Spares]
theorem spares_bbSchedCommit_act (c : Chip) (r : Bytes) : c.Spares (bbSchedCommit.act c r).chip := by simp [bbSchedCommit, Chip.Spares]

@[simp] theorem Chip.spares_pdStage (c : Chip) (id len off : Nat) (d : Bytes) (complete : Bool) : c.Spares (c.pdStage id len off d complete) := by
  simp [Chip.Spares, Chip.pdStage]

theorem spares_pdWrite_act (c : Chip) (r : Bytes) : c.Spares (pdWrite.act c r).chip := by
  dsimp only [pdWrite]
  split <;> simp [Chip.Spares]

theorem spares_pdRead_act (c : Chip) (r : Bytes) : c.Spares (pdRead.act c r).chip := by
  dsimp only [pdRead]
  split <;> simp [Chip.Spares]

theorem spares_leaseStatus_act (c : Chip) (r : Bytes) : c.Spares (leaseStatus.act c r).chip := by simp [leaseStatus, Chip.Spares]
theorem spares_bbCounters_act (c : Chip) (r : Bytes) : c.Spares (bbCounters.act c r).chip := by simp [bbCounters, Chip.Spares]

end Sys2Proof.Machine
end

section
/-! The forwarding of telegrams, the Ethernet ports and the window bridge: what their functions leave of the fuses and of the channels of the safety island. -/
namespace Sys2Proof.Machine

@[simp] theorem Chip.core_queueDrop (c : Chip) (q : Nat) : c.Core (c.queueDrop q) := by simp [Chip.Core, Chip.queueDrop]

@[simp] theorem Chip.core_enqueue (c : Chip) (q : Nat) (data info : Bytes) : c.Core (c.enqueue q data info).2 := by
  unfold Chip.enqueue
  split <;> simp [Chip.Core]

theorem Chip.core_of_enqueue {c c' : Chip} {q : Nat} {data info : Bytes} {b : Bool} (h : c.enqueue q data info = (b, c')) : c.Core c' := by
  have := c.core_enqueue q data info
  rwa [h] at this

@[simp] theorem Chip.spares_ddrError (c : Chip) (address arg : Nat) : c.Spares (c.ddrError address arg) := by simp [Chip.Spares, Chip.ddrError]
@[simp] theorem Chip.spares_ddrCorrected (c : Chip) (n : Nat) : c.Spares (c.ddrCorrected n) := by simp [Chip.Spares, Chip.ddrCorrected]
@[simp] theorem Chip.spares_burstCorrected (c : Chip) (q : Nat) : c.Spares (c.burstCorrected q) := by simp [Chip.Spares, Chip.burstCorrected]

@[simp] theorem Chip.spares_takeHead (c : Chip) (q : Nat) (ecc : Option Nat) : c.Spares (c.takeHead q ecc).2 := by
  unfold Chip.takeHead
  split
  · exact .refl c
  · simp [Chip.Spares]
  · split <;> simp [Chip.Spares]

theorem Chip.spares_of_takeHead {c c' : Chip} {q : Nat} {ecc : Option Nat} {o : Option QEntry} (h : c.takeHead q ecc = (o, c')) : c.Spares c' := by
  have := c.spares_takeHead q ecc
  rwa [h] at this

@[simp] theorem Chip.spares_headRead (c : Chip) (q : Nat) (ecc : Option Nat) : c.Spares (c.headRead q ecc) := by
  unfold Chip.headRead
  split <;> simp [Chip.Spares]

@[simp] theorem Chip.spares_mailRead (c : Chip) (op q : Nat) : c.Spares (c.mailRead op q) := by simp [Chip.Spares, Chip.mailRead]
@[simp] theorem Chip.firm_onRing (c : Chip) (q : Nat) (f : Ring → Ring) : c.Firm (c.onRing q f) := by simp [Chip.Firm, Chip.onRing]
@[simp] theorem Chip.firm_ringEvent (c : Chip) (q e : Nat) (atOnce : Bool) : c.Firm (c.ringEvent q e atOnce) := by simp [Chip.Firm, Chip.ringEvent]
@[simp] theorem Chip.firm_txFinish (c : Chip) (w : TxWait) (port : Option Nat) : c.Firm (c.txFinish w port) := by simp [Chip.Firm, Chip.txFinish]

@[simp] theorem Chip.spares_stamped (c : Chip) (p : Nat) (e : QEntry) : c.Spares (c.stamped p e) := by
  unfold Chip.stamped
  split <;> simp [Chip.Spares]

@[simp] theorem Chip.firm_stampsLost (c : Chip) : c.Firm c.stampsLost := by
  refine Chip.firm_foldl _ (fun c x => ?_) _ _
  simp [Chip.Firm]

@[simp] theorem Chip.core_rtCount (c : Chip) (i : Nat) : c.Core (c.rtCount i) := by simp [Chip.Core, Chip.rtCount]

@[simp] theorem Chip.core_fieldTake (c : Chip) (f : FieldFrame) : c.Core (c.fieldTake f).2 := by
  unfold Chip.fieldTake
  split
  · simp [Chip.Core]
  · split <;> simp [Chip.Core]

@[simp] theorem Chip.core_deliverTunnel (c : Chip) (port ps : Nat) (t : Telegram) : c.Core (c.deliverTunnel port ps t) := by
  simp [Chip.Core, Chip.deliverTunnel]

@[simp] theorem Chip.core_deliver (c : Chip) (port ps : Nat) (t : Telegram) : c.Core (c.deliver port ps t) := by
  unfold Chip.deliver
  split <;> simp [Chip.Core]

@[simp] theorem Chip.spares_forwardOn (c : Chip) (p q busy : Nat) (t : Telegram) : c.Spares (c.forwardOn p q busy t) := by simp [Chip.Spares, Chip.forwardOn]

@[simp] theorem Chip.spares_forward (c : Chip) (p e busy : Nat) (t : Telegram) : c.Spares (c.forward p e busy t) := by
  unfold Chip.forward
  dsimp only
  split
  · simp [Chip.Spares]
  · exact c.spares_copiesOut _ _ fun c q => c.spares_forwardOn _ _ _ _

@[simp] theorem Chip.spares_route (c : Chip) (p ps busy : Nat) (t : Telegram) : c.Spares (c.route p ps busy t) := by
  unfold Chip.route
  extract_lets local_
  have here : ∀ c : Chip, c.Spares (local_ c) := fun c => by simp [local_, Chip.Spares]
  split
  · simp [Chip.Spares]
  · split
    · exact here c
    · simp [Chip.Spares]
    · exact (c.spares_forward _ _ _ _).trans (here _)
    · simp [Chip.Spares]

@[simp] theorem Chip.spares_cutBad (c : Chip) (p busy : Nat) (f : Bytes) : c.Spares (c.cutBad p busy f) := by
  unfold Chip.cutBad
  split
  · exact .refl c
  · extract_lets next out
    have copies : ∀ (c : Chip) e, c.Spares (out c e) := fun (c : Chip) e => by
      simp only [out]
      split
      · exact .refl c
      · refine Chip.spares_foldl _ (fun c q => ?_) _ _
        simp [Chip.Spares]
    split
    · exact .refl c
    · split
      · exact copies c _
      · exact copies c _
      · exact .refl c
      · exact .refl c

@[simp] theorem Chip.spares_macCounts (c : Chip) (p : Nat) (is : List Nat) : c.Spares (c.macCounts p is) := by
  refine Chip.spares_foldl _ (fun c x => ?_) _ _
  simp [Chip.Spares]

@[simp] theorem spares_bbTelegramRx (p ps err busy : Nat) (f : Bytes) (c : Chip) : c.Spares (bbTelegramRx p ps err busy f c) := by
  fun_cases bbTelegramRx p ps err busy f c <;> simp +zetaDelta [Chip.Spares]

@[simp] theorem spares_bbEgressDequeue (q : Nat) (ecc : Option Nat) (c : Chip) : c.Spares (bbEgressDequeue q ecc c) := by
  fun_cases bbEgressDequeue q ecc c
  case case1 => exact .refl c
  all_goals exact (Chip.spares_of_takeHead ‹c.takeHead q ecc = _›).trans (by simp [Chip.Spares])

@[simp] theorem Chip.core_launch (c : Chip) (t : Telegram) : c.Core (c.launch t) := by
  have queued := Chip.core_foldl (fun c q => (c.enqueue q (c.frameOf { t with line := q / 4 % 2 })).2) (fun c q => c.core_enqueue _ _ _) (c.originQueues t) c
  unfold Chip.launch
  split
  · simp [Chip.Core]
  · simp [Chip.Core]
  · split
    · simp [Chip.Core]
    · exact queued
  · exact queued

theorem Chip.spares_of_post {c c' : Chip} {t t' : Telegram} (h : c.post t = some (t', c')) : c.Spares c' := by
  simp only [Chip.post, Option.map_eq_some_iff, Prod.mk.injEq, Prod.exists] at h
  obtain ⟨o, d, ho, -, rfl⟩ := h
  exact (Chip.firm_of_originate ho).spares.trans (d.core_launch o).spares

@[simp] theorem spares_pdSlotInstant (i : Nat) (c : Chip) : c.Spares (pdSlotInstant i c) := by
  unfold pdSlotInstant
  split
  · exact .refl c
  · dsimp only
    split
    · exact .refl c
    · split
      · exact Chip.spares_foldl _ (fun c p => by simp [Chip.Spares]) _ _
      · split <;> simp [Chip.Spares]

theorem spares_msgSend_act (c : Chip) (r : Bytes) : c.Spares (msgSend.act c r).chip := by
  dsimp only [msgSend]
  split
  next h => exact Chip.spares_of_post h
  next => exact .refl c

@[simp] theorem Chip.spares_onVport (c : Chip) (p : Nat) (f : VPort → VPort) : c.Spares (c.onVport p f) := by simp [Chip.Spares, Chip.onVport]
@[simp] theorem Chip.spares_endPause (c : Chip) (p : Nat) : c.Spares (c.endPause p) := by simp [Chip.Spares, Chip.endPause]
@[simp] theorem Chip.spares_pauseFrame (c : Chip) (p quanta : Nat) : c.Spares (c.pauseFrame p quanta) := by simp [Chip.Spares, Chip.pauseFrame]

@[simp] theorem Chip.spares_tunnelFrom (c : Chip) (p : Nat) (entry frame : Bytes) : c.Spares (c.tunnelFrom p entry frame) := by
  unfold Chip.tunnelFrom
  split
  · simp [Chip.Spares]
  · split
    next h => exact Chip.spares_of_post h
    next => exact .refl c

@[simp] theorem spares_vehicleFrameRx (p ps err : Nat) (f : Bytes) (c : Chip) : c.Spares (vehicleFrameRx p ps err f c) := by
  fun_cases vehicleFrameRx p ps err f c <;> simp +zetaDelta [Chip.Spares]

@[simp] theorem spares_pauseExpiry (p : Nat) (c : Chip) : c.Spares (pauseExpiry p c) := by
  unfold pauseExpiry
  split <;> simp [Chip.Spares]

@[simp] theorem spares_vehicleEgressDequeue (p fragments : Nat) (ecc : Option Nat) (c : Chip) : c.Spares (vehicleEgressDequeue p fragments ecc c) := by
  unfold vehicleEgressDequeue
  dsimp only
  split
  · exact .refl c
  · split
    next h => exact Chip.spares_of_takeHead h
    next h => exact (Chip.spares_of_takeHead h).trans (by simp [Chip.Spares])

@[simp] theorem spares_vehicleLinkChange (p : Nat) (up is100 : Bool) (c : Chip) : c.Spares (vehicleLinkChange p up is100 c) := by
  simp [Chip.Spares, vehicleLinkChange]

@[simp] theorem spares_vehiclePreemptVerify (p : Nat) (ok : Bool) (c : Chip) : c.Spares (vehiclePreemptVerify p ok c) := by
  simp [Chip.Spares, vehiclePreemptVerify]

@[simp] theorem Chip.spares_flushQueue (c : Chip) (q : Nat) : c.Spares (c.flushQueue q) := by simp [Chip.Spares, Chip.flushQueue]
theorem spares_ethStatus_act (c : Chip) (r : Bytes) : c.Spares (ethStatus.act c r).chip := by simp [ethStatus, Chip.Spares]
theorem spares_ethConfigSet_act (c : Chip) (r : Bytes) : c.Spares (ethConfigSet.act c r).chip := by simp [ethConfigSet, Chip.Spares]
theorem spares_ethConfigGet_act (c : Chip) (r : Bytes) : c.Spares (ethConfigGet.act c r).chip := by simp [ethConfigGet, Chip.Spares]
theorem spares_ethStart_act (c : Chip) (r : Bytes) : c.Spares (ethStart.act c r).chip := by simp [ethStart, Chip.Spares]
theorem spares_ethStop_act (c : Chip) (r : Bytes) : c.Spares (ethStop.act c r).chip := by simp [ethStop, Chip.Spares]
theorem spares_ethAddrSet_act (c : Chip) (r : Bytes) : c.Spares (ethAddrSet.act c r).chip := by simp [ethAddrSet, Chip.Spares]
theorem spares_ethCounters_act (c : Chip) (r : Bytes) : c.Spares (ethCounters.act c r).chip := by simp [ethCounters, Chip.Spares]
theorem spares_queueSet_act (c : Chip) (r : Bytes) : c.Spares (queueSet.act c r).chip := by simp [queueSet, Chip.Spares]
theorem spares_queueStatus_act (c : Chip) (r : Bytes) : c.Spares (queueStatus.act c r).chip := by simp [queueStatus, Chip.Spares]
theorem spares_ringSet_act (c : Chip) (r : Bytes) : c.Spares (ringSet.act c r).chip := by simp [ringSet, Chip.Spares]
theorem spares_ringEnable_act (c : Chip) (r : Bytes) : c.Spares (ringEnable.act c r).chip := by simp [ringEnable, Chip.Spares]
@[simp] theorem spares_ringPoll (q : Nat) (descs : List Bytes) (c : Chip) : c.Spares (ringPoll q descs c) := by simp [Chip.Spares, ringPoll]

@[simp] theorem spares_rxRingDeliver (q : Nat) (ecc : Option Nat) (c : Chip) : c.Spares (rxRingDeliver q ecc c) := by
  unfold rxRingDeliver
  dsimp only
  split
  · split
    · exact .refl c
    · split
      next h => exact Chip.spares_of_takeHead h
      next h => exact (Chip.spares_of_takeHead h).trans (by simp [Chip.Spares])
  · exact .refl c

theorem Chip.spares_of_placeFrame {c c' : Chip} {q : Nat} {d b : Bytes} (h : c.placeFrame q d b = .ok c') : c.Spares c' := by
  unfold Chip.placeFrame at h
  split at h
  · cases h
  · split at h
    · dsimp only at h
      split at h
      · cases h
        simp [Chip.Spares]
      · cases h
    · dsimp only at h
      split at h
      · cases h
      · split at h
        next hp =>
          cases h
          exact Chip.spares_of_post hp
        next => cases h

theorem Chip.spares_of_placed (q : Nat) (d : Bytes) (bs : List Bytes) {o : Except Nat Chip} {c c' : Chip} (ho : ∀ n, o = .ok n → c.Spares n)
    (h : bs.foldl (fun o b => match o with | .ok c => Chip.placeFrame c q d b | .error x => .error x) o = .ok c') : c.Spares c' := by
  induction bs generalizing o with
  | nil => exact ho c' h
  | cons b bs ih =>
    refine ih (fun n hn => ?_) h
    cases o with
    | error x => cases hn
    | ok a => exact (ho a rfl).trans (Chip.spares_of_placeFrame hn)

theorem Chip.spares_of_placeAll {c c' : Chip} {q : Nat} {d : Bytes} {token : Option Nat} {frames : List Bytes} (h : c.placeAll q d token frames = .ok c') :
    c.Spares c' := by
  unfold Chip.placeAll at h
  split at h
  · cases h
    exact .refl c
  · extract_lets marked at h
    have hm : ∀ n : Chip, n.Spares (marked n) := fun n => by
      simp only [marked]
      split
      · exact .refl n
      · exact Chip.spares_foldl _ (fun n x => by simp [Chip.Spares]) _ _
    split at h
    next => cases h
    next hp =>
      refine Chip.spares_of_placed q d _ (fun n hn => ?_) h
      cases hn
      exact (Chip.spares_of_placeFrame hp).trans (hm _)

@[simp] theorem spares_txChainProcess (q : Nat) (more bufs : List Bytes) (failed : Bool) (c : Chip) : c.Spares (txChainProcess q more bufs failed c) := by
  unfold txChainProcess
  extract_lets x all ch data token n
  split
  next d _ _ _ =>
    extract_lets kind seg frames status0 stamp sent
    rcases hs : (if status0 ≠ 0 then (status0, c) else match sent with | .ok c' => (0, c') | .error x => (6, c.queueDrop x)) with ⟨status, c1⟩
    have h1 : c.Spares c1 := by
      split at hs
      · cases hs
        exact .refl c
      · cases hp : sent with
        | ok c' =>
          rw [hp] at hs
          obtain ⟨-, rfl⟩ := Prod.mk.inj hs
          exact Chip.spares_of_placeAll hp
        | error e =>
          rw [hp] at hs
          obtain ⟨-, rfl⟩ := Prod.mk.inj hs
          simp [Chip.Spares]
    refine h1.trans ?_
    simp [Chip.Spares]
  next => exact .refl c

@[simp] theorem Chip.spares_setMem (c : Chip) (s : MemSt) : c.Spares (c.setMem s) := by simp [Chip.Spares, Chip.setMem]

theorem spares_memConfigSet_act (c : Chip) (r : Bytes) : c.Spares (memConfigSet.act c r).chip := by
  dsimp only [memConfigSet]
  (repeat' split) <;> simp [Chip.Spares]

theorem spares_memConfigGet_act (c : Chip) (r : Bytes) : c.Spares (memConfigGet.act c r).chip := by simp [memConfigGet, Chip.Spares]
theorem spares_memStart_act (c : Chip) (r : Bytes) : c.Spares (memStart.act c r).chip := by simp [memStart, Chip.Spares]
@[simp] theorem spares_ddrTrainingComplete (passed : Bool) (c : Chip) : c.Spares (ddrTrainingComplete passed c) := by simp [Chip.Spares, ddrTrainingComplete]
@[simp] theorem Chip.spares_memStopped (c : Chip) : c.Spares c.memStopped := by simp [Chip.Spares, Chip.memStopped]
theorem spares_memStop_act (c : Chip) (r : Bytes) : c.Spares (memStop.act c r).chip := by simp [memStop, Chip.Spares]
@[simp] theorem spares_memStopDrained (c : Chip) : c.Spares (memStopDrained c) := by simp [Chip.Spares, memStopDrained]

@[simp] theorem spares_memStopTimeout (c : Chip) : c.Spares (memStopTimeout c) := by
  unfold memStopTimeout
  generalize List.range 64 = queues
  split
  · extract_lets c1
    have h : c.Spares c1 := Chip.spares_foldl _ (fun c q => by simp [Chip.Spares]) _ _
    exact h.trans (by simp [Chip.Spares])
  · exact .refl c

@[simp] theorem spares_ddrScrubPass (corrected : Nat) (uces : List Nat) (c : Chip) : c.Spares (ddrScrubPass corrected uces c) := by
  unfold ddrScrubPass
  split
  · exact .refl c
  · exact Chip.Spares.trans (by simp [Chip.Spares]) (Chip.spares_foldl _ (fun c a => c.spares_ddrError a _) _ _)

theorem spares_memStatus_act (c : Chip) (r : Bytes) : c.Spares (memStatus.act c r).chip := by simp [memStatus, Chip.Spares]
@[simp] theorem Chip.firm_onWin (c : Chip) (n : Nat) (f : BrWindow → BrWindow) : c.Firm (c.onWin n f) := by simp [Chip.Firm, Chip.onWin]
@[simp] theorem Chip.spares_onSem (c : Chip) (n : Nat) (f : SemReg → SemReg) : c.Spares (c.onSem n f) := by simp [Chip.Spares, Chip.onSem]
@[simp] theorem Chip.core_brCount (c : Chip) (i : Nat) : c.Core (c.brCount i) := by simp [Chip.Core, Chip.brCount]
@[simp] theorem Chip.firm_judgeHold (c : Chip) (n : Nat) : c.Firm (c.judgeHold n) := by simp [Chip.Firm, Chip.judgeHold]

@[simp] theorem Chip.firm_judgeHolds (c : Chip) : c.Firm c.judgeHolds := by
  unfold Chip.judgeHolds
  exact Chip.firm_foldl Chip.judgeHold (fun c n => c.firm_judgeHold n) (List.range 64) c

@[simp] theorem Chip.core_brFault (c : Chip) (src kind farStatus dir offset length far sequence : Nat) (data : Bytes) :
    c.Core (c.brFault src kind farStatus dir offset length far sequence data) := by
  simp [Chip.Core, Chip.brFault]

@[simp] theorem Chip.core_strand (c : Chip) (window reason far address sentTrain : Nat) (data : Bytes) : c.Core (c.strand window reason far address sentTrain data) := by
  simp [Chip.Core, Chip.strand]

@[simp] theorem Chip.core_discardLines (c : Chip) (reason : Nat) (pick : BrLine → Bool) : c.Core (c.discardLines reason pick) := by
  refine Chip.core_foldl _ (fun c x => ?_) _ _
  simp [Chip.Core]

@[simp] theorem Chip.spares_retargetTo (c : Chip) (n : Nat) (t : Option Nat) : c.Spares (c.retargetTo n t) := by simp [Chip.Spares, Chip.retargetTo]
@[simp] theorem Chip.spares_retarget (c : Chip) (n : Nat) : c.Spares (c.retarget n) := by simp [Chip.Spares, Chip.retarget]
@[simp] theorem Chip.core_brDeliver (c : Chip) (a : BrAsync) : c.Core (c.brDeliver a) := by simp [Chip.Core, Chip.brDeliver]

@[simp] theorem Chip.core_brFinish (c : Chip) : c.Core c.brFinish := by
  have completed := fun (l : List BrHeld) (c : Chip) =>
    Chip.core_foldl (fun (c : Chip) (h : BrHeld) => c.emit (.completion h.hostTag (partsData h.parts))) (fun c h => by simp [Chip.Core]) l c
  have delivered := fun l c => Chip.core_foldl Chip.brDeliver (fun c a => c.core_brDeliver a) l c
  simp [Chip.Core, Chip.brFinish, completed, delivered]

@[simp] theorem Chip.core_mapParts (c : Chip) (f : Nat → BrPart → BrPart) : c.Core (c.mapParts f) := by simp [Chip.Core, Chip.mapParts]
@[simp] theorem Chip.spares_answerPart (c : Chip) (tag : Nat) (data : Bytes) : c.Spares (c.answerPart tag data) := by simp [Chip.Spares, Chip.answerPart]
@[simp] theorem Chip.core_failPart (c : Chip) (tag kind farStatus : Nat) : c.Core (c.failPart tag kind farStatus) := by simp [Chip.Core, Chip.failPart]
@[simp] theorem Chip.core_failLine (c : Chip) (n k far : Nat) : c.Core (c.failLine n k far) := by simp [Chip.Core, Chip.failLine]

@[simp] theorem Chip.core_failFetch (c : Chip) (q : BrReq) (kind farStatus : Nat) : c.Core (c.failFetch q kind farStatus) := by
  unfold Chip.failFetch
  extract_lets k mine ps c1
  have h : c.Core c1 := Chip.core_foldl _ (fun c r => c.core_brFault _ _ _ _ _ _ _ _ _) _ _
  exact h.trans (by simp [Chip.Core])

@[simp] theorem Chip.core_brEmit (c : Chip) (far : Nat) (field : Option (Nat × Nat)) (op : Nat) (payload : Bytes) : c.Core (c.brEmit far field op payload).2 := by
  fun_cases Chip.brEmit c far field op payload
  case case1 => exact .refl c
  all_goals exact (Chip.firm_of_originate ‹c.originate _ = _›).core.trans (by simp [Chip.Core])

@[simp] theorem Chip.core_brSend (c : Chip) (q : BrReq) : c.Core (c.brSend q) := by
  unfold Chip.brSend
  extract_lets m
  exact (c.core_brEmit q.far q.field q.op m.bytes).trans (by simp [Chip.Core])

@[simp] theorem Chip.spares_brRequest (c : Chip) (q : BrReq) : c.Spares (c.brRequest q).2 := by
  simp [Chip.Spares, Chip.brRequest]

@[simp] theorem Chip.spares_dropRequest (c : Chip) (tag : Nat) : c.Spares (c.dropRequest tag) := by simp [Chip.Spares, Chip.dropRequest]

@[simp] theorem Chip.core_fenceAnswer (c : Chip) (n : Nat) (complete : Bool) : c.Core (c.fenceAnswer n complete).2 := by
  simp [Chip.Core, Chip.fenceAnswer]

@[simp] theorem Chip.core_finishFence (c : Chip) (f : BrFence) (complete : Bool) : c.Core (c.finishFence f complete) :=
  (c.core_fenceAnswer f.window complete).trans ⟨rfl, rfl, rfl⟩

@[simp] theorem Chip.core_settle (c : Chip) (tags : List Nat) : c.Core (c.settle tags) := by
  unfold Chip.settle
  extract_lets keep ready c1 c2
  have h : c1.Core c2 := Chip.core_foldl _ (fun c q => c.core_brSend q) _ _
  exact h.trans (Chip.core_foldl _ (fun c f => c.core_finishFence f true) _ _)

@[simp] theorem Chip.spares_brReadReq (c : Chip) (n off len : Nat) (isLine isAsync : Bool) : c.Spares (c.brReadReq n off len isLine isAsync).2 := c.spares_brRequest _

@[simp] theorem Chip.spares_fetchLine (c : Chip) (n k : Nat) : c.Spares (c.fetchLine n k).2 := by
  unfold Chip.fetchLine
  dsimp only
  split <;> simp [Chip.Spares]

@[simp] theorem Chip.spares_fetchLines (c : Chip) (n : Nat) (ks : List Nat) : c.Spares (c.fetchLines n ks).2 :=
  Chip.spares_foldl_snd (fun s k => (s.1 + (s.2.fetchLine n k).1, (s.2.fetchLine n k).2)) (fun s k => s.2.spares_fetchLine n k) ks (0, c)

@[simp] theorem Chip.spares_markRead (c : Chip) (n far off len : Nat) : c.Spares (c.markRead n far off len) := by simp [Chip.Spares, Chip.markRead]
@[simp] theorem Chip.spares_refuseRead (c : Chip) (n kind off len : Nat) : c.Spares (c.refuseRead n kind off len).2.2 := (c.core_brFault _ _ _ _ _ _ _ _ _).spares

@[simp] theorem Chip.spares_askFar (c : Chip) (n off len : Nat) (isAsync : Bool) : c.Spares (c.askFar n off len isAsync).2.2 := by
  unfold Chip.askFar
  split
  · exact c.spares_refuseRead _ _ _ _
  · dsimp only
    refine Chip.spares_foldl_snd (β := List BrPart) _ (fun s r => ?_) _ ([], c)
    exact s.2.spares_brReadReq _ _ _ _ _

@[simp] theorem Chip.spares_servePiece (c : Chip) (n off len : Nat) : c.Spares (c.servePiece n off len).2 := by
  fun_cases Chip.servePiece c n off len
  case case4 drop _ _ _ _ =>
    simp only [drop]
    split <;> simp [Chip.Spares]
  all_goals simp +zetaDelta [Chip.Spares]

@[simp] theorem Chip.spares_barRead (c : Chip) (tag off len : Nat) : c.Spares (c.barRead tag off len) := by
  unfold Chip.barRead
  extract_lets n a c1 c2 rs
  have h1 : c.Spares c1 := by simp [c1, Chip.Spares]
  refine h1.trans ?_
  split
  · simp [Chip.Spares]
  · have h2 : c1.Spares c2 := c1.spares_retarget n
    have h3 := Chip.spares_foldl_snd (fun (s : List BrPart × Chip) (r : Nat × Nat) => (s.1 ++ (s.2.servePiece n r.1 r.2).1, (s.2.servePiece n r.1 r.2).2))
      (fun s r => s.2.spares_servePiece n r.1 r.2) rs ([], c2)
    exact (h2.trans h3).trans (by simp [Chip.Spares])

@[simp] theorem Chip.spares_fenceNow (c : Chip) (n : Nat) : c.Spares (c.fenceNow n).2 := (c.core_fenceAnswer _ _).spares

@[simp] theorem Chip.spares_fenceStart (c : Chip) (tag n off len : Nat) (covers : List Nat) : c.Spares (c.fenceStart tag n off len covers) := by
  simp [Chip.Spares, Chip.fenceStart]

@[simp] theorem Chip.spares_semAttempt (c : Chip) (n : Nat) : c.Spares (c.semAttempt n) := by
  simp [Chip.Spares, Chip.semAttempt]

@[simp] theorem Chip.spares_semRetarget (c : Chip) (n : Nat) : c.Spares (c.semRetarget n) := by
  unfold Chip.semRetarget
  split <;> simp [Chip.Spares]

@[simp] theorem Chip.spares_semPoll (c : Chip) (n : Nat) : c.Spares (c.semPoll n).2 := by
  fun_cases Chip.semPoll c n <;> simp +zetaDelta [Chip.Spares]

@[simp] theorem Chip.spares_semStart (c : Chip) (tag n : Nat) : c.Spares (c.semStart tag n) := by
  have h := c.spares_semPoll n
  fun_cases Chip.semStart c tag n <;> simp_all [Chip.Spares]

@[simp] theorem Chip.spares_semNow (c : Chip) (n : Nat) : c.Spares (c.semNow n).2 := c.spares_semPoll n

@[simp] theorem Chip.spares_semAnswer (c : Chip) (n : Nat) (st : SemSt) : c.Spares (c.semAnswer n st) := by
  have answered := fun (l : List (Nat × Nat)) (c : Chip) =>
    Chip.spares_foldl (fun (c : Chip) (r : Nat × Nat) => c.emit (.completion r.1 (le 4 st.busyBits))) (fun c r => by simp [Chip.Spares]) l c
  simp [Chip.Spares, Chip.semAnswer, answered]

@[simp] theorem Chip.spares_startNonPosted (c : Chip) (w : BrWaiting) : c.Spares (c.startNonPosted w) := by
  unfold Chip.startNonPosted
  split <;> simp [Chip.Spares]

@[simp] theorem Chip.spares_nonPosted (c : Chip) (w : BrWaiting) : c.Spares (c.nonPosted w) := by simp [Chip.Spares, Chip.nonPosted]

@[simp] theorem spares_nonPostedAdmitted (c : Chip) : c.Spares (nonPostedAdmitted c) := by
  unfold nonPostedAdmitted
  split <;> simp [Chip.Spares]

@[simp] theorem spares_windowRead (tag off len : Nat) (c : Chip) : c.Spares (windowRead tag off len c) := by simp [Chip.Spares, windowRead]
@[simp] theorem spares_fenceRead (tag n off len : Nat) (c : Chip) : c.Spares (fenceRead tag n off len c) := by simp [Chip.Spares, fenceRead]
@[simp] theorem spares_semRead (tag n : Nat) (c : Chip) : c.Spares (semRead tag n c) := by simp [Chip.Spares, semRead]

@[simp] theorem Chip.spares_overwriteLines (c : Chip) (far exportId address len : Nat) : c.Spares (c.overwriteLines far exportId address len) := by
  simp [Chip.Spares, Chip.overwriteLines]

@[simp] theorem Chip.spares_barWrite (c : Chip) (n a : Nat) (d : Bytes) : c.Spares (c.barWrite n a d) := by
  fun_cases Chip.barWrite c n a d
  case case6 =>
    exact Chip.Spares.trans (by simp +zetaDelta [Chip.Spares]) (Chip.spares_foldl _ (fun c r => by simp [Chip.Spares]) _ _)
  all_goals simp +zetaDelta [Chip.Spares]

@[simp] theorem spares_windowWrite (off : Nat) (d : Bytes) (c : Chip) : c.Spares (windowWrite off d c) := by
  unfold windowWrite
  dsimp only
  split
  · exact .refl c
  · split
    · simp [Chip.Spares]
    · exact Chip.spares_foldl _ (fun c r => c.spares_barWrite _ _ _) _ _

@[simp] theorem spares_remoteIrqWrite (n : Nat) (value : BitVec 32) (enables : BitVec 4) (c : Chip) : c.Spares (remoteIrqWrite n value enables c) := by
  fun_cases remoteIrqWrite n value enables c <;> simp +zetaDelta [Chip.Spares]

@[simp] theorem spares_semReleaseWrite (n : Nat) (value : BitVec 32) (c : Chip) : c.Spares (semReleaseWrite n value c) := by
  simp [Chip.Spares, semReleaseWrite]

@[simp] theorem spares_heldReadTimeout (tag : Nat) (c : Chip) : c.Spares (heldReadTimeout tag c) := by
  unfold heldReadTimeout
  split
  · exact .refl c
  · extract_lets open_ c1 late c2 needed
    have h : c.Spares c1 := Chip.spares_foldl _ (fun c p => (c.core_brFault _ _ _ _ _ _ _ _ _).spares) _ _
    exact h.trans (by simp [c2, Chip.Spares])

@[simp] theorem spares_fenceTimeout (tag : Nat) (c : Chip) : c.Spares (fenceTimeout tag c) := by
  unfold fenceTimeout
  split <;> simp [Chip.Spares]

@[simp] theorem spares_semReadTimeout (tag : Nat) (c : Chip) : c.Spares (semReadTimeout tag c) := by simp [Chip.Spares, semReadTimeout]
@[simp] theorem spares_semAttemptTimeout (n : Nat) (c : Chip) : c.Spares (semAttemptTimeout n c) := by simp [Chip.Spares, semAttemptTimeout]

@[simp] theorem spares_asyncReadTimeout (tag : Nat) (c : Chip) : c.Spares (asyncReadTimeout tag c) := by
  unfold asyncReadTimeout
  split <;> simp [Chip.Spares]

@[simp] theorem Chip.spares_faultPosted (c : Chip) (q : BrReq) (kind farStatus : Nat) : c.Spares (c.faultPosted q kind farStatus) := by
  simp [Chip.Spares, Chip.faultPosted]

@[simp] theorem spares_writeAckTimeout (tag : Nat) (c : Chip) : c.Spares (writeAckTimeout tag c) := by
  unfold writeAckTimeout
  split <;> simp [Chip.Spares]

@[simp] theorem spares_prefetchLineExpiry (n k : Nat) (c : Chip) : c.Spares (prefetchLineExpiry n k c) := by simp [Chip.Spares, prefetchLineExpiry]
@[simp] theorem Chip.spares_disable (c : Chip) (n : Nat) : c.Spares (c.disable n) := by simp [Chip.Spares, Chip.disable]
@[simp] theorem Chip.core_bridgeStopped (c : Chip) : c.Core c.bridgeStopped := by simp [Chip.Core, Chip.bridgeStopped]
@[simp] theorem spares_windowDisableComplete (n : Nat) (c : Chip) : c.Spares (windowDisableComplete n c) := by simp [Chip.Spares, windowDisableComplete]

@[simp] theorem Chip.spares_bridgeSwitch (c : Chip) : c.Spares c.bridgeSwitch := by
  unfold Chip.bridgeSwitch
  generalize List.range 64 = windows
  generalize List.range 16 = homes
  extract_lets c1
  have h : c.Spares c1 := Chip.spares_foldl _ (fun c n => by simp [Chip.Spares]) _ _
  refine h.trans (Chip.spares_foldl _ (fun c n => ?_) _ _)
  split <;> simp [Chip.Spares]

@[simp] theorem Chip.firm_freeHome (c : Chip) (i : Nat) : c.Firm (c.freeHome i) := by simp [Chip.Firm, Chip.freeHome]

@[simp] theorem Chip.firm_bridgeSnapshot (c : Chip) : c.Firm c.bridgeSnapshot := by
  unfold Chip.bridgeSnapshot
  generalize List.range 16 = homes
  refine c.firm_judgeHolds.trans ?_
  refine Chip.firm_foldl _ (fun c i => ?_) homes c.judgeHolds
  split <;> simp [Chip.Firm]

@[simp] theorem Chip.spares_bridgeTake (c : Chip) (p op : Nat) (f : Bytes) : c.Spares (c.bridgeTake p op f).2 := by
  unfold Chip.bridgeTake
  extract_lets good pass
  have passed : ∀ t, c.Spares (pass t).2 := fun t => by
    simp only [pass]
    split <;> simp [Chip.Spares]
  split
  · split
    · exact .refl c
    · split
      · exact passed _
      · exact .refl c
  · split
    · split <;> exact .refl c
    · split
      · split
        · exact .refl c
        · split
          · exact passed _
          · exact .refl c
      · exact .refl c

theorem Chip.spares_of_bridgeTake {c c' : Chip} {p op : Nat} {f : Bytes} {o : Option BrMsg} (h : c.bridgeTake p op f = (o, c')) : c.Spares c' := by
  have := c.spares_bridgeTake p op f
  rwa [h] at this

@[simp] theorem Chip.core_farFails (c : Chip) (far : Nat) : c.Core (c.farFails far) := by
  unfold Chip.farFails
  extract_lets mine c1 c2
  have h : c.Core c1 := Chip.core_foldl _ (fun c q => by simp [Chip.Core]) _ _
  exact h.trans (by simp [c2, Chip.Core])

@[simp] theorem Chip.spares_farRestart (c : Chip) (far : Nat) : c.Spares (c.farRestart far) := by simp [Chip.Spares, Chip.farRestart]

@[simp] theorem Chip.spares_seeSession (c : Chip) (m : BrMsg) : c.Spares (c.seeSession m) := by
  fun_cases Chip.seeSession c m <;> simp +zetaDelta [Chip.Spares]

@[simp] theorem Chip.spares_serveLines (c : Chip) (n : Nat) : c.Spares (c.serveLines n) := by
  unfold Chip.serveLines
  extract_lets ready c1
  have h : c.Spares c1 := Chip.spares_foldl _ (fun c p => c.spares_markRead _ _ _ _) _ _
  exact h.trans (by simp [Chip.Spares])

@[simp] theorem Chip.spares_fillLine (c : Chip) (q : BrReq) (m : BrMsg) : c.Spares (c.fillLine q m) := by
  unfold Chip.fillLine
  dsimp only
  (repeat' split) <;> simp [Chip.Spares]

@[simp] theorem Chip.spares_prefetchRefused (c : Chip) (n : Nat) : c.Spares (c.prefetchRefused n) := by simp [Chip.Spares, Chip.prefetchRefused]

@[simp] theorem spares_readReplyRx (p : Nat) (f : Bytes) (c : Chip) : c.Spares (readReplyRx p f c) := by
  fun_cases readReplyRx p f c
  all_goals exact (Chip.spares_of_bridgeTake ‹c.bridgeTake p 2 f = _›).trans (by simp +zetaDelta [Chip.Spares])

@[simp] theorem spares_writeAckRx (p : Nat) (f : Bytes) (c : Chip) : c.Spares (writeAckRx p f c) := by
  fun_cases writeAckRx p f c
  all_goals exact (Chip.spares_of_bridgeTake ‹c.bridgeTake p 4 f = _›).trans (by simp +zetaDelta [Chip.Spares])

@[simp] theorem spares_writeFaultRx (p : Nat) (f : Bytes) (c : Chip) : c.Spares (writeFaultRx p f c) := by
  fun_cases writeFaultRx p f c
  all_goals exact (Chip.spares_of_bridgeTake ‹c.bridgeTake p 5 f = _›).trans (by simp +zetaDelta [Chip.Spares])

@[simp] theorem spares_semReplyRx (p : Nat) (f : Bytes) (c : Chip) : c.Spares (semReplyRx p f c) := by
  fun_cases semReplyRx p f c
  all_goals exact (Chip.spares_of_bridgeTake ‹c.bridgeTake p 7 f = _›).trans (by simp +zetaDelta [Chip.Spares])

@[simp] theorem Chip.spares_brReply (c : Chip) (m : BrMsg) (op flags status ack : Nat) (data : Bytes) : c.Spares (c.brReply m op flags status ack data) := by
  simp [Chip.Spares, Chip.brReply]

@[simp] theorem Chip.spares_readReply (c : Chip) (m : BrMsg) (status : Nat) (data : Bytes) : c.Spares (c.readReply m status data) := by
  unfold Chip.readReply
  dsimp only
  split
  · simp [Chip.Spares]
  · exact (c.spares_drawBytes m.length).trans (by simp [Chip.Spares])

@[simp] theorem Chip.spares_onStream (c : Chip) (m : BrMsg) (f : BrStream → BrStream) : c.Spares (c.onStream m f) := by simp [Chip.Spares, Chip.onStream]

@[simp] theorem Chip.spares_sendAck (c : Chip) (s : BrStream) : c.Spares (c.sendAck s) := by
  unfold Chip.sendAck
  split <;> simp [Chip.Spares]

@[simp] theorem Chip.spares_ackLater (c : Chip) (m : BrMsg) : c.Spares (c.ackLater m) := by fun_cases Chip.ackLater c m <;> simp +zetaDelta [Chip.Spares]

@[simp] theorem Chip.spares_endRequest (c : Chip) (m : BrMsg) (status : Nat) (data : Bytes) : c.Spares (c.endRequest m status data) := by
  simp [Chip.Spares, Chip.endRequest]

@[simp] theorem Chip.spares_homeAcquire (c : Chip) (m : BrMsg) : c.Spares (c.homeAcquire m) := by fun_cases Chip.homeAcquire c m <;> simp [Chip.Spares]
@[simp] theorem Chip.spares_homeRelease (c : Chip) (m : BrMsg) : c.Spares (c.homeRelease m) := by simp [Chip.Spares, Chip.homeRelease]

@[simp] theorem Chip.spares_brExecute (c : Chip) (m : BrMsg) : c.Spares (c.brExecute m).2 := by
  fun_cases Chip.brExecute c m <;> simp +zetaDelta [Chip.Spares]

@[simp] theorem Chip.spares_brExecuteAll (l : List BrMsg) (c : Chip) : c.Spares (Chip.brExecuteAll l c).2.2 := by
  induction l generalizing c with
  | nil => exact .refl c
  | cons m ms ih =>
    have h := c.spares_brExecute m
    unfold Chip.brExecuteAll
    split
    next hm => rwa [hm] at h
    next hm =>
      rw [hm] at h
      exact h.trans (ih _)

@[simp] theorem Chip.spares_runStream (c : Chip) (s : BrStream) : c.Spares (c.runStream s) :=
  (Chip.spares_brExecuteAll s.queue c).trans ⟨rfl, rfl, rfl⟩

@[simp] theorem Chip.spares_checkHolders (c : Chip) (m : BrMsg) : c.Spares (c.checkHolders m) := by
  unfold Chip.checkHolders
  generalize List.range 16 = homes
  refine Chip.spares_foldl _ (fun c i => ?_) _ _
  split <;> simp [Chip.Spares]

@[simp] theorem spares_requestRx (op p : Nat) (f : Bytes) (c : Chip) : c.Spares (requestRx op p f c) := by
  unfold requestRx
  split
  · exact .refl c
  · split
    next h => exact Chip.spares_of_bridgeTake h
    next m c1 h =>
      refine (Chip.spares_of_bridgeTake h).trans ?_
      extract_lets c2 same c3 c4
      have h4 : c1.Spares c4 := by simp [c4, c3, c2, Chip.Spares]
      split
      · split
        · exact h4
        · exact h4.trans (c4.spares_runStream _)
      · exact h4

theorem Chip.spares_endAccess (c : Chip) (source : Nat) {f : Chip → BrMsg → Chip} (hf : ∀ (c : Chip) m, c.Spares (f c m)) : c.Spares (c.endAccess source f) := by
  fun_cases Chip.endAccess c source f
  · exact .refl c
  · exact .refl c
  · exact (hf c _).trans (Chip.spares_runStream _ _)

@[simp] theorem Chip.spares_areaWrite (c : Chip) (m : BrMsg) : c.Spares (c.areaWrite m) := by simp [Chip.Spares, Chip.areaWrite]

@[simp] theorem spares_exportAccessComplete (source : Nat) (ends : AccessEnd) (data : Bytes) (c : Chip) : c.Spares (exportAccessComplete source ends data c) := by
  refine Chip.spares_endAccess _ _ fun c m => ?_
  cases ends <;> simp [Chip.Spares]

@[simp] theorem spares_exportTargetTimeout (source : Nat) (c : Chip) : c.Spares (exportTargetTimeout source c) := by
  refine Chip.spares_endAccess _ _ fun c m => ?_
  simp [Chip.Spares]

@[simp] theorem spares_writeAckTimer (source : Nat) (c : Chip) : c.Spares (writeAckTimer source c) := by
  refine Chip.spares_foldl _ (fun c x => ?_) _ _
  simp [Chip.Spares]

theorem spares_brStatus_act (c : Chip) (r : Bytes) : c.Spares (brStatus.act c r).chip := by simp [brStatus, Chip.Spares]
theorem spares_brConfigSet_act (c : Chip) (r : Bytes) : c.Spares (brConfigSet.act c r).chip := by simp [brConfigSet, Chip.Spares]
theorem spares_brConfigGet_act (c : Chip) (r : Bytes) : c.Spares (brConfigGet.act c r).chip := by simp [brConfigGet, Chip.Spares]
theorem spares_brStart_act (c : Chip) (r : Bytes) : c.Spares (brStart.act c r).chip := by simp [brStart, Chip.Spares]
theorem spares_brStop_act (c : Chip) (r : Bytes) : c.Spares (brStop.act c r).chip := by simp [brStop, Chip.Spares]
theorem spares_brWindowSet_act (c : Chip) (r : Bytes) : c.Spares (brWindowSet.act c r).chip := by simp [brWindowSet, Chip.Spares]
theorem spares_brWindowEnable_act (c : Chip) (r : Bytes) : c.Spares (brWindowEnable.act c r).chip := by simp [brWindowEnable, Chip.Spares]
theorem spares_brWindowStatus_act (c : Chip) (r : Bytes) : c.Spares (brWindowStatus.act c r).chip := by simp [brWindowStatus, Chip.Spares]
theorem spares_brExport_act (c : Chip) (r : Bytes) : c.Spares (brExport.act c r).chip := by simp [brExport, Chip.Spares]

theorem spares_brRead_act (c : Chip) (r : Bytes) : c.Spares (brRead.act c r).chip := by
  dsimp only [brRead]
  split <;> simp [Chip.Spares]

@[simp] theorem Chip.spares_popRecord (c : Chip) (q : Nat) : c.Spares (c.popRecord q).2 := by
  fun_cases Chip.popRecord c q <;> simp [Chip.Spares]

theorem spares_brCompletionRead_act (c : Chip) (r : Bytes) : c.Spares (brCompletionRead.act c r).chip := by
  have h : c.Spares ((c.mailRead 0x070A 61).popRecord 61).2 := by simp [Chip.Spares]
  dsimp only [brCompletionRead]
  split
  next hp => rwa [hp] at h
  next hp => rwa [hp] at h

theorem spares_brFaultRead_act (c : Chip) (r : Bytes) : c.Spares (brFaultRead.act c r).chip := by
  have h : c.Spares ((c.mailRead 0x070B 62).popRecord 62).2 := by simp [Chip.Spares]
  dsimp only [brFaultRead]
  split
  next hp => rwa [hp] at h
  next hp => rwa [hp] at h

theorem spares_brStrandedRead_act (c : Chip) (r : Bytes) : c.Spares (brStrandedRead.act c r).chip := by
  dsimp only [brStrandedRead]
  split <;> simp [Chip.Spares]

theorem spares_brPrefetch_act (c : Chip) (r : Bytes) : c.Spares (brPrefetch.act c r).chip := by
  dsimp only [brPrefetch]
  (repeat' split) <;> simp [Chip.Spares]

theorem spares_brSemControl_act (c : Chip) (r : Bytes) : c.Spares (brSemControl.act c r).chip := by
  dsimp only [brSemControl]
  split <;> simp [Chip.Spares]

theorem spares_brCounters_act (c : Chip) (r : Bytes) : c.Spares (brCounters.act c r).chip := by simp [brCounters, Chip.Spares]

end Sys2Proof.Machine
end

section
/-! The car bus, the CAN channels, the recorder and the router: what their functions leave of the fuses and of the channels of the safety island. -/
namespace Sys2Proof.Machine

@[simp] theorem Chip.spares_setCb (c : Chip) (s : CbSt) : c.Spares (c.setCb s) := by simp [Chip.Spares, Chip.setCb]
@[simp] theorem Chip.spares_cbCountBy (c : Chip) (p i n : Nat) : c.Spares (c.cbCountBy p i n) := by simp [Chip.Spares, Chip.cbCountBy]
@[simp] theorem Chip.spares_cbCount (c : Chip) (p i : Nat) : c.Spares (c.cbCount p i) := by simp [Chip.Spares, Chip.cbCount]
@[simp] theorem Chip.spares_starCount (c : Chip) (i : Nat) : c.Spares (c.starCount i) := by simp [Chip.Spares, Chip.starCount]
@[simp] theorem Chip.spares_onCbPort (c : Chip) (p : Nat) (f : CbPort → CbPort) : c.Spares (c.onCbPort p f) := by simp [Chip.Spares, Chip.onCbPort]
@[simp] theorem Chip.spares_onCell (c : Chip) (k ch : Nat) (f : CbCell → CbCell) : c.Spares (c.onCell k ch f) := by simp [Chip.Spares, Chip.onCell]
@[simp] theorem Chip.spares_cbDrive (c : Chip) (p since until_ : Nat) : c.Spares (c.cbDrive p since until_) := by simp [Chip.Spares, Chip.cbDrive]
@[simp] theorem Chip.spares_cbSendOn (c : Chip) (p : Nat) (f : Bytes) : c.Spares (c.cbSendOn p f) := by simp [Chip.Spares, Chip.cbSendOn]

@[simp] theorem Chip.spares_cbSendAll (c : Chip) (ch : Nat) (f : Bytes) : c.Spares (c.cbSendAll ch f) := by
  refine Chip.spares_foldl _ (fun c x => ?_) _ _
  simp [Chip.Spares]

@[simp] theorem Chip.spares_sendBeacon (c : Chip) (realigned : Bool) : c.Spares (c.sendBeacon realigned) := by
  unfold Chip.sendBeacon
  split
  · exact .refl c
  · exact Chip.spares_foldl _ (fun c ch => by simp [Chip.Spares]) _ _

@[simp] theorem Chip.spares_cbNewImage (c : Chip) (old new : Option Bytes) : c.Spares (c.cbNewImage old new) := by simp [Chip.Spares, Chip.cbNewImage]
@[simp] theorem Chip.spares_cbBoundary (c : Chip) : c.Spares c.cbBoundary := by simp [Chip.Spares, Chip.cbBoundary]

@[simp] theorem Chip.spares_cbEndCycle (c : Chip) : c.Spares c.cbEndCycle := by
  unfold Chip.cbEndCycle
  generalize List.range 24 = ports
  refine Chip.spares_foldl _ (fun c i => ?_) _ _
  simp [Chip.Spares]

@[simp] theorem Chip.spares_cbBegin (c : Chip) (count : Nat) (s : CbSt) (realigned : Bool) : c.Spares (c.cbBegin count s realigned) := by
  unfold Chip.cbBegin
  extract_lets c1 c2 c3 c4
  have h2 : c.Spares c2 := by simp [c2, c1, Chip.Spares]
  have h3 : c2.Spares c3 := by
    simp only [c3]
    split
    · exact Chip.spares_foldl _ (fun c i => Chip.spares_foldl _ (fun c ch => by simp [Chip.Spares]) _ _) _ _
    · exact .refl c2
  exact (h2.trans h3).trans (by simp [c4, Chip.Spares])

@[simp] theorem Chip.spares_cbStopped (c : Chip) : c.Spares c.cbStopped := by simp [Chip.Spares, Chip.cbStopped]
@[simp] theorem spares_cbCycleStart (c : Chip) : c.Spares (cbCycleStart c) := by simp [Chip.Spares, cbCycleStart]
@[simp] theorem Chip.spares_cbConflict (c : Chip) : c.Spares c.cbConflict := by simp [Chip.Spares, Chip.cbConflict]
@[simp] theorem spares_cbBeaconRx (p : Nat) (x : CbSeen) (f : Bytes) (c : Chip) : c.Spares (cbBeaconRx p x f c) := by simp [Chip.Spares, cbBeaconRx]
@[simp] theorem spares_cbListenTimeout (c : Chip) : c.Spares (cbListenTimeout c) := by simp [Chip.Spares, cbListenTimeout]
@[simp] theorem spares_cbOtherStarLost (c : Chip) : c.Spares (cbOtherStarLost c) := by simp [Chip.Spares, cbOtherStarLost]
@[simp] theorem Chip.spares_cbDisturb (c : Chip) (p : Nat) : c.Spares (c.cbDisturb p) := by simp [Chip.Spares, Chip.cbDisturb]
@[simp] theorem Chip.spares_cbEmpty (c : Chip) (p : Nat) : c.Spares (c.cbEmpty p) := by simp [Chip.Spares, Chip.cbEmpty]
@[simp] theorem Chip.spares_cbPresent (c : Chip) (p ch : Nat) : c.Spares (c.cbPresent p ch) := by simp [Chip.Spares, Chip.cbPresent]
@[simp] theorem Chip.spares_cbOffset (c : Chip) (p k ch : Nat) (a : Int) : c.Spares (c.cbOffset p k ch a) := by simp [Chip.Spares, Chip.cbOffset]

@[simp] theorem Chip.spares_cbSettle (c : Chip) (p k ch result : Nat) : c.Spares (c.cbSettle p k ch result) := by
  fun_cases Chip.cbSettle c p k ch result <;> simp +zetaDelta [Chip.Spares]

@[simp] theorem Chip.spares_cbBlocked (c : Chip) (p e : Nat) : c.Spares (c.cbBlocked p e) := by simp [Chip.Spares, Chip.cbBlocked]

@[simp] theorem Chip.spares_cbTakeSlot (c : Chip) (p k ch start : Nat) (s payload : Bytes) : c.Spares (c.cbTakeSlot p k ch start s payload) := by
  fun_cases Chip.cbTakeSlot c p k ch start s payload <;> simp +zetaDelta [Chip.Spares]

@[simp] theorem Chip.spares_toQ47 (c : Chip) (data info : Bytes) : c.Spares (c.toQ47 data info) := by simp [Chip.Spares, Chip.toQ47]

@[simp] theorem Chip.spares_cbTakeEvent (c : Chip) (p ch start : Nat) (data : Bytes) : c.Spares (c.cbTakeEvent p ch start data) := by
  fun_cases Chip.cbTakeEvent c p ch start data
  case case6 h => exact Chip.Spares.trans (by simp +zetaDelta [Chip.Spares]) ((Chip.core_of_enqueue h).trans (Chip.core_fieldTake _ _)).spares
  case case7 h => exact Chip.Spares.trans (by simp +zetaDelta [Chip.Spares]) (Chip.core_of_enqueue h).spares
  all_goals simp +zetaDelta [Chip.Spares]

@[simp] theorem Chip.spares_cbCloseGrant (c : Chip) (p : Nat) : c.Spares (c.cbCloseGrant p) := by simp [Chip.Spares, Chip.cbCloseGrant]
@[simp] theorem Chip.spares_cbEarlyGrant (c : Chip) (p : Nat) : c.Spares (c.cbEarlyGrant p) := by simp [Chip.Spares, Chip.cbEarlyGrant]
@[simp] theorem Chip.spares_cbForeignAt (c : Chip) (p start : Nat) : c.Spares (c.cbForeignAt p start) := by simp [Chip.Spares, Chip.cbForeignAt]

@[simp] theorem Chip.spares_cbRelay (c : Chip) (branch ch start : Nat) (f : Bytes) : c.Spares (c.cbRelay branch ch start f) := by
  refine Chip.spares_foldl _ (fun c x => ?_) _ _
  simp [Chip.Spares]

@[simp] theorem Chip.spares_cbRelayCut (c : Chip) (branch ch start close : Nat) (f : Bytes) : c.Spares (c.cbRelayCut branch ch start close f) := by
  refine Chip.spares_foldl _ (fun c x => ?_) _ _
  simp [Chip.Spares]

@[simp] theorem Chip.spares_cbJudge (c : Chip) (p k start : Nat) (s0 : Nat) (s f : Bytes) (decodes : Bool) : c.Spares (c.cbJudge p k start s0 s f decodes) := by
  simp [Chip.Spares, Chip.cbJudge]

@[simp] theorem Chip.spares_cbCrossRx (c : Chip) (p start : Nat) (decodes : Bool) (f : Bytes) : c.Spares (c.cbCrossRx p start decodes f) := by
  fun_cases Chip.cbCrossRx c p start decodes f <;> simp +zetaDelta [Chip.Spares]

@[simp] theorem Chip.spares_cbAnswerRx (c : Chip) (p start g0 : Nat) (idle decodes : Bool) (f : Bytes) : c.Spares (c.cbAnswerRx p start g0 idle decodes f) := by
  simp [Chip.Spares, Chip.cbAnswerRx]

@[simp] theorem Chip.spares_cbRunsOn (c : Chip) (p start : Nat) : c.Spares (c.cbRunsOn p start) := by fun_cases Chip.cbRunsOn c p start <;> simp [Chip.Spares]

@[simp] theorem spares_cbFrameRx (p : Nat) (x : CbSeen) (idle decodes : Bool) (f : Bytes) (c : Chip) : c.Spares (cbFrameRx p x idle decodes f c) := by
  unfold cbFrameRx
  dsimp only
  (repeat' split) <;> simp [Chip.Spares]

@[simp] theorem spares_cbWindowClose (p k : Nat) (running : Option (Nat × Bool)) (c : Chip) : c.Spares (cbWindowClose p k running c) := by
  fun_cases cbWindowClose p k running c <;> simp +zetaDelta [Chip.Spares]

@[simp] theorem spares_cbForeignActivity (x : CbStray) (c : Chip) : c.Spares (cbForeignActivity x c) := by
  fun_cases cbForeignActivity x c <;> simp [Chip.Spares]

@[simp] theorem Chip.spares_cbPick (c : Chip) (k : Nat) (s : Bytes) (count : Nat) : c.Spares (c.cbPick k s count).2 := by
  fun_cases Chip.cbPick c k s count <;> simp +zetaDelta [Chip.Spares]

@[simp] theorem Chip.spares_cbSendOwn (c : Chip) (k : Nat) (s : Bytes) : c.Spares (c.cbSendOwn k s) := by
  unfold Chip.cbSendOwn
  refine (c.spares_cbPick k s c.cb.cycleCount).trans (Chip.spares_foldl _ (fun c ch => ?_) _ _)
  split
  · split <;> simp [Chip.Spares]
  · split <;> simp [Chip.Spares]

@[simp] theorem Chip.spares_cbSendCross (c : Chip) (k : Nat) (s : Bytes) (p : Nat) : c.Spares (c.cbSendCross k s p) := by
  have h := c.spares_cbPick k s c.cb.other.cycle
  fun_cases Chip.cbSendCross c k s p <;> simp_all +zetaDelta [Chip.Spares]

@[simp] theorem spares_cbOwnSlotSend (k : Nat) (c : Chip) : c.Spares (cbOwnSlotSend k c) := by fun_cases cbOwnSlotSend k c <;> simp +zetaDelta [Chip.Spares]

@[simp] theorem Chip.spares_cbGrant (c : Chip) (img : Bytes) (now ends : Nat) : c.Spares (c.cbGrant img now ends) := by
  have sent := fun (f : Nat → Bytes) (l : List Nat) => Chip.spares_foldl (fun (c : Chip) ch => c.cbSendAll ch (f ch)) (fun c ch => c.spares_cbSendAll _ _) l c
  fun_cases Chip.cbGrant c img now ends
  · exact .refl c
  · simp +zetaDelta [Chip.Spares, sent]

@[simp] theorem Chip.spares_cbEventHead (c : Chip) (img : Bytes) (ecc : Option Nat) : c.Spares (c.cbEventHead img ecc) := by
  simp [Chip.Spares, Chip.cbEventHead]

@[simp] theorem spares_cbEventWindow (ecc : Option Nat) (c : Chip) : c.Spares (cbEventWindow ecc c) := by
  fun_cases cbEventWindow ecc c
  case case3 =>
    exact Chip.Spares.trans (by simp +zetaDelta [Chip.Spares]) (Chip.spares_foldl _ (fun c ch => c.spares_cbSendAll _ _) _ _)
  all_goals simp +zetaDelta [Chip.Spares]

@[simp] theorem spares_cbGrantResponseTimeout (p : Nat) (c : Chip) : c.Spares (cbGrantResponseTimeout p c) := by
  unfold cbGrantResponseTimeout
  split <;> simp [Chip.Spares]

@[simp] theorem spares_cbPointFire (n : Nat) (c : Chip) : c.Spares (cbPointFire n c) := by simp [Chip.Spares, cbPointFire]
theorem spares_cbStatus_act (c : Chip) (r : Bytes) : c.Spares (cbStatus.act c r).chip := by simp [cbStatus, Chip.Spares]
theorem spares_cbConfigSet_act (c : Chip) (r : Bytes) : c.Spares (cbConfigSet.act c r).chip := by simp [cbConfigSet, Chip.Spares]
theorem spares_cbConfigGet_act (c : Chip) (r : Bytes) : c.Spares (cbConfigGet.act c r).chip := by simp [cbConfigGet, Chip.Spares]
theorem spares_cbStart_act (c : Chip) (r : Bytes) : c.Spares (cbStart.act c r).chip := by simp [cbStart, Chip.Spares]
theorem spares_cbStop_act (c : Chip) (r : Bytes) : c.Spares (cbStop.act c r).chip := by simp [cbStop, Chip.Spares]
theorem spares_cbSchedStage_act (c : Chip) (r : Bytes) : c.Spares (cbSchedStage.act c r).chip := by simp [cbSchedStage, Chip.Spares]
theorem spares_cbSchedCommit_act (c : Chip) (r : Bytes) : c.Spares (cbSchedCommit.act c r).chip := by simp [cbSchedCommit, Chip.Spares]

@[simp] theorem Chip.spares_cbStage (c : Chip) (k len off : Nat) (d : Bytes) (complete : Bool) : c.Spares (c.cbStage k len off d complete) := by
  simp [Chip.Spares, Chip.cbStage]

theorem spares_cbTxWrite_act (c : Chip) (r : Bytes) : c.Spares (cbTxWrite.act c r).chip := by
  dsimp only [cbTxWrite]
  split <;> simp [Chip.Spares]

theorem spares_cbRxRead_act (c : Chip) (r : Bytes) : c.Spares (cbRxRead.act c r).chip := by
  dsimp only [cbRxRead]
  split <;> simp [Chip.Spares]

theorem Chip.spares_of_cbPlaceEvent {c c' : Chip} {dest : Nat} {low : Bool} {payload : Bytes} {n : Nat} (h : c.cbPlaceEvent dest low payload = some (n, c')) :
    c.Spares c' := by
  simp only [Chip.cbPlaceEvent, Option.ite_none_right_eq_some, Option.some.injEq, Prod.mk.injEq] at h
  obtain ⟨-, -, rfl⟩ := h
  simp [Chip.Spares]

theorem spares_cbEventSend_act (c : Chip) (r : Bytes) : c.Spares (cbEventSend.act c r).chip := by
  dsimp only [cbEventSend]
  split
  next h => exact Chip.spares_of_cbPlaceEvent h
  next => exact .refl c

theorem spares_cbEventRead_act (c : Chip) (r : Bytes) : c.Spares (cbEventRead.act c r).chip := by
  dsimp only [cbEventRead]
  split <;> simp [Chip.Spares]

theorem spares_cbSlotStatus_act (c : Chip) (r : Bytes) : c.Spares (cbSlotStatus.act c r).chip := by
  dsimp only [cbSlotStatus]
  split <;> simp [Chip.Spares]

theorem spares_cbPointSet_act (c : Chip) (r : Bytes) : c.Spares (cbPointSet.act c r).chip := by simp [cbPointSet, Chip.Spares]
theorem spares_cbCounters_act (c : Chip) (r : Bytes) : c.Spares (cbCounters.act c r).chip := by simp [cbCounters, Chip.Spares]
@[simp] theorem Chip.spares_onCanBuf (c : Chip) (n i : Nat) (f : CanBuf → CanBuf) : c.Spares (c.onCanBuf n i f) := by simp [Chip.Spares, Chip.onCanBuf]
@[simp] theorem Chip.spares_canCountBy (c : Chip) (n i k : Nat) : c.Spares (c.canCountBy n i k) := by simp [Chip.Spares, Chip.canCountBy]
@[simp] theorem Chip.spares_canCount (c : Chip) (n i : Nat) : c.Spares (c.canCount n i) := by simp [Chip.Spares, Chip.canCount]
@[simp] theorem Chip.spares_canRaise (c : Chip) (n e : Nat) : c.Spares (c.canRaise n e) := by simp [Chip.Spares, Chip.canRaise]
@[simp] theorem Chip.spares_canRaiseLimited (c : Chip) (n e : Nat) : c.Spares (c.canRaiseLimited n e) := by simp [Chip.Spares, Chip.canRaiseLimited]
@[simp] theorem Chip.spares_setCan (c : Chip) (n : Nat) (s : CanSt) : c.Spares (c.setCan n s) := by simp [Chip.Spares, Chip.setCan]
@[simp] theorem Chip.spares_canBusOff (c : Chip) (n : Nat) : c.Spares (c.canBusOff n) := by simp [Chip.Spares, Chip.canBusOff]
@[simp] theorem Chip.spares_canJudge (c : Chip) (n : Nat) : c.Spares (c.canJudge n) := by simp [Chip.Spares, Chip.canJudge]
@[simp] theorem Chip.spares_canHeard (c : Chip) (n : Nat) : c.Spares (c.canHeard n) := by simp [Chip.Spares, Chip.canHeard]
@[simp] theorem Chip.spares_canAge (c : Chip) (n : Nat) : c.Spares (c.canAge n) := by simp [Chip.Spares, Chip.canAge]
@[simp] theorem Chip.spares_canNextHead (c : Chip) (n : Nat) : c.Spares (c.canNextHead n) := by simp [Chip.Spares, Chip.canNextHead]

@[simp] theorem Chip.spares_canBegin (c : Chip) (n : Nat) (buffer : Option Nat) (cell : Bool) (f : CanFrame) : c.Spares (c.canBegin n buffer cell f) := by
  unfold Chip.canBegin
  split <;> simp [Chip.Spares]

@[simp] theorem Chip.spares_canCellEvent (c : Chip) (n i : Nat) : c.Spares (c.canCellEvent n i) := by simp [Chip.Spares, Chip.canCellEvent]
@[simp] theorem Chip.spares_canBoundary (c : Chip) (n : Nat) : c.Spares (c.canBoundary n) := by simp [Chip.Spares, Chip.canBoundary]
@[simp] theorem Chip.spares_canMatrixStart (c : Chip) (n : Nat) : c.Spares (c.canMatrixStart n) := by simp [Chip.Spares, Chip.canMatrixStart]

@[simp] theorem spares_canMatrixResume (n : Nat) (c : Chip) : c.Spares (canMatrixResume n c) := by
  fun_cases canMatrixResume n c <;> simp +zetaDelta [Chip.Spares]

@[simp] theorem Chip.spares_canDiscard (c : Chip) (n : Nat) : c.Spares (c.canDiscard n) := by simp [Chip.Spares, Chip.canDiscard]
@[simp] theorem Chip.spares_canStopped (c : Chip) (n : Nat) : c.Spares (c.canStopped n) := by simp [Chip.Spares, Chip.canStopped]
@[simp] theorem Chip.spares_canIgnore (c : Chip) (n : Nat) : c.Spares (c.canIgnore n) := by simp [Chip.Spares, Chip.canIgnore]
@[simp] theorem Chip.spares_canLeave (c : Chip) (n : Nat) : c.Spares (c.canLeave n) := by simp [Chip.Spares, Chip.canLeave]
@[simp] theorem Chip.spares_canEnded (c : Chip) (n : Nat) : c.Spares (c.canEnded n) := by simp [Chip.Spares, Chip.canEnded]

@[simp] theorem Chip.spares_canErrorEnd (c : Chip) (n : Nat) : c.Spares (c.canErrorEnd n) := by
  unfold Chip.canErrorEnd
  split <;> simp [Chip.Spares]

@[simp] theorem Chip.spares_canAt (c : Chip) (n : Nat) (p : Nat × Nat × Nat × Nat) : c.Spares (c.canAt n p) := by simp [Chip.Spares, Chip.canAt]
@[simp] theorem Chip.spares_canReplace (c : Chip) (n : Nat) : c.Spares (c.canReplace n) := by fun_cases Chip.canReplace c n <;> simp [Chip.Spares]
@[simp] theorem Chip.spares_canIdle (c : Chip) (n : Nat) : c.Spares (c.canIdle n) := by simp [Chip.Spares, Chip.canIdle]

@[simp] theorem spares_canCellStart (n : Nat) (idle : Bool) (c : Chip) : c.Spares (canCellStart n idle c) := by
  fun_cases canCellStart n idle c <;> simp +zetaDelta [Chip.Spares]

@[simp] theorem Chip.spares_canChecked (c : Chip) (n i : Nat) (took : Bool) : c.Spares (c.canChecked n i took) := by simp [Chip.Spares, Chip.canChecked]

@[simp] theorem Chip.spares_canCheckDone (c : Chip) (n : Nat) : c.Spares (c.canCheckDone n) := by
  unfold Chip.canCheckDone
  split <;> simp [Chip.Spares]

@[simp] theorem spares_canCheckCellEnd (e : CheckEnd) (c : Chip) : c.Spares (canCheckCellEnd e c) := by
  fun_cases canCheckCellEnd e c <;> simp +zetaDelta [Chip.Spares]

@[simp] theorem Chip.spares_canSendEvent (c : Chip) (n : Nat) : c.Spares (c.canSendEvent n) := by
  fun_cases Chip.canSendEvent c n <;> simp +zetaDelta [Chip.Spares]

@[simp] theorem Chip.spares_canHeadRead (c : Chip) (n : Nat) (ecc : Option Nat) : c.Spares (c.canHeadRead n ecc) := by simp [Chip.Spares, Chip.canHeadRead]

@[simp] theorem spares_canTxStart (n : Nat) (ecc : Option Nat) (c : Chip) : c.Spares (canTxStart n ecc c) := by
  fun_cases canTxStart n ecc c <;> simp +zetaDelta [Chip.Spares]

@[simp] theorem spares_canAloneRetry (n : Nat) (c : Chip) : c.Spares (canAloneRetry n c) := by simp [Chip.Spares, canAloneRetry]

@[simp] theorem Chip.spares_canLoopDelay (c : Chip) (n : Nat) (tdc : Option Nat) : c.Spares (c.canLoopDelay n tdc) := by
  unfold Chip.canLoopDelay
  split <;> simp [Chip.Spares]

@[simp] theorem Chip.spares_canClash (c : Chip) (n : Nat) (buffer : Option Nat) (clash : Bool) : c.Spares (c.canClash n buffer clash) := by
  unfold Chip.canClash
  split <;> simp [Chip.Spares]

@[simp] theorem Chip.spares_canAckError (c : Chip) (n : Nat) : c.Spares (c.canAckError n) := by simp [Chip.Spares, Chip.canAckError]

@[simp] theorem Chip.spares_canErrorCount (c : Chip) (n : Nat) (k : CanErr) : c.Spares (c.canErrorCount n k) := by
  unfold Chip.canErrorCount
  split <;> simp [Chip.Spares]

@[simp] theorem Chip.spares_canTxError (c : Chip) (n : Nat) (s : CanTx) (k : CanErr) (clash exempt : Bool) (extra : Nat) : c.Spares (c.canTxError n s k clash exempt extra) := by
  simp [Chip.Spares, Chip.canTxError]

@[simp] theorem Chip.spares_canFlagError (c : Chip) (n up : Nat) : c.Spares (c.canFlagError n up) := by simp [Chip.Spares, Chip.canFlagError]

@[simp] theorem spares_canError (n kind : Nat) (clash exempt : Bool) (extra : CanExtra) (c : Chip) : c.Spares (canError n kind clash exempt extra c) := by
  fun_cases canError n kind clash exempt extra c <;> simp +zetaDelta [Chip.Spares]

@[simp] theorem spares_canTxComplete (n : Nat) (tdc : Option Nat) (c : Chip) : c.Spares (canTxComplete n tdc c) := by
  unfold canTxComplete
  dsimp only
  (repeat' split) <;> simp [Chip.Spares]

@[simp] theorem Chip.spares_canToBuffers (c : Chip) (n sof : Nat) (f : CanFrame) : c.Spares (c.canToBuffers n sof f).1 := by
  fun_cases Chip.canToBuffers c n sof f <;> simp +zetaDelta [Chip.Spares]

@[simp] theorem Chip.spares_canReceive (c : Chip) (n sof : Nat) (f : CanFrame) : c.Spares (c.canReceive n sof f) := by
  unfold Chip.canReceive
  dsimp only
  (repeat' split) <;> simp [Chip.Spares]

@[simp] theorem Chip.spares_canHear (c : Chip) (n sof : Nat) (f : CanFrame) : c.Spares (c.canHear n sof f) := by simp [Chip.Spares, Chip.canHear]
@[simp] theorem spares_canIntegrated (n : Nat) (c : Chip) : c.Spares (canIntegrated n c) := by simp [Chip.Spares, canIntegrated]
@[simp] theorem spares_canRecoveryComplete (n : Nat) (c : Chip) : c.Spares (canRecoveryComplete n c) := by simp [Chip.Spares, canRecoveryComplete]
@[simp] theorem Chip.spares_canAnswer (c : Chip) (x : CanChan) : c.Spares (c.canAnswer x) := by simp [Chip.Spares, Chip.canAnswer]
@[simp] theorem Chip.spares_canHalt (c : Chip) (n : Nat) : c.Spares (c.canHalt n) := by simp [Chip.Spares, Chip.canHalt]
@[simp] theorem Chip.spares_canIsolate (c : Chip) (n : Nat) : c.Spares (c.canIsolate n) := by simp [Chip.Spares, Chip.canIsolate]

@[simp] theorem Chip.spares_canStage (c : Chip) (n i off : Nat) (d : Bytes) (complete : Bool) : c.Spares (c.canStage n i off d complete) := by
  simp [Chip.Spares, Chip.canStage]

theorem Chip.spares_of_canPush {c c' : Chip} {n : Nat} {f : CanFrame} (h : c.canPush n f = some c') : c.Spares c' := by
  unfold Chip.canPush at h
  split at h
  · cases h
    exact (c.core_enqueue _ _ _).spares
  · cases h

theorem spares_canStatus_act (c : Chip) (r : Bytes) : c.Spares (canStatus.act c r).chip := by simp [canStatus, Chip.Spares]
theorem spares_canConfigSet_act (c : Chip) (r : Bytes) : c.Spares (canConfigSet.act c r).chip := by simp [canConfigSet, Chip.Spares]
theorem spares_canConfigGet_act (c : Chip) (r : Bytes) : c.Spares (canConfigGet.act c r).chip := by simp [canConfigGet, Chip.Spares]

theorem spares_canStart_act (c : Chip) (r : Bytes) : c.Spares (canStart.act c r).chip := by
  dsimp only [canStart]
  split <;> simp [Chip.Spares]

@[simp] theorem Chip.spares_canBusy (c : Chip) (n : Nat) : c.Spares (c.canBusy n).2 := by
  fun_cases Chip.canBusy c n <;> simp [Chip.Spares]

theorem spares_canStop_act (c : Chip) (r : Bytes) : c.Spares (canStop.act c r).chip := by
  have h := c.spares_canBusy (u8 r 0)
  dsimp only [canStop]
  split
  next hb =>
    rw [hb] at h
    exact h.trans (by simp [Chip.Spares])
  next hb =>
    rw [hb] at h
    exact h.trans (by simp [Chip.Spares])

theorem spares_canRecover_act (c : Chip) (r : Bytes) : c.Spares (canRecover.act c r).chip := by simp [canRecover, Chip.Spares]
theorem spares_canBufSet_act (c : Chip) (r : Bytes) : c.Spares (canBufSet.act c r).chip := by simp [canBufSet, Chip.Spares]
theorem spares_canBufGet_act (c : Chip) (r : Bytes) : c.Spares (canBufGet.act c r).chip := by simp [canBufGet, Chip.Spares]
theorem spares_canTxWrite_act (c : Chip) (r : Bytes) : c.Spares (canTxWrite.act c r).chip := by simp [canTxWrite, Chip.Spares]

theorem spares_canRxRead_act (c : Chip) (r : Bytes) : c.Spares (canRxRead.act c r).chip := by
  dsimp only [canRxRead]
  split <;> simp [Chip.Spares]

theorem spares_canSend_act (c : Chip) (r : Bytes) : c.Spares (canSend.act c r).chip := by
  dsimp only [canSend]
  split
  next h => exact Chip.spares_of_canPush h
  next => simp [Chip.Spares]

theorem spares_canMatrixStage_act (c : Chip) (r : Bytes) : c.Spares (canMatrixStage.act c r).chip := by simp [canMatrixStage, Chip.Spares]
theorem spares_canMatrixCommit_act (c : Chip) (r : Bytes) : c.Spares (canMatrixCommit.act c r).chip := by simp [canMatrixCommit, Chip.Spares]
theorem spares_canBufResume_act (c : Chip) (r : Bytes) : c.Spares (canBufResume.act c r).chip := by simp [canBufResume, Chip.Spares]
theorem spares_canCounters_act (c : Chip) (r : Bytes) : c.Spares (canCounters.act c r).chip := by simp [canCounters, Chip.Spares]

@[simp] theorem Chip.spares_storeRecord (c : Chip) (b : Bytes) (alert : Nat) : c.Spares (c.storeRecord b alert) := by
  unfold Chip.storeRecord
  split
  · exact Chip.Spares.trans (by simp [Chip.Spares]) (Chip.reports_noteDrop _ _).firm.spares
  · simp [Chip.Spares]

@[simp] theorem Chip.spares_readWords (c : Chip) (ws : List Nat) (i : Nat) : c.Spares (c.readWords ws i) := by simp [Chip.Spares, Chip.readWords]
@[simp] theorem Chip.spares_readSlot (c : Chip) (i : Nat) : c.Spares (c.readSlot i) := by simp [Chip.Spares, Chip.readSlot]

@[simp] theorem Chip.spares_recorderScan (c : Chip) : c.Spares c.recorderScan := by
  have scanned := fun (l : List Nat) (c : Chip) => Chip.spares_foldl (Chip.readWords · [0, 7]) (fun c i => c.spares_readWords _ _) l c
  simp [Chip.Spares, Chip.recorderScan, scanned]

@[simp] theorem Chip.spares_recorderFail (c : Chip) : c.Spares c.recorderFail := by simp [Chip.Spares, Chip.recorderFail]
@[simp] theorem Chip.spares_eraseEnd (c : Chip) : c.Spares c.eraseEnd := by simp [Chip.Spares, Chip.eraseEnd]

@[simp] theorem spares_recordStore (arisen : List (Nat × Nat)) (ecc : Option Nat) (c : Chip) : c.Spares (recordStore arisen ecc c) := by
  unfold recordStore
  extract_lets c1
  have h1 : c.Spares c1 := by simp [c1, Chip.Spares]
  refine h1.trans ?_
  split
  · exact .refl c1
  · simp [Chip.Spares]
  · split
    next h => exact Chip.spares_of_takeHead h
    next h => exact (Chip.spares_of_takeHead h).trans (by simp [Chip.Spares])
  · split
    next h => exact Chip.spares_of_takeHead h
    next h => exact (Chip.spares_of_takeHead h).trans (by simp [Chip.Spares])

@[simp] theorem Chip.spares_saveTimes (c : Chip) : c.Spares c.saveTimes := by simp [Chip.Spares, Chip.saveTimes]
@[simp] theorem spares_optimeSave (c : Chip) : c.Spares (optimeSave c) := by simp [Chip.Spares, optimeSave]
theorem spares_recStatus_act (c : Chip) (r : Bytes) : c.Spares (recStatus.act c r).chip := by simp [recStatus, Chip.Spares]
theorem spares_recConfigSet_act (c : Chip) (r : Bytes) : c.Spares (recConfigSet.act c r).chip := by simp [recConfigSet, Chip.Spares]
theorem spares_recConfigGet_act (c : Chip) (r : Bytes) : c.Spares (recConfigGet.act c r).chip := by simp [recConfigGet, Chip.Spares]

theorem spares_recRead_act (c : Chip) (r : Bytes) : c.Spares (recRead.act c r).chip :=
  Chip.spares_foldl Chip.readSlot (fun c i => c.spares_readSlot i) _ _

theorem spares_recCopy_act (c : Chip) (r : Bytes) : c.Spares (recCopy.act c r).chip :=
  (Chip.spares_foldl Chip.readSlot (fun c i => c.spares_readSlot i) _ _).trans (Chip.spares_copyOut _ _ _ _ _ _)

theorem spares_recSeqRead_act (c : Chip) (r : Bytes) : c.Spares (recSeqRead.act c r).chip :=
  Chip.spares_foldl (Chip.readWords · [0]) (fun c i => c.spares_readWords _ _) _ _

theorem spares_recWrite_act (c : Chip) (r : Bytes) : c.Spares (recWrite.act c r).chip := by
  have taken := (c.firm_intake (c.makeRecord (u8 r 0) 1 0 (u16 r 2) 0 0 0 (r.drop 8))).spares
  have noted := fun (c : Chip) d => (Chip.reports_noteDrop c d).firm.spares
  dsimp only [recWrite]
  split
  · exact taken.trans (noted _ _)
  · exact (taken.trans (noted _ _)).trans (Chip.firm_logCount _ _).spares
  · exact taken.trans (Chip.firm_logCount _ _).spares

theorem spares_recErase_act (c : Chip) (r : Bytes) : c.Spares (recErase.act c r).chip := by simp [recErase, Chip.Spares]
theorem spares_recCounters_act (c : Chip) (r : Bytes) : c.Spares (recCounters.act c r).chip := by simp [recCounters, Chip.Spares]
@[simp] theorem Chip.spares_onGuard (c : Chip) (e w : Nat) (f : Guard → Guard) : c.Spares (c.onGuard e w f) := by simp [Chip.Spares, Chip.onGuard]
@[simp] theorem Chip.spares_judged (c : Chip) (e port : Nat) (j : Judged) : c.Spares (c.judged e port j) := by simp [Chip.Spares, Chip.judged]

theorem Chip.spares_of_writeDest {c c' : Chip} {img e : Bytes} {i j result : Nat} {f : FieldFrame} (h : c.writeDest img e i j result f = .yes c') : c.Spares c' := by
  unfold Chip.writeDest at h
  extract_lets d kind port key fl so n bytes off unit down g alive guarded done fresh staged msg at h
  have doneOk : ∀ a : Chip, done a = .yes c' → a.Spares c' := fun a ha => by
    cases ha
    simp [Chip.Spares]
  have freshOk : ∀ cap len put, (∀ p a, put p = some a → c.Spares a) → fresh cap len put = .yes c' → c.Spares c' := fun cap len put hp hf => by
    simp only [fresh] at hf
    split at hf
    · cases hf
    · split at hf
      · cases hf
      · split at hf
        next hs => exact (hp _ _ hs).trans (doneOk _ hf)
        next => cases hf
  have stagedOk : ∀ cap old put, (∀ p, c.Spares (put p)) → staged cap old put = .yes c' → c.Spares c' := fun cap old put hp hf => by
    simp only [staged] at hf
    split at hf
    · cases hf
    · split at hf
      · cases hf
      · exact (hp _).trans (doneOk _ hf)
  have msgOk : ∀ t, msg t = .yes c' → c.Spares c' := fun t hm => by
    refine freshOk _ _ _ (fun p a hp => ?_) hm
    simp only [Option.ite_none_right_eq_some, Option.map_eq_some_iff, Prod.exists] at hp
    obtain ⟨-, t, a, hpost, rfl⟩ := hp
    exact Chip.spares_of_post hpost
  clear_value done fresh staged msg kind
  split at h
  · cases h
  · split at h
    · cases h
    · split at h
      · split at h
        · cases h
        · exact freshOk _ _ _ (fun p a hp => Chip.spares_of_canPush hp) h
      · split at h
        · cases h
        · exact stagedOk _ _ _ (fun p => c.spares_canStage _ _ _ _ _) h
      · split at h
        · split at h
          · cases h
          · exact stagedOk _ _ _ (fun p => c.spares_cbStage _ _ _ _ _) h
        · cases h
      · split at h
        · cases h
        · refine freshOk _ _ _ (fun p a hp => ?_) h
          simp only [Option.map_eq_some_iff, Prod.exists] at hp
          obtain ⟨n, a, hplace, rfl⟩ := hp
          exact Chip.spares_of_cbPlaceEvent hplace
      · split at h
        · split at h
          · exact stagedOk _ _ _ (fun p => c.spares_pdStage _ _ _ _ _) h
          · cases h
        · cases h
      · split at h
        · cases h
        · split at h
          · cases h
          · exact msgOk _ h
      · refine freshOk _ _ _ (fun p a hp => ?_) h
        simp only [Option.ite_none_right_eq_some, Option.some.injEq] at hp
        obtain ⟨-, rfl⟩ := hp
        exact (c.core_enqueue _ _ _).spares
      · cases h

@[simp] theorem Chip.spares_writeAll (c : Chip) (img e : Bytes) (i result : Nat) (f : FieldFrame) : c.Spares (c.writeAll img e i result f) := by
  refine Chip.spares_foldl _ (fun c j => ?_) _ _
  split
  · exact .refl c
  · split
    next h => exact (Chip.spares_of_writeDest h).trans (by simp [Chip.Spares])
    all_goals simp [Chip.Spares]

@[simp] theorem Chip.spares_leaveQ46 (c : Chip) (f : FieldFrame) (taken : Bool) : c.Spares (c.leaveQ46 f taken) := by
  fun_cases Chip.leaveQ46 c f taken <;> simp +zetaDelta [Chip.Spares]

@[simp] theorem Chip.spares_lookupOne (c : Chip) : c.Spares c.lookupOne := by fun_cases Chip.lookupOne c <;> simp +zetaDelta [Chip.Spares]
@[simp] theorem spares_routerLookup (c : Chip) : c.Spares (routerLookup c) := by simp [Chip.Spares, routerLookup]

@[simp] theorem spares_guardTimeout (i : Nat) (c : Chip) : c.Spares (guardTimeout i c) := by
  unfold guardTimeout
  split <;> simp [Chip.Spares]

@[simp] theorem Chip.spares_rtFreshStreams (c : Chip) (old new : Option Bytes) : c.Spares (c.rtFreshStreams old new) := by
  simp [Chip.Spares, Chip.rtFreshStreams]

@[simp] theorem Chip.spares_rtNewImage (c : Chip) (f : EpochShadow (Option Bytes) → EpochShadow (Option Bytes)) : c.Spares (c.rtNewImage f) := by
  simp [Chip.Spares, Chip.rtNewImage]

@[simp] theorem Chip.spares_rtSwitch (c : Chip) : c.Spares c.rtSwitch := by simp [Chip.Spares, Chip.rtSwitch]
theorem spares_routeStatus_act (c : Chip) (r : Bytes) : c.Spares (routeStatus.act c r).chip := by simp [routeStatus, Chip.Spares]
theorem spares_routeStart_act (c : Chip) (r : Bytes) : c.Spares (routeStart.act c r).chip := by simp [routeStart, Chip.Spares]

@[simp] theorem Chip.spares_routerStop (c : Chip) : c.Spares c.routerStop := by
  have looked := fun (l : List Nat) (c : Chip) => Chip.spares_foldl (fun (c : Chip) (_ : Nat) => c.lookupOne) (fun c _ => c.spares_lookupOne) l c
  simp [Chip.Spares, Chip.routerStop, looked]

theorem spares_routeStop_act (c : Chip) (r : Bytes) : c.Spares (routeStop.act c r).chip := by simp [routeStop, Chip.Spares]
theorem spares_routeStage_act (c : Chip) (r : Bytes) : c.Spares (routeStage.act c r).chip := by simp [routeStage, Chip.Spares]
theorem spares_routeCommit_act (c : Chip) (r : Bytes) : c.Spares (routeCommit.act c r).chip := by simp [routeCommit, Chip.Spares]

theorem spares_routeEntryGet_act (c : Chip) (r : Bytes) : c.Spares (routeEntryGet.act c r).chip := by
  dsimp only [routeEntryGet]
  split <;> simp [Chip.Spares]

theorem spares_routeEntryEnable_act (c : Chip) (r : Bytes) : c.Spares (routeEntryEnable.act c r).chip := by
  dsimp only [routeEntryEnable]
  split <;> simp [Chip.Spares]

theorem spares_guardStatus_act (c : Chip) (r : Bytes) : c.Spares (guardStatus.act c r).chip := by simp [guardStatus, Chip.Spares]
theorem spares_guardReset_act (c : Chip) (r : Bytes) : c.Spares (guardReset.act c r).chip := by simp [guardReset, Chip.Spares]
theorem spares_routeCounters_act (c : Chip) (r : Bytes) : c.Spares (routeCounters.act c r).chip := by simp [routeCounters, Chip.Spares]

theorem spares_guardCompute_act (c : Chip) (r : Bytes) : c.Spares (guardCompute.act c r).chip := by
  dsimp only [guardCompute]
  split <;> simp [Chip.Spares]

end Sys2Proof.Machine
end

section
/-! The mailboxes of the island, train time, power and the start: what their functions leave of the fuses and of the channels of the safety island. -/
namespace Sys2Proof.Machine

@[simp] theorem Chip.spares_fwRaise (c : Chip) (e kind arg detail : Nat) : c.Spares (c.fwRaise e kind arg detail) := by simp [Chip.Spares, Chip.fwRaise]

@[simp] theorem Chip.spares_safeLog (c : Chip) (kind result setId check prev : Nat) : c.Spares (c.safeLog kind result setId check prev) := by
  simp [Chip.Spares, Chip.safeLog]

@[simp] theorem Chip.spares_safeEvents (c : Chip) (s : SafeIsland) : c.Spares (c.safeEvents s) :=
  have h := (islandKept_safeEvents c s).logged
  ⟨(islandKept_safeEvents c s).outside.fuses, (congrArg SafeIsland.nutmeg h :), (congrArg SafeIsland.mace h :)⟩

@[simp] theorem Chip.spares_judgePassword (c : Chip) (p : Bytes) : c.Spares (c.judgePassword p).2 := by
  fun_cases Chip.judgePassword c p <;> simp +zetaDelta [Chip.Spares, SafeIsland.count]

theorem spares_safeStatus_act (c : Chip) (r : Bytes) : c.Spares (safeStatus.act c r).chip := by simp [safeStatus, Chip.Spares]
theorem spares_safeIoStatus_act (c : Chip) (r : Bytes) : c.Spares (safeIoStatus.act c r).chip := by simp [safeIoStatus, Chip.Spares]
theorem spares_safeParamStage_act (c : Chip) (r : Bytes) : c.Spares (safeParamStage.act c r).chip := by simp [safeParamStage, Chip.Spares]
theorem spares_safeParamCommit_act (c : Chip) (r : Bytes) : c.Spares (safeParamCommit.act c r).chip := by simp [safeParamCommit, Chip.Spares]
theorem spares_safeParamRead_act (c : Chip) (r : Bytes) : c.Spares (safeParamRead.act c r).chip := by simp [safeParamRead, Chip.Spares]

theorem spares_safeConfigEnter_act (c : Chip) (r : Bytes) : c.Spares (safeConfigEnter.act c r).chip := by
  have h := c.spares_judgePassword (passwordAt r 4)
  dsimp only [safeConfigEnter]
  split
  next hj => rwa [hj] at h
  next hj =>
    rw [hj] at h
    exact h.trans (by simp [Chip.Spares])

theorem spares_safeConfigLeave_act (c : Chip) (r : Bytes) : c.Spares (safeConfigLeave.act c r).chip := by simp [safeConfigLeave, Chip.Spares]

theorem spares_safePasswordSet_act (c : Chip) (r : Bytes) : c.Spares (safePasswordSet.act c r).chip := by
  have h := c.spares_judgePassword (passwordAt r 0)
  cases hset : c.safe.password.isSome <;> simp_all [safePasswordSet, Chip.Spares]

theorem spares_safeLogRead_act (c : Chip) (r : Bytes) : c.Spares (safeLogRead.act c r).chip := by simp [safeLogRead, Chip.Spares]
theorem spares_safeCounters_act (c : Chip) (r : Bytes) : c.Spares (safeCounters.act c r).chip := by simp [safeCounters, Chip.Spares]
@[simp] theorem Chip.spares_onTile (c : Chip) (p : Nat) (f : HopTile → HopTile) : c.Spares (c.onTile p f) := by simp [Chip.Spares, Chip.onTile]
@[simp] theorem Chip.spares_tmCountBy (c : Chip) (i n : Nat) : c.Spares (c.tmCountBy i n) := by simp [Chip.Spares, Chip.tmCountBy]
@[simp] theorem Chip.spares_tmCount (c : Chip) (i : Nat) : c.Spares (c.tmCount i) := by simp [Chip.Spares, Chip.tmCount]

@[simp] theorem Chip.spares_sendTime (c : Chip) (p kind : Nat) (body : Bytes) : c.Spares (c.sendTime p kind body) := by
  unfold Chip.sendTime
  split
  next h => exact Chip.Spares.trans (by simp [Chip.Spares]) ((Chip.firm_of_originate h).spares.trans (by simp [Chip.Spares]))
  next => exact .refl c

@[simp] theorem spares_latencyTempCorrection (p : Nat) (tx rx : Int) (c : Chip) : c.Spares (latencyTempCorrection p tx rx c) := by
  simp [Chip.Spares, latencyTempCorrection]

@[simp] theorem Chip.spares_sendTdreq (c : Chip) (p : Nat) : c.Spares (c.sendTdreq p) := by simp [Chip.Spares, Chip.sendTdreq]
@[simp] theorem spares_delayRequestTimer (p : Nat) (c : Chip) : c.Spares (delayRequestTimer p c) := by simp [Chip.Spares, delayRequestTimer]

@[simp] theorem Chip.spares_reportDelay (c : Chip) (p : Nat) : c.Spares (c.reportDelay p) := by
  unfold Chip.reportDelay
  split <;> simp [Chip.Spares]

@[simp] theorem spares_delayBurstEnd (p : Nat) (c : Chip) : c.Spares (delayBurstEnd p c) := by simp [Chip.Spares, delayBurstEnd]
@[simp] theorem spares_tdreqRx (p : Nat) (raw : Bytes) (c : Chip) : c.Spares (tdreqRx p raw c) := by simp [Chip.Spares, tdreqRx]

@[simp] theorem spares_tdrespRx (p ps : Nat) (raw : Bytes) (c : Chip) : c.Spares (tdrespRx p ps raw c) := by
  fun_cases tdrespRx p ps raw c <;> simp +zetaDelta [Chip.Spares]

@[simp] theorem spares_delaySampleTimeout (p : Nat) (c : Chip) : c.Spares (delaySampleTimeout p c) := by simp [Chip.Spares, delaySampleTimeout]

@[simp] theorem Chip.spares_sendTsync (c : Chip) (e : Nat) : c.Spares (c.sendTsync e) := by
  refine Chip.spares_foldl _ (fun c x => ?_) _ _
  simp [Chip.Spares]

@[simp] theorem Chip.spares_stepTime (c : Chip) (theta : Int) : c.Spares (c.stepTime theta) := by simp [Chip.Spares, Chip.stepTime]
@[simp] theorem Chip.spares_slew (c : Chip) (theta : Int) : c.Spares (c.slew theta) := by simp [Chip.Spares, Chip.slew]

@[simp] theorem Chip.spares_judgeLock (c : Chip) (theta : Int) (valid : Bool) : c.Spares (c.judgeLock theta valid) := by
  unfold Chip.judgeLock
  split <;> simp [Chip.Spares]

@[simp] theorem Chip.spares_followTsync (c : Chip) (p : Nat) (theta : Int) (arrival : Nat) (m : Tsync) : c.Spares (c.followTsync p theta arrival m) := by
  simp [Chip.Spares, Chip.followTsync]

@[simp] theorem spares_tsyncRx (p ps : Nat) (raw : Bytes) (c : Chip) : c.Spares (tsyncRx p ps raw c) := by
  fun_cases tsyncRx p ps raw c <;> simp +zetaDelta [Chip.Spares]

@[simp] theorem spares_tsyncGmTimer (c : Chip) : c.Spares (tsyncGmTimer c) := by simp [Chip.Spares, tsyncGmTimer]
@[simp] theorem spares_holdoverTsyncTimer (c : Chip) : c.Spares (holdoverTsyncTimer c) := by simp [Chip.Spares, holdoverTsyncTimer]
@[simp] theorem spares_tsyncLossTimeout (c : Chip) : c.Spares (tsyncLossTimeout c) := by simp [Chip.Spares, tsyncLossTimeout]
@[simp] theorem spares_holdoverLimitExceeded (c : Chip) : c.Spares (holdoverLimitExceeded c) := by simp [Chip.Spares, holdoverLimitExceeded]
@[simp] theorem Chip.spares_refJudge (c : Chip) (good : Bool) : c.Spares (c.refJudge good) := by simp [Chip.Spares, Chip.refJudge]
@[simp] theorem spares_trefInPulse (ps : Nat) (c : Chip) : c.Spares (trefInPulse ps c) := by fun_cases trefInPulse ps c <;> simp +zetaDelta [Chip.Spares]
@[simp] theorem spares_trefInMissing (c : Chip) : c.Spares (trefInMissing c) := by simp [Chip.Spares, trefInMissing]
@[simp] theorem spares_trefOutPulse (c : Chip) : c.Spares (trefOutPulse c) := by simp [Chip.Spares, trefOutPulse]
@[simp] theorem spares_cepFire (n : Nat) (c : Chip) : c.Spares (cepFire n c) := by simp [Chip.Spares, cepFire]

@[simp] theorem spares_saffronInternalTick (c : Chip) : c.Spares (saffronInternalTick c) := by
  unfold saffronInternalTick
  dsimp only
  (repeat' split) <;> simp [Chip.Spares]

theorem spares_timeStatus_act (c : Chip) (r : Bytes) : c.Spares (timeStatus.act c r).chip := by simp [timeStatus, Chip.Spares]
theorem spares_timeConfigSet_act (c : Chip) (r : Bytes) : c.Spares (timeConfigSet.act c r).chip := by simp [timeConfigSet, Chip.Spares]
theorem spares_timeConfigGet_act (c : Chip) (r : Bytes) : c.Spares (timeConfigGet.act c r).chip := by simp [timeConfigGet, Chip.Spares]
theorem spares_timeNow_act (c : Chip) (r : Bytes) : c.Spares (timeNow.act c r).chip := by simp [timeNow, Chip.Spares]
theorem spares_timeRefTod_act (c : Chip) (r : Bytes) : c.Spares (timeRefTod.act c r).chip := by simp [timeRefTod, Chip.Spares]
theorem spares_cepSet_act (c : Chip) (r : Bytes) : c.Spares (cepSet.act c r).chip := by simp [cepSet, Chip.Spares]
theorem spares_cepGet_act (c : Chip) (r : Bytes) : c.Spares (cepGet.act c r).chip := by simp [cepGet, Chip.Spares]
theorem spares_cepStatus_act (c : Chip) (r : Bytes) : c.Spares (cepStatus.act c r).chip := by simp [cepStatus, Chip.Spares]
theorem spares_timePort_act (c : Chip) (r : Bytes) : c.Spares (timePort.act c r).chip := by simp [timePort, Chip.Spares]
theorem spares_timeCounters_act (c : Chip) (r : Bytes) : c.Spares (timeCounters.act c r).chip := by simp [timeCounters, Chip.Spares]
@[simp] theorem Chip.spares_load (c : Chip) (s : Stored) : c.Spares (c.load s) := by simp [Chip.Spares, Chip.load]

@[simp] theorem Chip.spares_countRetries (c : Chip) : c.Spares c.countRetries := by
  unfold Chip.countRetries
  split <;> simp [Chip.Spares]

@[simp] theorem Chip.core_bridgeHalt (c : Chip) : c.Core c.bridgeHalt := by
  unfold Chip.bridgeHalt
  extract_lets fars c1
  have h : c.Core c1 := Chip.core_foldl _ (fun c f => c.core_farFails f) _ _
  exact h.trans (by simp [Chip.Core])

@[simp] theorem Chip.spares_fwDown (c : Chip) (cause : Nat) : c.Spares (c.fwDown cause) := by simp [Chip.Spares, Chip.fwDown]
@[simp] theorem Chip.firm_pwCount (c : Chip) (i : Nat) : c.Firm (c.pwCount i) := by simp [Chip.Firm, Chip.pwCount]
@[simp] theorem Chip.firm_setClove (c : Chip) (s : ClSt) : c.Firm (c.setClove s) := by fun_cases Chip.setClove c s <;> simp +zetaDelta [Chip.Firm]
@[simp] theorem Chip.firm_wakePulse (c : Chip) : c.Firm c.wakePulse := by simp [Chip.Firm, Chip.wakePulse]
@[simp] theorem Chip.spares_tieWake (c : Chip) (cause port : Nat) : c.Spares (c.tieWake cause port) := by simp [Chip.Spares, Chip.tieWake]
@[simp] theorem Chip.spares_wakeUp (c : Chip) (cause port reset : Nat) : c.Spares (c.wakeUp cause port reset) := by simp [Chip.Spares, Chip.wakeUp]

@[simp] theorem Chip.spares_quiesce (c : Chip) : c.Spares c.quiesce := by
  unfold Chip.quiesce
  generalize List.range 12 = channels
  split
  · exact .refl c
  · extract_lets c1 c2 c3 c4
    have h2 : c.Spares c2 := by simp [c2, c1, Chip.Spares]
    have h3 : c2.Spares c3 := Chip.spares_foldl _ (fun c n => by split <;> simp [Chip.Spares]) _ _
    have h4 : c3.Spares c4 := by simp [c4, Chip.Spares]
    exact ((h2.trans h3).trans h4).trans ⟨rfl, rfl, rfl⟩

@[simp] theorem Chip.spares_enterPrepare (c : Chip) : c.Spares c.enterPrepare := by simp [Chip.Spares, Chip.enterPrepare]
@[simp] theorem Chip.spares_switchOff (c : Chip) (failSafe : Bool) : c.Spares (c.switchOff failSafe) := by simp [Chip.Spares, Chip.switchOff]
@[simp] theorem Chip.spares_failSafePath (c : Chip) : c.Spares c.failSafePath := by simp [Chip.Spares, Chip.failSafePath]

@[simp] theorem Chip.firm_sendTwice (c : Chip) (ends : List Nat) (m : LeaseMsg) : c.Firm (c.sendTwice ends m) := by
  refine Chip.firm_foldl _ (fun c x => ?_) _ _
  simp [Chip.Firm]

@[simp] theorem Chip.firm_cancelGrant (c : Chip) : c.Firm c.cancelGrant := by
  unfold Chip.cancelGrant
  split <;> simp [Chip.Firm]

@[simp] theorem Chip.firm_floodAbort (c : Chip) (g : SleepGrant) : c.Firm (c.floodAbort g) := by simp [Chip.Firm, Chip.floodAbort]
@[simp] theorem Chip.firm_askAbort (c : Chip) (g : SleepGrant) (at_ : Nat) : c.Firm (c.askAbort g at_) := by simp [Chip.Firm, Chip.askAbort]
@[simp] theorem Chip.firm_latchWake (c : Chip) : c.Firm c.latchWake := by simp [Chip.Firm, Chip.latchWake]

@[simp] theorem Chip.firm_wakeRequest (c : Chip) (now : Nat) : c.Firm (c.wakeRequest now).2 := by
  unfold Chip.wakeRequest
  split
  · split <;> simp [Chip.Firm]
  all_goals simp [Chip.Firm]

@[simp] theorem spares_trainWakePulseDetect (rear : Bool) (c : Chip) : c.Spares (trainWakePulseDetect rear c) := by simp [Chip.Spares, trainWakePulseDetect]
@[simp] theorem spares_wakePulseEnd (c : Chip) : c.Spares (wakePulseEnd c) := by simp [Chip.Spares, wakePulseEnd]
@[simp] theorem spares_canWakeDetect (n : Nat) (c : Chip) : c.Spares (canWakeDetect n c) := by simp [Chip.Spares, canWakeDetect]
@[simp] theorem spares_carbusWakeDetect (port : Nat) (c : Chip) : c.Spares (carbusWakeDetect port c) := by simp [Chip.Spares, carbusWakeDetect]
@[simp] theorem spares_wakeAfterExpiry (c : Chip) : c.Spares (wakeAfterExpiry c) := by simp [Chip.Spares, wakeAfterExpiry]
@[simp] theorem Chip.firm_confirmWake (c : Chip) : c.Firm c.confirmWake := by simp [Chip.Firm, Chip.confirmWake]
@[simp] theorem spares_falseWakeTimeout (c : Chip) : c.Spares (falseWakeTimeout c) := by simp [Chip.Spares, falseWakeTimeout]
@[simp] theorem spares_phyEnergyDetect (p : Nat) (c : Chip) : c.Spares (phyEnergyDetect p c) := by simp [Chip.Spares, phyEnergyDetect]

theorem Chip.spares_sleepRx (c : Chip) (p : Nat) (raw : Sourced) {k : Chip → LeaseMsg → Chip} (hk : ∀ (c : Chip) m, c.Spares (k c m)) : c.Spares (c.sleepRx p raw k) := by
  unfold Chip.sleepRx
  split
  · exact .refl c
  · split
    · simp [Chip.Spares]
    · split
      · exact hk c _
      · exact .refl c

@[simp] theorem spares_sleepVoteTimer (c : Chip) : c.Spares (sleepVoteTimer c) := by simp [Chip.Spares, sleepVoteTimer]

@[simp] theorem spares_sleepVoteRx (p : Nat) (raw : Sourced) (c : Chip) : c.Spares (sleepVoteRx p raw c) := by
  refine Chip.spares_sleepRx _ _ _ fun c m => ?_
  split
  · exact .refl c
  · exact Chip.spares_hearLease _ _ _ _ _ _ fun c => by simp [Chip.Spares]

@[simp] theorem spares_sleepVoteExpiry (c : Chip) : c.Spares (sleepVoteExpiry c) := by simp [Chip.Spares, sleepVoteExpiry]
@[simp] theorem Chip.spares_armSleep (c : Chip) (g : SleepGrant) : c.Spares (c.armSleep g) := by simp [Chip.Spares, Chip.armSleep]
@[simp] theorem spares_sleepGrantIssue (c : Chip) : c.Spares (sleepGrantIssue c) := by simp [Chip.Spares, sleepGrantIssue]

@[simp] theorem spares_sleepGrantRx (p : Nat) (raw : Sourced) (c : Chip) : c.Spares (sleepGrantRx p raw c) := by
  refine Chip.spares_sleepRx _ _ _ fun c m => ?_
  split
  · exact .refl c
  · exact Chip.spares_hearLease _ _ _ _ _ _ fun c => by simp [Chip.Spares]

@[simp] theorem spares_abortRequestRx (p : Nat) (raw : Sourced) (c : Chip) : c.Spares (abortRequestRx p raw c) := by
  refine Chip.spares_sleepRx _ _ _ fun c m => ?_
  split
  · exact .refl c
  · refine Chip.spares_hearLease _ _ _ _ _ _ fun c => ?_
    split <;> simp [Chip.Spares]

@[simp] theorem spares_sleepAbortRx (p : Nat) (raw : Sourced) (c : Chip) : c.Spares (sleepAbortRx p raw c) := by
  refine Chip.spares_sleepRx _ _ _ fun c m => ?_
  split
  · exact .refl c
  · refine Chip.spares_hearLease _ _ _ _ _ _ fun c => ?_
    dsimp only
    split <;> simp [Chip.Spares]

@[simp] theorem spares_sleepInstant (c : Chip) : c.Spares (sleepInstant c) := by
  unfold sleepInstant
  split <;> simp [Chip.Spares]

@[simp] theorem spares_cloveCountdownExpiry (c : Chip) : c.Spares (cloveCountdownExpiry c) := by simp [Chip.Spares, cloveCountdownExpiry]

@[simp] theorem Chip.spares_drainRecorder (c : Chip) : c.Spares c.drainRecorder := by
  refine Chip.spares_foldl _ (fun c x => ?_) _ _
  simp [Chip.Spares]

@[simp] theorem spares_sleepReady (c : Chip) : c.Spares (sleepReady c) := by simp [Chip.Spares, sleepReady]
@[simp] theorem spares_prepareFailsafeTimeout (c : Chip) : c.Spares (prepareFailsafeTimeout c) := by simp [Chip.Spares, prepareFailsafeTimeout]

@[simp] theorem Chip.spares_canIgnoredFrame (c : Chip) (n sof : Nat) (f : CanFrame) : c.Spares (c.canIgnoredFrame n sof f) := by
  unfold Chip.canIgnoredFrame
  extract_lets c1 hits c2
  have h2 : c.Spares c2 := by simp [c2, c1, Chip.Spares]
  have h1 : c.Spares c1 := by simp [c1, Chip.Spares]
  split
  · exact h1
  · exact h2.trans (by simp [Chip.Spares])

@[simp] theorem spares_canFrameRx (n sof : Nat) (raw : Bytes) (c : Chip) : c.Spares (canFrameRx n sof raw c) := by
  fun_cases canFrameRx n sof raw c <;> simp [Chip.Spares]

@[simp] theorem Chip.firm_followGrant (c old : Chip) : c.Firm (c.followGrant old) := by
  unfold Chip.followGrant
  split <;> simp [Chip.Firm]

@[simp] theorem Chip.firm_followRequests (c old : Chip) : c.Firm (c.followRequests old) := by simp [Chip.Firm, Chip.followRequests]
@[simp] theorem Chip.firm_followWake (c old : Chip) : c.Firm (c.followWake old) := by simp [Chip.Firm, Chip.followWake]

@[simp] theorem Chip.firm_followVote (c : Chip) : c.Firm c.followVote := by
  unfold Chip.followVote
  split <;> simp [Chip.Firm]

@[simp] theorem Chip.firm_follow (old c : Chip) : c.Firm (Chip.follow old c) := by simp [Chip.Firm, Chip.follow]
theorem spares_pwrStatus_act (c : Chip) (r : Bytes) : c.Spares (pwrStatus.act c r).chip := by simp [pwrStatus, Chip.Spares]
theorem spares_pwrConfigSet_act (c : Chip) (r : Bytes) : c.Spares (pwrConfigSet.act c r).chip := by simp [pwrConfigSet, Chip.Spares]
theorem spares_pwrConfigGet_act (c : Chip) (r : Bytes) : c.Spares (pwrConfigGet.act c r).chip := by simp [pwrConfigGet, Chip.Spares]
theorem spares_pwrVote_act (c : Chip) (r : Bytes) : c.Spares (pwrVote.act c r).chip := by simp [pwrVote, Chip.Spares]
theorem spares_pwrWakeRequest_act (c : Chip) (r : Bytes) : c.Spares (pwrWakeRequest.act c r).chip := by simp [pwrWakeRequest, Chip.Spares]
theorem spares_pwrSleepLocal_act (c : Chip) (r : Bytes) : c.Spares (pwrSleepLocal.act c r).chip := by simp [pwrSleepLocal, Chip.Spares]
theorem spares_pwrPnSet_act (c : Chip) (r : Bytes) : c.Spares (pwrPnSet.act c r).chip := by simp [pwrPnSet, Chip.Spares]

theorem spares_pwrPnMode_act (c : Chip) (r : Bytes) : c.Spares (pwrPnMode.act c r).chip := by
  have h := c.spares_canBusy (u8 r 0)
  dsimp only [pwrPnMode]
  split
  · simp [Chip.Spares]
  · split
    · simp [Chip.Spares]
    · split
      next hb =>
        rw [hb] at h
        exact h.trans (by simp [Chip.Spares])
      next hb =>
        rw [hb] at h
        exact h.trans (by simp [Chip.Spares])

theorem spares_pwrCounters_act (c : Chip) (r : Bytes) : c.Spares (pwrCounters.act c r).chip := by simp [pwrCounters, Chip.Spares]
@[simp] theorem Chip.spares_onEntry (c : Chip) (f : JournalEntry → JournalEntry) : c.Spares (c.onEntry f) := by simp [Chip.Spares, Chip.onEntry]
@[simp] theorem Chip.spares_setStep (c : Chip) (n st : Nat) : c.Spares (c.setStep n st) := by simp [Chip.Spares, Chip.setStep]
@[simp] theorem Chip.spares_stepDone (c : Chip) (n : Nat) : c.Spares (c.stepDone n) := by simp [Chip.Spares, Chip.stepDone]
@[simp] theorem Chip.spares_openEntry (c : Chip) : c.Spares c.openEntry := by simp [Chip.Spares, Chip.openEntry]
@[simp] theorem Chip.spares_onSlot (c : Chip) (s : Nat) (f : FlashSlot → FlashSlot) : c.Spares (c.onSlot s f) := by simp [Chip.Spares, Chip.onSlot]
@[simp] theorem Chip.spares_halt (c : Chip) (n : Nat) : c.Spares (c.halt n) := by simp [Chip.Spares, Chip.halt]
@[simp] theorem Chip.spares_replace (c : Chip) (n : Nat) : c.Spares (c.replace n) := by simp [Chip.Spares, Chip.replace]
@[simp] theorem Chip.spares_takeSlot (c : Chip) (s : Nat) : c.Spares (c.takeSlot s) := by simp [Chip.Spares, Chip.takeSlot]
@[simp] theorem Chip.spares_runsSlot (c : Chip) (s : Nat) : c.Spares (c.runsSlot s) := by simp [Chip.Spares, Chip.runsSlot]
@[simp] theorem Chip.spares_newSession (c : Chip) : c.Spares c.newSession := by simp [Chip.Spares, Chip.newSession]
@[simp] theorem Chip.spares_policy (c : Chip) (prev : JournalEntry) (n : Nat) : c.Spares (c.policy prev n) := by simp [Chip.Spares, Chip.policy]

@[simp] theorem Chip.spares_judgePrevious (c : Chip) : c.Spares c.judgePrevious := by
  unfold Chip.judgePrevious
  extract_lets c1
  have h1 : c.Spares c1 := by simp [c1, Chip.Spares]
  refine h1.trans ?_
  split
  · exact .refl c1
  · split
    · exact .refl c1
    · extract_lets c2
      have h2 : c1.Spares c2 := by simp [c2, Chip.Spares]
      refine h2.trans ?_
      split
      · simp [Chip.Spares]
      · exact Chip.spares_foldl _ (fun c n => c.spares_policy _ _) _ _

@[simp] theorem Chip.spares_rebuildJournal (c : Chip) : c.Spares c.rebuildJournal := by simp [Chip.Spares, Chip.rebuildJournal]
@[simp] theorem Chip.spares_readJournal (c : Chip) (damaged : Bool) : c.Spares (c.readJournal damaged) := by simp [Chip.Spares, Chip.readJournal]
@[simp] theorem Chip.spares_loadStopped (c : Chip) (s : Stored) : c.Spares (c.loadStopped s) := by simp [Chip.Spares, Chip.loadStopped]

@[simp] theorem Chip.spares_skipEffect (c : Chip) (fw : Bool) (n : Nat) : c.Spares (c.skipEffect fw n) := by
  unfold Chip.skipEffect
  split <;> simp [Chip.Spares]

@[simp] theorem Chip.spares_restoreCan (c : Chip) : c.Spares c.restoreCan := by
  unfold Chip.restoreCan
  generalize List.range 12 = channels
  split
  · refine Chip.spares_foldl _ (fun c n => ?_) _ _
    split
    · dsimp only
      split <;> simp [Chip.Spares]
    · exact .refl c
  · exact .refl c

@[simp] theorem Chip.spares_noteRan (c : Chip) (n : Nat) : c.Spares (c.noteRan n) := by simp [Chip.Spares, Chip.noteRan]

@[simp] theorem Chip.spares_fwRecord (c : Chip) (severity code : Nat) (payload : Bytes) : c.Spares (c.fwRecord severity code payload) :=
  (c.firm_intake _).spares.trans (Chip.reports_noteDrop _ _).firm.spares

@[simp] theorem Chip.spares_becomeReady (c : Chip) : c.Spares c.becomeReady := by
  have replaced := fun (l : List Nat) (c : Chip) => Chip.spares_foldl (fun (c : Chip) n => c.raiseD 120 0 0xFFFF n) (fun c n => by simp [Chip.Spares]) l c
  have reverted := fun (l : List Nat) (c : Chip) => Chip.spares_foldl (fun (c : Chip) _ => c.raiseD 121 0 0xFFFF 3) (fun c n => by simp [Chip.Spares]) l c
  have hdrawn : c.Spares c.draw.2 := by simp [Chip.Spares]
  unfold Chip.becomeReady
  generalize c.draw = drawn at hdrawn
  obtain ⟨ms, drawn⟩ := drawn
  extract_lets svc k woke
  dsimp -zeta only at hdrawn ⊢
  extract_lets ms started told opened versioned slept b recorded awake failed steps trial reverts caused reported crystal quiet
  have hslept : drawn.Spares slept := by
    have : drawn.Spares versioned := by simp [versioned, opened, told, started, Chip.Spares]
    refine this.trans ?_
    simp only [slept]
    split <;> simp [Chip.Spares]
  have hfailed : slept.Spares failed := by simp [failed, awake, recorded, Chip.Spares]
  have hsteps : failed.Spares steps := replaced _ _
  have htrial : steps.Spares trial := by simp [trial, Chip.Spares]
  have hreverts : trial.Spares reverts := reverted _ _
  have hcaused : reverts.Spares caused := by simp [caused, Chip.Spares]
  have hquiet : caused.Spares quiet := by simp [quiet, crystal, reported, Chip.Spares]
  refine ((((((hdrawn.trans hslept).trans hfailed).trans hsteps).trans htrial).trans hreverts).trans hcaused).trans (hquiet.trans ?_)
  simp [Chip.Spares]

@[simp] theorem Chip.spares_rebase (c : Chip) : c.Spares c.rebase := by simp [Chip.Spares, Chip.rebase]
@[simp] theorem spares_powerUp (c : Chip) : c.Spares (powerUp c) := by simp [Chip.Spares, powerUp]
@[simp] theorem spares_nrstRelease (c : Chip) : c.Spares (nrstRelease c) := by simp [Chip.Spares, nrstRelease]
@[simp] theorem spares_referenceReturn (c : Chip) : c.Spares (referenceReturn c) := by simp [Chip.Spares, referenceReturn]
@[simp] theorem spares_crystalStable (c : Chip) : c.Spares (crystalStable c) := by simp [Chip.Spares, crystalStable]
@[simp] theorem spares_crystalLost (c : Chip) : c.Spares (crystalLost c) := by simp [Chip.Spares, crystalLost]

@[simp] theorem spares_healthChallenge (answer : Option Nat) (c : Chip) : c.Spares (healthChallenge answer c) := by
  unfold healthChallenge
  dsimp only
  (repeat' split) <;> simp [Chip.Spares]

@[simp] theorem spares_firmwareFatalError (c : Chip) : c.Spares (firmwareFatalError c) := by simp [Chip.Spares, firmwareFatalError]
theorem spares_bootStatus_act (c : Chip) (r : Bytes) : c.Spares (bootStatus.act c r).chip := by simp [bootStatus, Chip.Spares]
theorem spares_bootJournalRead_act (c : Chip) (r : Bytes) : c.Spares (bootJournalRead.act c r).chip := by simp [bootJournalRead, Chip.Spares]
theorem spares_bootJournalClear_act (c : Chip) (r : Bytes) : c.Spares (bootJournalClear.act c r).chip := by simp [bootJournalClear, Chip.Spares]
theorem spares_bootConfigSet_act (c : Chip) (r : Bytes) : c.Spares (bootConfigSet.act c r).chip := by simp [bootConfigSet, Chip.Spares]
theorem spares_bootConfigGet_act (c : Chip) (r : Bytes) : c.Spares (bootConfigGet.act c r).chip := by simp [bootConfigGet, Chip.Spares]
theorem spares_fwBegin_act (c : Chip) (r : Bytes) : c.Spares (fwBegin.act c r).chip := by simp [fwBegin, Chip.Spares]
theorem spares_fwWrite_act (c : Chip) (r : Bytes) : c.Spares (fwWrite.act c r).chip := by simp [fwWrite, Chip.Spares]
theorem spares_fwActivate_act (c : Chip) (r : Bytes) : c.Spares (fwActivate.act c r).chip := by simp [fwActivate, Chip.Spares]
theorem spares_fwConfirm_act (c : Chip) (r : Bytes) : c.Spares (fwConfirm.act c r).chip := by simp [fwConfirm, Chip.Spares]
theorem spares_fwRestart_act (c : Chip) (r : Bytes) : c.Spares (fwRestart.act c r).chip := by simp [fwRestart, Chip.Spares]
theorem spares_ifIdentify_act (c : Chip) (r : Bytes) : c.Spares (ifIdentify.act c r).chip := by simp [ifIdentify, Chip.Spares]
theorem spares_ifEcho_act (c : Chip) (r : Bytes) : c.Spares (ifEcho.act c r).chip := by simp [ifEcho, Chip.Spares]
theorem spares_ifCounters_act (c : Chip) (r : Bytes) : c.Spares (ifCounters.act c r).chip := by simp [ifCounters, Chip.Spares]
theorem spares_evRecordRead_act (c : Chip) (r : Bytes) : c.Spares (evRecordRead.act c r).chip := by simp [evRecordRead, Chip.Spares]
theorem spares_tileStatus_act (c : Chip) (r : Bytes) : c.Spares (tileStatus.act c r).chip := by simp [tileStatus, Chip.Spares]
@[simp] theorem Chip.spares_areaPut (c : Chip) (o : Nat) (d : Bytes) : c.Spares (c.areaPut o d) := by simp [Chip.Spares, Chip.areaPut]
@[simp] theorem spares_mbRelease (n : Nat) (c : Chip) : c.Spares (mbRelease n c) := by simp [Chip.Spares, mbRelease]
@[simp] theorem spares_evAck (word : Nat) (value : BitVec 32) (c : Chip) : c.Spares (evAck word value c) := by simp [Chip.Spares, evAck]
@[simp] theorem spares_nhirqEnableWrite (value : BitVec 32) (c : Chip) : c.Spares (nhirqEnableWrite value c) := by simp [Chip.Spares, nhirqEnableWrite]
@[simp] theorem Chip.spares_badAccess (c : Chip) (o : Nat) : c.Spares (c.badAccess o) := by simp [Chip.Spares, Chip.badAccess]

@[simp] theorem spares_requestAreaWrite (n off : Nat) (d : Bytes) (c : Chip) : c.Spares (requestAreaWrite n off d c) := by
  simp [Chip.Spares, requestAreaWrite]

@[simp] theorem spares_registerAccessError (tag : Option Nat) (o len : Nat) (c : Chip) : c.Spares (registerAccessError tag o len c) := by
  fun_cases registerAccessError tag o len c <;> simp [Chip.Spares]

@[simp] theorem spares_heartbeatTick (c : Chip) : c.Spares (heartbeatTick c) := by
  unfold heartbeatTick
  split <;> simp [Chip.Spares]

@[simp] theorem Chip.spares_spiDone (c : Chip) (refused : Bool) : c.Spares (c.spiDone refused) := by simp [Chip.Spares, Chip.spiDone]
@[simp] theorem spares_pcieLinkUp (width speed : Nat) (c : Chip) : c.Spares (pcieLinkUp width speed c) := by simp [Chip.Spares, pcieLinkUp]

@[simp] theorem spares_pcieLinkDown (c : Chip) : c.Spares (pcieLinkDown c) := by
  have ended := fun (l : List Nat) (c : Chip) => Chip.spares_foldl (fun (c : Chip) op => c.completeWaiting op 0x09) (fun c op => c.spares_completeWaiting _ _ _) l c
  simp [Chip.Spares, pcieLinkDown, ended]

@[simp] theorem Chip.spares_msiFor (c : Chip) (v : Nat) : c.Spares (c.msiFor v) := by simp [Chip.Spares, Chip.msiFor]

@[simp] theorem spares_msiReenable (busMaster enable intDisable : Bool) (k : PcieSet) (c : Chip) : c.Spares (msiReenable busMaster enable intDisable k c) := by
  unfold msiReenable
  generalize List.range 32 = vectors
  extract_lets was c1 cond c2
  split
  · exact Chip.Spares.trans (by simp [c2, c1, Chip.Spares]) (Chip.spares_foldl _ (fun c v => by simp [Chip.Spares]) _ _)
  · simp [c1, Chip.Spares]

@[simp] theorem spares_msiUnmask (mask : BitVec 32) (c : Chip) : c.Spares (msiUnmask mask c) := by
  unfold msiUnmask
  generalize List.range 32 = vectors
  extract_lets opened c1
  split
  · exact Chip.Spares.trans (by simp [c1, Chip.Spares]) (Chip.spares_foldl _ (fun c v => by simp [Chip.Spares]) _ _)
  · simp [c1, Chip.Spares]

@[simp] theorem Chip.spares_portIsolated (c : Chip) (p : Nat) : c.Spares (c.portIsolated p) := by simp [Chip.Spares, Chip.portIsolated]

@[simp] theorem spares_tileSelfCheckFail (kind : TileKind) (i : Nat) (c : Chip) : c.Spares (tileSelfCheckFail kind i c) := by
  unfold tileSelfCheckFail
  split <;> simp [Chip.Spares]

@[simp] theorem spares_epochSwitch (c : Chip) : c.Spares (epochSwitch c) := by simp [Chip.Spares, epochSwitch]
@[simp] theorem spares_preemptEnd (p : Nat) (ok : Bool) (c : Chip) : c.Spares (preemptEnd p ok c) := by simp [Chip.Spares, preemptEnd]
@[simp] theorem Chip.firm_followSnapshot (old c : Chip) : c.Firm (Chip.followSnapshot old c) := by simp [Chip.Firm, Chip.followSnapshot]

@[simp] theorem Chip.firm_leaderWork (c : Chip) : c.Firm c.leaderWork := by
  unfold Chip.leaderWork
  split
  · exact .refl c
  · split
    · simp [Chip.Firm]
    · split
      · exact .refl c
      · extract_lets todo first c1 c2
        have h1 : c.Firm c1 := by simp [c1, Chip.Firm]
        have h2 : c1.Firm c2 := Chip.firm_foldl _ (fun c n => c.firm_applyNotice _ _ _ _ _ _) _ _
        exact (h1.trans h2).trans (by simp [Chip.Firm])

@[simp] theorem Chip.firm_followLine (old c : Chip) : c.Firm (Chip.followLine old c) := by fun_cases Chip.followLine old c <;> simp [Chip.Firm]
@[simp] theorem Chip.firm_settled (old c : Chip) : c.Firm (Chip.settled old c) := by simp [Chip.Firm, Chip.settled]

theorem Chip.keeps_command {R : Chip → Chip → Prop} (hR : KeepsMore R) {t : Nat} {f : Chip → Chip} {c : Chip} (h : R (c.tick t) (f (c.tick t))) : R c (c.command t f) :=
  hR.trans (hR.of_spares (by simp [Chip.Spares])) (hR.trans h (hR.of_spares (Chip.firm_settled _ _).spares))

end Sys2Proof.Machine
end

section
/-! What the functions of the safety island do to the demands of its channels (R376 to R394): they raise none, and a channel that was quiet stays quiet. -/
namespace Sys2Proof.Machine

/-- The channel works with a parameter set in this state. -/
def IslSt.works (st : IslSt) : Prop := st = .running ∨ st = .starting ∨ st = .configuration

theorem SafeChan.outp_mem {x : SafeChan} {o : Nat} (h : (x.outp o).demand = true) : x.outp o ∈ x.outs := by
  unfold SafeChan.outp at h ⊢
  by_cases hlen : o < x.outs.length
  · rw [getD_of_lt hlen]
    exact List.getElem_mem hlen
  · rw [getD_of_length_le (by omega)] at h
    exact absurd h (by decide)

/-- `y` demands no output that `x` does not demand. -/
def SafeChan.Damped (x y : SafeChan) : Prop := ∀ o, (y.outp o).demand = true → (x.outp o).demand = true

/-- `y` demands no output that `x` does not demand, and is quiet where `x` is (R376, R389). -/
def SafeChan.Calm (x y : SafeChan) : Prop := (x.quiet → y.quiet) ∧ x.Damped y

theorem SafeChan.Calm.refl (x : SafeChan) : x.Calm x := ⟨id, fun _ => id⟩
theorem SafeChan.Calm.trans {x y z : SafeChan} (h : x.Calm y) (k : y.Calm z) : x.Calm z := ⟨fun q => k.1 (h.1 q), fun o d => h.2 o (k.2 o d)⟩

/-- A channel that demands nothing. -/
def SafeChan.off (x : SafeChan) : Prop := ∀ y ∈ x.outs, y.demand = false

theorem SafeChan.off_outp {x : SafeChan} (h : x.off) (o : Nat) : (x.outp o).demand = false := by
  refine Decidable.byContradiction fun hd => ?_
  exact hd (h _ (SafeChan.outp_mem (by simpa using hd)))

theorem SafeChan.Damped.off {x y : SafeChan} (h : x.Damped y) (hx : x.off) : y.off := by
  intro z hz
  obtain ⟨o, ho, rfl⟩ := List.getElem_of_mem hz
  have hout : y.outp o = y.outs[o] := getD_of_lt ho
  refine Decidable.byContradiction fun hd => ?_
  have := h o (by rw [hout]; simpa using hd)
  rw [SafeChan.off_outp hx o] at this
  exact absurd this (by decide)

/-- A change that keeps the state and any set and raises no demand. -/
theorem SafeChan.calm_of_damped {x y : SafeChan} (hstate : y.state = x.state) (hset : x.set.isSome = true → y.set.isSome = true) (h : x.Damped y) : x.Calm y := by
  refine ⟨fun ⟨hworks, hoff⟩ => ⟨fun hw => hset (hworks (hstate ▸ hw)), fun hr => ?_⟩, h⟩
  exact h.off (hoff (hstate ▸ hr))

/-- A change that leaves the channel without a demand. -/
theorem SafeChan.calm_of_off {x y : SafeChan} (hset : y.state.works → x.quiet → y.set.isSome = true) (h : y.off) : x.Calm y :=
  ⟨fun q => ⟨fun hw => hset hw q, fun _ => h⟩, fun o hd => absurd hd (by rw [SafeChan.off_outp h o]; decide)⟩

/-- A change of nothing but what neither the state, the set nor the outputs hold. -/
theorem SafeChan.calm_of_same {x y : SafeChan} (hstate : y.state = x.state) (hset : y.set = x.set) (houts : y.outs = x.outs) : x.Calm y :=
  SafeChan.calm_of_damped hstate (fun h => by rwa [hset]) fun o hd => by rwa [SafeChan.outp, houts] at hd

theorem SafeChan.damped_of_outs {x y : SafeChan} (f : Nat → SafeOut → SafeOut) (hf : ∀ o z, (f o z).demand = true → z.demand = true)
    (houts : ∀ o : Nat, y.outs[o]? = x.outs[o]?.map (f o)) : x.Damped y := by
  intro o hd
  simp only [SafeChan.outp, List.getD_eq_getElem?_getD, houts] at hd ⊢
  cases ho : x.outs[o]? with
  | none => simp [ho] at hd
  | some z =>
    rw [ho] at hd
    exact hf o z hd

/-- A change of the outputs, one by one, that switches none on. -/
theorem SafeChan.calm_of_outs {x y : SafeChan} (f : Nat → SafeOut → SafeOut) (hf : ∀ o z, (f o z).demand = true → z.demand = true) (hstate : y.state = x.state)
    (hset : y.set = x.set) (houts : ∀ o : Nat, y.outs[o]? = x.outs[o]?.map (f o)) : x.Calm y :=
  SafeChan.calm_of_damped hstate (fun h => by rwa [hset]) (SafeChan.damped_of_outs f hf houts)

/-! What the functions of a channel and of the island do to its demands. -/

@[simp] theorem SafeOut.drive_off (y : SafeOut) (t : Nat) (manual excused : Bool) : (y.drive false t manual excused).demand = false := SafeOut.drive_demand y false t manual excused

@[simp] theorem SafeOut.fail_demand (y : SafeOut) (code t : Nat) (manual : Bool) : (y.fail code t manual).demand = false := SafeOut.drive_off y t manual false

theorem SafeOut.check_demand (y : SafeOut) (n m : Bool) (t : Nat) (manual : Bool) : (y.check n m t manual).demand = true → y.demand = true := by
  fun_cases SafeOut.check y n m t manual <;> simp

theorem SafeChan.calm_checkBrakes (x : SafeChan) : x.Calm x.checkBrakes := by
  refine SafeChan.calm_of_outs (fun o y => _) (fun o y => ?_) rfl rfl fun o => List.getElem?_mapIdx
  split
  · exact id
  · split
    · split <;> simp
    · split <;> exact id

theorem SafeChan.enter_set (x : SafeChan) (st : IslSt) : (x.enter st).set = x.set := by
  unfold SafeChan.enter
  dsimp only
  split <;> rfl

/-- Entering a state switches nothing on, and leaves a quiet channel quiet if it has a set for the state. -/
theorem SafeChan.calm_enter {x : SafeChan} {st : IslSt} (h : st.works → x.quiet → x.set.isSome = true) : x.Calm (x.enter st) := by
  by_cases hst : st = .running
  · subst hst
    have hdamped : x.Damped (x.enter .running) := SafeChan.damped_of_outs (fun _ y => { y with seen := false }) (fun _ _ => id) fun o => List.getElem?_map
    refine ⟨fun q => ⟨fun _ => ?_, fun hr => absurd (SafeChan.enter_state x .running) hr⟩, hdamped⟩
    rw [SafeChan.enter_set]
    exact h (.inl rfl) q
  · refine SafeChan.calm_of_off (fun hw q => ?_) (SafeChan.enter_off x hst)
    rw [SafeChan.enter_set]
    rw [SafeChan.enter_state] at hw
    exact h hw q

theorem SafeChan.calm_stop (x : SafeChan) (reason : Nat) : x.Calm (x.stop reason) := by
  unfold SafeChan.stop
  split
  · exact .refl x
  · refine (SafeChan.calm_enter (st := .safeStop) fun h => ?_).trans (SafeChan.calm_of_same rfl rfl rfl)
    simp [IslSt.works] at h

theorem SafeChan.calm_toStarting {x : SafeChan} (restart : Bool) (h : x.quiet → x.set.isSome = true) : x.Calm (x.toStarting restart).1 := by
  refine (SafeChan.calm_enter (st := .starting) fun _ => h).trans ?_
  exact SafeChan.calm_of_outs (fun _ y => { y with restart := y.restart || restart }) (fun _ _ => id) rfl rfl fun o => List.getElem?_map

theorem SafeChan.calm_take (x : SafeChan) (b : Bytes) : x.Calm (x.take b) :=
  SafeChan.calm_of_damped rfl (fun _ => rfl) fun _ => id

theorem SafeChan.calm_drop (x : SafeChan) : x.Calm x.drop := by
  refine SafeChan.calm_of_off (fun h => ?_) fun y hy => ?_
  · simp [SafeChan.drop, IslSt.works] at h
  · simp only [SafeChan.drop, List.mem_replicate] at hy
    rw [hy.2]

theorem SafeChan.calm_lapse (x : SafeChan) : x.Calm x.lapse := by
  unfold SafeChan.lapse
  split
  · split
    · exact SafeChan.calm_of_same rfl rfl rfl
    · exact .refl x
  · exact .refl x

theorem SafeChan.calm_compare (x : SafeChan) : x.Calm x.compare := by
  unfold SafeChan.compare
  split
  · exact .refl x
  · split
    · extract_lets d y
      have h : x.Calm y := SafeChan.calm_of_same rfl rfl rfl
      split
      · exact h.trans (SafeChan.calm_stop y 2)
      · exact h
    · exact SafeChan.calm_of_same rfl rfl rfl

theorem SafeChan.calm_stepBy (x : SafeChan) (k : Nat) : x.Calm (x.stepBy k) := by
  induction k generalizing x with
  | zero => exact .refl x
  | succ k ih => exact SafeChan.Calm.trans (y := x.stepPos) (SafeChan.calm_of_same rfl rfl rfl) (ih x.stepPos)

theorem SafeChan.calm_ownPos (x : SafeChan) : x.Calm x.ownPos := by
  unfold SafeChan.ownPos
  split
  · exact (x.calm_stepBy _).trans (SafeChan.calm_of_same rfl rfl rfl)
  · exact .refl x

theorem SafeChan.calm_followPos (x : SafeChan) (f : SafeFrame) : x.Calm (x.followPos f) := by
  unfold SafeChan.followPos
  extract_lets period y
  have h : x.Calm y := SafeChan.calm_of_same rfl rfl rfl
  split
  · exact .refl x
  · split
    · exact SafeChan.calm_of_same rfl rfl rfl
    · dsimp only
      split
      · exact h.trans (y.calm_stepBy _)
      · exact SafeChan.calm_of_same rfl rfl rfl

theorem SafeChan.calm_acknowledge (x : SafeChan) : x.Calm x.acknowledge := by
  unfold SafeChan.acknowledge
  extract_lets b y
  have h : x.Calm y := SafeChan.calm_of_outs (fun _ (z : SafeOut) => { z with fault := if z.fault ≠ 0 ∧ z.causeAt + 10000 ≤ x.clk then 0 else z.fault, restart := false })
    (fun _ _ => id) rfl rfl fun o => List.getElem?_map
  refine h.trans (SafeChan.calm_of_outs (fun o z => if y.condition o then { z with manual := false } else z) (fun o z hd => ?_) rfl rfl fun o => List.getElem?_mapIdx)
  split at hd <;> exact hd

theorem SafeChan.calm_voted (x : SafeChan) (vote : Option Nat) (applied : Bool) : x.Calm { x with vote := vote, applied := applied } := SafeChan.calm_of_same rfl rfl rfl

theorem SafeChan.calm_adopt (x : SafeChan) (f : SafeFrame) : x.Calm (x.adopt f) := by
  refine SafeChan.calm_of_outs (fun o y => _) (fun o y => ?_) rfl rfl fun o => List.getElem?_mapIdx
  dsimp only
  split <;> simp

theorem SafeChan.calm_takeOver (x : SafeChan) (f : SafeFrame) : x.Calm (x.takeOver f) := by
  exact SafeChan.calm_of_outs (fun o y => _) (fun o y => by exact id) rfl rfl fun o => List.getElem?_mapIdx

theorem SafeChan.calm_discrepancy (x : SafeChan) (i : Nat) : x.Calm (x.discrepancy i) := SafeChan.calm_of_same rfl rfl rfl

theorem SafeChan.calm_judgePulse (x : SafeChan) (j : Nat) (low : BitVec 16) : x.Calm (x.judgePulse j low) := SafeChan.calm_of_same rfl rfl rfl

theorem SafeChan.calm_brakeDeadline (x : SafeChan) (o : Nat) : x.Calm (x.brakeDeadline o) := by
  unfold SafeChan.brakeDeadline
  dsimp only
  split
  · refine SafeChan.calm_of_outs (fun k y => _) (fun k y => ?_) rfl rfl fun k => List.getElem?_mapIdx
    dsimp only
    split
    · split
      · exact id
      · split <;> simp
    · exact id
  · exact .refl x

/-- Each channel demands no more than it did, and is quiet if it was. -/
def SafeIsland.Calm (a b : SafeIsland) : Prop := ∀ n, (a.chan n).Calm (b.chan n)

theorem SafeIsland.Calm.refl (a : SafeIsland) : a.Calm a := fun _ => .refl _
theorem SafeIsland.Calm.trans {a b c : SafeIsland} (h : a.Calm b) (k : b.Calm c) : a.Calm c := fun n => (h n).trans (k n)

/-- A change of neither channel. -/
theorem SafeIsland.calm_of_same {a b : SafeIsland} (hn : b.nutmeg = a.nutmeg) (hm : b.mace = a.mace) : a.Calm b := by
  intro n
  have h : b.chan n = a.chan n := by cases n <;> assumption
  rw [h]
  exact .refl _

theorem SafeIsland.calm_cases {a b d : SafeIsland} {p : Prop} [Decidable p] (h : p → a.Calm b) (k : ¬p → a.Calm d) : a.Calm (if p then b else d) := by
  split
  next hp => exact h hp
  next hp => exact k hp

theorem SafeIsland.calm_ite {a b d : SafeIsland} {p : Prop} [Decidable p] (h : a.Calm b) (k : a.Calm d) : a.Calm (if p then b else d) := by
  split
  · exact h
  · exact k

theorem SafeIsland.onChan_other (s : SafeIsland) (n : Bool) (f : SafeChan → SafeChan) : (s.onChan n f).chan (!n) = s.chan (!n) := by cases n <;> rfl

theorem SafeIsland.calm_onChan {s : SafeIsland} {n : Bool} {f : SafeChan → SafeChan} (h : (s.chan n).Calm (f (s.chan n))) : s.Calm (s.onChan n f) := by
  intro k
  by_cases hk : k = n
  · rw [hk, chan_onChan]
    exact h
  · have : k = !n := by cases k <;> cases n <;> simp_all
    rw [this, SafeIsland.onChan_other]
    exact .refl _

theorem SafeIsland.calm_count (s : SafeIsland) (i : Nat) : s.Calm (s.count i) := SafeIsland.calm_of_same rfl rfl
theorem SafeIsland.calm_countAck (s : SafeIsland) (i : Nat) : s.Calm (s.countAck i) := SafeIsland.calm_of_same rfl rfl

theorem SafeIsland.calm_starting {s : SafeIsland} {n : Bool} (restart : Bool) (h : (s.chan n).quiet → (s.chan n).set.isSome = true) : s.Calm (s.starting n restart) := by
  have hstarted : s.Calm (s.onChan n fun _ => ((s.chan n).toStarting restart).1) := SafeIsland.calm_onChan (SafeChan.calm_toStarting restart h)
  unfold SafeIsland.starting
  dsimp only
  exact SafeIsland.calm_ite (hstarted.trans (SafeIsland.calm_countAck _ _)) hstarted

theorem SafeIsland.calm_holdOn (s : SafeIsland) (n : Bool) : s.Calm (s.holdOn n) := by
  unfold SafeIsland.holdOn
  extract_lets st d planned
  split
  · have hd : s.Calm d := SafeIsland.calm_ite (.refl s) (s.calm_count _)
    have hheld : d.Calm (d.onChan n fun x => x.enter .hold) := SafeIsland.calm_onChan (SafeChan.calm_enter fun h => by simp [IslSt.works] at h)
    exact (hd.trans hheld).trans (SafeIsland.calm_of_same rfl rfl)
  · exact .refl s

theorem SafeIsland.calm_nutmegSend (s : SafeIsland) (now : Nat) : s.Calm (s.nutmegSend now) := by
  unfold SafeIsland.nutmegSend
  split
  · exact .refl s
  · extract_lets b held unit slot f
    have hnut : s.nutmeg.Calm (if s.farewell == some 1 then { s.nutmeg with on := false } else s.nutmeg) := by
      split
      · exact SafeChan.calm_of_same rfl rfl rfl
      · exact .refl _
    intro n
    cases n
    · exact .refl _
    · exact hnut

theorem SafeIsland.calm_maceTake (s : SafeIsland) (f : SafeFrame) : s.Calm (s.maceTake f) := by
  unfold SafeIsland.maceTake
  extract_lets a x d
  have ha : s.Calm a := SafeIsland.calm_onChan (SafeChan.Calm.trans (y := { s.mace with seen := some f }) (SafeChan.calm_of_same rfl rfl rfl) (SafeChan.calm_followPos _ f))
  have started : ∀ restart, x.set.isSome = true → a.Calm (a.starting false restart) := fun restart hset => SafeIsland.calm_starting restart fun _ => hset
  refine ha.trans ?_
  split
  · exact SafeIsland.calm_onChan (SafeChan.calm_stop _ 6)
  · split
    · exact .refl a
    next hset =>
      have hset : x.set.isSome = true := Option.isSome_iff_ne_none.mpr (by simpa using hset)
      split
      · split
        · exact .refl a
        · exact started _ hset
      · split
        · exact started _ hset
        · have hd : a.Calm d := SafeIsland.calm_onChan (SafeChan.calm_adopt _ f)
          refine hd.trans ?_
          split
          · exact SafeIsland.calm_onChan ((SafeChan.calm_acknowledge _).trans (SafeChan.calm_voted (d.chan false).acknowledge _ true))
          · split
            · exact SafeIsland.calm_onChan (SafeChan.calm_of_same rfl rfl rfl)
            · exact .refl d

theorem SafeIsland.calm_maceRx (s : SafeIsland) (good : Bool) : s.Calm (s.maceRx good) := by
  unfold SafeIsland.maceRx
  split
  · exact .refl s
  next f hf =>
    extract_lets a lost step skipped valid counted heard taken
    have ha : s.Calm a := SafeIsland.calm_of_same rfl rfl
    have hheard : s.Calm heard := (ha.trans (SafeIsland.calm_ite (a.calm_count _) (.refl a))).trans (SafeIsland.calm_of_same rfl rfl)
    have htaken : heard.Calm taken := SafeIsland.calm_ite (heard.calm_maceTake f) (.refl heard)
    split
    · exact ha
    · split
      · exact (ha.trans (a.calm_count sfLinkErrors)).trans (SafeIsland.calm_of_same rfl rfl)
      · exact (hheard.trans htaken).trans (SafeIsland.calm_of_same rfl rfl)

theorem SafeIsland.calm_nutmegTake (s : SafeIsland) (f : SafeFrame) : s.Calm (s.nutmegTake f) := by
  unfold SafeIsland.nutmegTake
  extract_lets a x dropped d
  have ha : s.Calm a := SafeIsland.calm_onChan (SafeChan.calm_of_same rfl rfl rfl)
  refine ha.trans ?_
  split
  · exact (SafeIsland.calm_onChan (SafeChan.calm_drop _)).trans (SafeIsland.calm_of_same rfl rfl)
  · split
    · exact SafeIsland.calm_onChan (SafeChan.calm_stop _ 6)
    · split
      next hset =>
        split
        · refine (SafeIsland.calm_onChan ⟨fun q => ⟨fun hw => by simp at hw, fun _ => q.2 fun hr => ?_⟩, fun _ => id⟩).trans (SafeIsland.calm_count _ _)
          exact absurd (show x.set.isSome = true from q.1 (.inl hr)) (by simpa using hset)
        · exact .refl a
      next hset =>
        have hset : x.set.isSome = true := by simpa [Option.isSome_iff_ne_none] using hset
        split
        · split
          · have htook : a.Calm (a.onChan true fun x => x.takeOver f) := SafeIsland.calm_onChan (SafeChan.calm_takeOver _ f)
            exact htook.trans (SafeIsland.calm_starting false fun _ => hset)
          · exact .refl a
        · split
          · exact SafeIsland.calm_starting true fun _ => hset
          · have hd : a.Calm d := SafeIsland.calm_onChan (SafeChan.calm_adopt _ f)
            refine hd.trans ?_
            split
            · refine SafeIsland.Calm.trans ?_ (SafeIsland.calm_countAck _ _)
              exact SafeIsland.calm_onChan ((SafeChan.calm_acknowledge _).trans (SafeChan.calm_voted (d.chan true).acknowledge none false))
            · exact .refl d

theorem SafeIsland.calm_nutmegRx (s : SafeIsland) (good : Bool) (now : Nat) : s.Calm (s.nutmegRx good now) := by
  unfold SafeIsland.nutmegRx
  split
  · exact .refl s
  next f hf =>
    extract_lets a
    have ha : s.Calm a := SafeIsland.calm_of_same rfl rfl
    split
    · exact ha
    · split
      · exact ha.trans (a.calm_nutmegTake f)
      · exact ha.trans (a.calm_count _)

theorem SafeIsland.calm_lockstep (s : SafeIsland) : s.Calm s.lockstep := by
  unfold SafeIsland.lockstep
  split
  · exact (SafeIsland.calm_onChan (SafeChan.calm_stop _ 1)).trans (SafeIsland.calm_of_same rfl rfl)
  · exact .refl s

theorem SafeIsland.calm_clockMeasure (s : SafeIsland) (interval : Nat) : s.Calm (s.clockMeasure interval) := by
  unfold SafeIsland.clockMeasure
  extract_lets a
  have ha : s.Calm a := SafeIsland.calm_of_same rfl rfl
  split
  · exact .refl s
  · split
    · exact SafeIsland.calm_of_same rfl rfl
    · exact ha.trans (SafeIsland.calm_ite (SafeIsland.calm_onChan (SafeChan.calm_stop _ 4)) (.refl a))

theorem SafeIsland.calm_testPulse (s : SafeIsland) (j : Nat) (lowN lowM : BitVec 16) : s.Calm (s.testPulse j lowN lowM) := by
  unfold SafeIsland.testPulse
  extract_lets a
  have ha : s.Calm a := (SafeIsland.calm_onChan (SafeChan.calm_of_same rfl rfl rfl)).trans (SafeIsland.calm_count _ _)
  split
  · exact .refl s
  · exact ha.trans (SafeIsland.calm_ite (SafeIsland.calm_onChan (SafeChan.calm_judgePulse _ _ _)) (.refl a))

theorem SafeIsland.calm_offPulse (s : SafeIsland) (k : Nat) (opened other back : BothSee) : s.Calm (s.offPulse k opened other back) := by
  unfold SafeIsland.offPulse
  extract_lets o code quiet hit judge
  have judged : ∀ code (x : SafeChan), x.Calm (judge code x) := fun code x =>
    SafeChan.calm_of_outs (fun j y => if j = o then hit code x y else y) (fun j y => by
      split
      · simp only [hit]
        split
        · exact id
        · simp
      · exact id) rfl rfl fun j => List.getElem?_mapIdx
  split
  · exact .refl s
  · exact ((SafeIsland.calm_onChan (judged _ _)).trans (SafeIsland.calm_onChan (judged _ _))).trans (SafeIsland.calm_count _ _)

theorem SafeIsland.calm_ackStuck (s : SafeIsland) (n : Bool) : s.Calm (s.ackStuck n) := by
  unfold SafeIsland.ackStuck
  split
  · extract_lets a
    have ha : s.Calm a := SafeIsland.calm_onChan (SafeChan.calm_of_same rfl rfl rfl)
    exact ha.trans (SafeIsland.calm_ite (a.calm_countAck _) (.refl a))
  · exact .refl s
  · exact .refl s

theorem SafeIsland.calm_startingComplete (s : SafeIsland) (n checkOk : Bool) : s.Calm (s.startingComplete n checkOk) := by
  unfold SafeIsland.startingComplete
  extract_lets x b round
  split
  · exact .refl s
  next hstate =>
    have hstate : (s.chan n).state = .starting := Classical.not_not.mp hstate
    split
    · exact SafeIsland.calm_onChan (SafeChan.calm_stop _ 5)
    · split
      · exact SafeIsland.calm_onChan (SafeChan.calm_stop _ 3)
      · split
        · exact .refl s
        · refine SafeIsland.calm_onChan ?_
          extract_lets outs
          have hshort : (s.chan n).Calm { s.chan n with outs := outs } :=
            SafeChan.calm_of_outs (fun o y => _) (fun o y => by
              split
              · simp
              · exact id) rfl rfl fun o => List.getElem?_mapIdx
          refine hshort.trans (SafeChan.calm_enter fun _ q => ?_)
          exact q.1 (.inr (.inl hstate))

/-- A channel that loses its power or comes back demands nothing. -/
theorem SafeChan.calm_restart (x : SafeChan) (on : Bool) : x.Calm { on := on } := by
  refine SafeChan.calm_of_off (fun h => ?_) fun y hy => ?_
  · simp [IslSt.works] at h
  · rw [(List.mem_replicate.mp hy).2]

theorem SafeIsland.calm_companionUp (s : SafeIsland) : s.Calm s.companionUp := by
  unfold SafeIsland.companionUp
  split
  · exact .refl s
  · intro n
    cases n
    · exact SafeChan.calm_restart _ true
    · exact .refl _

theorem SafeIsland.calm_companionDown (s : SafeIsland) : s.Calm s.companionDown := by
  intro n
  cases n
  · exact SafeChan.calm_restart _ false
  · exact .refl _

theorem SafeIsland.calm_nutmegUp (s : SafeIsland) : s.Calm s.nutmegUp := by
  intro n
  cases n
  · exact .refl _
  · exact SafeChan.calm_restart _ true

theorem SafeIsland.calm_nutmegDown (s : SafeIsland) : s.Calm s.nutmegDown := by
  intro n
  cases n
  · exact .refl _
  · exact SafeChan.calm_restart _ false

/-- Both channels take the set. -/
def SafeIsland.took (s : SafeIsland) (b : Bytes) : SafeIsland := (s.onChan false fun x => x.take b).onChan true fun x => x.take b

theorem SafeIsland.calm_took (s : SafeIsland) (b : Bytes) : s.Calm (s.took b) :=
  (SafeIsland.calm_onChan (SafeChan.calm_take _ b)).trans (SafeIsland.calm_onChan (SafeChan.calm_take _ b))

theorem SafeIsland.set_starting (s : SafeIsland) (n k restart : Bool) : ((s.starting n restart).chan k).set = (s.chan k).set := by
  by_cases hk : k = n
  · rw [hk, chan_starting]
    exact SafeChan.enter_set _ _
  · have hk : k = !n := by cases k <;> cases n <;> simp_all
    have hother : (s.starting n restart).chan k = s.chan k := by
      unfold SafeIsland.starting
      dsimp only
      rw [hk]
      split
      · exact (chan_countAck _ _ _).trans (SafeIsland.onChan_other _ _ _)
      · exact SafeIsland.onChan_other _ _ _
    rw [hother]

/-- Both channels enter STARTING with a set. -/
theorem SafeIsland.calm_bothStarting {s : SafeIsland} (restart : Bool) (h : ∀ n, (s.chan n).set.isSome = true) : s.Calm ((s.starting false restart).starting true restart) :=
  (SafeIsland.calm_starting restart fun _ => h false).trans (SafeIsland.calm_starting restart fun _ => by rw [SafeIsland.set_starting]; exact h true)

theorem SafeIsland.calm_load (s : SafeIsland) (b : Bytes) (restart : Bool) : s.Calm (s.load b restart) := by
  have hstarted : (s.took b).Calm (((s.took b).starting false restart).starting true restart) := SafeIsland.calm_bothStarting restart fun n => by cases n <;> rfl
  exact ((s.calm_took b).trans hstarted).trans (SafeIsland.calm_of_same rfl rfl)

theorem SafeIsland.calm_deliver (s : SafeIsland) : s.Calm s.deliver := by
  unfold SafeIsland.deliver
  split
  · exact SafeIsland.calm_of_same rfl rfl
  · split
    · extract_lets a
      have ha : s.Calm a := SafeIsland.calm_of_same rfl rfl
      exact ha.trans (SafeIsland.calm_ite ((SafeIsland.calm_onChan (SafeChan.calm_drop _)).trans (SafeIsland.calm_onChan (SafeChan.calm_drop _))) (.refl a))
    · split
      · exact .refl s
      next b hb =>
        split
        · split
          next hset =>
            extract_lets f planned a
            have ha : s.Calm a := SafeIsland.calm_onChan ((SafeChan.calm_take _ b).trans (SafeChan.calm_takeOver _ f))
            refine ha.trans (SafeIsland.calm_bothStarting _ fun n => ?_)
            cases n
            · exact congrArg Option.isSome hset
            · rfl
          · exact (SafeIsland.calm_onChan (SafeChan.calm_stop _ 3)).trans (SafeIsland.calm_onChan (SafeChan.calm_stop _ 3))
        · exact SafeIsland.calm_ite (s.calm_load b false) (.refl s)

end Sys2Proof.Machine
end

section
/-! The evaluation of the safe functions (R388, R389): it alone raises a demand, and only of a channel that runs. -/
namespace Sys2Proof.Machine

theorem SafeChan.calm_foldl {α : Type} (f : SafeChan → α → SafeChan) (h : ∀ (x : SafeChan) a, x.Calm (f x a)) (l : List α) (x : SafeChan) : x.Calm (l.foldl f x) := by
  induction l generalizing x with
  | nil => exact .refl x
  | cons a l ih => exact (h x a).trans (ih _)

theorem SafeIsland.calm_ackHeld (s : SafeIsland) (n was : Bool) : s.Calm (s.ackHeld n was) := by
  unfold SafeIsland.ackHeld
  extract_lets x a
  have ha : s.Calm a := SafeIsland.calm_onChan (SafeChan.calm_of_same rfl rfl rfl)
  exact SafeIsland.calm_ite (ha.trans (SafeIsland.calm_ite (a.calm_countAck _) (.refl a))) (.refl s)

theorem SafeIsland.calm_evalKey (s : SafeIsland) (n : Bool) : s.Calm (s.evalKey n) := by
  unfold SafeIsland.evalKey
  extract_lets x started
  split
  · exact .refl s
  · refine SafeIsland.calm_cases (fun h => SafeIsland.calm_onChan (SafeChan.calm_enter fun _ q => q.1 (.inl h.1))) fun _ => SafeIsland.calm_cases (fun h => ?_) fun _ => .refl s
    have hstate : (s.chan n).state = .configuration := by
      rw [Bool.and_eq_true, Bool.and_eq_true, beq_iff_eq] at h
      exact h.1.1
    exact (SafeIsland.calm_starting true fun q => q.1 (.inr (.inr hstate))).trans (SafeIsland.calm_of_same rfl rfl)

theorem SafeIsland.calm_evalAck (s : SafeIsland) (n : Bool) : s.Calm (s.evalAck n) := by
  unfold SafeIsland.evalAck
  extract_lets x put now released
  have hput : ∀ st, s.Calm (put s st) := fun st => SafeIsland.calm_onChan (SafeChan.calm_of_same rfl rfl rfl)
  split
  · exact .refl s
  · split
    · exact SafeIsland.calm_ite (.refl s) (hput _)
    · exact SafeIsland.calm_ite (hput _) (.refl s)
    · refine SafeIsland.calm_ite (hput _) (SafeIsland.calm_ite (.refl s) ((hput .idle).trans ?_))
      refine SafeIsland.calm_ite (SafeIsland.calm_ite (SafeIsland.calm_count _ _) (.refl released)) (SafeIsland.calm_ite ?_ (.refl released))
      exact SafeIsland.calm_onChan (SafeChan.calm_of_same rfl rfl rfl)

theorem SafeChan.evalOut_state (x : SafeChan) (o : Nat) : (x.evalOut o).state = x.state ∧ (x.evalOut o).set = x.set := by
  unfold SafeChan.evalOut
  extract_lets b req y
  simp only [y]
  split <;> exact ⟨rfl, rfl⟩

theorem SafeChan.evalOuts_state (x : SafeChan) : x.evalOuts.state = x.state ∧ x.evalOuts.set = x.set := by
  unfold SafeChan.evalOuts
  dsimp only
  generalize ([2, 3, 1, 0].flatMap fun f => (List.range 4).filter fun o => outFn x.params o == f) = order
  suffices h : ∀ (l : List Nat) (y : SafeChan), (l.foldl SafeChan.evalOut y).state = y.state ∧ (l.foldl SafeChan.evalOut y).set = y.set from h order x
  intro l
  induction l with
  | nil => exact fun y => ⟨rfl, rfl⟩
  | cons o l ih =>
    intro y
    obtain ⟨hstate, hset⟩ := y.evalOut_state o
    obtain ⟨kstate, kset⟩ := ih (y.evalOut o)
    exact ⟨kstate.trans hstate, kset.trans hset⟩

/-- A channel that runs stays quiet whatever its functions demand (R389). -/
theorem SafeChan.quiet_evalOuts {x : SafeChan} (hr : x.state = .running) (h : x.quiet) : x.evalOuts.quiet := by
  obtain ⟨hstate, hset⟩ := x.evalOuts_state
  refine ⟨fun _ => ?_, fun hn => absurd (hstate.trans hr) hn⟩
  rw [hset]
  exact h.1 (.inl hr)

/-- Each channel is quiet if it was. -/
def SafeIsland.Quiets (a b : SafeIsland) : Prop := ∀ n, (a.chan n).quiet → (b.chan n).quiet

theorem SafeIsland.Calm.quiets {a b : SafeIsland} (h : a.Calm b) : a.Quiets b := fun n => (h n).1
theorem SafeIsland.Quiets.trans {a b c : SafeIsland} (h : a.Quiets b) (k : b.Quiets c) : a.Quiets c := fun n q => k n (h n q)

theorem SafeIsland.quiets_onChan {s : SafeIsland} {n : Bool} {f : SafeChan → SafeChan} (h : (s.chan n).quiet → (f (s.chan n)).quiet) : s.Quiets (s.onChan n f) := by
  intro k q
  by_cases hk : k = n
  · rw [hk] at q ⊢
    rw [chan_onChan]
    exact h q
  · have hk : k = !n := by cases k <;> cases n <;> simp_all
    rwa [hk, SafeIsland.onChan_other, ← hk]

/-- An evaluation keeps a quiet channel quiet (R376, R389): what comes before the safe functions raises no demand, and these demand an output of a running channel alone. -/
theorem SafeIsland.quiets_eval (s : SafeIsland) (n : Bool) (samples : List (BitVec 16)) (rb : BitVec 8) : s.Quiets (s.eval n samples rb) := by
  unfold SafeIsland.eval
  extract_lets x b was wires sampled read own t judged stepped taken keyed
  have hsampled : (s.chan n).Calm sampled := by
    refine SafeChan.calm_foldl _ (fun x r => ?_) _ _
    exact SafeChan.calm_of_same rfl rfl rfl
  have hread : (s.chan n).Calm read := hsampled.trans (SafeChan.calm_of_same rfl rfl rfl)
  have hown : read.Calm own := by
    unfold own
    split
    · exact .refl read
    · exact read.calm_ownPos
  have hstepped : own.Calm stepped := SafeChan.calm_of_outs (fun o y => _) (fun o y => y.check_demand _ _ _ _) rfl rfl fun o => List.getElem?_mapIdx
  split
  · exact fun _ => id
  · split
    · exact (SafeIsland.calm_onChan hread).quiets
    · have htaken : s.Calm taken := (SafeIsland.calm_onChan ((hread.trans hown).trans hstepped)).trans (SafeIsland.calm_ackHeld _ _ _)
      have hkeyed : taken.Calm keyed := (taken.calm_evalKey n).trans (SafeIsland.calm_evalAck _ n)
      refine (htaken.trans hkeyed).quiets.trans (SafeIsland.quiets_onChan fun q => ?_)
      refine ((SafeChan.calm_lapse _).trans (SafeChan.calm_compare _)).1 ?_
      split
      next hr => exact SafeChan.quiet_evalOuts hr ((SafeChan.calm_checkBrakes _).1 q)
      next => exact (SafeChan.calm_checkBrakes _).1 q

end Sys2Proof.Machine
end

section
/-! What the rows of the island, of the resets and of the start do to the fuses and to the demands of the island. -/
namespace Sys2Proof.Machine

/-- The fuses stay, no channel of the island demands more than it did, and each is quiet if it was. -/
def Chip.Tame (a b : Chip) : Prop := b.fuses = a.fuses ∧ a.safe.Calm b.safe

theorem Chip.Spares.tame {a b : Chip} (h : a.Spares b) : a.Tame b := ⟨h.1, SafeIsland.calm_of_same h.2.1 h.2.2⟩
theorem Chip.Tame.refl (a : Chip) : a.Tame a := ⟨rfl, .refl _⟩
theorem Chip.Tame.trans {a b c : Chip} (h : a.Tame b) (k : b.Tame c) : a.Tame c := ⟨k.1.trans h.1, h.2.trans k.2⟩
theorem keepsMore_tame : KeepsMore Chip.Tame := ⟨Chip.Spares.tame, .trans⟩

/-- The fuses stay or are blown further, and the island is as in `Tame`. -/
def Chip.Ages (a b : Chip) : Prop := a.fuses.after b.fuses ∧ a.safe.Calm b.safe

theorem Fuses.after_refl (f : Fuses) : f.after f := ⟨rfl, rfl, rfl, rfl, rfl, Nat.le_refl _⟩
theorem Fuses.after_trans {f g h : Fuses} (a : f.after g) (b : g.after h) : f.after h := by
  obtain ⟨a1, a2, a3, a4, a5, a6⟩ := a
  obtain ⟨b1, b2, b3, b4, b5, b6⟩ := b
  exact ⟨b1.trans a1, b2.trans a2, b3.trans a3, b4.trans a4, b5.trans a5, Nat.le_trans a6 b6⟩

theorem Chip.Tame.ages {a b : Chip} (h : a.Tame b) : a.Ages b := ⟨by rw [h.1]; exact Fuses.after_refl _, h.2⟩
theorem Chip.Ages.trans {a b c : Chip} (h : a.Ages b) (k : b.Ages c) : a.Ages c := ⟨Fuses.after_trans h.1 k.1, h.2.trans k.2⟩
theorem keepsMore_ages : KeepsMore Chip.Ages := ⟨fun h => h.tame.ages, .trans⟩

theorem Chip.tame_onSafe {c : Chip} {f : SafeIsland → SafeIsland} (h : c.safe.Calm (f c.safe)) : c.Tame (c.onSafe f) := by
  refine ⟨Chip.onSafe_fuses _ _, h.trans (SafeIsland.calm_of_same ?_ ?_)⟩
  · exact Chip.onSafe_nutmeg _ _
  · exact Chip.onSafe_mace _ _

theorem Chip.tame_ite {a b d : Chip} {p : Prop} [Decidable p] (h : a.Tame b) (k : a.Tame d) : a.Tame (if p then b else d) := by
  split
  · exact h
  · exact k

/-! The rows of the island. -/

theorem tame_ackStuckTimeout (n : Bool) (c : Chip) : c.Tame (ackStuckTimeout n c) := Chip.tame_onSafe (c.safe.calm_ackStuck n)
theorem tame_authorisationExpiry (c : Chip) : c.Tame (authorisationExpiry c) := Chip.tame_onSafe (SafeIsland.calm_of_same rfl rfl)
theorem tame_passwordLockoutExpiry (c : Chip) : c.Tame (passwordLockoutExpiry c) := Chip.tame_onSafe (SafeIsland.calm_of_same rfl rfl)
theorem tame_brakeFeedbackDeadline (n : Bool) (o : Nat) (c : Chip) : c.Tame (brakeFeedbackDeadline n o c) :=
  Chip.tame_onSafe (SafeIsland.calm_onChan (SafeChan.calm_brakeDeadline _ o))
theorem tame_companionPowerUp (c : Chip) : c.Tame (companionPowerUp c) := Chip.tame_ite (.refl c) (Chip.tame_onSafe c.safe.calm_companionUp)
theorem tame_companionSupplyLow (c : Chip) : c.Tame (companionSupplyLow c) := Chip.tame_onSafe c.safe.calm_companionDown
theorem tame_discrepancyTimeout (n : Bool) (i : Nat) (c : Chip) : c.Tame (discrepancyTimeout n i c) :=
  Chip.tame_onSafe (SafeIsland.calm_onChan (SafeChan.calm_discrepancy _ i))
theorem tame_linkTimeout (n : Bool) (c : Chip) : c.Tame (linkTimeout n c) := Chip.tame_ite (Chip.tame_onSafe (c.safe.calm_holdOn n)) (.refl c)
theorem tame_lockstepMismatch (c : Chip) : c.Tame (lockstepMismatch c) := Chip.tame_onSafe c.safe.calm_lockstep
theorem tame_maceClockMeasure (interval : Nat) (c : Chip) : c.Tame (maceClockMeasure interval c) := Chip.tame_onSafe (c.safe.calm_clockMeasure interval)
theorem tame_maceFrameRx (good : Bool) (c : Chip) : c.Tame (maceFrameRx good c) := Chip.tame_onSafe (c.safe.calm_maceRx good)
theorem tame_nutmegFrameTimer (c : Chip) : c.Tame (nutmegFrameTimer c) := Chip.tame_onSafe (c.safe.calm_nutmegSend _)
theorem tame_startingComplete (n ok : Bool) (c : Chip) : c.Tame (startingComplete n ok c) := Chip.tame_onSafe (c.safe.calm_startingComplete n ok)

theorem tame_inputTestPulse (j : Nat) (lowN lowM : BitVec 16) (c : Chip) : c.Tame (inputTestPulse j lowN lowM c) := by
  unfold inputTestPulse
  extract_lets d
  have hd : c.Tame d := Chip.tame_ite (Chip.Spares.tame (by simp [Chip.Spares])) (.refl c)
  exact hd.trans (Chip.tame_onSafe (d.safe.calm_testPulse j lowN lowM))

theorem tame_offPulseSlot (k : Nat) (opened other back : BothSee) (c : Chip) : c.Tame (offPulseSlot k opened other back c) := by
  unfold offPulseSlot
  extract_lets n d
  have hsafe : d.safe = c.safe := by
    unfold d
    split <;> rfl
  have hd : c.Tame d := Chip.tame_ite (.refl c) (Chip.Spares.tame (by simp [Chip.Spares]))
  refine hd.trans (Chip.tame_onSafe ?_)
  rw [hsafe]
  exact c.safe.calm_offPulse k opened other back

theorem tame_nutmegAnswerRx (good : Bool) (c : Chip) : c.Tame (nutmegAnswerRx good c) := by
  unfold nutmegAnswerRx
  extract_lets d
  have hd : c.Tame d := Chip.tame_onSafe (c.safe.calm_nutmegRx good _)
  refine Chip.tame_ite (hd.trans (Chip.tame_onSafe ?_)) hd
  exact SafeIsland.Calm.trans (b := { d.safe with redeliver := false }) (SafeIsland.calm_of_same rfl rfl) (SafeIsland.calm_deliver _)

/-! The start and its end. -/

theorem Chip.tame_mainDown (c : Chip) : c.Tame c.mainDown := ⟨rfl, c.safe.calm_nutmegDown⟩

theorem Chip.tame_mainReset (c : Chip) (cause : Nat) : c.Tame (c.mainReset cause) :=
  (Chip.Spares.tame (by simp [Chip.Spares])).trans (c.countRetries.tame_mainDown.trans (Chip.Spares.tame ⟨rfl, rfl, rfl⟩))

theorem tame_alwaysOnLoss (c : Chip) : c.Tame (alwaysOnLoss c) := c.tame_mainDown.trans (Chip.Spares.tame ⟨rfl, rfl, rfl⟩)

theorem tame_bootStepWatchdog (c : Chip) : c.Tame (bootStepWatchdog c) := Chip.tame_ite (c.tame_mainReset 4) (.refl c)

theorem tame_nrstAssert (c : Chip) : c.Tame (nrstAssert c) := by
  unfold nrstAssert
  extract_lets d
  have hd : c.Tame d := Chip.Spares.tame (by simp [d, Chip.Spares])
  exact Chip.tame_ite hd (Chip.tame_ite (hd.trans (Chip.Spares.tame (by simp [Chip.Spares]))) (hd.trans (d.tame_mainReset 2)))

theorem tame_referenceLost (c : Chip) : c.Tame (referenceLost c) := by
  unfold referenceLost
  extract_lets d
  have hd : c.Tame d := Chip.Spares.tame (by simp [d, Chip.Spares])
  have hreset : c.Tame ((d.mainReset 3).onClove fun k => { k with refLost := true }) := (hd.trans (d.tame_mainReset 3)).trans (Chip.Spares.tame (by simp [Chip.Spares]))
  split
  · exact hreset
  · exact hreset
  · exact hreset
  · exact hd

theorem Chip.spares_retryStep (hang n : Nat) (c : Chip) : c.Spares (c.retryStep hang n).2 := by
  unfold Chip.retryStep
  dsimp only
  split <;> simp [Chip.Spares]

theorem Chip.spares_start {c : Chip} {s t : Start} {p : Prop} [Decidable p] (h : c.Spares s.2) (k : c.Spares t.2) : c.Spares (if p then s else t).2 := by
  split
  · exact h
  · exact k

theorem Chip.spares_bootImage (hang fuel : Nat) (fails : List Nat) (c : Chip) : c.Spares (Chip.bootImage hang fuel fails c).2 := by
  induction fuel generalizing fails c with
  | zero => exact .refl c
  | succ fuel ih =>
    unfold Chip.bootImage
    split
    · simp [Chip.Spares]
    next slot _ _ =>
      extract_lets fail c4 e4 c5 c6 h ran done
      have failed : ∀ n (d : Chip), d.Spares (fail n d).2 := fun n d => Chip.Spares.trans (by simp [Chip.Spares]) (ih _ _)
      have h4 : c.Spares e4 := by simp [e4, c4, Chip.Spares]
      have h5 : e4.Spares c5 := by simp [c5, Chip.Spares]
      have h6 : c5.Spares c6 := by simp [c6, Chip.Spares]
      have h7 : c6.Spares (done.stepDone 6) := by simp [done, ran, Chip.Spares]
      refine Chip.spares_start h4 (Chip.spares_start (h4.trans (failed 4 e4)) ?_)
      refine Chip.spares_start (h4.trans h5) (Chip.spares_start ((h4.trans h5).trans (failed 5 c5)) ?_)
      refine Chip.spares_start ((h4.trans h5).trans h6) (Chip.spares_start (((h4.trans h5).trans h6).trans (failed 6 c6)) ?_)
      exact ((h4.trans h5).trans h6).trans h7

theorem Start.tame_next {c : Chip} {s : Start} {f : Chip → Start} (hs : c.Tame s.2) (hf : ∀ d : Chip, d.Tame (f d).2) : c.Tame (s.next f).2 := by
  unfold Start.next
  split
  · exact hs.trans (hf s.2)
  · exact hs

theorem Chip.tame_stepWork (c : Chip) (fw : Bool) (n : Nat) : c.Tame (c.stepWork fw n) := by
  unfold Chip.stepWork
  split
  · exact Chip.Spares.tame (by simp [Chip.Spares])
  · refine Chip.Spares.tame ?_
    split
    · split <;> simp [Chip.Spares]
    · simp [Chip.Spares]
  · exact Chip.tame_onSafe c.safe.calm_deliver
  · exact Chip.Spares.tame (by simp [Chip.Spares])
  · refine Chip.Spares.tame ?_
    split <;> simp [Chip.Spares]
  · exact Chip.Spares.tame (by simp [Chip.Spares])
  · exact Chip.Spares.tame (by simp [Chip.Spares])
  · exact .refl c

theorem Chip.tame_bootStep (fw : Bool) (hang : Nat) (fails : List Nat) (n : Nat) (c : Chip) : c.Tame (Chip.bootStep fw hang fails n c).2 := by
  unfold Chip.bootStep
  extract_lets d
  have hd : c.Tame d := Chip.Spares.tame (by simp [d, Chip.Spares])
  refine hd.trans ?_
  split
  · exact Chip.Spares.tame (by simp [Chip.Spares])
  · split
    · exact Chip.Spares.tame (by simp [Chip.Spares])
    · split
      · exact Chip.Spares.tame (by simp [Chip.Spares])
      · split
        · exact Chip.Spares.tame (by simp [Chip.Spares])
        · split
          · exact Chip.Spares.tame (by simp [Chip.Spares])
          · split
            · exact Chip.Spares.tame (by simp [Chip.Spares])
            · exact (d.tame_stepWork fw n).trans (Chip.Spares.tame (by simp [Chip.Spares]))

theorem Start.tame_steps {c : Chip} {f : Nat → Chip → Start} (hf : ∀ n (d : Chip), d.Tame (f n d).2) (l : List Nat) {s : Start} (hs : c.Tame s.2) :
    c.Tame (l.foldl (fun s n => s.next (f n)) s).2 := by
  induction l generalizing s with
  | nil => exact hs
  | cons n l ih => exact ih (Start.tame_next hs (hf n))

theorem Chip.tame_runStart (fw : Bool) (hang : Nat) (fails : List Nat) (c : Chip) : c.Tame (Chip.runStart fw hang fails c) := by
  unfold Chip.runStart
  extract_lets begun opened stepped journal image bodies
  have hopened : c.Tame opened.2 := Chip.Spares.tame (by simp [opened, begun, Chip.Spares])
  have hstepped : c.Tame stepped.2 := by
    unfold stepped
    split
    · exact Start.tame_next hopened fun d => Chip.Spares.tame (by simp [Chip.Spares])
    · exact Start.tame_next hopened fun d => (d.spares_retryStep hang 1).tame
  have hjournal : c.Tame journal.2 := by
    refine Start.tame_next (Start.tame_next hstepped fun d => (d.spares_retryStep hang 2).tame) fun d => Chip.Spares.tame ?_
    dsimp only
    split <;> simp [Chip.Spares]
  have himage : c.Tame image.2 := Start.tame_next hjournal fun d => (d.spares_bootImage hang 6 fails).tame
  have hbodies : c.Tame bodies.2 := Start.tame_steps (fun n d => Chip.tame_bootStep fw hang fails n d) _ himage
  exact Start.tame_next (Start.tame_next hbodies fun d => (d.spares_retryStep hang 14).tame) fun d => d.spares_becomeReady.tame

theorem Chip.tame_fwStart (hang : Nat) (fails : List Nat) (c : Chip) : c.Tame (c.fwStart hang fails) :=
  (Chip.Spares.tame (by simp [Chip.Spares])).trans (Chip.tame_runStart true hang fails _)

theorem tame_mainDieRelease (hang : Nat) (fails : List Nat) (c : Chip) : c.Tame (mainDieRelease hang fails c) := by
  unfold mainDieRelease
  extract_lets k d
  have hd : c.Tame d := Chip.Spares.tame (by simp [d, Chip.Spares])
  have hup : d.Tame { d with safe := d.safe.nutmegUp } := ⟨rfl, d.safe.calm_nutmegUp⟩
  exact Chip.tame_ite (.refl c) ((hd.trans hup).trans (Chip.tame_runStart false hang fails _))

theorem tame_retryWaitExpiry (hang : Nat) (fails : List Nat) (c : Chip) : c.Tame (retryWaitExpiry hang fails c) :=
  Chip.tame_ite ((Chip.Spares.tame (by simp [Chip.Spares])).trans (tame_mainDieRelease hang fails _)) (.refl c)

theorem tame_firmwareRestart (hang : Nat) (fails : List Nat) (c : Chip) : c.Tame (firmwareRestart hang fails c) := by
  unfold firmwareRestart
  split
  · exact c.tame_mainReset 7
  · exact (Chip.Spares.tame (by simp [Chip.Spares])).trans (Chip.tame_fwStart hang fails _)
  · exact Chip.tame_ite (Chip.tame_fwStart hang fails c) (.refl c)

theorem tame_sleepEntryComplete (c : Chip) : c.Tame (sleepEntryComplete c) := by
  unfold sleepEntryComplete
  extract_lets latched active down companion slept done
  have hdown : c.Tame down := c.tame_mainDown.trans (Chip.Spares.tame (by simp [down, Chip.Spares]))
  have hcompanion : down.Tame companion := Chip.tame_ite (.refl down) ((Chip.tame_onSafe down.safe.calm_companionDown).trans (Chip.Spares.tame (by simp [Chip.Spares])))
  have hdone : companion.Tame done := Chip.Spares.tame (by simp [done, slept, Chip.Spares])
  have hasleep := (hdown.trans hcompanion).trans hdone
  exact Chip.tame_ite (Chip.tame_ite (hasleep.trans (Chip.Spares.tame (by simp [Chip.Spares]))) hasleep) (.refl c)

end Sys2Proof.Machine
end

section
/-! The mailbox commands, the doorbells and what a row leaves of the chip before it. -/
namespace Sys2Proof.Machine

/-- A confirmed set is taken by both channels, or loaded (R380). -/
theorem tame_safeParamConfirm_act (c : Chip) (r : Bytes) : c.Tame (safeParamConfirm.act c r).chip := by
  have h := c.spares_judgePassword (passwordAt r 8)
  dsimp -zeta only [safeParamConfirm]
  split
  next b d hb hj =>
    rw [hj] at h
    extract_lets s prev n loaded
    have hloaded : n.Calm loaded := SafeIsland.calm_ite (n.calm_load b true) (n.calm_took b)
    have hkept : d.Tame (d.safeSet { loaded with authorised := loaded.authorised && loaded.configuring }) :=
      ⟨rfl, (SafeIsland.calm_of_same rfl rfl : s.Calm n).trans (hloaded.trans (SafeIsland.calm_of_same rfl rfl))⟩
    exact (h.tame.trans hkept).trans (Chip.Spares.tame (by simp [Chip.Spares]))
  next hj _ =>
    rw [hj] at h
    exact h.tame

/-- FW_SECURITY_ADVANCE blows fuses and does no more (R461). -/
theorem ages_fwSecurityAdvance_act (c : Chip) (r : Bytes) : c.Ages (fwSecurityAdvance.act c r).chip :=
  ⟨⟨rfl, rfl, rfl, rfl, rfl, Nat.le_max_left _ _⟩, .refl _⟩

/-- Every mailbox command keeps the fuses or blows them further, and raises no demand. -/
def Cmd.Ages (m : Cmd) : Prop := ∀ (c : Chip) (r : Bytes), c.Ages (m.act c r).chip

theorem Cmd.Ages.of_spares {m : Cmd} (h : ∀ (c : Chip) r, c.Spares (m.act c r).chip) : m.Ages := fun c r => (h c r).tame.ages

theorem ages_directoryCmds : ∀ m ∈ [dirStatus, dirPin, dirReadPage, dirUnpin, dirCopy, dirResolve, vehicleConfigSet, vehicleConfigGet], m.Ages := by
  simp only [List.forall_mem_cons, List.not_mem_nil, false_imp_iff, implies_true, and_true]
  exact
    ⟨.of_spares spares_dirStatus_act, .of_spares spares_dirPin_act, .of_spares spares_dirReadPage_act,
      .of_spares spares_dirUnpin_act, .of_spares spares_dirCopy_act, .of_spares spares_dirResolve_act,
      .of_spares spares_vehicleConfigSet_act, .of_spares spares_vehicleConfigGet_act⟩

theorem ages_rollcallCmds : ∀ m ∈ [rollcallStart, rollcallStop, rollcallRerun, rollcallStatus, cabSet, rollcallConfigSet, rollcallConfigGet, rollcallCounters], m.Ages := by
  simp only [List.forall_mem_cons, List.not_mem_nil, false_imp_iff, implies_true, and_true]
  exact
    ⟨.of_spares spares_rollcallStart_act, .of_spares spares_rollcallStop_act, .of_spares spares_rollcallRerun_act,
      .of_spares spares_rollcallStatus_act, .of_spares spares_cabSet_act, .of_spares spares_rollcallConfigSet_act,
      .of_spares spares_rollcallConfigGet_act, .of_spares spares_rollcallCounters_act⟩

theorem ages_groupCmds (grp : Nat) : ∀ m ∈ groupCmds grp, m.Ages := by
  unfold groupCmds
  split
  · simp only [List.forall_mem_cons, List.not_mem_nil, false_imp_iff, implies_true, and_true]
    exact
      ⟨.of_spares spares_bbStatus_act, .of_spares spares_bbConfigSet_act, .of_spares spares_bbConfigGet_act,
        .of_spares spares_bbSchedStage_act, .of_spares spares_bbSchedCommit_act, .of_spares spares_pdWrite_act,
        .of_spares spares_pdRead_act, .of_spares spares_msgSend_act, .of_spares spares_leaseStatus_act,
        .of_spares spares_bbCounters_act⟩
  · simp only [List.forall_mem_cons, List.not_mem_nil, false_imp_iff, implies_true, and_true]
    exact
      ⟨.of_spares spares_timeStatus_act, .of_spares spares_timeConfigSet_act, .of_spares spares_timeConfigGet_act,
        .of_spares spares_timeNow_act, .of_spares spares_timeRefTod_act, .of_spares spares_cepSet_act,
        .of_spares spares_cepGet_act, .of_spares spares_cepStatus_act, .of_spares spares_timePort_act,
        .of_spares spares_timeCounters_act⟩
  · simp only [List.forall_mem_cons, List.not_mem_nil, false_imp_iff, implies_true, and_true]
    exact
      ⟨.of_spares spares_cbStatus_act, .of_spares spares_cbConfigSet_act, .of_spares spares_cbConfigGet_act,
        .of_spares spares_cbStart_act, .of_spares spares_cbStop_act, .of_spares spares_cbSchedStage_act,
        .of_spares spares_cbSchedCommit_act, .of_spares spares_cbTxWrite_act, .of_spares spares_cbRxRead_act,
        .of_spares spares_cbEventSend_act, .of_spares spares_cbEventRead_act, .of_spares spares_cbSlotStatus_act,
        .of_spares spares_cbPointSet_act, .of_spares spares_cbCounters_act⟩
  · simp only [List.forall_mem_cons, List.not_mem_nil, false_imp_iff, implies_true, and_true]
    exact
      ⟨.of_spares spares_canStatus_act, .of_spares spares_canConfigSet_act, .of_spares spares_canConfigGet_act,
        .of_spares spares_canStart_act, .of_spares spares_canStop_act, .of_spares spares_canRecover_act,
        .of_spares spares_canBufSet_act, .of_spares spares_canBufGet_act, .of_spares spares_canTxWrite_act,
        .of_spares spares_canRxRead_act, .of_spares spares_canSend_act, .of_spares spares_canMatrixStage_act,
        .of_spares spares_canMatrixCommit_act, .of_spares spares_canBufResume_act, .of_spares spares_canCounters_act⟩
  · simp only [List.forall_mem_cons, List.not_mem_nil, false_imp_iff, implies_true, and_true]
    exact
      ⟨.of_spares spares_routeStatus_act, .of_spares spares_routeStart_act, .of_spares spares_routeStop_act,
        .of_spares spares_routeStage_act, .of_spares spares_routeCommit_act, .of_spares spares_routeEntryGet_act,
        .of_spares spares_routeEntryEnable_act, .of_spares spares_guardStatus_act, .of_spares spares_guardReset_act,
        .of_spares spares_routeCounters_act, .of_spares spares_guardCompute_act⟩
  · simp only [List.forall_mem_cons, List.not_mem_nil, false_imp_iff, implies_true, and_true]
    exact
      ⟨.of_spares spares_brStatus_act, .of_spares spares_brConfigSet_act, .of_spares spares_brConfigGet_act,
        .of_spares spares_brStart_act, .of_spares spares_brStop_act, .of_spares spares_brWindowSet_act,
        .of_spares spares_brWindowEnable_act, .of_spares spares_brWindowStatus_act, .of_spares spares_brExport_act,
        .of_spares spares_brRead_act, .of_spares spares_brCompletionRead_act, .of_spares spares_brFaultRead_act,
        .of_spares spares_brStrandedRead_act, .of_spares spares_brPrefetch_act, .of_spares spares_brSemControl_act,
        .of_spares spares_brCounters_act⟩
  · simp only [List.forall_mem_cons, List.not_mem_nil, false_imp_iff, implies_true, and_true]
    exact
      ⟨.of_spares spares_ethStatus_act, .of_spares spares_ethConfigSet_act, .of_spares spares_ethConfigGet_act,
        .of_spares spares_ethStart_act, .of_spares spares_ethStop_act, .of_spares spares_ethAddrSet_act,
        .of_spares spares_ethCounters_act, .of_spares spares_queueSet_act, .of_spares spares_queueStatus_act,
        .of_spares spares_ringSet_act, .of_spares spares_ringEnable_act, .of_spares spares_memConfigSet_act,
        .of_spares spares_memConfigGet_act, .of_spares spares_memStart_act, .of_spares spares_memStop_act,
        .of_spares spares_memStatus_act⟩
  · simp only [List.forall_mem_cons, List.not_mem_nil, false_imp_iff, implies_true, and_true]
    exact
      ⟨.of_spares spares_safeStatus_act, .of_spares spares_safeIoStatus_act, .of_spares spares_safeParamStage_act,
        .of_spares spares_safeParamCommit_act, .of_spares spares_safeParamRead_act, .of_spares spares_safeConfigEnter_act,
        fun c r => (tame_safeParamConfirm_act c r).ages, .of_spares spares_safeConfigLeave_act, .of_spares spares_safePasswordSet_act,
        .of_spares spares_safeLogRead_act, .of_spares spares_safeCounters_act⟩
  · simp only [List.forall_mem_cons, List.not_mem_nil, false_imp_iff, implies_true, and_true]
    exact
      ⟨.of_spares spares_pwrStatus_act, .of_spares spares_pwrConfigSet_act, .of_spares spares_pwrConfigGet_act,
        .of_spares spares_pwrVote_act, .of_spares spares_pwrWakeRequest_act, .of_spares spares_pwrSleepLocal_act,
        .of_spares spares_pwrPnSet_act, .of_spares spares_pwrPnMode_act, .of_spares spares_pwrCounters_act⟩
  · simp only [List.forall_mem_cons, List.not_mem_nil, false_imp_iff, implies_true, and_true]
    exact
      ⟨.of_spares spares_recStatus_act, .of_spares spares_recConfigSet_act, .of_spares spares_recConfigGet_act,
        .of_spares spares_recRead_act, .of_spares spares_recCopy_act, .of_spares spares_recSeqRead_act,
        .of_spares spares_recWrite_act, .of_spares spares_recErase_act, .of_spares spares_recCounters_act⟩
  · simp only [List.forall_mem_cons, List.not_mem_nil, false_imp_iff, implies_true, and_true]
    exact
      ⟨.of_spares spares_bootStatus_act, .of_spares spares_bootJournalRead_act, .of_spares spares_bootJournalClear_act,
        .of_spares spares_bootConfigSet_act, .of_spares spares_bootConfigGet_act, .of_spares spares_fwBegin_act,
        .of_spares spares_fwWrite_act, .of_spares spares_fwActivate_act, .of_spares spares_fwConfirm_act,
        .of_spares spares_fwRestart_act, ages_fwSecurityAdvance_act⟩
  · simp only [List.forall_mem_cons, List.not_mem_nil, false_imp_iff, implies_true, and_true]
    exact
      ⟨.of_spares spares_ifIdentify_act, .of_spares spares_ifEcho_act, .of_spares spares_ifCounters_act,
        .of_spares spares_evRecordRead_act, .of_spares spares_tileStatus_act⟩
  · exact fun _ h => absurd h (by simp)


theorem ages_of_cmdOf {op : Nat} {m : Cmd} (h : m ∈ cmdOf op) : m.Ages := by
  unfold cmdOf at h
  split at h
  · split at h
    · exact ages_directoryCmds m (List.mem_of_getElem? h)
    · exact ages_rollcallCmds m (List.mem_of_getElem? h)
  · exact ages_groupCmds _ m (List.mem_of_getElem? h)

/-! The rows that take the doorbell of any opcode. -/

theorem ages_anyDoorbell (d : Doorbell) (op : Nat) (c : Chip) : c.Ages (anyDoorbell d op c) :=
  Chip.keeps_doorbell keepsMore_ages c d _ fun _ hm => ages_of_cmdOf hm

theorem Chip.ages_doorbellWrite (c : Chip) (mb v : Nat) : c.Ages (c.doorbellWrite mb v) := Chip.keeps_doorbell keepsMore_ages c _ _ fun _ hm => ages_of_cmdOf hm

theorem ages_heldCommandStart (n : Nat) (c : Chip) : c.Ages (heldCommandStart n c) := by
  unfold heldCommandStart
  extract_lets m d
  have hd : c.Ages d := (Chip.Spares.tame (by simp [d, Chip.Spares])).ages
  split
  · exact (Chip.Tame.refl c).ages
  · split
    next k hk =>
      refine hd.trans (Chip.keeps_runCmd keepsMore_ages d n _ ?_)
      split
      · exact fun c r => ages_of_cmdOf hk c r
      · exact ages_of_cmdOf hk
    · exact hd.trans (Chip.Spares.tame (by simp [Chip.Spares])).ages

theorem Chip.ages_writeWord (c : Chip) (o v : Nat) : c.Ages (c.writeWord o v) := by
  unfold Chip.writeWord
  extract_lets w k n freed
  have hs : ∀ d : Chip, c.Spares d → c.Ages d := fun d h => h.tame.ages
  split
  · exact hs _ (by simp [Chip.Spares])
  · split
    · exact hs _ (by simp [Chip.Spares])
    · split
      · exact hs _ (by simp [Chip.Spares])
      · split
        · exact hs _ (by simp [Chip.Spares])
        · split
          · split
            · exact c.ages_doorbellWrite _ _
            · exact hs _ (by simp [freed, Chip.Spares])
            · exact hs _ (.refl c)
          · exact hs _ (by simp [Chip.Spares])

theorem Chip.ages_spiWrites (o : Nat) (d : Bytes) (c : Chip) : c.Ages (Chip.spiWrites o d c) := by
  fun_induction Chip.spiWrites o d c with
  | case1 => exact (Chip.Tame.refl _).ages
  | case2 => exact (Chip.ages_writeWord _ _ _).trans ‹_›
  | case3 => exact (Chip.Tame.refl _).ages

theorem ages_registerWrite (o : Nat) (d : Bytes) (c : Chip) : c.Ages (registerWrite o d c) := by
  unfold registerWrite
  extract_lets len
  split
  · exact (Chip.Spares.tame (by simp [Chip.Spares])).ages
  · split
    · exact (Chip.Spares.tame (by simp [Chip.Spares])).ages
    · split
      · exact (Chip.Spares.tame (by simp [Chip.Spares])).ages
      · split
        · exact c.ages_writeWord _ _
        · exact (Chip.Tame.refl c).ages

theorem Chip.spares_spiWord (c : Chip) (o : Nat) : c.Spares (c.spiWord o).2 := by
  unfold Chip.spiWord
  split
  · dsimp only
    split
    · exact c.spares_fenceNow _
    · exact .refl c
  · split
    · exact c.spares_semNow _
    · exact .refl c

theorem Chip.spares_spiWords (n o : Nat) (c : Chip) : c.Spares (c.spiWords n o).2 := by
  induction n generalizing o c with
  | zero => exact .refl c
  | succ n ih => exact (c.spares_spiWord o).trans (ih (o + 4) _)

theorem ages_spiFrame (mosi : Bytes) (c : Chip) : c.Ages (spiFrame mosi c) := by
  unfold spiFrame
  extract_lets status len hd n o bad k body wrong d
  split
  · exact (Chip.Tame.refl c).ages
  · split
    · exact (Chip.Spares.tame (by simp [Chip.Spares])).ages
    · split
      · split
        · exact (Chip.Spares.tame (by simp [Chip.Spares])).ages
        · exact (Chip.Spares.tame ((c.spares_spiWords k o).trans (by simp [Chip.Spares]))).ages
      · have hd : c.Spares (d.spiDone false) := by simp [d, Chip.Spares]
        split
        · exact (Chip.Spares.tame (by simp [d, Chip.Spares])).ages
        · exact hd.tame.ages.trans (Chip.ages_spiWrites _ _ _)

/-! The rows. -/

/-- A row leaves a chip that stands in `R` to the one before. -/
def Does (R : Chip → Chip → Prop) (i : Instr) : Prop := ∀ s s', exec i s = .next s' → R s.chip s'.chip

theorem does_row {R : Chip → Chip → Prop} (hR : KeepsMore R) {i : Instr} {t : Nat} {f : Chip → Chip} (he : ∀ s, exec i s = act t s f) (hf : ∀ c, R c (f c)) : Does R i := by
  intro s s' h
  rw [he, act] at h
  cases h
  exact Chip.keeps_command hR (hf _)

theorem does_mainRow {R : Chip → Chip → Prop} (hR : KeepsMore R) {i : Instr} {t : Nat} {f : Chip → Chip} (he : ∀ s, exec i s = actMain t s f) (hf : ∀ c, R c (f c)) :
    Does R i :=
  does_row hR he fun c => by
    split
    · exact hf c
    · exact hR.refl c

theorem does_served {R : Chip → Chip → Prop} (hR : KeepsMore R) {i : Instr} {t op : Nat} {d : Doorbell} {m : Cmd}
    (he : ∀ s, exec i s = act t s fun c => c.doorbell d op (some m)) (hm : ∀ (c : Chip) r, R c (m.act c r).chip) : Does R i :=
  does_row hR he fun c => Chip.keeps_doorbell hR c d op fun k hk => by
    cases hk
    exact hm

theorem tame_row {i : Instr} {t : Nat} {f : Chip → Chip} (he : ∀ s, exec i s = act t s f) (hf : ∀ c : Chip, c.Tame (f c)) : Does Chip.Tame i := does_row keepsMore_tame he hf
theorem tame_mainRow {i : Instr} {t : Nat} {f : Chip → Chip} (he : ∀ s, exec i s = actMain t s f) (hf : ∀ c : Chip, c.Tame (f c)) : Does Chip.Tame i :=
  does_mainRow keepsMore_tame he hf
theorem tame_served {i : Instr} {t op : Nat} {d : Doorbell} {m : Cmd} (he : ∀ s, exec i s = act t s fun c => c.doorbell d op (some m))
    (hm : ∀ (c : Chip) r, c.Tame (m.act c r).chip) : Does Chip.Tame i := does_served keepsMore_tame he hm

end Sys2Proof.Machine
end

section
/-! The fuses and the demands for the outputs of the safety island through every row (R41, R376, R389, R394, R461). -/
namespace Sys2Proof.Machine

/-- Every row but the evaluation of the safe functions and those that can run FW_SECURITY_ADVANCE keeps the fuses and raises no demand. -/
theorem tame_of_row {i : Instr} (hi : mayAdvance i = false) (hev : ∀ t n l rb, i ≠ .safeFunctionEval t n l rb) : Does Chip.Tame i := by
  cases i with
  | dirStatus t d => exact tame_served (fun _ => rfl) fun c r => (spares_dirStatus_act c r).tame
  | dirPin t d => exact tame_served (fun _ => rfl) fun c r => (spares_dirPin_act c r).tame
  | dirReadPage t d => exact tame_served (fun _ => rfl) fun c r => (spares_dirReadPage_act c r).tame
  | dirUnpin t d => exact tame_served (fun _ => rfl) fun c r => (spares_dirUnpin_act c r).tame
  | dirCopy t d => exact tame_served (fun _ => rfl) fun c r => (spares_dirCopy_act c r).tame
  | dirResolve t d => exact tame_served (fun _ => rfl) fun c r => (spares_dirResolve_act c r).tame
  | vehicleConfigSet t d => exact tame_served (fun _ => rfl) fun c r => (spares_vehicleConfigSet_act c r).tame
  | vehicleConfigGet t d => exact tame_served (fun _ => rfl) fun c r => (spares_vehicleConfigGet_act c r).tame
  | rollcallStart t d => exact tame_served (fun _ => rfl) fun c r => (spares_rollcallStart_act c r).tame
  | rollcallStop t d => exact tame_served (fun _ => rfl) fun c r => (spares_rollcallStop_act c r).tame
  | rollcallRerun t d => exact tame_served (fun _ => rfl) fun c r => (spares_rollcallRerun_act c r).tame
  | rollcallStatus t d => exact tame_served (fun _ => rfl) fun c r => (spares_rollcallStatus_act c r).tame
  | cabSet t d => exact tame_served (fun _ => rfl) fun c r => (spares_cabSet_act c r).tame
  | rollcallConfigSet t d => exact tame_served (fun _ => rfl) fun c r => (spares_rollcallConfigSet_act c r).tame
  | rollcallConfigGet t d => exact tame_served (fun _ => rfl) fun c r => (spares_rollcallConfigGet_act c r).tame
  | rollcallCounters t d => exact tame_served (fun _ => rfl) fun c r => (spares_rollcallCounters_act c r).tame
  | bbStatus t d => exact tame_served (fun _ => rfl) fun c r => (spares_bbStatus_act c r).tame
  | bbConfigSet t d => exact tame_served (fun _ => rfl) fun c r => (spares_bbConfigSet_act c r).tame
  | bbConfigGet t d => exact tame_served (fun _ => rfl) fun c r => (spares_bbConfigGet_act c r).tame
  | bbSchedStage t d => exact tame_served (fun _ => rfl) fun c r => (spares_bbSchedStage_act c r).tame
  | bbSchedCommit t d => exact tame_served (fun _ => rfl) fun c r => (spares_bbSchedCommit_act c r).tame
  | pdWrite t d => exact tame_served (fun _ => rfl) fun c r => (spares_pdWrite_act c r).tame
  | pdRead t d => exact tame_served (fun _ => rfl) fun c r => (spares_pdRead_act c r).tame
  | msgSend t d => exact tame_served (fun _ => rfl) fun c r => (spares_msgSend_act c r).tame
  | leaseStatus t d => exact tame_served (fun _ => rfl) fun c r => (spares_leaseStatus_act c r).tame
  | bbCounters t d => exact tame_served (fun _ => rfl) fun c r => (spares_bbCounters_act c r).tame
  | timeStatus t d => exact tame_served (fun _ => rfl) fun c r => (spares_timeStatus_act c r).tame
  | timeConfigSet t d => exact tame_served (fun _ => rfl) fun c r => (spares_timeConfigSet_act c r).tame
  | timeConfigGet t d => exact tame_served (fun _ => rfl) fun c r => (spares_timeConfigGet_act c r).tame
  | timeNow t d => exact tame_served (fun _ => rfl) fun c r => (spares_timeNow_act c r).tame
  | timeRefTod t d => exact tame_served (fun _ => rfl) fun c r => (spares_timeRefTod_act c r).tame
  | cepSet t d => exact tame_served (fun _ => rfl) fun c r => (spares_cepSet_act c r).tame
  | cepGet t d => exact tame_served (fun _ => rfl) fun c r => (spares_cepGet_act c r).tame
  | cepStatus t d => exact tame_served (fun _ => rfl) fun c r => (spares_cepStatus_act c r).tame
  | timePort t d => exact tame_served (fun _ => rfl) fun c r => (spares_timePort_act c r).tame
  | timeCounters t d => exact tame_served (fun _ => rfl) fun c r => (spares_timeCounters_act c r).tame
  | cbStatus t d => exact tame_served (fun _ => rfl) fun c r => (spares_cbStatus_act c r).tame
  | cbConfigSet t d => exact tame_served (fun _ => rfl) fun c r => (spares_cbConfigSet_act c r).tame
  | cbConfigGet t d => exact tame_served (fun _ => rfl) fun c r => (spares_cbConfigGet_act c r).tame
  | cbStart t d => exact tame_served (fun _ => rfl) fun c r => (spares_cbStart_act c r).tame
  | cbStop t d => exact tame_served (fun _ => rfl) fun c r => (spares_cbStop_act c r).tame
  | cbSchedStage t d => exact tame_served (fun _ => rfl) fun c r => (spares_cbSchedStage_act c r).tame
  | cbSchedCommit t d => exact tame_served (fun _ => rfl) fun c r => (spares_cbSchedCommit_act c r).tame
  | cbTxWrite t d => exact tame_served (fun _ => rfl) fun c r => (spares_cbTxWrite_act c r).tame
  | cbRxRead t d => exact tame_served (fun _ => rfl) fun c r => (spares_cbRxRead_act c r).tame
  | cbEventSend t d => exact tame_served (fun _ => rfl) fun c r => (spares_cbEventSend_act c r).tame
  | cbEventRead t d => exact tame_served (fun _ => rfl) fun c r => (spares_cbEventRead_act c r).tame
  | cbSlotStatus t d => exact tame_served (fun _ => rfl) fun c r => (spares_cbSlotStatus_act c r).tame
  | cbPointSet t d => exact tame_served (fun _ => rfl) fun c r => (spares_cbPointSet_act c r).tame
  | cbCounters t d => exact tame_served (fun _ => rfl) fun c r => (spares_cbCounters_act c r).tame
  | canStatus t d => exact tame_served (fun _ => rfl) fun c r => (spares_canStatus_act c r).tame
  | canConfigSet t d => exact tame_served (fun _ => rfl) fun c r => (spares_canConfigSet_act c r).tame
  | canConfigGet t d => exact tame_served (fun _ => rfl) fun c r => (spares_canConfigGet_act c r).tame
  | canStart t d => exact tame_served (fun _ => rfl) fun c r => (spares_canStart_act c r).tame
  | canStop t d => exact tame_served (fun _ => rfl) fun c r => (spares_canStop_act c r).tame
  | canRecover t d => exact tame_served (fun _ => rfl) fun c r => (spares_canRecover_act c r).tame
  | canBufSet t d => exact tame_served (fun _ => rfl) fun c r => (spares_canBufSet_act c r).tame
  | canBufGet t d => exact tame_served (fun _ => rfl) fun c r => (spares_canBufGet_act c r).tame
  | canTxWrite t d => exact tame_served (fun _ => rfl) fun c r => (spares_canTxWrite_act c r).tame
  | canRxRead t d => exact tame_served (fun _ => rfl) fun c r => (spares_canRxRead_act c r).tame
  | canSend t d => exact tame_served (fun _ => rfl) fun c r => (spares_canSend_act c r).tame
  | canMatrixStage t d => exact tame_served (fun _ => rfl) fun c r => (spares_canMatrixStage_act c r).tame
  | canMatrixCommit t d => exact tame_served (fun _ => rfl) fun c r => (spares_canMatrixCommit_act c r).tame
  | canBufResume t d => exact tame_served (fun _ => rfl) fun c r => (spares_canBufResume_act c r).tame
  | canCounters t d => exact tame_served (fun _ => rfl) fun c r => (spares_canCounters_act c r).tame
  | routeStatus t d => exact tame_served (fun _ => rfl) fun c r => (spares_routeStatus_act c r).tame
  | routeStart t d => exact tame_served (fun _ => rfl) fun c r => (spares_routeStart_act c r).tame
  | routeStop t d => exact tame_served (fun _ => rfl) fun c r => (spares_routeStop_act c r).tame
  | routeStage t d => exact tame_served (fun _ => rfl) fun c r => (spares_routeStage_act c r).tame
  | routeCommit t d => exact tame_served (fun _ => rfl) fun c r => (spares_routeCommit_act c r).tame
  | routeEntryGet t d => exact tame_served (fun _ => rfl) fun c r => (spares_routeEntryGet_act c r).tame
  | routeEntryEnable t d => exact tame_served (fun _ => rfl) fun c r => (spares_routeEntryEnable_act c r).tame
  | guardStatus t d => exact tame_served (fun _ => rfl) fun c r => (spares_guardStatus_act c r).tame
  | guardReset t d => exact tame_served (fun _ => rfl) fun c r => (spares_guardReset_act c r).tame
  | routeCounters t d => exact tame_served (fun _ => rfl) fun c r => (spares_routeCounters_act c r).tame
  | guardCompute t d => exact tame_served (fun _ => rfl) fun c r => (spares_guardCompute_act c r).tame
  | brStatus t d => exact tame_served (fun _ => rfl) fun c r => (spares_brStatus_act c r).tame
  | brConfigSet t d => exact tame_served (fun _ => rfl) fun c r => (spares_brConfigSet_act c r).tame
  | brConfigGet t d => exact tame_served (fun _ => rfl) fun c r => (spares_brConfigGet_act c r).tame
  | brStart t d => exact tame_served (fun _ => rfl) fun c r => (spares_brStart_act c r).tame
  | brStop t d => exact tame_served (fun _ => rfl) fun c r => (spares_brStop_act c r).tame
  | brWindowSet t d => exact tame_served (fun _ => rfl) fun c r => (spares_brWindowSet_act c r).tame
  | brWindowEnable t d => exact tame_served (fun _ => rfl) fun c r => (spares_brWindowEnable_act c r).tame
  | brWindowStatus t d => exact tame_served (fun _ => rfl) fun c r => (spares_brWindowStatus_act c r).tame
  | brExport t d => exact tame_served (fun _ => rfl) fun c r => (spares_brExport_act c r).tame
  | brRead t d => exact tame_served (fun _ => rfl) fun c r => (spares_brRead_act c r).tame
  | brCompletionRead t d => exact tame_served (fun _ => rfl) fun c r => (spares_brCompletionRead_act c r).tame
  | brFaultRead t d => exact tame_served (fun _ => rfl) fun c r => (spares_brFaultRead_act c r).tame
  | brStrandedRead t d => exact tame_served (fun _ => rfl) fun c r => (spares_brStrandedRead_act c r).tame
  | brPrefetch t d => exact tame_served (fun _ => rfl) fun c r => (spares_brPrefetch_act c r).tame
  | brSemControl t d => exact tame_served (fun _ => rfl) fun c r => (spares_brSemControl_act c r).tame
  | brCounters t d => exact tame_served (fun _ => rfl) fun c r => (spares_brCounters_act c r).tame
  | ethStatus t d => exact tame_served (fun _ => rfl) fun c r => (spares_ethStatus_act c r).tame
  | ethConfigSet t d => exact tame_served (fun _ => rfl) fun c r => (spares_ethConfigSet_act c r).tame
  | ethConfigGet t d => exact tame_served (fun _ => rfl) fun c r => (spares_ethConfigGet_act c r).tame
  | ethStart t d => exact tame_served (fun _ => rfl) fun c r => (spares_ethStart_act c r).tame
  | ethStop t d => exact tame_served (fun _ => rfl) fun c r => (spares_ethStop_act c r).tame
  | ethAddrSet t d => exact tame_served (fun _ => rfl) fun c r => (spares_ethAddrSet_act c r).tame
  | ethCounters t d => exact tame_served (fun _ => rfl) fun c r => (spares_ethCounters_act c r).tame
  | queueSet t d => exact tame_served (fun _ => rfl) fun c r => (spares_queueSet_act c r).tame
  | queueStatus t d => exact tame_served (fun _ => rfl) fun c r => (spares_queueStatus_act c r).tame
  | ringSet t d => exact tame_served (fun _ => rfl) fun c r => (spares_ringSet_act c r).tame
  | ringEnable t d => exact tame_served (fun _ => rfl) fun c r => (spares_ringEnable_act c r).tame
  | memConfigSet t d => exact tame_served (fun _ => rfl) fun c r => (spares_memConfigSet_act c r).tame
  | memConfigGet t d => exact tame_served (fun _ => rfl) fun c r => (spares_memConfigGet_act c r).tame
  | memStart t d => exact tame_served (fun _ => rfl) fun c r => (spares_memStart_act c r).tame
  | memStop t d => exact tame_served (fun _ => rfl) fun c r => (spares_memStop_act c r).tame
  | memStatus t d => exact tame_served (fun _ => rfl) fun c r => (spares_memStatus_act c r).tame
  | ifIdentify t d => exact tame_served (fun _ => rfl) fun c r => (spares_ifIdentify_act c r).tame
  | ifEcho t d => exact tame_served (fun _ => rfl) fun c r => (spares_ifEcho_act c r).tame
  | ifCounters t d => exact tame_served (fun _ => rfl) fun c r => (spares_ifCounters_act c r).tame
  | evRecordRead t d => exact tame_served (fun _ => rfl) fun c r => (spares_evRecordRead_act c r).tame
  | tileStatus t d => exact tame_served (fun _ => rfl) fun c r => (spares_tileStatus_act c r).tame
  | safeStatus t d => exact tame_served (fun _ => rfl) fun c r => (spares_safeStatus_act c r).tame
  | safeIoStatus t d => exact tame_served (fun _ => rfl) fun c r => (spares_safeIoStatus_act c r).tame
  | safeParamStage t d => exact tame_served (fun _ => rfl) fun c r => (spares_safeParamStage_act c r).tame
  | safeParamCommit t d => exact tame_served (fun _ => rfl) fun c r => (spares_safeParamCommit_act c r).tame
  | safeParamRead t d => exact tame_served (fun _ => rfl) fun c r => (spares_safeParamRead_act c r).tame
  | safeConfigEnter t d => exact tame_served (fun _ => rfl) fun c r => (spares_safeConfigEnter_act c r).tame
  | safeParamConfirm t d => exact tame_served (fun _ => rfl) tame_safeParamConfirm_act
  | safeConfigLeave t d => exact tame_served (fun _ => rfl) fun c r => (spares_safeConfigLeave_act c r).tame
  | safePasswordSet t d => exact tame_served (fun _ => rfl) fun c r => (spares_safePasswordSet_act c r).tame
  | safeLogRead t d => exact tame_served (fun _ => rfl) fun c r => (spares_safeLogRead_act c r).tame
  | safeCounters t d => exact tame_served (fun _ => rfl) fun c r => (spares_safeCounters_act c r).tame
  | pwrStatus t d => exact tame_served (fun _ => rfl) fun c r => (spares_pwrStatus_act c r).tame
  | pwrConfigSet t d => exact tame_served (fun _ => rfl) fun c r => (spares_pwrConfigSet_act c r).tame
  | pwrConfigGet t d => exact tame_served (fun _ => rfl) fun c r => (spares_pwrConfigGet_act c r).tame
  | pwrVote t d => exact tame_served (fun _ => rfl) fun c r => (spares_pwrVote_act c r).tame
  | pwrWakeRequest t d => exact tame_served (fun _ => rfl) fun c r => (spares_pwrWakeRequest_act c r).tame
  | pwrSleepLocal t d => exact tame_served (fun _ => rfl) fun c r => (spares_pwrSleepLocal_act c r).tame
  | pwrPnSet t d => exact tame_served (fun _ => rfl) fun c r => (spares_pwrPnSet_act c r).tame
  | pwrPnMode t d => exact tame_served (fun _ => rfl) fun c r => (spares_pwrPnMode_act c r).tame
  | pwrCounters t d => exact tame_served (fun _ => rfl) fun c r => (spares_pwrCounters_act c r).tame
  | recStatus t d => exact tame_served (fun _ => rfl) fun c r => (spares_recStatus_act c r).tame
  | recConfigSet t d => exact tame_served (fun _ => rfl) fun c r => (spares_recConfigSet_act c r).tame
  | recConfigGet t d => exact tame_served (fun _ => rfl) fun c r => (spares_recConfigGet_act c r).tame
  | recRead t d => exact tame_served (fun _ => rfl) fun c r => (spares_recRead_act c r).tame
  | recCopy t d => exact tame_served (fun _ => rfl) fun c r => (spares_recCopy_act c r).tame
  | recSeqRead t d => exact tame_served (fun _ => rfl) fun c r => (spares_recSeqRead_act c r).tame
  | recWrite t d => exact tame_served (fun _ => rfl) fun c r => (spares_recWrite_act c r).tame
  | recErase t d => exact tame_served (fun _ => rfl) fun c r => (spares_recErase_act c r).tame
  | recCounters t d => exact tame_served (fun _ => rfl) fun c r => (spares_recCounters_act c r).tame
  | bootStatus t d => exact tame_served (fun _ => rfl) fun c r => (spares_bootStatus_act c r).tame
  | bootJournalRead t d => exact tame_served (fun _ => rfl) fun c r => (spares_bootJournalRead_act c r).tame
  | bootJournalClear t d => exact tame_served (fun _ => rfl) fun c r => (spares_bootJournalClear_act c r).tame
  | bootConfigSet t d => exact tame_served (fun _ => rfl) fun c r => (spares_bootConfigSet_act c r).tame
  | bootConfigGet t d => exact tame_served (fun _ => rfl) fun c r => (spares_bootConfigGet_act c r).tame
  | fwBegin t d => exact tame_served (fun _ => rfl) fun c r => (spares_fwBegin_act c r).tame
  | fwWrite t d => exact tame_served (fun _ => rfl) fun c r => (spares_fwWrite_act c r).tame
  | fwActivate t d => exact tame_served (fun _ => rfl) fun c r => (spares_fwActivate_act c r).tame
  | fwConfirm t d => exact tame_served (fun _ => rfl) fun c r => (spares_fwConfirm_act c r).tame
  | fwRestart t d => exact tame_served (fun _ => rfl) fun c r => (spares_fwRestart_act c r).tame
  | fwSecurityAdvance _ _ => cases hi
  | undefinedOpcode _ _ _ => cases hi
  | heldCommandStart _ _ => cases hi
  | doorbellIgnored _ _ _ => cases hi
  | requestAreaWriteLocked t n off data => exact tame_mainRow (fun _ => rfl) fun c => (spares_requestAreaWrite n off data c).tame
  | mbRelease t n => exact tame_mainRow (fun _ => rfl) fun c => (spares_mbRelease n c).tame
  | evAck t word value => exact tame_mainRow (fun _ => rfl) fun c => (spares_evAck word value c).tame
  | nhirqEnableWrite t value => exact tame_mainRow (fun _ => rfl) fun c => (spares_nhirqEnableWrite value c).tame
  | registerWrite _ _ _ => cases hi
  | registerAccessError t tag o len => exact tame_mainRow (fun _ => rfl) fun c => (spares_registerAccessError tag o len c).tame
  | fenceRead t tag n off len => exact tame_mainRow (fun _ => rfl) fun c => (spares_fenceRead tag n off len c).tame
  | remoteIrqWrite t n value enables => exact tame_mainRow (fun _ => rfl) fun c => (spares_remoteIrqWrite n value enables c).tame
  | semRead t tag n => exact tame_mainRow (fun _ => rfl) fun c => (spares_semRead tag n c).tame
  | semReleaseWrite t n value => exact tame_mainRow (fun _ => rfl) fun c => (spares_semReleaseWrite n value c).tame
  | windowRead t tag off len => exact tame_mainRow (fun _ => rfl) fun c => (spares_windowRead tag off len c).tame
  | windowWrite t off d => exact tame_mainRow (fun _ => rfl) fun c => (spares_windowWrite off d c).tame
  | nonpostedRequestAdmitted t => exact tame_mainRow (fun _ => rfl) fun c => (spares_nonPostedAdmitted c).tame
  | spiFrame _ _ => cases hi
  | pcieLinkDown t => exact tame_mainRow (fun _ => rfl) fun c => (spares_pcieLinkDown c).tame
  | msiReenable t busMaster enable intDisable k => exact tame_mainRow (fun _ => rfl) fun c => (spares_msiReenable busMaster enable intDisable k c).tame
  | msiUnmask t mask => exact tame_mainRow (fun _ => rfl) fun c => (spares_msiUnmask mask c).tame
  | heartbeatTick t => exact tame_mainRow (fun _ => rfl) fun c => (spares_heartbeatTick c).tame
  | tileSelfCheckFail t kind idx => exact tame_mainRow (fun _ => rfl) fun c => (spares_tileSelfCheckFail kind idx c).tame
  | phyLinkLoss t p => exact tame_mainRow (fun _ => rfl) fun c => (spares_phyLinkLoss p c).tame
  | linkRxTimeout t p => exact tame_mainRow (fun _ => rfl) fun c => (spares_linkRxTimeout p c).tame
  | linkProvisional t p => exact tame_mainRow (fun _ => rfl) fun c => (spares_linkProvisional p c).tame
  | linkIdleTimer t p => exact tame_mainRow (fun _ => rfl) fun c => (spares_linkIdleTimer p c).tame
  | delayBurstEnd t p => exact tame_mainRow (fun _ => rfl) fun c => (spares_delayBurstEnd p c).tame
  | delayRequestTimer t p => exact tame_mainRow (fun _ => rfl) fun c => (spares_delayRequestTimer p c).tame
  | tdreqRx t p raw => exact tame_mainRow (fun _ => rfl) fun c => (spares_tdreqRx p raw c).tame
  | tdrespRx t p ps raw => exact tame_mainRow (fun _ => rfl) fun c => (spares_tdrespRx p ps raw c).tame
  | delaySampleTimeout t p => exact tame_mainRow (fun _ => rfl) fun c => (spares_delaySampleTimeout p c).tame
  | latencyTempCorrection t p tx rx => exact tame_mainRow (fun _ => rfl) fun c => (spares_latencyTempCorrection p tx rx c).tame
  | probeRx t p raw => exact tame_mainRow (fun _ => rfl) fun c => (spares_probeRx p raw c).tame
  | probeReplyRx t p raw => exact tame_mainRow (fun _ => rfl) fun c => (spares_probeReplyRx p raw c).tame
  | probeReplyTimeout t e => exact tame_mainRow (fun _ => rfl) fun c => (spares_probeReplyTimeout e c).tame
  | couplerSenseChange t e high => exact tame_mainRow (fun _ => rfl) fun c => (spares_couplerSenseChange e high c).tame
  | couplerDisagreeTimeout t e => exact tame_mainRow (fun _ => rfl) fun c => (spares_couplerDisagreeTimeout e c).tame
  | firstStartTimeout t => exact tame_mainRow (fun _ => rfl) fun c => (spares_firstStartTimeout c).tame
  | holdoffExpiry t => exact tame_mainRow (fun _ => rfl) fun c => (spares_holdoffExpiry c).tame
  | startRx t p raw => exact tame_mainRow (fun _ => rfl) fun c => (spares_startRx p raw c).tame
  | startOuterTimeout t e => exact tame_mainRow (fun _ => rfl) fun c => (spares_startOuterTimeout e c).tame
  | countRx t p raw => exact tame_mainRow (fun _ => rfl) fun c => (spares_countRx p raw c).tame
  | reportRx t p src raw => exact tame_mainRow (fun _ => rfl) fun c => (spares_reportRx p src raw c).tame
  | reportWaitTimeout t => exact tame_mainRow (fun _ => rfl) fun c => (spares_reportWaitTimeout c).tame
  | compositionComplete t => exact tame_mainRow (fun _ => rfl) fun c => (spares_compositionComplete c).tame
  | announceRx t p raw => exact tame_mainRow (fun _ => rfl) fun c => (spares_announceRx p raw c).tame
  | dirsegRx t p src raw => exact tame_mainRow (fun _ => rfl) fun c => (spares_dirsegRx p src raw c).tame
  | segreqDeadline t => exact tame_mainRow (fun _ => rfl) fun c => (spares_segreqDeadline c).tame
  | segreqRx t p src raw => exact tame_mainRow (fun _ => rfl) fun c => (spares_segreqRx p src raw c).tame
  | snapshotIncompleteDeadline t => exact tame_mainRow (fun _ => rfl) fun c => (spares_snapshotIncompleteDeadline c).tame
  | epochSwitch t => exact tame_mainRow (fun _ => rfl) fun c => (spares_epochSwitch c).tame
  | runWatchdogExpiry t => exact tame_mainRow (fun _ => rfl) fun c => (spares_runWatchdogExpiry c).tame
  | snapshotEffective t => exact tame_mainRow (fun _ => rfl) fun c => (spares_snapshotEffective c).tame
  | noticeRx t p src raw => exact tame_mainRow (fun _ => rfl) fun c => (spares_noticeRx p src raw c).tame
  | bridgeTimeout t num => exact tame_mainRow (fun _ => rfl) fun c => (spares_bridgeTimeout num c).tame
  | beaconTimer t => exact tame_mainRow (fun _ => rfl) fun c => (spares_beaconTimer c).tame
  | beaconRx t p src raw => exact tame_mainRow (fun _ => rfl) fun c => (spares_beaconRx p src raw c).tame
  | beaconMissingHeld t => exact tame_mainRow (fun _ => rfl) fun c => (spares_beaconMissingHeld c).tame
  | leaderLostTimeout t => exact tame_mainRow (fun _ => rfl) fun c => (spares_leaderLostTimeout c).tame
  | leaderLeaseRenew t => exact tame_mainRow (fun _ => rfl) fun c => (spares_leaderLeaseRenew c).tame
  | leaseRx t p raw => exact tame_mainRow (fun _ => rfl) fun c => (spares_leaseRx p raw c).tame
  | deputyTakeover t => exact tame_mainRow (fun _ => rfl) fun c => (spares_deputyTakeover c).tame
  | leaseExpiry t vehicle => exact tame_mainRow (fun _ => rfl) fun c => (spares_leaseExpiry vehicle c).tame
  | gatewayRequestTimer t => exact tame_mainRow (fun _ => rfl) fun c => (spares_gatewayRequestTimer c).tame
  | bbTelegramRx t p ps err busy f => exact tame_mainRow (fun _ => rfl) fun c => (spares_bbTelegramRx p ps err busy f c).tame
  | bbEgressDequeue t q ecc => exact tame_mainRow (fun _ => rfl) fun c => (spares_bbEgressDequeue q ecc c).tame
  | dupEntryAgeout t => exact tame_mainRow (fun _ => rfl) fun c => (spares_dupEntryAgeout c).tame
  | fallbackReturnTimer t e => exact tame_mainRow (fun _ => rfl) fun c => (spares_fallbackReturnTimer e c).tame
  | lineRenameTimer t seg => exact tame_mainRow (fun _ => rfl) fun c => (spares_lineRenameTimer seg c).tame
  | preemptVerifyComplete t p ok => exact tame_mainRow (fun _ => rfl) fun c => (spares_preemptEnd p ok c).tame
  | pdSlotInstant t idx => exact tame_mainRow (fun _ => rfl) fun c => (spares_pdSlotInstant idx c).tame
  | tsyncGmTimer t => exact tame_mainRow (fun _ => rfl) fun c => (spares_tsyncGmTimer c).tame
  | tsyncRx t p ps raw => exact tame_mainRow (fun _ => rfl) fun c => (spares_tsyncRx p ps raw c).tame
  | tsyncLossTimeout t => exact tame_mainRow (fun _ => rfl) fun c => (spares_tsyncLossTimeout c).tame
  | holdoverTsyncTimer t => exact tame_mainRow (fun _ => rfl) fun c => (spares_holdoverTsyncTimer c).tame
  | holdoverLimitExceeded t => exact tame_mainRow (fun _ => rfl) fun c => (spares_holdoverLimitExceeded c).tame
  | trefInPulse t ps => exact tame_mainRow (fun _ => rfl) fun c => (spares_trefInPulse ps c).tame
  | trefInMissing t => exact tame_mainRow (fun _ => rfl) fun c => (spares_trefInMissing c).tame
  | trefOutPulse t => exact tame_mainRow (fun _ => rfl) fun c => (spares_trefOutPulse c).tame
  | cepFire t n => exact tame_mainRow (fun _ => rfl) fun c => (spares_cepFire n c).tame
  | cbCycleStart t => exact tame_mainRow (fun _ => rfl) fun c => (spares_cbCycleStart c).tame
  | cbFrameRx t p seen idle decodes f => exact tame_mainRow (fun _ => rfl) fun c => (spares_cbFrameRx p seen idle decodes f c).tame
  | cbWindowClose t p k running => exact tame_mainRow (fun _ => rfl) fun c => (spares_cbWindowClose p k running c).tame
  | cbForeignActivity t stray => exact tame_mainRow (fun _ => rfl) fun c => (spares_cbForeignActivity stray c).tame
  | cbOwnSlotSend t k => exact tame_mainRow (fun _ => rfl) fun c => (spares_cbOwnSlotSend k c).tame
  | cbEventWindow t => exact tame_mainRow (fun _ => rfl) fun c => (spares_cbEventWindow t.ecc c).tame
  | cbGrantResponseTimeout t p => exact tame_mainRow (fun _ => rfl) fun c => (spares_cbGrantResponseTimeout p c).tame
  | cbBeaconRx t p seen f => exact tame_mainRow (fun _ => rfl) fun c => (spares_cbBeaconRx p seen f c).tame
  | cbListenTimeout t => exact tame_mainRow (fun _ => rfl) fun c => (spares_cbListenTimeout c).tame
  | cbOtherStarLost t => exact tame_mainRow (fun _ => rfl) fun c => (spares_cbOtherStarLost c).tame
  | cbPointFire t n => exact tame_mainRow (fun _ => rfl) fun c => (spares_cbPointFire n c).tame
  | canIntegrated t n => exact tame_mainRow (fun _ => rfl) fun c => (spares_canIntegrated n c).tame
  | canFrameRx t n sof raw => exact tame_mainRow (fun _ => rfl) fun c => (spares_canFrameRx n sof raw c).tame
  | canTxStart t n => exact tame_mainRow (fun _ => rfl) fun c => (spares_canTxStart n t.ecc c).tame
  | canTxComplete t n tdc => exact tame_mainRow (fun _ => rfl) fun c => (spares_canTxComplete n tdc c).tame
  | canError t n kind clash exempt extra => exact tame_mainRow (fun _ => rfl) fun c => (spares_canError n kind clash exempt extra c).tame
  | canRecoveryComplete t n => exact tame_mainRow (fun _ => rfl) fun c => (spares_canRecoveryComplete n c).tame
  | canAloneRetry t n => exact tame_mainRow (fun _ => rfl) fun c => (spares_canAloneRetry n c).tame
  | canCellStart t n idle => exact tame_mainRow (fun _ => rfl) fun c => (spares_canCellStart n idle c).tame
  | canCheckCellEnd t n => exact tame_mainRow (fun _ => rfl) fun c => (spares_canCheckCellEnd n c).tame
  | canMatrixResume t n => exact tame_mainRow (fun _ => rfl) fun c => (spares_canMatrixResume n c).tame
  | routerLookup t => exact tame_mainRow (fun _ => rfl) fun c => (spares_routerLookup c).tame
  | guardTimeout t idx => exact tame_mainRow (fun _ => rfl) fun c => (spares_guardTimeout idx c).tame
  | readReqRx t p f => exact tame_mainRow (fun _ => rfl) fun c => (spares_requestRx 1 p f c).tame
  | writeRx t p f => exact tame_mainRow (fun _ => rfl) fun c => (spares_requestRx 3 p f c).tame
  | irqRx t p f => exact tame_mainRow (fun _ => rfl) fun c => (spares_requestRx 9 p f c).tame
  | semAcquireRx t p f => exact tame_mainRow (fun _ => rfl) fun c => (spares_requestRx 6 p f c).tame
  | semReleaseRx t p f => exact tame_mainRow (fun _ => rfl) fun c => (spares_requestRx 8 p f c).tame
  | exportTargetTimeout t source => exact tame_mainRow (fun _ => rfl) fun c => (spares_exportTargetTimeout source c).tame
  | writeAckTimer t source => exact tame_mainRow (fun _ => rfl) fun c => (spares_writeAckTimer source c).tame
  | readReplyRx t p f => exact tame_mainRow (fun _ => rfl) fun c => (spares_readReplyRx p f c).tame
  | writeAckRx t p f => exact tame_mainRow (fun _ => rfl) fun c => (spares_writeAckRx p f c).tame
  | writeFaultRx t p f => exact tame_mainRow (fun _ => rfl) fun c => (spares_writeFaultRx p f c).tame
  | semReplyRx t p f => exact tame_mainRow (fun _ => rfl) fun c => (spares_semReplyRx p f c).tame
  | heldReadTimeout t tag => exact tame_mainRow (fun _ => rfl) fun c => (spares_heldReadTimeout tag c).tame
  | fenceTimeout t tag => exact tame_mainRow (fun _ => rfl) fun c => (spares_fenceTimeout tag c).tame
  | semReadTimeout t tag => exact tame_mainRow (fun _ => rfl) fun c => (spares_semReadTimeout tag c).tame
  | semAttemptTimeout t n => exact tame_mainRow (fun _ => rfl) fun c => (spares_semAttemptTimeout n c).tame
  | asyncReadTimeout t tag => exact tame_mainRow (fun _ => rfl) fun c => (spares_asyncReadTimeout tag c).tame
  | writeAckTimeout t tag => exact tame_mainRow (fun _ => rfl) fun c => (spares_writeAckTimeout tag c).tame
  | prefetchLineExpiry t n k => exact tame_mainRow (fun _ => rfl) fun c => (spares_prefetchLineExpiry n k c).tame
  | windowDisableComplete t n => exact tame_mainRow (fun _ => rfl) fun c => (spares_windowDisableComplete n c).tame
  | vehicleFrameRx t p ps err f => exact tame_mainRow (fun _ => rfl) fun c => (spares_vehicleFrameRx p ps err f c).tame
  | pauseExpiry t p => exact tame_mainRow (fun _ => rfl) fun c => (spares_pauseExpiry p c).tame
  | vehicleEgressDequeue t p fragments ecc => exact tame_mainRow (fun _ => rfl) fun c => (spares_vehicleEgressDequeue p fragments ecc c).tame
  | vehicleLinkChange t p up is100 => exact tame_mainRow (fun _ => rfl) fun c => (spares_vehicleLinkChange p up is100 c).tame
  | ringPoll t q descs => exact tame_mainRow (fun _ => rfl) fun c => (spares_ringPoll q descs c).tame
  | rxRingDeliver t q ecc => exact tame_mainRow (fun _ => rfl) fun c => (spares_rxRingDeliver q ecc c).tame
  | txChainProcess t q more bufs failed => exact tame_mainRow (fun _ => rfl) fun c => (spares_txChainProcess q more bufs failed c).tame
  | ddrTrainingComplete t passed => exact tame_mainRow (fun _ => rfl) fun c => (spares_ddrTrainingComplete passed c).tame
  | ddrScrubPass t corrected uces => exact tame_mainRow (fun _ => rfl) fun c => (spares_ddrScrubPass corrected uces c).tame
  | memStopDrained t => exact tame_mainRow (fun _ => rfl) fun c => (spares_memStopDrained c).tame
  | memStopTimeout t => exact tame_mainRow (fun _ => rfl) fun c => (spares_memStopTimeout c).tame
  | nutmegFrameTimer t => exact tame_row (fun _ => rfl) tame_nutmegFrameTimer
  | maceFrameRx t good => exact tame_row (fun _ => rfl) (tame_maceFrameRx good)
  | nutmegAnswerRx t good => exact tame_row (fun _ => rfl) (tame_nutmegAnswerRx good)
  | maceLinkTimeout t => exact tame_row (fun _ => rfl) (tame_linkTimeout false)
  | nutmegLinkTimeout t => exact tame_row (fun _ => rfl) (tame_linkTimeout true)
  | lockstepMismatch t => exact tame_row (fun _ => rfl) tame_lockstepMismatch
  | maceClockMeasure t interval => exact tame_row (fun _ => rfl) (tame_maceClockMeasure interval)
  | safeFunctionEval t nutmeg samples rb => exact absurd rfl (hev t nutmeg samples rb)
  | discrepancyTimeout t nutmeg idx => exact tame_row (fun _ => rfl) (tame_discrepancyTimeout nutmeg idx)
  | inputTestPulse t j lowN lowM => exact tame_row (fun _ => rfl) (tame_inputTestPulse j lowN lowM)
  | offPulseSlot t k opened other back => exact tame_row (fun _ => rfl) (tame_offPulseSlot k opened other back)
  | brakeFeedbackDeadline t nutmeg o => exact tame_row (fun _ => rfl) (tame_brakeFeedbackDeadline nutmeg o)
  | ackStuckTimeout t nutmeg => exact tame_row (fun _ => rfl) (tame_ackStuckTimeout nutmeg)
  | startingComplete t nutmeg checkOk => exact tame_row (fun _ => rfl) (tame_startingComplete nutmeg checkOk)
  | companionPowerUp t => exact tame_row (fun _ => rfl) tame_companionPowerUp
  | companionSupplyLow t => exact tame_row (fun _ => rfl) tame_companionSupplyLow
  | passwordLockoutExpiry t => exact tame_row (fun _ => rfl) tame_passwordLockoutExpiry
  | authorisationExpiry t => exact tame_row (fun _ => rfl) tame_authorisationExpiry
  | trainWakePulseDetect t rear => exact tame_row (fun _ => rfl) fun c => (spares_trainWakePulseDetect rear c).tame
  | wakePulseEnd t => exact tame_row (fun _ => rfl) fun c => (spares_wakePulseEnd c).tame
  | canWakeDetect t n => exact tame_row (fun _ => rfl) fun c => (spares_canWakeDetect n c).tame
  | carbusWakeDetect t port => exact tame_row (fun _ => rfl) fun c => (spares_carbusWakeDetect port c).tame
  | wakeAfterExpiry t => exact tame_row (fun _ => rfl) fun c => (spares_wakeAfterExpiry c).tame
  | falseWakeTimeout t => exact tame_row (fun _ => rfl) fun c => (spares_falseWakeTimeout c).tame
  | sleepVoteTimer t => exact tame_mainRow (fun _ => rfl) fun c => (spares_sleepVoteTimer c).tame
  | sleepVoteRx t p raw => exact tame_mainRow (fun _ => rfl) fun c => (spares_sleepVoteRx p raw c).tame
  | sleepVoteExpiry t => exact tame_mainRow (fun _ => rfl) fun c => (spares_sleepVoteExpiry c).tame
  | sleepGrantIssue t => exact tame_mainRow (fun _ => rfl) fun c => (spares_sleepGrantIssue c).tame
  | sleepGrantRx t p raw => exact tame_mainRow (fun _ => rfl) fun c => (spares_sleepGrantRx p raw c).tame
  | abortRequestRx t p raw => exact tame_mainRow (fun _ => rfl) fun c => (spares_abortRequestRx p raw c).tame
  | sleepAbortRx t p raw => exact tame_mainRow (fun _ => rfl) fun c => (spares_sleepAbortRx p raw c).tame
  | sleepInstant t => exact tame_mainRow (fun _ => rfl) fun c => (spares_sleepInstant c).tame
  | cloveCountdownExpiry t => exact tame_row (fun _ => rfl) fun c => (spares_cloveCountdownExpiry c).tame
  | sleepReady t => exact tame_row (fun _ => rfl) fun c => (spares_sleepReady c).tame
  | prepareFailsafeTimeout t => exact tame_row (fun _ => rfl) fun c => (spares_prepareFailsafeTimeout c).tame
  | sleepEntryComplete t => exact tame_row (fun _ => rfl) tame_sleepEntryComplete
  | referenceLost t => exact tame_row (fun _ => rfl) tame_referenceLost
  | referenceReturn t => exact tame_row (fun _ => rfl) fun c => (spares_referenceReturn c).tame
  | healthChallenge t answer => exact tame_row (fun _ => rfl) fun c => (spares_healthChallenge answer c).tame
  | optimeSave t => exact tame_row (fun _ => rfl) fun c => (spares_optimeSave c).tame
  | powerUp t => exact tame_row (fun _ => rfl) fun c => (spares_powerUp c).tame
  | alwaysOnLoss t => exact tame_row (fun _ => rfl) tame_alwaysOnLoss
  | nrstAssert t => exact tame_row (fun _ => rfl) tame_nrstAssert
  | nrstRelease t => exact tame_row (fun _ => rfl) fun c => (spares_nrstRelease c).tame
  | mainDieRelease t hang fails => exact tame_row (fun _ => rfl) (tame_mainDieRelease hang fails)
  | bootStepWatchdog t => exact tame_row (fun _ => rfl) tame_bootStepWatchdog
  | retryWaitExpiry t hang fails => exact tame_row (fun _ => rfl) (tame_retryWaitExpiry hang fails)
  | firmwareRestart t hang fails => exact tame_row (fun _ => rfl) (tame_firmwareRestart hang fails)
  | firmwareFatalError t => exact tame_row (fun _ => rfl) fun c => (spares_firmwareFatalError c).tame
  | recordStore t arisen => exact tame_mainRow (fun _ => rfl) fun c => (spares_recordStore arisen t.ecc c).tame
  | pinExpiry t h => exact tame_mainRow (fun _ => rfl) fun c => (spares_pinExpiry h c).tame
  | exportAccessComplete t source ends data => exact tame_mainRow (fun _ => rfl) fun c => (spares_exportAccessComplete source ends data c).tame
  | pcieLinkUp t width speed => exact tame_mainRow (fun _ => rfl) fun c => (spares_pcieLinkUp width speed c).tame
  | phyEnergyDetect t p => exact tame_mainRow (fun _ => rfl) fun c => (spares_phyEnergyDetect p c).tame
  | saffronInternalTick t => exact tame_mainRow (fun _ => rfl) fun c => (spares_saffronInternalTick c).tame
  | crystalStable t => exact tame_row (fun _ => rfl) fun c => (spares_crystalStable c).tame
  | crystalLost t => exact tame_row (fun _ => rfl) fun c => (spares_crystalLost c).tame

/-- The rows that can run FW_SECURITY_ADVANCE. -/
theorem ages_of_advance {i : Instr} (hi : mayAdvance i = true) : Does Chip.Ages i := by
  unfold mayAdvance at hi
  split at hi
  · exact does_served keepsMore_ages (fun _ => rfl) ages_fwSecurityAdvance_act
  · exact does_mainRow keepsMore_ages (fun _ => rfl) fun c => ages_anyDoorbell _ _ c
  · exact does_mainRow keepsMore_ages (fun _ => rfl) fun c => ages_anyDoorbell _ _ c
  · exact does_mainRow keepsMore_ages (fun _ => rfl) fun c => ages_registerWrite _ _ c
  · exact does_mainRow keepsMore_ages (fun _ => rfl) fun c => ages_spiFrame _ c
  · exact does_mainRow keepsMore_ages (fun _ => rfl) fun c => ages_heldCommandStart _ c
  · cases hi

theorem ages_of_row {i : Instr} (hev : ∀ t n l rb, i ≠ .safeFunctionEval t n l rb) : Does Chip.Ages i := by
  cases hi : mayAdvance i with
  | true => exact ages_of_advance hi
  | false => exact fun s s' h => (tame_of_row hi hev s s' h).ages

/-- The fuses stay, and each channel of the island is quiet if it was. -/
def Chip.Quiets (a b : Chip) : Prop := b.fuses = a.fuses ∧ a.safe.Quiets b.safe

theorem keepsMore_quiets : KeepsMore Chip.Quiets where
  of_spares h := ⟨h.1, h.tame.2.quiets⟩
  trans h k := ⟨k.1.trans h.1, h.2.trans k.2⟩

theorem quiets_eval (t : Nat) (n : Bool) (l : List (BitVec 16)) (rb : BitVec 8) : Does Chip.Quiets (.safeFunctionEval t n l rb) :=
  does_row keepsMore_quiets (fun _ => rfl) fun c => by
    refine ⟨Chip.onSafe_fuses _ _, (c.safe.quiets_eval n l rb).trans (SafeIsland.calm_of_same ?_ ?_).quiets⟩
    · exact Chip.onSafe_nutmeg _ _
    · exact Chip.onSafe_mace _ _

/-- A step runs the front row, or lets the core clock go on. -/
theorem step_cases {s s' : State} (h : step s = .next s') : (∃ i q, s.pending = i :: q ∧ exec i { s with pending := q } = .next s') ∨ s.chip.Spares s'.chip := by
  unfold step at h
  split at h
  · cases h
    exact .inr (by simp [Chip.Spares])
  next i q hp => exact .inl ⟨i, q, hp, h⟩

end Sys2Proof.Machine

namespace Sys2Proof
open Machine

theorem islandQuiet_iff (c : Chip) : c.islandQuiet ↔ ∀ n, (c.safe.chan n).quiet := by simp [Chip.islandQuiet, SafeIsland.chan, and_comm]

/-- Every row keeps the island quiet. -/
theorem quiets_of_row (i : Instr) : Does (fun a b => a.safe.Quiets b.safe) i := by
  by_cases hev : ∀ t n l rb, i ≠ .safeFunctionEval t n l rb
  · exact fun s s' h => (ages_of_row hev s s' h).2.quiets
  · simp only [ne_eq, Classical.not_forall, Classical.not_not] at hev
    obtain ⟨t, n, l, rb, rfl⟩ := hev
    exact fun s s' h => (quiets_eval t n l rb s s' h).2

theorem fuses_of_row {i : Instr} (hi : mayAdvance i = false) : Does (fun a b => b.fuses = a.fuses) i := by
  by_cases hev : ∀ t n l rb, i ≠ .safeFunctionEval t n l rb
  · exact fun s s' h => (tame_of_row hi hev s s' h).1
  · simp only [ne_eq, Classical.not_forall, Classical.not_not] at hev
    obtain ⟨t, n, l, rb, rfl⟩ := hev
    exact fun s s' h => (quiets_eval t n l rb s s' h).1

/-- Settles O57, row by row. -/
theorem fusesOnlyBlow : Obligations.FusesOnlyBlow := by
  unfold Obligations.FusesOnlyBlow
  refine ⟨fun s s' h => ?_, fun i s s' hi h => fuses_of_row hi s s' h⟩
  obtain ⟨i, q, -, he⟩ | hs := step_cases h
  · cases hi : mayAdvance i with
    | true => exact (ages_of_advance hi _ s' he).1
    | false =>
      rw [fuses_of_row hi _ s' he]
      exact Fuses.after_refl _
  · exact hs.tame.ages.1

/-- Settles O58, row by row. -/
theorem islandOffUnlessRunning : Obligations.IslandOffUnlessRunning := by
  unfold Obligations.IslandOffUnlessRunning
  intro s s' hq h
  rw [islandQuiet_iff] at hq ⊢
  obtain ⟨i, q, -, he⟩ | hs := step_cases h
  · exact fun n => quiets_of_row i _ s' he n (hq n)
  · exact fun n => hs.tame.2.quiets n (hq n)

/-- Settles O60, row by row. -/
theorem onlyEvaluationEnergises : Obligations.OnlyEvaluationEnergises := by
  unfold Obligations.OnlyEvaluationEnergises
  intro i s s' hev h n o
  exact ((ages_of_row hev s s' h).2 n).2 o

end Sys2Proof
end

section
/-! What raising an event and what firmware does after a command leave alone (R358 to R362, R416 to R421, R431). -/
namespace Sys2Proof.Machine

/-- `b` has the roll-call engine, the directory and train time of `a`. -/
abbrev Chip.Still (a b : Chip) : Prop := b.rc = a.rc ∧ b.dir = a.dir ∧ b.time = a.time

theorem Chip.Still.refl (a : Chip) : a.Still a := ⟨rfl, rfl, rfl⟩
theorem Chip.Still.trans {a b c : Chip} (h : a.Still b) (k : b.Still c) : a.Still c := ⟨k.1.trans h.1, k.2.1.trans h.2.1, k.2.2.trans h.2.2⟩
theorem Chip.Reports.still {a b : Chip} (h : Chip.Reports a b) : a.Still b := ⟨h.rc, h.dir, h.time⟩
theorem Chip.Sends.still {a b : Chip} (h : Chip.Sends a b) : a.Still b := ⟨h.rc, h.dir, h.time⟩

theorem Chip.still_foldl {α : Type} (f : Chip → α → Chip) (h : ∀ (c : Chip) x, c.Still (f c x)) (l : List α) (c : Chip) : c.Still (l.foldl f c) := by
  induction l generalizing c with
  | nil => exact .refl c
  | cons x l ih => exact (h c x).trans (ih _)

@[simp] theorem Chip.time_ite (p : Prop) [Decidable p] (a b : Chip) : (if p then a else b).time = if p then a.time else b.time := apply_ite _ _ _ _

/-! The backbone and the leases. -/

@[simp] theorem Chip.still_sendLease (c : Chip) (e : Nat) (m : LeaseMsg) : c.Still (c.sendLease e m) := by
  unfold Chip.sendLease
  split
  next => exact .refl c
  next h => exact (c.sends_draw.still.trans (Chip.sends_originate h).still).trans (Chip.sends_sendEnd _ _ _).still

@[simp] theorem Chip.still_sendTwice (c : Chip) (ends : List Nat) (m : LeaseMsg) : c.Still (c.sendTwice ends m) := Chip.still_foldl _ (fun c e => c.still_sendLease e m) _ c
@[simp] theorem Chip.still_schedJudge (c : Chip) : c.Still c.schedJudge := by simp [Chip.Still, Chip.schedJudge]

@[simp] theorem Chip.still_schedCheck (c : Chip) : c.Still c.schedCheck := by
  unfold Chip.schedCheck
  refine Chip.Still.trans ?_ (Chip.still_schedJudge _)
  split <;> simp [Chip.Still]

@[simp] theorem Chip.still_emits (c : Chip) (os : List Output) : c.Still (c.emits os) := Chip.still_foldl _ (fun c o => by simp [Chip.Still]) _ c

@[simp] theorem Chip.still_txFinish (c : Chip) (w : TxWait) (port : Option Nat) : c.Still (c.txFinish w port) := by
  simp [Chip.Still, Chip.txFinish, Chip.ringEvent, Chip.onRing]

@[simp] theorem Chip.still_stampsLost (c : Chip) : c.Still c.stampsLost := Chip.still_foldl _ (fun c w => c.still_txFinish w none) _ c

/-! The bridge. -/

@[simp] theorem Chip.still_judgeHold (c : Chip) (n : Nat) : c.Still (c.judgeHold n) := by simp [Chip.Still, Chip.judgeHold, Chip.onWin]

@[simp] theorem Chip.still_bridgeSnapshot (c : Chip) : c.Still c.bridgeSnapshot := by
  unfold Chip.bridgeSnapshot Chip.judgeHolds
  generalize List.range 64 = windows, List.range 16 = homes
  refine (Chip.still_foldl _ (fun c n => c.still_judgeHold n) windows c).trans (Chip.still_foldl _ (fun c i => ?_) homes _)
  split <;> simp [Chip.Still, Chip.freeHome]

/-! Power. -/

@[simp] theorem Chip.still_setClove (c : Chip) (s : ClSt) : c.Still (c.setClove s) := by
  fun_cases Chip.setClove c s <;> simp +zetaDelta [Chip.Still]

@[simp] theorem Chip.still_cancelGrant (c : Chip) : c.Still c.cancelGrant := by
  unfold Chip.cancelGrant
  split
  · exact .refl c
  · extract_lets d
    have hd : c.Still d := ⟨rfl, rfl, rfl⟩
    exact hd.trans (by simp [Chip.Still])

@[simp] theorem Chip.still_floodAbort (c : Chip) (g : SleepGrant) : c.Still (c.floodAbort g) := by simp [Chip.Still, Chip.floodAbort]
@[simp] theorem Chip.still_askAbort (c : Chip) (g : SleepGrant) (now : Nat) : c.Still (c.askAbort g now) := by simp [Chip.Still, Chip.askAbort]
@[simp] theorem Chip.still_latchWake (c : Chip) : c.Still c.latchWake := by
  unfold Chip.latchWake
  split
  · exact .refl c
  · extract_lets d
    have hd : c.Still d := ⟨rfl, rfl, rfl⟩
    exact hd.trans (by simp [Chip.Still])

@[simp] theorem Chip.still_wakeRequest (c : Chip) (now : Nat) : c.Still (c.wakeRequest now).2 := by
  unfold Chip.wakeRequest
  split
  · split <;> simp [Chip.Still]
  all_goals simp [Chip.Still]

/-! What firmware does after a command. -/

@[simp] theorem Chip.still_followGrant (c old : Chip) : c.Still (c.followGrant old) := by
  unfold Chip.followGrant
  split
  · exact .refl c
  · simp [Chip.Still, Chip.wakePulse, Chip.pwCount]

@[simp] theorem Chip.still_followRequests (c old : Chip) : c.Still (c.followRequests old) := by simp [Chip.Still, Chip.followRequests]
@[simp] theorem Chip.still_followWake (c old : Chip) : c.Still (c.followWake old) := by simp [Chip.Still, Chip.followWake, Chip.confirmWake]

@[simp] theorem Chip.still_followVote (c : Chip) : c.Still c.followVote := by
  unfold Chip.followVote
  split <;> simp [Chip.Still]

@[simp] theorem Chip.still_followSnapshot (old c : Chip) : c.Still (Chip.followSnapshot old c) := by simp [Chip.Still, Chip.followSnapshot]
@[simp] theorem Chip.still_follow (old c : Chip) : c.Still (Chip.follow old c) := by simp [Chip.Still, Chip.follow]

theorem leaderWork_of_idle {c : Chip} (hn : c.rc.notices = []) (hf : c.bb.firstDue = false) : c.leaderWork = c := if_pos ⟨hn, hf⟩

theorem followLine_of_same {old c : Chip} (h : c.rolling = false ∨ c.namedLine = old.namedLine) : Chip.followLine old c = c := by
  refine if_pos ?_
  rcases h with h | h <;> simp [h]

/-- With no work for the leader and the named line as before, only the bridge, the backbone's frames, power and the rings are left. -/
theorem settled_of_quiet {old c : Chip} (hn : c.rc.notices = []) (hf : c.bb.firstDue = false) (hl : c.rolling = false ∨ c.namedLine = old.namedLine) :
    old.settled c = (Chip.follow old (Chip.followSnapshot old c)).releaseHeld.stampsLost := by
  rw [Chip.settled, leaderWork_of_idle hn hf, followLine_of_same hl]

theorem releaseHeld_of_none {c : Chip} (h : c.bb.held = []) : c.releaseHeld = c := if_pos h

theorem stampsLost_of_none {c : Chip} (h : c.eth.waits = []) : c.stampsLost = c := by simp [Chip.stampsLost, h]

theorem followSnapshot_of_same {old c : Chip} (h : c.firmware = false ∨ c.dir.inForce = old.dir.inForce) : Chip.followSnapshot old c = c := by
  refine if_neg ?_
  rcases h with h | h <;> simp [h]

theorem followRequests_of_none {old c : Chip} (ht : c.rc.triggers ≤ old.rc.triggers) (hd : ∀ o < 4, c.doorsReleased o = true → old.doorsReleased o = true) :
    c.followRequests old = c := by
  have hdoors : ((List.range 4).any fun o => c.doorsReleased o && !old.doorsReleased o) = false := by
    simp only [List.any_eq_false, List.mem_range]
    intro o ho hrel
    simp only [Bool.and_eq_true, Bool.not_eq_true'] at hrel
    exact absurd (hd o ho hrel.1) (by simp [hrel.2])
  simp [Chip.followRequests, Nat.not_lt.mpr ht, hdoors]

theorem followVote_of_same {c : Chip} (h : c.pwr.votes.isSome = c.mayVote) : c.followVote = c := by
  unfold Chip.followVote
  split
  next hv hm => simp [hv, hm] at h
  next hv hm => simp [hv, hm] at h
  next => rfl
  next => rfl

/-- Firmware finds nothing new. -/
theorem follow_of_same {old c : Chip} (hg : c.pwr.grant = none) (ht : c.rc.triggers ≤ old.rc.triggers) (hd : ∀ o < 4, c.doorsReleased o = true → old.doorsReleased o = true)
    (hw : c.pwr.checking = false) (hv : c.pwr.votes.isSome = c.mayVote) : Chip.follow old c = c := by
  have hgrant : c.followGrant old = c := by simp only [Chip.followGrant, hg]
  have hwake : c.followWake old = c := if_pos (by simp [hw])
  rw [Chip.follow, hgrant, followRequests_of_none ht hd, hwake, followVote_of_same hv, ite_self]

end Sys2Proof.Machine

namespace Sys2Proof
open Machine

/-- Settles O56. -/
theorem firmwareFrame : Obligations.FirmwareFrame := by
  unfold Obligations.FirmwareFrame
  refine ⟨fun c e kind arg detail => ?_, fun c e kind arg detail => ⟨?_, ?_, fun n => ?_⟩, fun old c => Chip.firm_settled old c, fun old c hn hf hl => ?_,
    fun old c hheld hwaits hn hf hl hnew => ?_⟩
  · obtain ⟨hclk, hfuses, htiles, hboot, hdir, hrc, hbb, htime, heth, hmem, hcb, hcan, hrt, hbr, hsafe, hpwr, hclove, hstored, -⟩ := c.reports_raiseD e kind arg detail
    simp only [hclk, hfuses, htiles, hboot, hdir, hrc, hbb, htime, heth, hmem, hcb, hcan, hrt, hbr, hsafe, hpwr, hclove, hstored]
  · rw [(c.reports_raiseD e kind arg detail).log]
  · exact (c.keepsMail_raiseD e kind arg detail).2
  · rw [HostIf.mb, Chip.raiseD_mailboxes, HostIf.mb]
  · rw [settled_of_quiet hn hf hl]
    have hfollowed : c.Still (Chip.follow old (Chip.followSnapshot old c)) := by simp [Chip.Still]
    exact hfollowed.trans ((Chip.sends_releaseHeld _).still.trans (Chip.still_stampsLost _))
  · have hsnap : Chip.followSnapshot old c = c := followSnapshot_of_same (hnew.imp id And.left)
    have hfollow : Chip.follow old c = c := by
      rcases hnew with hdown | ⟨-, hg, ht, hd, hw, hv⟩
      · exact if_neg (by simp [hdown])
      · exact follow_of_same hg ht hd hw hv
    rw [settled_of_quiet hn hf hl, hsnap, hfollow, releaseHeld_of_none hheld, stampsLost_of_none hwaits]

end Sys2Proof
end

section
/-! Resets and start-up (R430 to R433, R442 to R451, R467, R468). -/
namespace Sys2Proof.Machine

/-! The engine's halt leaves the bridge alone. -/

@[simp] theorem Chip.br_ite (p : Prop) [Decidable p] (a b : Chip) : (if p then a else b).br = if p then a.br else b.br := apply_ite _ _ _ _

theorem Chip.br_foldl {α : Type} (f : Chip → α → Chip) (h : ∀ (c : Chip) x, (f c x).br = c.br) (l : List α) (c : Chip) : (l.foldl f c).br = c.br := by
  induction l generalizing c with
  | nil => rfl
  | cons x l ih => exact (ih _).trans (h c x)

@[simp] theorem Chip.schedUpdate_br (c : Chip) : c.schedUpdate.br = c.br := by simp [Chip.schedUpdate]
@[simp] theorem Chip.schedJudge_br (c : Chip) : c.schedJudge.br = c.br := by simp [Chip.schedJudge]
@[simp] theorem Chip.setRc_br (c : Chip) (st : RcState) : (c.setRc st).br = c.br := by simp [Chip.setRc]
@[simp] theorem Chip.dropOwnGateways_br (c : Chip) : c.dropOwnGateways.br = c.br := by simp [Chip.dropOwnGateways]

@[simp] theorem Chip.schedCheck_br (c : Chip) : c.schedCheck.br = c.br := by
  unfold Chip.schedCheck
  rw [Chip.schedJudge_br]
  split <;> simp

@[simp] theorem Chip.matricesFree_br (c : Chip) : c.matricesFree.br = c.br := by
  refine Chip.br_foldl _ (fun c n => ?_) _ c
  simp [Chip.setMatrix]

@[simp] theorem Chip.sendLease_br (c : Chip) (e : Nat) (m : LeaseMsg) : (c.sendLease e m).br = c.br := by
  unfold Chip.sendLease
  split
  next => rfl
  next h => exact (Chip.sends_sendEnd _ _ _).br.trans ((Chip.sends_originate h).br.trans c.sends_draw.br)

@[simp] theorem Chip.floodLease_br (c : Chip) (m : LeaseMsg) : (c.floodLease m).br = c.br := by
  unfold Chip.floodLease
  split
  next => rfl
  next h =>
    have hsent := (Chip.sends_originate h).br.trans c.sends_draw.br
    exact (Chip.sends_sendEnd _ _ _).br.trans ((Chip.sends_sendEnd _ _ _).br.trans hsent)

@[simp] theorem Chip.leasesLost_br (c : Chip) : c.leasesLost.br = c.br := by
  unfold Chip.leasesLost
  extract_lets led released dropped lead
  have hreleased : released.br = c.br := by
    unfold released
    split <;> simp
  have hdropped : dropped.br = c.br := by simp [dropped, hreleased]
  simp [hdropped]

@[simp] theorem Chip.setTm_br (c : Chip) (st : TmState) : (c.setTm st).br = c.br := by simp [Chip.setTm]
@[simp] theorem Chip.toHoldover_br (c : Chip) (e0 : Nat) : (c.toHoldover e0).br = c.br := by simp [Chip.toHoldover]
@[simp] theorem Chip.dropLink_br (c : Chip) (p : Nat) : (c.dropLink p).br = c.br := by
  simp [Chip.dropLink, Chip.onPort, Chip.bbCount, Chip.bbCountBy, Chip.macCount, Chip.macCountBy]

/-- The halt of the engine: its state, and that it leaves the bridge. -/
theorem haltEngine_stops (c : Chip) : c.haltEngine.rc.state = .stopped ∧ c.haltEngine.br = c.br := by
  have down := fun (c : Chip) => Chip.br_foldl Chip.dropLink Chip.dropLink_br (List.range 4) c
  unfold Chip.haltEngine
  extract_lets told links waited settled vehicle timed cleared stopped
  have hvehicle : vehicle.br = c.br := by simp [vehicle, settled, links, told, down]
  have htimed : timed.br = vehicle.br := by
    unfold timed
    split <;> simp
  have hstopped : stopped.br = c.br := by simp [stopped, cleared, htimed, hvehicle]
  have hstate : stopped.rc.state = .stopped := by
    rw [show stopped.rc = (cleared.setRc .stopped).rc from (Chip.sameTrain_schedUpdate _).2.1, (cleared.sameTrain_setRc .stopped).2.1]
    rfl
  split
  · exact ⟨by rw [(Chip.still_schedCheck stopped).1, hstate], by rw [Chip.schedCheck_br, hstopped]⟩
  · exact ⟨hstate, hstopped⟩

theorem bridgeHalt_stops (c : Chip) : c.bridgeHalt.br.running = false := by
  unfold Chip.bridgeHalt
  extract_lets fars failed
  split
  · simp [Chip.bridgeStopped]
  next h => simpa using h

/-- Bridge and engine both halted, whatever is done to the rings in between. -/
theorem halted_stops (c : Chip) (f : EthState → EthState) : c.Core (c.bridgeHalt.onEth f).haltEngine ∧ (c.bridgeHalt.onEth f).haltEngine.rc.state = .stopped ∧
    (c.bridgeHalt.onEth f).haltEngine.br.running = false := by
  obtain ⟨hstate, hbr⟩ := haltEngine_stops (c.bridgeHalt.onEth f)
  refine ⟨c.core_bridgeHalt.trans (Chip.core_haltEngine (c.bridgeHalt.onEth f)), hstate, ?_⟩
  rw [hbr]
  exact bridgeHalt_stops c

theorem countRetries_fuses (c : Chip) : c.countRetries.fuses = c.fuses := by rw [countRetries_outside]
theorem countRetries_safe (c : Chip) : c.countRetries.safe = c.safe := by rw [countRetries_outside]

/-- The mailboxes offline and B01 to come, the fuses and the island as they were. -/
theorem fwDown_begins (c : Chip) : ∃ d : Chip,
    c.countRetries.mailboxesOffline.onBoot (fun b => { b with state := .reset, down := true, restart := none, begun := none, onTrial := false }) = d ∧
      d.fuses = c.fuses ∧ d.safe = c.safe ∧ d.boot.state = .reset ∧ d.boot.down = true :=
  ⟨_, rfl, (Chip.core_mailboxesOffline _).1.trans (countRetries_fuses c), (Chip.core_mailboxesOffline _).2.1.trans (countRetries_safe c), rfl, rfl⟩

/-- Firmware down: B01 to come, the engine and the bridge stopped, the fuses and the island as they were (R451, R467). -/
theorem fwDown_leaves (c : Chip) (cause : Nat) : (c.fwDown cause).boot.state = .reset ∧ (c.fwDown cause).boot.down = true ∧ (c.fwDown cause).clove.resetCause = cause ∧
    (c.fwDown cause).rc.state = .stopped ∧ (c.fwDown cause).br.running = false ∧ (c.fwDown cause).fuses = c.fuses ∧ (c.fwDown cause).safe = c.safe := by
  obtain ⟨d, hd, hfuses, hsafe, hreset, hdown⟩ := fwDown_begins c
  obtain ⟨⟨hf, hs, hb⟩, hstate, hrunning⟩ := halted_stops d fun e => { e with rings := e.rings.map fun r => { r with enabled := false, owned := [] } }
  simp only [Chip.fwDown, hd]
  generalize (d.bridgeHalt.onEth _).haltEngine = halted at *
  exact ⟨(congrArg Boot.state hb).trans hreset, (congrArg Boot.down hb).trans hdown, rfl, hstate, hrunning, hf.trans hfuses, hs.trans hsafe⟩

theorem powerUp_leaves {c : Chip} (h : c.clove.powered = false) :
    (powerUp c).clove = { powered := true, refRunning := c.clove.refRunning, nrstHigh := c.clove.nrstHigh, counted := true } ∧ (powerUp c).log.opMark = c.clk.now ∧
      (powerUp c).log.powerCycles = c.log.savedPower ∧ (powerUp c).boot = c.boot ∧ (powerUp c).fuses = c.fuses := by
  unfold powerUp
  rw [if_neg (Bool.eq_false_iff.mp h)]
  exact ⟨rfl, rfl, rfl, rfl, rfl⟩

theorem alwaysOnLoss_leaves (c : Chip) :
    (alwaysOnLoss c).clove.powered = false ∧ (alwaysOnLoss c).clove.refRunning = c.clove.refRunning ∧ (alwaysOnLoss c).mainDie = false ∧ (alwaysOnLoss c).fuses = c.fuses ∧
      (alwaysOnLoss c).boot.journal = c.boot.journal ∧ (alwaysOnLoss c).pwr.config = pwrReset := ⟨rfl, rfl, rfl, rfl, rfl, rfl⟩

/-- What stands at a pin, a bypass relay, QSPI and a vehicle PHY while the main die is in reset (R38, R319, R458, R473, R479). -/
theorem released_of_reset {c : Chip} (h : c.mainDie = false) : c.bypassHigh = false ∧ c.qspiDriven = false ∧ ∀ p, c.gpioUse p = .input ∧ c.vportPowered p = false := by
  have hpast : ∀ n, c.startPast n = false := fun n => by simp [Chip.startPast, h]
  exact ⟨by simp [Chip.bypassHigh, h], by simp [Chip.qspiDriven, hpast], fun p => ⟨by simp [Chip.gpioUse, hpast, h], by simp [Chip.vportPowered, hpast]⟩⟩

theorem mainDieRelease_of_releasable {hang : Nat} {fails : List Nat} {c : Chip} (h : Ready.releasable c) (hw : c.clove.waiting = false) :
    mainDieRelease hang fails c = Chip.runStart false hang fails
      { ((c.rebase.onLog fun r => { r with powerCycles := (r.powerCycles + 1) % 4294967296 }).onBoot fun b => { b with startCount := 1 }) with safe := c.safe.nutmegUp } := by
  obtain ⟨hpow, hst, href, hnrst, hdie⟩ := h
  refine if_neg ?_
  simp [hpow, hst, href, hnrst, hw, hdie]

theorem mainDieRelease_of_not {hang : Nat} {fails : List Nat} {c : Chip} (h : ¬Ready.releasable c ∨ c.clove.waiting = true) : mainDieRelease hang fails c = c := by
  refine if_pos ?_
  refine Decidable.byContradiction fun hgo => ?_
  simp only [not_or, Bool.not_eq_true, Bool.not_eq_false'] at hgo
  obtain ⟨hpow, hst, href, hnrst, hw, hdie⟩ := hgo
  rcases h with h | h
  · exact h ⟨hpow, hst, href, hnrst, hdie⟩
  · exact absurd h (by simp [hw])

/-! What a record's storing finds (R430, R431). -/

theorem Chip.Reports.logState {a b : Chip} (h : Chip.Reports a b) : b.log.state = a.log.state := by rw [h.log]

theorem ddrCorrected_logState (c : Chip) (n : Nat) : (c.ddrCorrected n).log.state = c.log.state := by
  unfold Chip.ddrCorrected
  extract_lets t d
  split
  · exact (d.reports_raiseD ..).logState
  · rfl

theorem ddrError_logState (c : Chip) (address arg : Nat) : (c.ddrError address arg).log.state = c.log.state := by
  unfold Chip.ddrError
  extract_lets now recent d
  have hd : d.log.state = c.log.state := (Chip.reports_raiseD ..).logState
  split
  · exact (Chip.reports_raiseD ..).logState.trans hd
  · exact hd

/-- Taking a queue's head leaves the recorder's state. -/
theorem takeHead_logState (c : Chip) (q : Nat) (ecc : Option Nat) : (c.takeHead q ecc).2.log.state = c.log.state := by
  have hdrop := (c.reports_dropHead q).logState
  fun_cases Chip.takeHead c q ecc
  case case1 => rfl
  case case2 => exact hdrop
  case case3 =>
    dsimp only
    split
    · exact (ddrCorrected_logState _ _).trans hdrop
    · exact (Chip.reports_burstCorrected _ _).logState.trans hdrop
  case case4 =>
    dsimp only
    split
    · exact (ddrError_logState _ _ _).trans hdrop
    · exact (Chip.reports_raiseD ..).logState.trans hdrop

/-- An uncorrectable read of a head in the queue's own cells: the entry is dropped and its cell retired (R325). -/
theorem takeHead_of_badCell {c : Chip} {q a : Nat} {e : QEntry} (hhead : (c.qm.queue q).entries.head? = some e) (hddr : e.inDdr = false) (ha : a < 4294967296) :
    c.takeHead q (some a) = (none, (((c.dropHead q).onQm fun m => m.upd q fun x => { x with eccDropped := sat32 (x.eccDropped + 1), droppedSince := true }).onQm fun m =>
      { m with retiredCells := m.retiredCells + 1 }).raiseD 118 2 q 0) := by
  obtain ⟨es, hes⟩ := List.head?_eq_some_iff.mp hhead
  simp [Chip.takeHead, hes, hddr, ha]

section recordStore
variable {l : List (Nat × Nat)} {ecc : Option Nat} {c d : Chip} {e : QEntry} (h : c.log.state = .running ∨ c.log.state = .failed)
include h

/-- RECORD_STORE while the recorder stores or has failed, where Q60 gives no record. -/
theorem recordStore_of_none (ht : (Ready.wornBy l c).takeHead 60 ecc = (none, d)) : recordStore l ecc c = d := by
  have hw : (Ready.wornBy l c).log.state = c.log.state := rfl
  rcases h with h | h <;> simp only [recordStore, hw, h, ht]

/-- RECORD_STORE while the recorder stores or has failed: the record at the head of Q60 is stored or dropped. -/
theorem recordStore_of_some (ht : (Ready.wornBy l c).takeHead 60 ecc = (some e, d)) :
    recordStore l ecc c = if d.log.state = .failed then d.logCount recDroppedFull else d.storeRecord e.data (u8 e.info 0) := by
  have hw : (Ready.wornBy l c).log.state = c.log.state := rfl
  rcases h with h | h <;> simp only [recordStore, hw, h, ht]

end recordStore

end Sys2Proof.Machine

namespace Sys2Proof
open Machine

/-- Settles O48. -/
theorem startEvents : Obligations.StartEvents := by
  unfold Obligations.StartEvents
  refine ⟨?_, fun t s hoff => ?_, fun t s => ?_, fun t s hpow hst => ?_, ?_, fun hang fails => ?_, fun hang fails => ?_, fun t s hbooting => ?_, ?_, fun hang fails => ?_,
    fun hang fails => ?_, fun hang fails t s hre => ?_, fun hang fails => ?_, fun hang fails => ?_, fun hang fails => ?_, fun t s hfw => ?_, ?_, ?_, ?_, fun l ecc => ?_,
    fun e i ecc => ?_, fun e a => ?_, fun e ecc => ?_, fun l ecc => ?_⟩
  · exact actsAlways_of powerUp (fun _ _ => rfl) fun c h => if_pos h
  · obtain ⟨hclove, hmark, hcycles, hboot, hfuses⟩ := powerUp_leaves hoff
    refine ⟨_, leavesAlways_of powerUp rfl, ?_, ?_, ?_, ?_, ?_⟩
    · rw [hclove, Chip.tick_clove]
    · rw [hmark, Chip.tick_now]
    · rw [hcycles, (s.chip.completes_tick t).1.log]
      rfl
    · rw [hboot, Chip.tick_boot]
    · rw [hfuses, Chip.tick_fuses]
  · obtain ⟨hpow, href, hdie, hfuses, hjournal, hconfig⟩ := alwaysOnLoss_leaves (s.chip.tick t)
    refine ⟨_, leavesAlways_of alwaysOnLoss rfl, hpow, ?_, hdie, ?_, ?_, hconfig⟩
    · rw [href, Chip.tick_clove]
    · rw [hfuses, Chip.tick_fuses]
    · rw [hjournal, Chip.tick_boot]
  · have hleft : nrstAssert (s.chip.tick t) = ((s.chip.tick t).onClove fun k => { k with nrstHigh := false }).mainReset 2 := by
      simp only [nrstAssert, Chip.onClove_clove, hpow, hst]
      rfl
    obtain ⟨hcause, hlatched, hnrst, -⟩ := mainReset_clove ((s.chip.tick t).onClove fun k => { k with nrstHigh := false }) 2
    refine ⟨_, leavesAlways_of nrstAssert rfl, ?_⟩
    rw [hleft]
    exact ⟨hnrst, hcause, rfl, (mainReset_fuses _ 2).trans (Chip.tick_fuses _ _), hlatched, released_of_reset rfl⟩
  · exact actsAlways_of nrstRelease (fun _ _ => rfl) fun c _ => rfl
  · exact actsAlways_of (mainDieRelease hang fails) (fun _ _ => rfl) fun c ⟨h, hw⟩ => mainDieRelease_of_releasable h hw
  · exact actsAlways_of (mainDieRelease hang fails) (fun _ _ => rfl) fun c h => mainDieRelease_of_not h
  · refine ⟨_, leavesAlways_of bootStepWatchdog rfl, ?_⟩
    rw [show bootStepWatchdog (s.chip.tick t) = (s.chip.tick t).mainReset 4 from if_pos hbooting]
    exact ⟨rfl, rfl, (mainReset_fuses _ 4).trans (Chip.tick_fuses _ _)⟩
  · exact actsAlways_of bootStepWatchdog (fun _ _ => rfl) fun c h => if_neg h
  · refine actsAlways_of (retryWaitExpiry hang fails) (fun _ _ => rfl) fun c ⟨h, hw⟩ => ?_
    rw [retryWaitExpiry, if_pos hw]
    exact mainDieRelease_of_releasable (c := c.onClove fun k => { k with waiting := false }) h rfl
  · exact actsAlways_of (retryWaitExpiry hang fails) (fun _ _ => rfl) fun c hw => if_neg (by simp [hw])
  · refine ⟨_, leavesAlways_of (firmwareRestart hang fails) rfl, ?_⟩
    rw [show firmwareRestart hang fails (s.chip.tick t) = (s.chip.tick t).mainReset 7 by simp only [firmwareRestart, hre]]
    exact ⟨rfl, rfl⟩
  · exact actsAlways_of (firmwareRestart hang fails) (fun _ _ => rfl) fun c hre => by simp only [firmwareRestart, hre]
  · exact actsAlways_of (firmwareRestart hang fails) (fun _ _ => rfl) fun c ⟨hre, hd⟩ => by simp only [firmwareRestart, hre, hd, if_true]
  · exact actsAlways_of (firmwareRestart hang fails) (fun _ _ => rfl) fun c ⟨hre, hd⟩ => by
      simp only [firmwareRestart, hre, hd, Bool.false_eq_true, if_false, id]
  · obtain ⟨h1, h2, h3, h4, h5, h6, h7⟩ := fwDown_leaves (s.chip.tick t) 8
    refine ⟨_, leavesAlways_of firmwareFatalError rfl, ?_⟩
    rw [show firmwareFatalError (s.chip.tick t) = (s.chip.tick t).fwDown 8 from if_pos hfw]
    exact ⟨h1, h2, h3, h4, h5, h6.trans (Chip.tick_fuses _ _), h7.trans (Chip.tick_safe _ _)⟩
  · exact actsAlways_of firmwareFatalError (fun _ _ => rfl) fun c h => if_neg (by simp [h])
  · exact actsAlways_of crystalStable (fun _ _ => rfl) fun c _ => rfl
  · exact actsAlways_of crystalLost (fun _ _ => rfl) fun c _ => rfl
  · refine acts_of (recordStore l ecc) (fun _ _ => rfl) fun c _ ⟨hst, hq⟩ => ?_
    have hnone : (Ready.wornBy l c).takeHead 60 ecc = (none, Ready.wornBy l c) := by
      rw [Chip.takeHead]
      exact hq
    exact recordStore_of_none (.inl hst) hnone
  · refine acts_of (recordStore [] ecc) (fun _ _ => rfl) fun c _ ⟨hst, hhead, hchoose, hfree, hsev⟩ => ?_
    have htaken : (Ready.wornBy [] c).takeHead 60 ecc = (some e, (c.takeHead 60 ecc).2) := Prod.ext hhead rfl
    have hstoring : (c.takeHead 60 ecc).2.log.state ≠ .failed := by simp [takeHead_logState, hst]
    rw [recordStore_of_some (l := []) (.inl hst) htaken]
    generalize (c.takeHead 60 ecc).2 = d at hstoring hchoose hfree
    simp [hstoring, Chip.storeRecord, hchoose, hfree, Nat.not_le.mpr hsev]
  · refine acts_of (recordStore [] (some a)) (fun _ _ => rfl) fun c _ ⟨hst, hhead, hddr, ha⟩ => ?_
    exact recordStore_of_none (.inl hst) (takeHead_of_badCell hhead hddr ha)
  · refine acts_of (recordStore [] ecc) (fun _ _ => rfl) fun c _ ⟨hst, hhead⟩ => ?_
    have htaken : (Ready.wornBy [] c).takeHead 60 ecc = (some e, (c.takeHead 60 ecc).2) := Prod.ext hhead rfl
    rw [recordStore_of_some (l := []) (.inr hst) htaken]
    exact if_pos ((takeHead_logState c 60 ecc).trans hst)
  · refine acts_of (recordStore l ecc) (fun _ _ => rfl) fun c _ hst => ?_
    unfold recordStore
    extract_lets d
    rw [show d.log.state = .erasing from hst]

end Sys2Proof
end
